-- ==== Sys2Proof/Word.lean ====
section
/-! DEFINITION. The word types of the model: bytes and byte strings. -/

namespace Sys2Proof

/-- One byte on a wire or in a buffer. -/
abbrev Byte := BitVec 8

/-- A byte string, first byte first in transmission order (R6). -/
abbrev Bytes := List Byte

end Sys2Proof
end

