-- ==== Sys2Proof/Syntax.lean ====
section
/-! DEFINITION. The commands the block takes: one constructor per row of the opcode table, with the row's operands.
A message row carries the request's header (`Req`) and what its payload says; an event row carries what the wire, the pin
or the unit brings. -/

namespace Sys2Proof

/-- The ports that carry Chawyn messages (Table 12.3, R440): MG_A, MG_B, the Canopy port, the debug port. -/
inductive Port where
  | mgA | mgB | cn | db
deriving DecidableEq, Repr

/-- A request's header fields (Table 12.4) and its way in: port, source address, whether it came to the pair's address,
and its 802.1Q tag (R380). The KIND is the row's own. `more`, `late`, `senderB` and `status` are zero in a request. -/
structure Req where
  port : Port
  src : BitVec 48
  toPair : Bool
  tag : Option (BitVec 16)
  version : BitVec 4
  response : Bool
  more : Bool
  late : Bool
  senderB : Bool
  resv : BitVec 4
  status : BitVec 8
  count : BitVec 8
  reqId : BitVec 32
  length : BitVec 16
  segOffset : BitVec 16
  total : BitVec 32
deriving DecidableEq, Repr

/-- An object reference (Table 12.8). -/
structure Ref where
  object : BitVec 24
  resv : BitVec 7
  indexed : Bool
  index : BitVec 16
  elements : BitVec 16
deriving DecidableEq, Repr

/-- The payload of a WRITE or COMMAND row of one object (R426, R428): all but the object number, which the row fixes.
`value` is the item's value, or the command's argument. -/
structure WArg where
  apply : BitVec 96
  resv : BitVec 7
  indexed : Bool
  index : BitVec 16
  elements : BitVec 16
  value : Bytes
deriving DecidableEq, Repr

/-- One item of a WRITE or WRITE_SET (R426). -/
structure Item where
  ref : Ref
  value : Bytes
deriving DecidableEq, Repr

/-- One piece of a BULK_WRITE (R431). -/
structure BulkPiece where
  apply : BitVec 96
  ref : Ref
  offset : BitVec 32
  size : BitVec 32
  final : BitVec 8
  resv : BitVec 24
  crc : BitVec 32
  data : Bytes
deriving DecidableEq, Repr

/-- A frame on a management segment as the MAC meets it (R376, Table 11.4): its bytes from DA to FCS as received, what the PHY reports,
and `avail`, the descriptors the MAC finds it owns as it needs them (R396). -/
structure MgFrame where
  bytes : Bytes
  collision : Bool
  symbolErr : Bool
  avail : Nat
deriving DecidableEq, Repr

/-- The channel a fault source names (R447). -/
inductive Channel where
  | lane (l : Fin 274)
  | pc (n : Fin 64)
  | engine (n : Fin 64)
  | inserter (n : Fin 128)
  | tdm (n : Fin 32)
deriving DecidableEq, Repr

/-- The tables that the Rambler scrubs (Table 13.16, task 0). -/
inductive ScrubTable where
  | subscription | crosspoint | shuffle | rxFlow | txFlow | layer | canopy | journal | gain
deriving DecidableEq, Repr

/-- What an error-correcting read found: nothing, a corrected error, an uncorrectable one. -/
inductive EccOutcome where
  | clean | corrected | uncorrectable
deriving DecidableEq, Repr

/-- How one attempt of a pseudo-channel's training ended (R334, R335): done; done with lanes repaired; failed at a step; the
interconnect test found more failing lanes than the stack can repair (R315); the stack's identity read did not match. -/
inductive TrainOutcome where
  | done | repaired | failed | beyondRepair | identity
deriving DecidableEq, Repr

/-- The AVSBus commands of R547. -/
inductive AvsCmd where
  | writeVoltage | readVoltage | readCurrent | readStatus
deriving DecidableEq, Repr

/-- 33 blocks as a receive edge meets them on the line, before descrambling (R87, R88): each block's two-bit sync header and its 64
bits; `steady` says that the phase error of the clock recovery stayed within ±0.2 UI through them (R102). -/
structure WireBasket where
  blocks : List (BitVec 2 × BitVec 64)
  steady : Bool
deriving DecidableEq, Repr

/-- A reference input falls silent (R34, Table 2.1): it shows no edge for `gap` ps. -/
structure Silence where
  input : Fin 5
  gap : Nat
deriving DecidableEq, Repr

/-- A transmitter comes to its next cycle position (R127); `late`: the data for it was not there in time (R12). -/
structure SlotTick where
  lane : Fin 274
  late : Bool
deriving DecidableEq, Repr

/-- The place of a packet in a transmit flow (R233, R236): `j` of the frame or of field `n`; of an audio flow, that of first sample `n`. -/
structure SendPlace where
  n : Nat
  j : Nat
deriving DecidableEq, Repr

/-- A mesh audio Basket at a consumer's node (R278): block `n` with up to four audio inputs. -/
structure BlockSeen where
  n : Nat
  ais : List (BitVec 16)
deriving DecidableEq, Repr

/-- An access of a core, or its next fetch, as the comparators see it (R527). -/
structure CoreAccess where
  pc : BitVec 40
  addr : BitVec 40
  write : Bool
deriving DecidableEq, Repr

/-- A control bus transaction (R506, R507): `size` bytes a beat, `beats` beats; `data` and `strobe` of a write run from the
address up. -/
structure BusTxn where
  master : Fin 9
  id : BitVec 6
  write : Bool
  addr : BitVec 40
  size : Nat
  beats : Nat
  data : Bytes
  strobe : List Bool
  /-- What the check of control RAM found, where the transaction reads it (Table 15.4). -/
  cram : EccOutcome
deriving DecidableEq, Repr

/-- What a debug module memory access brings back (R528): the response of Table 15.4 and the bytes read. -/
structure MemOutcome where
  resp : Fin 4
  data : Bytes
  cram : EccOutcome
deriving DecidableEq, Repr

/-- What a monitor of SYNC_A or SYNC_B counts since its last update (R37): the 27 MHz cycles before each frame pulse from the pulse
before it, and those since the last pulse. -/
structure SyncSeen where
  pulses : List Nat
  after : Nat
deriving DecidableEq, Repr

/-- One item of the run state that a join copies (R366): an output's egress SEQ; a transmit flow's ancillary sequence; an input
timing record, its FRAME_START SEQ and φ; a frame sync's last presented frame; a pending take of an output (kind 0) or a layer; a
fired Hamper with the entries not yet executed; a cell of the open or the armed journal; the armed journal's E; the anchor and
state of a SLAVE TDM port; a Canopy sync's state; an inserter's selection; a leg's state and expected sequence
number. Times are in 2^-16 ns. -/
inductive RunItem where
  | outSeq (p seq : Nat)
  | ancSeq (f seq : Nat)
  | phase (p fseq phi : Nat)
  | shown (p frame : Nat)
  | pending (kind target src e : Nat) (late : Bool)
  | hamper (h e : Nat) (late : Bool) (left : List Nat)
  | opened (cell gain : Nat)
  | armed (cell gain : Nat)
  | armedE (e : Nat)
  | tdm (a state : Nat) (k : Int)
  | canopy (g state : Nat)
  | select (c frame : Nat)
  | leg (l state : Nat) (expect : Option Nat)
deriving DecidableEq, Repr

/-- A part of a join snapshot (R365): the shared objects as references and values, and the run state. -/
structure SnapPart where
  items : List Item
  run : List RunItem
  last : Bool
deriving DecidableEq, Repr

/-- A frame on the Canopy port: its bytes from SYNC on, whether 30 µs of idle came before it, and whether its bytes had a gap
of more than 30 µs or a stop-bit error (R269). -/
structure CanopyFrame where
  bytes : Bytes
  idle : Bool
  gap : Bool
  stopError : Bool
deriving DecidableEq, Repr

/-- A unit whose internal check found an error (Table 13.14). -/
inductive CheckedUnit where
  | engine (n : Fin 64)
  | inserter (n : Fin 128)
  | tdm (n : Fin 32)
deriving DecidableEq, Repr

/-- A TDM16 frame as the port meets it (R300, R308): BCLK rising edges, BCLK periods of FSYNC high, the frame period in ps, and
the 16 slots of SDIN. -/
structure TdmFrame where
  edges : Nat
  fsync : Nat
  period : Nat
  sdin : List (BitVec 32)
deriving DecidableEq, Repr

/-- A request to the frame memory controller (R320): class, instance, the bus master of a control bus access, offset, and the
bytes of a write, or the length of a read; `ecc` is what the check bytes of the units read show, `odecc` errors that the
stack reports. -/
structure FmReq where
  cls : Fin 6
  inst : Nat
  write : Bool
  offset : BitVec 36
  len : Nat
  data : Bytes
  ecc : EccOutcome
  odecc : Nat
deriving DecidableEq, Repr

/-- A request that enters the controller, and the controller clocks after it until the next: of each, the banks (48 a pseudo-channel) to
which DRAM timing allows no command (R320, R321). -/
structure FmArrival where
  req : FmReq
  clocks : List (List (Fin 3072))
deriving DecidableEq, Repr

/-- The commands: one constructor per row of spec/opcode_table.json. -/
inductive Instr where
  /-- POWER_ON (R546): Power is applied, or VDD_CORE falls below the 0.30 V power-on threshold for 100 ms; this resets the device and is the only way to leave LOCKOUT. -/
  | powerOn
  /-- RESET_N_ASSERT (R546): A low level of at least 1 µs on RESET_N resets the device as completely as any reset. -/
  | resetNAssert
  /-- SUPPLY_MONITOR_RESET (R546): VDD_CORE below 0.50 V or VDDIO_1V8 below 1.55 V for 2 µs resets the device with RESET_CAUSE POWER_ON. -/
  | supplyMonitorReset
  /-- RESET_N_RELEASE (R472): Release of RESET_N starts the boot ROM and the start-up sequence of Table 14.1. -/
  | resetNRelease
  /-- START_UP_STORE_CHECK (R481): At step 8 the store and gain area are checked and loaded, and the device enters STARTING or LAY_BY. -/
  | startUpStoreCheck
  /-- FM_TRAINING_STEP_DONE (R334): A step of HBM start-up training completes; a failed attempt restarts from step 3, and a third failure retires the pseudo-channel or stops start-up. -/
  | fmTrainingStepDone (pc : Fin 64) (o : TrainOutcome)
  /-- REF_ACTIVITY_LOSS (R34): A reference input loses activity and goes ABSENT, which may make the selector switch or enter HOLDOVER or FREE_RUN. -/
  | refActivityLoss (x : Silence)
  /-- REF_MONITOR_UPDATE (R39): A frequency monitor update measures an input's offset and moves its qualification state. -/
  | refMonitorUpdate (n : Fin 5) (offset : Int) (sync : SyncSeen)
  /-- REF_WTR_EXPIRY (R39): The wait-to-restore timer of a RESTORING input reaches zero and the input becomes QUALIFIED. -/
  | refWtrExpiry (n : Fin 5)
  /-- SWITCH_WINDOW_END (R46): The 1 ms switch window ends and the selector locks to its target or chooses again under R47. -/
  | switchWindowEnd (phase : Int)
  /-- TIME_PPS_EDGE (R62): A 1PPS rising edge on TIME_PPS updates the TIME_IN gate and compares the accepted time of day with the Media Time Counter. -/
  | timePpsEdge
  /-- TIME_OF_DAY_MESSAGE (R38): A 16-byte time-of-day message arrives on TIME_TOD and is accepted or discarded. -/
  | timeOfDayMessage (msg : BitVec 128)
  /-- THERMOS_RECORD (R50): Each second in LOCKED the Thermos records the mean frequency correction and updates THERMOS_FREQ. -/
  | thermosRecord (corr : Int)
  /-- LOCAL_OSC_STABLE (R53): The clean-cycle count reaches 1,048,576 and LOCAL_OSC becomes stable. -/
  | localOscStable
  /-- LOCAL_OSC_LOSS (R56): LOCAL_OSC loses activity: monitors freeze, the Thermos empties and the LOCAL_OSC fault latches. -/
  | localOscLoss
  /-- REF_RANK_WRITE (R39): A write of REF_RANK disables an input or restarts its qualification. -/
  | refRankWrite (r : Req) (w : WArg)
  /-- SEL_FORCE_WRITE (R49): A write of SEL_FORCE forces an input or HOLDOVER, or returns the selector to automatic selection. -/
  | selForceWrite (r : Req) (w : WArg)
  /-- MT_STEP_APPLY (R63): The command arms one Media Time step for the next 1PPS edge. -/
  | mtStepApply (r : Req) (w : WArg)
  /-- SYNTH_STROBE (R69): The command captures all CLKOUT divider shadows for the next update instant. -/
  | synthStrobe (r : Req) (w : WArg)
  /-- SYNTH_UPDATE_INSTANT (R70): At the update instant the changed CLKOUT outputs take their captured settings on a shared rising edge. -/
  | synthUpdateInstant
  /-- FRAME_SYNC_IN_PULSE (R71): A rising edge on FRAME_SYNC_IN defines a CLKOUT reset instant 24 ns later. -/
  | frameSyncInPulse
  /-- CLKOUT_RESET_INSTANT (R71): At the reset instant the divider of each CLKOUT in ONCE or EVERY restarts with a rising edge. -/
  | clkoutResetInstant (inPhase : BitVec 4)
  /-- GATE_CLOSE_REQUEST (R76): A request to close a gate is refused, closes at once or waits for accesses in flight. -/
  | gateCloseRequest (r : Req) (w : WArg)
  /-- GATE_OPEN_REQUEST (R78): A request to open a gate opens it, or is refused when its parent is closed. -/
  | gateOpenRequest (r : Req) (w : WArg)
  /-- GATE_CLOSE_COMPLETE (R77): The accesses in flight at a waiting gate complete, the gate closes and held accesses end with an error. -/
  | gateCloseComplete (g : Fin 37)
  /-- GATE_CLOSE_TIMEOUT (R77): A waiting close request ends BUSY after 100 µs, and the gate stays open. -/
  | gateCloseTimeout (g : Fin 37)
  /-- AVS_EVALUATION (R13): Every 1 ms the margin monitor reevaluates margin and requests a new VDD_CORE. -/
  | avsEvaluation (margin : Int)
  /-- AVSBUS_TRANSACTION (R547): An AVSBus transaction to the core regulator completes, and three consecutive failures latch AVS_BUS. -/
  | avsbusTransaction (cmd : AvsCmd) (ok : Bool) (val : BitVec 16)
  /-- AVS_ENABLE_WRITE (R563): A write of AVS_ENABLE resumes AVS control or requests 0.80 V. -/
  | avsEnableWrite (r : Req) (w : WArg)
  /-- LANE_EN_WRITE (R93): A write of LANE_EN takes a lane pair from OFF to DETECT or to OFF. -/
  | laneEnWrite (r : Req) (w : WArg)
  /-- LANE_SPARE_MODE_WRITE (R93): A write of LANE_SPARE_MODE puts a spare in WATCH or OFF. -/
  | laneSpareModeWrite (r : Req) (w : WArg)
  /-- TERMINATION_TEST (R94): A termination test in DETECT, made at entry and every 1 ms, finds or misses the far-end termination. -/
  | terminationTest (l : Fin 274) (found : Bool)
  /-- TRAINING_WORD_RECEIVED (R96): A valid training word arrives and drives training, lock entry or a retrain. -/
  | trainingWordReceived (l : Fin 274) (word : BitVec 64)
  /-- EYE_MARGIN_MEASURED (R101): A 256-frame margin measurement ends and the receiver negotiation moves to its next request. -/
  | eyeMarginMeasured (l : Fin 274) (margin : Nat)
  /-- TRAIN_WORD_TIMEOUT (R93): No valid training word within 20 ms returns the pair from TRAIN to DETECT. -/
  | trainWordTimeout (l : Fin 274)
  /-- TRAIN_LOCK_TIMEOUT (R100): 50 ms in TRAIN without LOCK restarts TRAIN from the start preset as a charged transition. -/
  | trainLockTimeout (l : Fin 274)
  /-- LOCK_TIMEOUT (R93): 2 ms in LOCK without reaching EXCHANGE returns the pair to TRAIN. -/
  | lockTimeout (l : Fin 274)
  /-- EXCHANGE_TIMEOUT (R93): 10 ms in EXCHANGE without reaching ACTIVE returns the pair to TRAIN. -/
  | exchangeTimeout (l : Fin 274)
  /-- SIGNAL_SQUELCH (R93): The received signal stays below squelch for 1 µs and the pair goes to DETECT. -/
  | signalSquelch (l : Fin 274)
  /-- LANE_TEST_MODE_WRITE (R104): A write of LANE_TEST_MODE puts a pair in TEST with a pattern or returns it to DETECT. -/
  | laneTestModeWrite (r : Req) (w : WArg)
  /-- LANE_COUNT_CLEAR (R107): The command clears every counter and LANE_SAT of one lane pair. -/
  | laneCountClear (r : Req) (w : WArg)
  /-- RETIREMENT_POINT (R110): At a group's retirement point the pending retirements of the lane cycle are decided, lowest lane first. -/
  | retirementPoint (g : Fin 16)
  /-- SPARE_REQUEST_RECEIVED (R109): A far-end SPARE_REQUEST retires the named lane, or is answered SPARE_REFUSED or ignored. -/
  | spareRequestReceived (l : Fin 274) (lane : BitVec 8) (code : BitVec 8)
  /-- SPARE_ACK_RECEIVED (R560): The first SPARE_ACK of a takeover or release makes the crosspoint end send SPARE_GO. -/
  | spareAckReceived (l : Fin 274) (lane : BitVec 8)
  /-- SPARE_GO_RECEIVED (R560): The first SPARE_GO makes the receiver switch the slots from the next cycle. -/
  | spareGoReceived (l : Fin 274) (lane : BitVec 8)
  /-- SPARE_TAKEOVER_TIMEOUT (R561): A takeover that misses its deadlines fails and both lanes go to RETIRED_NO_SPARE. -/
  | spareTakeoverTimeout (g : Fin 16)
  /-- SPARE_RELEASE_TIMEOUT (R561): A release that misses its deadlines fails and the original lane returns to FAIL. -/
  | spareReleaseTimeout (g : Fin 16)
  /-- LANE_RESTART (R112): The command brings a FAIL lane pair to DETECT and starts a release from the spare when it becomes ACTIVE. -/
  | laneRestart (r : Req) (w : WArg)
  /-- LANE_SPARE_FORCE (R120): The command retires an ACTIVE working lane and calls the spare. -/
  | laneSpareForce (r : Req) (w : WArg)
  /-- SPARE_CHECK_START (R114): Every LANE_SPARE_CHECK hours the Rambler brings one OFF spare to ACTIVE to check it. -/
  | spareCheckStart (g : Fin 16)
  /-- SPARE_CHECK_END (R114): After 10 s the spare check ends, may raise SPARE_CHECK_FAIL, and the spare returns to OFF. -/
  | spareCheckEnd (g : Fin 16) (height : Nat) (width : Nat)
  /-- LANE_EYE_MEASUREMENT (R115): The Rambler measures the eye of an ACTIVE pair and raises LANE_MARGIN when it is low. -/
  | laneEyeMeasurement (l : Fin 274) (height : Nat) (width : Nat)
  /-- GROUP_SIGNAL_LOSS (R117): Loss of signal on all 17 receive lanes of a group clears its retirement history and returns retired pairs to DETECT. -/
  | groupSignalLoss (g : Fin 16)
  /-- BASKET_RECEIVED (R139): A Basket arrives at a lane or twin-link receive edge and is checked, counted, stamped and buffered or discarded. -/
  | basketReceived (l : Fin 274) (steady : Bool) (blocks : List (BitVec 2 × BitVec 64))
  /-- CAP_RECEIVED (R145): A CAP message is checked for compatibility and answered with CAP_ACK. -/
  | capReceived (l : Fin 274) (body : BitVec 160)
  /-- CAP_ACK_RECEIVED (R145): A CAP_ACK completes the exchange, or sends the pair to FAIL with CAP_MISMATCH. -/
  | capAckReceived (l : Fin 274) (body : BitVec 16)
  /-- SLOT_STATUS_RECEIVED (R149): An I/O card's SLOT_STATUS reports the state of the four inputs of the lane. -/
  | slotStatusReceived (l : Fin 274) (body : BitVec 128)
  /-- HEALTH_RECEIVED (R148): A HEALTH body is passed to telemetry. -/
  | healthReceived (l : Fin 274) (body : BitVec 80)
  /-- SLOT_POSITION (R127): At each cycle position a transmitter sends the next data Basket of the slot, a service Basket or an IDLE Basket. -/
  | slotPosition (x : SlotTick)
  /-- INPUT_STAGE_BASKET (R157): The input stage accepts a Basket, identifies the format and derives marks. -/
  | inputStageBasket (g : Fin 16) (k : Fin 64)
  /-- GROUP_NODE_INGRESS (R19): A Basket enters its source's group node and is sent over the mesh links whose subscription bits are set. -/
  | groupNodeIngress (src : Fin 1128)
  /-- OUTPUT_FRAME_START (R165): At an output frame start the output stage chooses the cadence of the next frame. -/
  | outputFrameStart (p : Fin 1024)
  /-- OUTPUT_SWITCH_POINT (R170): The output cadence reaches a switch point. -/
  | outputSwitchPoint (p : Fin 1024) (second : Bool)
  /-- TAKE (R429): A TAKE message, or a WRITE to 0x11.0001, accepts or refuses take records and gives each its E. -/
  | take (r : Req) (recs : List (BitVec 128))
  /-- TAKE_CANCEL (R179): The command withdraws the pending take of one destination. -/
  | takeCancel (r : Req) (w : WArg)
  /-- HAMPER_ENTRIES_WRITE (R182): A write replaces the whole of one Hamper after checking every entry. -/
  | hamperEntriesWrite (r : Req) (w : WArg)
  /-- HAMPER_FIRE (R183): The command arms every entry of a Hamper with one E. -/
  | hamperFire (r : Req) (w : WArg)
  /-- HAMPER_ARMED (R185): All entries of a fired Hamper are armed and it becomes IN_PROGRESS. -/
  | hamperArmed (h : Fin 256)
  /-- HAMPER_ABORT (R186): The command withdraws the unexecuted entries of a Hamper at its E. -/
  | hamperAbort (r : Req) (w : WArg)
  /-- HAMPER_CLEAR (R186): The command empties a STORED Hamper at its E. -/
  | hamperClear (r : Req) (w : WArg)
  /-- FS_MODE_WRITE (R187): A write of FS_MODE sets an input to OFF, SYNC or DELAY after a capacity check. -/
  | fsModeWrite (r : Req) (w : WArg)
  /-- FS_DELAY_FRAMES_WRITE (R192): A change of FS_DELAY_FRAMES moves the delay at the next frame start. -/
  | fsDelayFramesWrite (r : Req) (w : WArg)
  /-- IN_GANG_WRITE (R193): A write of IN_GANG is checked against capacity and packet mode. -/
  | inGangWrite (r : Req) (w : WArg)
  /-- FS_FRAME_COMPLETE (R189): The last word of an arriving frame is written to frame memory and the frame is complete. -/
  | fsFrameComplete (p : Fin 1024)
  /-- FS_DECISION (R190): 250 µs before a presented frame, the frame sync decides to present, drop or repeat. -/
  | fsDecision (p : Fin 1024)
  /-- TAKE_COUNT_CLEAR (R197): The command clears the take counters of its own device. -/
  | takeCountClear (r : Req) (w : WArg)
  /-- IN_COUNT_CLEAR (R197): The command clears the counters of one input port. -/
  | inCountClear (r : Req) (w : WArg)
  /-- OUT_COUNT_CLEAR (R197): The command clears the counters of one output port. -/
  | outCountClear (r : Req) (w : WArg)
  /-- FS_COUNT_CLEAR (R197): The command clears the frame sync counters of one input. -/
  | fsCountClear (r : Req) (w : WArg)
  /-- PACKET_RECEIVE (R205): A frame on a packet-mode port is classified, matched to a flow and placed in its store. -/
  | packetReceive (g : Fin 16) (k : Fin 64)
  /-- POSITION_DEADLINE (R219): At a position's deadline the device decides it present or absent. -/
  | positionDeadline (f : Fin 4096) (frame : Nat) (pos : Nat)
  /-- RF_LEG_DOWN (R226): A leg with no good packet for 10 ms goes DOWN. -/
  | rfLegDown (f : Fin 4096)
  /-- RF_ENABLE_WRITE (R209): A write of RF_ENABLE enables a receive flow and sizes its store, or disables it. -/
  | rfEnableWrite (r : Req) (w : WArg)
  /-- RF_PLAYOUT_WRITE (R210): A new RF_PLAYOUT takes effect at the next frame start of the home input. -/
  | rfPlayoutWrite (r : Req) (w : WArg)
  /-- TF_ENABLE_WRITE (R228): A write of TF_ENABLE enables a transmit flow after checks and load admission. -/
  | tfEnableWrite (r : Req) (w : WArg)
  /-- PACKET_SEND (R233): A transmit flow sends a packet at its send time. -/
  | packetSend (f : Fin 2048) (x : SendPlace)
  /-- RF_COUNT_CLEAR (R242): The command clears the counters of a receive flow entry. -/
  | rfCountClear (r : Req) (w : WArg)
  /-- TF_COUNT_CLEAR (R242): The command clears the counters of a transmit flow entry. -/
  | tfCountClear (r : Req) (w : WArg)
  /-- PKT_COUNT_CLEAR (R242): The command clears the packet counters of a port. -/
  | pktCountClear (r : Req) (w : WArg)
  /-- CE_OUTPUT_WRITE (R243): A write assigns or unassigns an engine to an output. -/
  | ceOutputWrite (r : Req) (w : WArg)
  /-- CE_LAYER_WRITE (R247): A write sets the key record of a layer after checks. -/
  | ceLayerWrite (r : Req) (w : WArg)
  /-- CE_ORDER_WRITE (R250): A write sets the blend order of an engine. -/
  | ceOrderWrite (r : Req) (w : WArg)
  /-- ENGINE_FRAME_START (R253): At an engine's nominal frame start pending changes apply and each layer's state is decided. -/
  | engineFrameStart (n : Fin 64)
  /-- STILL_DATA_WRITE (R257): A write of STILL_DATA stores a still after size, format and region checks. -/
  | stillDataWrite (r : Req) (w : WArg)
  /-- SP_STILL_WRITE (R259): A write of SP_STILL names the still that a player plays after a bandwidth check. -/
  | spStillWrite (r : Req) (w : WArg)
  /-- CANOPY_SOURCE_WRITE (R262): A Canopy-port write names the Canopy source of a group node. -/
  | canopySourceWrite (r : Req) (w : WArg)
  /-- CI_OUTPUT_WRITE (R265): A Canopy-port write names the output of an inserter. -/
  | ciOutputWrite (r : Req) (w : WArg)
  /-- CI_ON_WRITE (R265): A Canopy-port write turns an inserter on or off. -/
  | ciOnWrite (r : Req) (w : WArg)
  /-- CANOPY_FRAME_COMPLETE (R262): A Canopy sync completes writing a frame into one of its buffers. -/
  | canopyFrameComplete (g : Fin 16)
  /-- CANOPY_SELECT (R263): 250 µs before an output frame start an inserter selects the newest complete Canopy frame. -/
  | canopySelect (c : Fin 128)
  /-- CANOPY_LOSS_TIMEOUT (R264): No new Canopy frame for CANOPY_LOSS_HOLD frame periods makes the sync LOST. -/
  | canopyLossTimeout (g : Fin 16)
  /-- CANOPY_PORT_FRAME (R269): A frame arrives on the Canopy port and its Chawyn message is checked and carried out. -/
  | canopyPortFrame (f : CanopyFrame)
  /-- CANOPY_BYTE_GAP_TIMEOUT (R269): A gap of more than 30 µs between bytes ends a Canopy frame as bad. -/
  | canopyByteGapTimeout
  /-- CANOPY_REPLY (R270): The Canopy port drives CN_DE and sends its reply 50 µs to 1 ms after the request. -/
  | canopyReply
  /-- CE_COUNT_CLEAR (R274): The command clears the counters of one engine. -/
  | ceCountClear (r : Req) (w : WArg)
  /-- CANOPY_COUNT_CLEAR (R274): The Canopy-port command clears the Canopy counters. -/
  | canopyCountClear (r : Req) (w : WArg)
  /-- UNIT_CHECK_ERROR (R459): An internal check error of an engine, inserter or TDM port is retried, or counts toward retirement. -/
  | unitCheckError (u : CheckedUnit)
  /-- AUDIO_BLOCK_ARRIVAL (R280): An audio block reaches a consumer's aligner, or is discarded as late. -/
  | audioBlockArrival (ao : Fin 37376) (x : BlockSeen)
  /-- AUDIO_BLOCK_DEADLINE (R280): At a block's deadline the consumer decides it present or absent. -/
  | audioBlockDeadline (ao : Fin 37376) (n : Nat)
  /-- SHUF_SRC_WRITE (R286): A shuffle change applies with a crossfade from the first block at or after E. -/
  | shufSrcWrite (r : Req) (w : WArg)
  /-- AO_DELAY_WRITE (R287): A change of a channel delay is checked against the region and crossfades at E. -/
  | aoDelayWrite (r : Req) (w : WArg)
  /-- MIXER_BLOCK (R291): The mixer reads the MI blocks of one stamp and computes the MO block. -/
  | mixerBlock (n : Nat)
  /-- MIX_JOURNAL_ADD (R294): A write appends gain entries to the open journal. -/
  | mixJournalAdd (r : Req) (w : WArg)
  /-- MIX_GAIN_ROW_WRITE (R294): A write of MIX_GAIN_ROW appends the 4096 entries of one row to the journal. -/
  | mixGainRowWrite (r : Req) (w : WArg)
  /-- MIX_JOURNAL_DISCARD (R295): The command empties the open journal. -/
  | mixJournalDiscard (r : Req) (w : WArg)
  /-- MIX_COMMIT (R296): The command arms the open journal with an E. -/
  | mixCommit (r : Req) (w : WArg)
  /-- GAIN_STORE_RECORD (R298): The changed gain rows are recorded in the gain area no later than 10 s after a commit. -/
  | gainStoreRecord
  /-- TDM_FRAME (R300): A TDM16 frame is exchanged on a port, and a SLAVE port judges it clean or not. -/
  | tdmFrame (a : Fin 32) (f : TdmFrame)
  /-- TDM_QUALIFIED (R308): 4800 consecutive clean frames anchor a SLAVE port and start its ramp to RUNNING. -/
  | tdmQualified (a : Fin 32)
  /-- TDM_CLOCK_LOSS (R308): No BCLK edge for 200 ns or no FSYNC for two frames takes a SLAVE port to CLOCK_LOST. -/
  | tdmClockLoss (a : Fin 32)
  /-- TDM_SLIP_CHECK (R303): Every 10 ms a SLAVE port compares its frame instant with its stamp and may re-anchor. -/
  | tdmSlipCheck (a : Fin 32) (instantAt : Nat)
  /-- AP_ENABLE_WRITE (R306): A write of AP_ENABLE starts or stops a TDM port at the first frame instant at or after E. -/
  | apEnableWrite (r : Req) (w : WArg)
  /-- TDM_LEAD_END (R306): After 1024 frames of LEAD a MASTER port unmutes and reads RUNNING. -/
  | tdmLeadEnd (a : Fin 32)
  /-- TDM_STOP_STEP (R306): A timed stage of a MASTER port's stop sequence completes. -/
  | tdmStopStep (a : Fin 32)
  /-- AO_COUNT_CLEAR (R310): The command clears the counters of one AO. -/
  | aoCountClear (r : Req) (w : WArg)
  /-- MIX_COUNT_CLEAR (R310): The command clears the mixer counters. -/
  | mixCountClear (r : Req) (w : WArg)
  /-- AP_COUNT_CLEAR (R310): The command clears the counters of one TDM port. -/
  | apCountClear (r : Req) (w : WArg)
  /-- FM_REQUEST (R320): A requester's request enters the frame memory controller and is served. -/
  | fmRequest (x : FmArrival)
  /-- FM_CE_WRITEBACK (R331): A corrected unit is written back through class 5 within 1 ms. -/
  | fmCeWriteback (unit : Nat)
  /-- FM_REFRESH_TICK (R324): A bank's tREFI tick raises its refresh debt, and a debt beyond postponement forces a refresh. -/
  | fmRefreshTick (pc : Fin 64) (sid : Fin 3) (bank : Fin 16)
  /-- FM_TEMP_SAMPLE (R326): The 1 ms stack temperature sample moves the stack into or out of hot. -/
  | fmTempSample (st : Fin 2) (temp : Option Int)
  /-- FM_RH_SUBWINDOW (R328): A 1 ms row-hammer sub-window ends and the activation window moves on. -/
  | fmRhSubwindow
  /-- FM_RH_THROTTLE_END (R329): A row-hammer throttle of a requester ends after 8 ms. -/
  | fmRhThrottleEnd (cls : Fin 6) (inst : Nat)
  /-- FM_PAGE_IDLE_CLOSE (R323): An open row is closed after FM_PAGE_IDLE without access. -/
  | fmPageIdleClose (pc : Fin 64) (bank : Fin 48)
  /-- FM_RETRAIN_START (R336): FM_RETRAIN_GAP after the last retrain the Rambler starts retraining the next pseudo-channel. -/
  | fmRetrainStart
  /-- FM_RETRAIN_STEP (R336): One retraining step of a pseudo-channel runs when its conditions allow. -/
  | fmRetrainStep (stack : Fin 2) (pc : Fin 32) (centred : Bool) (width : Nat)
  /-- FM_PC_RETIRE (R315): The command starts retirement of a pseudo-channel. -/
  | fmPcRetire (r : Req) (w : WArg)
  /-- FM_RETIRE_COPY_DONE (R317): The retirement copy ends, the pseudo-channel reads RETIRED and the fault latches. -/
  | fmRetireCopyDone
  /-- FM_RETIRE_CLEAR (R318): The command restores the retired pseudo-channel at the next start. -/
  | fmRetireClear (r : Req) (w : WArg)
  /-- FM_COUNT_CLEAR (R339): The command clears the counters of one pseudo-channel. -/
  | fmCountClear (r : Req) (w : WArg)
  /-- FM_SCRUB (R333): The Rambler scrubs frame memory units in row order. -/
  | fmScrub (ecc : EccOutcome)
  /-- DP_GRANT_RECEIVED (R348): A DP_GRANT with CODE GRANT starts a lease and makes the device act. -/
  | dpGrantReceived (body : BitVec 32)
  /-- DP_RENEW_RECEIVED (R348): A RENEW with the held LEASE_NO moves the lease end later. -/
  | dpRenewReceived (body : BitVec 32)
  /-- DP_REVOKE_RECEIVED (R349): A DP_REVOKE naming the lease ends it at once and DP_ACK follows. -/
  | dpRevokeReceived (body : BitVec 32)
  /-- LEASE_EXPIRY (R348): The lease timer ends the lease without revocation. -/
  | leaseExpiry
  /-- LEASE_CLOCK_DEVIATION (R348): The lease oscillator deviates beyond ±0.2 % and the lease ends at once. -/
  | leaseClockDeviation
  /-- DP_ACK_RECEIVED (R350): The referee checks a DP_ACK and grants the Day Pass to an eligible device. -/
  | dpAckReceived (d : Fin 2) (body : BitVec 32)
  /-- DP_RELEASE_RECEIVED (R350): The referee takes a DP_RELEASE as an acknowledged revocation. -/
  | dpReleaseReceived (d : Fin 2) (body : BitVec 32)
  /-- REFEREE_RENEW_TICK (R350): Every 3 µs the referee renews the healthy holder. -/
  | refereeRenewTick
  /-- ROLL_CALL_TIMEOUT (R351): No good ROLL_CALL for 4 µs makes a device unhealthy at the referee. -/
  | rollCallTimeout (d : Fin 2)
  /-- REFEREE_GUARD_EXPIRY (R350): With no acknowledgement, the lease end plus the guard passes and the referee grants again. -/
  | refereeGuardExpiry
  /-- VERDICT_RECEIVED (R352): A VERDICT gives the holder and suspect marks and may start a join or SUSPECT. -/
  | verdictReceived (body : BitVec 32)
  /-- ROLL_CALL_RECEIVED (R358): A ROLL_CALL updates the peer state and Media Time difference, and at the referee digests are compared. -/
  | rollCallReceived (link : Fin 2) (body : BitVec 256)
  /-- ROLL_CALL_TICK (R355): At each 3 µs tick a device sends ROLL_CALL with the digest of the last window. -/
  | rollCallTick
  /-- OBJECT_SNAPSHOT (R357): At each 100 ms a snapshot digest of every shared object is taken. -/
  | objectSnapshot
  /-- SEAL_RECEIVED (R343): A standby matches a SEAL to its copy for application at E, or sends WRITE_FETCH. -/
  | sealReceived (rseq : Nat) (body : BitVec 248)
  /-- PHASE_RECEIVED (R194): A standby receives an input timing record. -/
  | phaseReceived (rseq : Nat) (ip : Fin 1024) (fseq : BitVec 8) (frame : BitVec 32) (phase : BitVec 32)
  /-- FS_DECISION_RECEIVED (R194): A standby receives a frame sync decision. -/
  | fsDecisionReceived (rseq : Nat) (ip : Fin 1024) (outFrame : BitVec 32) (inFrame : BitVec 32) (action : BitVec 8)
  /-- VIDEO_PRESENCE_RECEIVED (R227): A standby receives a video presence record. -/
  | videoPresenceReceived (rseq : Nat) (window : BitVec 32) (final : Bool) (entries : List (Nat × Nat × Nat))
  /-- AUDIO_PRESENCE_RECEIVED (R283): A standby receives an audio presence record. -/
  | audioPresenceReceived (rseq : Nat) (window : BitVec 32) (final : Bool) (entries : List (Nat × Nat))
  /-- CANOPY_SELECT_RECEIVED (R263): A standby receives an inserter's Canopy selection. -/
  | canopySelectReceived (rseq : Nat) (c : Fin 128) (outFrame : BitVec 32) (canopyFrame : BitVec 32)
  /-- TDM_EVENT_RECEIVED (R283): A standby receives a TDM anchor, replace, mute or unmute decision. -/
  | tdmEventReceived (rseq : Nat) (a : Fin 32) (kind : BitVec 8) (stamp : BitVec 96)
  /-- WRITE_FETCH_RECEIVED (R343): The holder answers a WRITE_FETCH with WRITE_COPY records. -/
  | writeFetchReceived (sealSeq : BitVec 32)
  /-- WRITE_COPY_RECEIVED (R343): A standby receives the parts of a sealed message it lacked. -/
  | writeCopyReceived (sealSeq : BitVec 32) (part : BitVec 16) (last : Bool) (bytes : List Byte)
  /-- JOIN_REQ_RECEIVED (R367): The holder accepts a JOIN_REQ with TS, or refuses it. -/
  | joinReqReceived (format : BitVec 16) (fw : BitVec 32)
  /-- JOIN_ACK_RECEIVED (R365): The joiner receives JOIN_ACK and awaits the snapshot, or enters SUSPECT. -/
  | joinAckReceived (result : BitVec 8) (ts : BitVec 96)
  /-- SNAPSHOT_RECEIVED (R365): The joiner receives a snapshot part and loads the whole snapshot after the last one. -/
  | snapshotReceived (part : BitVec 32) (x : SnapPart)
  /-- JOIN_DONE_RECEIVED (R367): A JOIN_DONE ends a join as hot or failed. -/
  | joinDoneReceived (result : BitVec 8)
  /-- JOIN_FILL_COMPLETE (R365): Every frame sync, delay, store and audio delay of the joiner holds its full history. -/
  | joinFillComplete
  /-- REJOIN_HOLDOFF_EXPIRY (R359): TWIN_REJOIN_HOLDOFF ends and a SUSPECT device begins a join. -/
  | rejoinHoldoffExpiry
  /-- UNSEALED_COPY_TIMEOUT (R343): A copy that no SEAL matched within 2 ms is discarded and counted. -/
  | unsealedCopyTimeout
  /-- TWIN_JOIN (R353): The command starts a join from SUSPECT or DETACHED. -/
  | twinJoin (r : Req) (w : WArg)
  /-- DP_RELEASE (R349): The command gives up the lease with DP_RELEASE. -/
  | dpRelease (r : Req) (w : WArg)
  /-- REF_HANDOVER (R350): The referee command revokes the holder with reason HANDOVER. -/
  | refHandover (r : Req) (w : WArg)
  /-- TWIN_COUNT_CLEAR (R373): The command clears the twin counters. -/
  | twinCountClear (r : Req) (w : WArg)
  /-- TWIN_MODE_WRITE (R341): A write of TWIN_MODE in LAY_BY sets PAIR or SOLO for the next START. -/
  | twinModeWrite (r : Req) (w : WArg)
  /-- MG_FRAME_RECEIVED (R376): A frame on a management segment is filtered and stored in the receive ring. -/
  | mgFrameReceived (m : Fin 2) (f : MgFrame)
  /-- MG_FRAME_TRANSMIT (R391): A queued frame begins its preamble once its class is open and the medium allows. -/
  | mgFrameTransmit (m : Fin 2)
  /-- MG_COLLISION (R382): A collision jams and backs off the frame, or gives it up. -/
  | mgCollision (m : Fin 2) (bit : Nat)
  /-- MG_BACKOFF_EXPIRY (R382): The backoff after a collision ends and the MAC defers again. -/
  | mgBackoffExpiry (m : Fin 2)
  /-- MG_ACCESS_WINDOW (R386): A 100 ms window ends and AUTO may move the port between CSMA/CD and PLCA. -/
  | mgAccessWindow (m : Fin 2)
  /-- MG_GATE_CYCLE_START (R392): A gate-list cycle starts and accepted gate writes take effect. -/
  | mgGateCycleStart (m : Fin 2)
  /-- MG_COUNT_CLEAR (R402): The command clears every counter and MG_SAT of one port. -/
  | mgCountClear (r : Req) (w : WArg)
  /-- READ (R425): A READ message returns the applied values of up to 64 references. -/
  | read (r : Req) (refs : List Ref)
  /-- OBJECT_WRITE (R426): A WRITE message writes one item of an object that has no row of its own. -/
  | objectWrite (r : Req) (apply : BitVec 96) (it : Item)
  /-- WRITE_SET (R427): A WRITE_SET writes up to 255 items atomically with one E. -/
  | writeSet (r : Req) (apply : BitVec 96) (items : List Item)
  /-- SUBSCRIBE (R434): A SUBSCRIBE message adds, renews or removes subscription entries. -/
  | subscribe (r : Req) (recs : List (BitVec 256))
  /-- BULK_READ (R430): A BULK_READ returns a byte range of an object's wire encoding in segments. -/
  | bulkRead (r : Req) (ref : Ref) (offset : BitVec 32) (size : BitVec 32)
  /-- BULK_WRITE (R431): A BULK_WRITE stages one piece of a transfer. -/
  | bulkWrite (r : Req) (b : BulkPiece)
  /-- BULK_TRANSFER_EXPIRY (R431): A transfer idle for 10 s is discarded. -/
  | bulkTransferExpiry
  /-- RESPONSE_CACHE_EXPIRY (R422): A kept response is dropped after 2 s. -/
  | responseCacheExpiry
  /-- SUBSCRIPTION_EXPIRY (R435): An entry whose LIFETIME runs out is freed and sends SUB_EXPIRED. -/
  | subscriptionExpiry (pair : Bool) (slot : Fin 16)
  /-- EVENT_SEND (R439): The gathered records of a subscription are sent as an EVENT within 1 ms. -/
  | eventSend (pair : Bool) (slot : Fin 16)
  /-- WRITE_APPLY_AT_E (R411): A timed or shared write, command or sealed copy reaches its E and is applied. -/
  | writeApplyAtE
  /-- START (R484): The command starts leaving LAY_BY. -/
  | start (r : Req) (w : WArg)
  /-- STARTING_ENTRY (R484): Once STORE_PENDING is FALSE the device writes START, enters STARTING and takes its twin state. -/
  | startingEntry
  /-- DEV_LAYBY (R485): The command ends the lease and enters LAY_BY. -/
  | devLayby (r : Req) (w : WArg)
  /-- DEV_RESET (R463): The command writes the Trail Log and resets after the response leaves. -/
  | devReset (r : Req) (w : WArg)
  /-- CH_COUNT_CLEAR (R440): The command clears the protocol counters. -/
  | chCountClear (r : Req) (w : WArg)
  /-- STORE_RECORD (R409): Applied persisted values are recorded in the store within 1 s. -/
  | storeRecord
  /-- FAULT_SOURCE_RAISE (R442): A unit's error line latches a fault source, which takes its reaction. -/
  | faultSourceRaise (src : Fin 288) (live : Bool) (chan : Option Channel)
  /-- FLT_LATCHED_WRITE (R442): Written 1 bits clear latched sources whose live bit is 0. -/
  | fltLatchedWrite (r : Req) (w : WArg)
  /-- FLT_FORCE_WRITE (R443): A write of force bits forces or unforces sources. -/
  | fltForceWrite (r : Req) (w : WArg)
  /-- FLT_ENABLE_WRITE (R444): A write of enable bits enables or disables sources. -/
  | fltEnableWrite (r : Req) (w : WArg)
  /-- FLT_ACK_WRITE (R449): Written 1 bits acknowledge sources and may stop the escalation timer. -/
  | fltAckWrite (r : Req) (w : WArg)
  /-- FLT_SEVERITY_WRITE (R451): A write sets a source's severity for reactions not yet taken. -/
  | fltSeverityWrite (r : Req) (w : WArg)
  /-- ESCALATION_TIMER_EXPIRY (R449): A group's escalation timer ends and unacknowledged sources take their reactions. -/
  | escalationTimerExpiry (g : Fin 9)
  /-- TRAIL_LOG_FLUSH (R463): Trail Log entries are written to flash within 1 s. -/
  | trailLogFlush
  /-- FLT_COUNT_CLEAR (R471): The command clears FLT_COUNT. -/
  | fltCountClear (r : Req) (w : WArg)
  /-- TABLE_SCRUB (R465): The Rambler scrubs a table and writes back corrected entries. -/
  | tableScrub (t : ScrubTable) (entry : Nat) (o : EccOutcome) (touched : Bool)
  /-- TABLE_ENTRY_RESTORE (R466): An uncorrectable table entry is restored from the firmware copy within 1 ms. -/
  | tableEntryRestore (t : ScrubTable) (entry : Nat)
  /-- TEMPERATURE_SAMPLE (R464): The Rambler samples the die sensors every 100 ms. -/
  | temperatureSample (temps : List (Option Int))
  /-- FLASH_COMPACTION (R464): The Rambler compacts flash logs and levels wear. -/
  | flashCompaction
  /-- TELEMETRY_SNAPSHOT (R468): At each 100 ms every telemetry set is read and queued for its subscriptions. -/
  | telemetrySnapshot
  /-- TEL_SET_WRITE (R467): A write defines a host telemetry set within the size limit. -/
  | telSetWrite (r : Req) (w : WArg)
  /-- RMB_COUNT_CLEAR (R471): The command clears the Rambler counters. -/
  | rmbCountClear (r : Req) (w : WArg)
  /-- CC_WATCHDOG_EXPIRY (R459): A control core watchdog expires and the core restarts, or the device resets after 3 restarts in 1 h. -/
  | ccWatchdogExpiry (c : Fin 4)
  /-- CALIBRATION_WRITE (R488): A write of a calibration object or CAL_SET rewrites the CALIBRATION area. -/
  | calibrationWrite (r : Req) (o : Fin 6) (w : WArg)
  /-- UPD_MANIFEST_WRITE (R491): A manifest is validated and staged. -/
  | updManifestWrite (r : Req) (w : WArg)
  /-- UPD_PIECE_WRITE (R492): A piece is hashed, programmed, read back and recorded in the bitmap. -/
  | updPieceWrite (r : Req) (w : WArg)
  /-- UPD_ACTIVATE (R494): The command checks, writes a TRIAL record and resets into the staged image. -/
  | updActivate (r : Req) (w : WArg)
  /-- UPD_REVERT (R499): The command makes a trial image fall back. -/
  | updRevert (r : Req) (w : WArg)
  /-- UPD_DISCARD (R504): The command clears the staged manifest and bitmap. -/
  | updDiscard (r : Req) (w : WArg)
  /-- TRIAL_CONFIRM (R498): A trial image meets its conditions and writes a CONFIRMED record. -/
  | trialConfirm
  /-- TRIAL_TIMEOUT (R499): 600 s pass without confirmation and the trial image falls back. -/
  | trialTimeout
  /-- SEC_LIFECYCLE_SET (R500): The debug command moves LIFECYCLE forward at the next reset. -/
  | secLifecycleSet (r : Req) (w : WArg)
  /-- SEC_ATTEST (R502): The command starts signing attestation evidence over a nonce. -/
  | secAttest (r : Req) (w : WArg)
  /-- SEC_ATTEST_DONE (R502): Signing completes and SEC_EVIDENCE holds the evidence. -/
  | secAttestDone
  /-- SEC_KEY_REVOKE (R503): The command marks a vendor key slot REVOKED in OTP. -/
  | secKeyRevoke (r : Req) (w : WArg)
  /-- BUS_TRANSACTION (R513): A control bus transaction is decoded, carried out and ends with a response. -/
  | busTransaction (t : BusTxn)
  /-- BUS_GRANT (R515): A target port grants the waiting transaction of highest effective QoS. -/
  | busGrant (t : Fin 12) (newly : List (Fin 9 × BitVec 40))
  /-- TAP_RESET (R517): TRST_N low or five TMS-high cycles reset the TAP and load IDCODE. -/
  | tapReset
  /-- EXTEST (R520): The instruction drives the balls from the boundary register, or acts as BYPASS outside its states. -/
  | extest
  /-- SAMPLE_PRELOAD (R518): The instruction samples and preloads the boundary register. -/
  | samplePreload (preload : List Bool)
  /-- IDCODE (R519): The instruction selects the 32-bit identification register. -/
  | idcode
  /-- CLAMP (R520): The instruction holds boundary outputs while selecting bypass. -/
  | clamp
  /-- HIGHZ (R520): The instruction sets every boundary output to high impedance. -/
  | highz
  /-- DBG_ACCESS (R522): The instruction selects the debug access register. -/
  | dbgAccess
  /-- BYPASS (R518): The instruction selects the 1-bit bypass register. -/
  | bypass
  /-- DM_HALT (R525): A DM_CTRL HALT bit asks a core to halt when R524 allows. -/
  | dmHalt (cores : BitVec 4)
  /-- DM_RESUME (R526): A DM_CTRL RESUME bit restarts a halted core. -/
  | dmResume (cores : BitVec 4)
  /-- DM_STEP (R526): A DM_CTRL STEP bit runs one instruction of a halted core. -/
  | dmStep (cores : BitVec 4)
  /-- DM_HALT_COMPLETE (R525): A core halts at an instruction boundary once its outstanding access responds. -/
  | dmHaltComplete (c : Fin 4) (pc : BitVec 40)
  /-- DM_CMP_CTRL_WRITE (R527): A write configures and enables a breakpoint or watchpoint comparator. -/
  | dmCmpCtrlWrite (data : BitVec 32)
  /-- DM_CMP_HITS_CLEAR (R527): A write of 0 clears a comparator's hit count. -/
  | dmCmpHitsClear (data : BitVec 32)
  /-- DM_COMPARATOR_MATCH (R527): A comparator matches a core access, counts a hit and halts the core when allowed. -/
  | dmComparatorMatch (c : Fin 4) (k : Fin 12) (x : CoreAccess)
  /-- DM_MEM_GO (R528): GO starts one debug memory access at DM_MEM_ADDR. -/
  | dmMemGo (data : BitVec 32)
  /-- DM_MEM_DATA_AUTO (R528): With AUTO set, a DR access of DM_MEM_DATA starts the next access. -/
  | dmMemDataAuto (write : Bool) (data : BitVec 32)
  /-- DM_MEM_ACCESS_DONE (R528): A debug memory access ends, clearing BUSY and setting RESP. -/
  | dmMemAccessDone (x : MemOutcome)
  /-- DM_MEM_OVERRUN_CLEAR (R528): A write of 1 clears OVERRUN in DM_MEM_STATUS. -/
  | dmMemOverrunClear (data : BitVec 32)
  /-- DM_MBX_TX_WRITE (R529): A write adds 4 request bytes to the mailbox. -/
  | dmMbxTxWrite (data : BitVec 32)
  /-- DM_MBX_GO (R529): GO submits the mailbox request as a Chawyn message of class DB. -/
  | dmMbxGo (data : BitVec 32)
  /-- DM_MBX_RX_READ (R529): A read takes the next 4 bytes of the mailbox response. -/
  | dmMbxRxRead
  /-- DM_MBX_RX_DONE (R529): RX_DONE releases the response and empties both buffers. -/
  | dmMbxRxDone (data : BitVec 32)
  /-- DM_REGISTER_WRITE (R522): A DBG_ACCESS write to a debug register with no row of its own. -/
  | dmRegisterWrite (reg : BitVec 8) (data : BitVec 32)
  /-- DBG_COUNT_CLEAR (R531): The command clears the debug and bus counters. -/
  | dbgCountClear (r : Req) (w : WArg)
  /-- LANE_PRBS_LOCK (R104): In TEST the pattern checker compares the raw received bits, sets LANE_PRBS_LOCK once 1024 bits hold fewer than 32 errors, counts errors, and clears the lock and reseeds on 32 or more errors in 1024 bits. -/
  | lanePrbsLock (l : Fin 274) (n : Nat) (bits : Nat)
  /-- MG_PLCA_BEACON (R384): A PLCA BEACON is received on a management port, or sent by it as coordinator, starting a PLCA cycle and keeping MG_PLCA_STATUS TRUE. -/
  | mgPlcaBeacon (m : Fin 2) (busy : Bool)
  /-- CALIBRATION_RECORD (R488): The rewrite of the CALIBRATION area completes within 1 s of a calibration write, after which CAL_ORIGIN reads USER and later calibration writes are no longer refused with BUSY. -/
  | calibrationRecord
  /-- PRESENCE_WINDOW_END (R363): At the end of each 10 µs video or 50 µs audio presence window, the holder sends that window's presence record, with FINAL and COUNT 0 when the window has no entries. -/
  | presenceWindowEnd (audio : Bool)
  /-- JOIN_SNAPSHOT_TS (R365): At TS, its acceptance time plus 2 ms, the holder captures the shared objects and run state that its SNAPSHOT records carry, dividing sealed writes into those in the snapshot and those the joiner applies afterwards. -/
  | joinSnapshotTs
deriving DecidableEq, Repr

end Sys2Proof
end

