-- ==== Sys2Proof/Decode.lean ====
section
/-! DEFINITION. The command that a word of spec/opcode_table.json spells: no row of the table gives bits. -/

namespace Sys2Proof

/-- No row of the table has bits, so every word is turned away. -/
def decodeTableWord (_nbits _w : Nat) : Option Instr := none

end Sys2Proof
end

