-- ==== Sys2Proof/Config.lean ====
section
/-! DEFINITION. The values the spec leaves open, as opaque constants: nothing in Lean can evaluate them, so no claim can
rest on their value. Each is named in the assumption log. -/

namespace Sys2Proof.Config

/-- A fresh open value per use, indexed by the counter `freeN` of the state. -/
opaque freeNat : Nat → Nat

/-- What the copy of a retiring pseudo-channel met in the stack (R317): whether the pseudo-channel answered to the end, and the units
that read with an uncorrectable error; per use, as `freeNat`. -/
opaque copyRead : Nat → Bool × List Nat

/-- A byte of the boot ROM, of the flash window outside what the model lays out, of a frame memory cell that nothing has
written. -/
opaque romByte : Nat → Byte
opaque flashByte : Nat → Byte
opaque memByte : Nat → Byte

/-- A byte of control RAM that no bus transaction has written (address). -/
opaque ramByte : Nat → Byte

/-- The signature of the identity key over a digest (R502). -/
opaque identitySign : Bytes → Bytes

/-- A signature verifies under SLH-DSA-SHA2-128s: public key, signed digest, signature (R491). -/
opaque slhVerify : Bytes → Bytes → Bytes → Bool

/-- A pattern generator's picture: generator, format, and the place in the picture, its row times 2^16 plus the word in the row. -/
opaque patternWord : Nat → Nat → Nat → Nat

/-- The gate behind which an undocumented unit window lies, taken modulo 37 (R559: "Every other unit window belongs to the unit it
serves"). -/
opaque windowGate : Nat → Nat

/-- MODEL of our CAP (Table 4.10). -/
opaque modelCode : Nat

/-- Payload byte of an egress Basket with VALID 0 (output, byte); a pixel word of a transmit flow whose source has a hole there
(flow, word index). -/
opaque holeByte : Nat → Nat → Byte
opaque holeWord : Nat → Nat → Nat

/-- The state bytes of a join snapshot: R365 and R366 give what they carry, not how it is laid out. -/
opaque snapshotBytes (items : List Item) (run : List RunItem) : Bytes

end Sys2Proof.Config
end

