-- ==== Sys2Proof/Machine/Bits.lean ====
section
/-! DEFINITION. Bit fields, signs and byte order: the plain helpers every unit shares (R5, R6). -/

namespace Sys2Proof.Machine

/-- The big-endian value of a byte string (R6). -/
def beNat : Bytes → Nat
  | [] => 0
  | b :: r => b.toNat * 256 ^ r.length + beNat r

/-- The low `n` bytes of `v`, most significant byte first (R6). -/
def beBytes : Nat → Nat → Bytes
  | 0, _ => []
  | n + 1, v => BitVec.ofNat 8 (v / 256 ^ n) :: beBytes n v

/-- The low `n` bytes of `v`, least significant byte first (R6: control bus data). -/
def leBytes : Nat → Nat → Bytes
  | 0, _ => []
  | n + 1, v => BitVec.ofNat 8 v :: leBytes n (v / 256)

/-- The little-endian value of a byte string. -/
def leNat : Bytes → Nat
  | [] => 0
  | b :: r => b.toNat + 256 * leNat r

/-- Field `v[hi:lo]` (R5). -/
def fld (v hi lo : Nat) : Nat := v / 2 ^ lo % 2 ^ (hi + 1 - lo)

/-- Bit `i` of `v` (R5). -/
def bitOf (v i : Nat) : Bool := v / 2 ^ i % 2 == 1

/-- `v` with bit `i` set to `b`. -/
def setBit (v i : Nat) (b : Bool) : Nat :=
  match bitOf v i, b with
  | true, false => v - 2 ^ i
  | false, true => v + 2 ^ i
  | _, _ => v

/-- The low `w` bits of the two's complement of `x`. -/
def ofInt (w : Nat) (x : Int) : Nat := (x % (2 ^ w : Int)).toNat

/-- The signed reading of a `w`-bit value. -/
def toInt (w : Nat) (v : Nat) : Int :=
  if v % 2 ^ w < 2 ^ (w - 1) then (v % 2 ^ w : Nat) else (v % 2 ^ w : Nat) - (2 ^ w : Int)

/-- An integer limited to `lo` to `hi`. -/
def clampInt (lo hi x : Int) : Int := if x < lo then lo else if hi < x then hi else x

/-- 1 for TRUE, 0 for FALSE (Table 12.2). -/
def boolNat (b : Bool) : Nat := if b then 1 else 0

/-- The number of set bits among the low `w` bits. -/
def popCount (w v : Nat) : Nat := (List.range w).foldl (fun n i => if bitOf v i then n + 1 else n) 0

/-- The indexes below `w` of the set bits of `v`, rising. -/
def setBits (w v : Nat) : List Nat := (List.range w).filter (bitOf v)

/-- Cut a list into pieces of `n`, with `fuel` pieces at most. -/
def chunksOf {α : Type} (n : Nat) : Nat → List α → List (List α)
  | 0, _ => []
  | _, [] => []
  | fuel + 1, l => l.take n :: chunksOf n fuel (l.drop n)

end Sys2Proof.Machine
end

