-- ==== Sys2Proof/Machine/Crc.lean ====
section
/-! DEFINITION. The cyclic redundancy checks of the spec: CRC-16 of a Basket (R123), of a time-of-day message (R38) and of a
Canopy port frame (Table 7.5), CRC-32 of a management frame (R377), CRC-32C (R432), CRC-64 of a digest (R356). Bitwise, so that each polynomial is
seen as the spec writes it. -/

namespace Sys2Proof.Machine

/-- One bit of a reflected CRC: shift right, and add the reflected polynomial where a 1 falls out. -/
def crcReflBit (poly crc : Nat) : Nat := if crc % 2 = 1 then (crc / 2) ^^^ poly else crc / 2

/-- `n` bits of a reflected CRC. -/
def crcReflBits (poly : Nat) : Nat → Nat → Nat
  | 0, crc => crc
  | n + 1, crc => crcReflBits poly n (crcReflBit poly crc)

/-- A reflected CRC over bytes, from `crc`; `poly` is the bit-reversed polynomial. -/
def crcRefl (poly : Nat) : Nat → Bytes → Nat
  | crc, [] => crc
  | crc, b :: r => crcRefl poly (crcReflBits poly 8 (crc ^^^ b.toNat)) r

/-- One bit of an unreflected CRC of width `w`. -/
def crcNormBit (w poly crc : Nat) : Nat :=
  if crc / 2 ^ (w - 1) % 2 = 1 then (crc * 2 % 2 ^ w) ^^^ poly else crc * 2 % 2 ^ w

/-- `n` bits of an unreflected CRC. -/
def crcNormBits (w poly : Nat) : Nat → Nat → Nat
  | 0, crc => crc
  | n + 1, crc => crcNormBits w poly n (crcNormBit w poly crc)

/-- An unreflected CRC of width `w` (at least 8) over bytes, from `crc`. -/
def crcNorm (w poly : Nat) : Nat → Bytes → Nat
  | crc, [] => crc
  | crc, b :: r => crcNorm w poly (crcNormBits w poly 8 (crc ^^^ (b.toNat * 2 ^ (w - 8)))) r

/-- CRC-16 (R38, R123, Table 7.5): polynomial 0x1021, initial value 0xFFFF. -/
def crc16 (b : Bytes) : Nat := crcNorm 16 0x1021 0xFFFF b

/-- CRC-64 (R356). -/
def crc64 (b : Bytes) : Nat := crcNorm 64 0x42F0E1EBA9EA3693 0 b

/-- The CRC-32 of IEEE 802.3 (R377): polynomial 0x04C11DB7 reflected. -/
def crc32 (b : Bytes) : Nat := crcRefl 0xEDB88320 0xFFFFFFFF b ^^^ 0xFFFFFFFF

/-- CRC-32C (R432): polynomial 0x1EDC6F41 reflected. -/
def crc32c (b : Bytes) : Nat := crcRefl 0x82F63B78 0xFFFFFFFF b ^^^ 0xFFFFFFFF

end Sys2Proof.Machine
end

