-- ==== Sys2Proof/Machine/FaultSources.lean ====
section
/-! DEFINITION. The 288 fault sources: their numbers, default severities and start-up classes
(R441, R457, Tables 13.3 to 13.11). A numbered family is its first source; the element follows by the row. -/

namespace Sys2Proof.Machine

namespace Flt

def REF_LOST : Nat := 0
def LOCAL_OSC : Nat := 5
def HOLDOVER : Nat := 6
def FREE_RUN : Nat := 7
def REF_DISAGREE : Nat := 8
def SYNTH_UNLOCK : Nat := 9
def AVS_MARGIN : Nat := 10
def AVS_BUS : Nat := 11
def MT_STEP : Nat := 12
def TOD_INVALID : Nat := 13
def EDGE_ROOT_FALLBACK : Nat := 14
def TWIN_ILO : Nat := 15
def GROUP_ILO : Nat := 16
def LANE_FAIL : Nat := 32
def LANE_UNPROTECTED : Nat := 33
def LANE_MARGIN : Nat := 34
def LANE_REF_LOST : Nat := 56
def LANE_REF_STEP : Nat := 57
def SPARE_ABORT : Nat := 58
def LANE_TEST : Nat := 59
def LANE_RETRAIN : Nat := 60
def LANE_FAR_OVERFLOW : Nat := 61
def LANE_MICROCODE : Nat := 62
def LANE_CAL : Nat := 63
def TW0_DOWN : Nat := 88
def TW1_DOWN : Nat := 89
def TWIN_RESYNC : Nat := 90
def TWIN_SKEW : Nat := 91
def LEASE_CLOCK : Nat := 92
def TWIN_SUSPECT : Nat := 93
def TWIN_MIRROR : Nat := 94
def TWIN_JOIN_FAIL : Nat := 95
def EDGE_GN : Nat := 96
def EDGE_TWIN : Nat := 112
def EDGE_AUDIO : Nat := 113
def MESH_CHECK : Nat := 114
def SUBSCRIPTION_ECC : Nat := 115
def XP_TABLE_ECC : Nat := 116
def XP_TABLE_CE : Nat := 117
def ARMED_STATE : Nat := 118
def ROLE_TREE : Nat := 119
def INPUT_STAGE : Nat := 120
def OUTPUT_STAGE : Nat := 121
def TEMP_HIGH : Nat := 122
def TEMP_CRIT : Nat := 123
def TEMP_SENSOR : Nat := 124
def SPEED_MONITOR : Nat := 125
def FS_CAPACITY : Nat := 126
def FS_LOSS : Nat := 127
def PKT_GN : Nat := 128
def RF_TABLE_ECC : Nat := 144
def TF_TABLE_ECC : Nat := 145
def PKT_MICROCODE : Nat := 146
def RF_LEG_DOWN : Nat := 147
def RF_NO_PACKETS : Nat := 148
def RF_STORE_FULL : Nat := 149
def RF_LATE : Nat := 150
def RF_ABSENT : Nat := 151
def TF_LATE_DATA : Nat := 152
def TF_WITHDRAWN : Nat := 153
def PKT_FCS : Nat := 154
def PKT_HDR : Nat := 155
def PKT_MIRROR : Nat := 156
def GW_ASYNC : Nat := 157
def GW_REANCHOR : Nat := 158
def RF_OFFGRID : Nat := 159
def CI_GROUP : Nat := 160
def CE_GROUP : Nat := 176
def CANOPY_LOSS : Nat := 184
def CANOPY_MISMATCH : Nat := 185
def CANOPY_PORT : Nat := 186
def CANOPY_ENGINE : Nat := 187
def CANOPY_MIRROR : Nat := 188
def CE_BACKGROUND : Nat := 189
def CE_DROPOUT : Nat := 190
def STILL_POISON : Nat := 191
def AP_PAIR : Nat := 192
def GAIN_ECC : Nat := 208
def GAIN_CE : Nat := 209
def SHUF_ECC : Nat := 210
def AUDIO_MCLK : Nat := 211
def MIX_MICROCODE : Nat := 212
def MIX_OVERRUN : Nat := 213
def JOURNAL_ECC : Nat := 214
def AUDIO_MESH : Nat := 215
def AP_DRIVE_CONFLICT : Nat := 216
def MIX_SAT : Nat := 217
def AO_ABSENT : Nat := 218
def AO_LATE : Nat := 219
def AUD_MIRROR : Nat := 220
def AP_SLIP : Nat := 221
def AUD_DELAY_POISON : Nat := 222
def GW_EMBED_OVERFLOW : Nat := 223
def HBM_IDENTITY : Nat := 224
def HBM_OVERTEMP : Nat := 226
def HBM_HOT : Nat := 228
def HBM_CLOCK : Nat := 230
def FM_RETIRED : Nat := 232
def FM_SECOND : Nat := 233
def FM_TRAIN_FAIL : Nat := 234
def FM_UE_LIMIT : Nat := 235
def FM_UE : Nat := 236
def FM_CE : Nat := 244
def FM_ODECC : Nat := 245
def FM_ROW_HAMMER : Nat := 246
def FM_POISON_READ : Nat := 247
def FM_CLASS_OVER : Nat := 248
def FM_REPAIR : Nat := 249
def FM_RETRAIN_FAIL : Nat := 250
def FM_SCRUB_LATE : Nat := 251
def FM_CTRL : Nat := 252
def FM_REFRESH : Nat := 253
def FM_MAP : Nat := 254
def FM_REGION : Nat := 255
def CC_WDOG : Nat := 256
def CC_ECC : Nat := 260
def CRAM_ECC : Nat := 264
def CRAM_CE : Nat := 265
def BUS_ERROR : Nat := 266
def MG_PHY_A : Nat := 267
def MG_PHY_B : Nat := 268
def MG_RX_LOSS_A : Nat := 269
def MG_RX_LOSS_B : Nat := 270
def FLASH : Nat := 271
def FLASH_WEAR : Nat := 272
def STORE_RECORD : Nat := 273
def UPDATE_FAIL : Nat := 274
def IMAGE_FALLBACK : Nat := 275
def SEC_ENGINE : Nat := 276
def OTP : Nat := 277
def KEY_STORE : Nat := 278
def ROM_CHECK : Nat := 279
def LIFECYCLE : Nat := 280
def DEBUG_SESSION : Nat := 281
def DEBUG_REFUSED : Nat := 282
def GATE_BUSY : Nat := 283
def CANOPY_LINE : Nat := 284
def TEL_LATE : Nat := 285
def TRAIL_WRAP : Nat := 286
def RESET_SEEN : Nat := 287

end Flt

/-- Severities of group 0. -/
def fltSev0 : List Nat := [1, 1, 1, 1, 1, 2, 1, 1, 1, 6, 2, 2, 1, 1, 2, 2, 2, 2, 2, 2, 2, 2, 2, 2, 2, 2, 2, 2, 2, 2, 2, 2]
/-- Start-up classes of group 0: 0 CORRECTED, 1 CONTAINED, 2 FATAL. -/
def fltCls0 : List Nat := [0, 0, 0, 0, 0, 1, 0, 0, 0, 2, 1, 1, 0, 0, 0, 1, 1, 1, 1, 1, 1, 1, 1, 1, 1, 1, 1, 1, 1, 1, 1, 1]

/-- Severities of group 1. -/
def fltSev1 : List Nat := [1, 1, 1, 1, 1, 1, 1, 1, 1, 1, 1, 1, 1, 1, 1, 1, 1, 1, 1, 1, 1, 1, 1, 1, 1, 0, 1, 1, 0, 1, 6, 1]
/-- Start-up classes of group 1: 0 CORRECTED, 1 CONTAINED, 2 FATAL. -/
def fltCls1 : List Nat := [1, 1, 0, 1, 1, 0, 1, 1, 0, 1, 1, 0, 1, 1, 0, 1, 1, 0, 1, 1, 0, 1, 1, 0, 0, 0, 0, 0, 0, 0, 2, 0]

/-- Severities of group 2. -/
def fltSev2 : List Nat := [1, 1, 1, 1, 1, 1, 1, 1, 1, 1, 1, 1, 1, 1, 1, 1, 1, 1, 1, 1, 1, 1, 1, 1, 1, 2, 2, 1, 6, 1, 1, 1]
/-- Start-up classes of group 2: 0 CORRECTED, 1 CONTAINED, 2 FATAL. -/
def fltCls2 : List Nat := [1, 1, 0, 1, 1, 0, 1, 1, 0, 1, 1, 0, 1, 1, 0, 1, 1, 0, 1, 1, 0, 1, 1, 0, 1, 1, 1, 0, 2, 0, 0, 0]

/-- Severities of group 3. -/
def fltSev3 : List Nat := [2, 2, 2, 2, 2, 2, 2, 2, 2, 2, 2, 2, 2, 2, 2, 2, 2, 2, 6, 2, 2, 0, 6, 6, 2, 2, 2, 6, 1, 2, 1, 1]
/-- Start-up classes of group 3: 0 CORRECTED, 1 CONTAINED, 2 FATAL. -/
def fltCls3 : List Nat := [1, 1, 1, 1, 1, 1, 1, 1, 1, 1, 1, 1, 1, 1, 1, 1, 1, 1, 2, 1, 1, 0, 2, 2, 1, 1, 0, 2, 0, 1, 0, 0]

/-- Severities of group 4. -/
def fltSev4 : List Nat := [2, 2, 2, 2, 2, 2, 2, 2, 2, 2, 2, 2, 2, 2, 2, 2, 2, 2, 6, 1, 1, 0, 0, 1, 1, 1, 0, 0, 1, 0, 1, 0]
/-- Start-up classes of group 4: 0 CORRECTED, 1 CONTAINED, 2 FATAL. -/
def fltCls4 : List Nat := [1, 1, 1, 1, 1, 1, 1, 1, 1, 1, 1, 1, 1, 1, 1, 1, 1, 1, 2, 0, 0, 0, 0, 0, 0, 0, 0, 0, 0, 0, 0, 0]

/-- Severities of group 5. -/
def fltSev5 : List Nat := [2, 2, 2, 2, 2, 2, 2, 2, 2, 2, 2, 2, 2, 2, 2, 2, 2, 2, 2, 2, 2, 2, 2, 2, 1, 1, 1, 6, 1, 1, 0, 1]
/-- Start-up classes of group 5: 0 CORRECTED, 1 CONTAINED, 2 FATAL. -/
def fltCls5 : List Nat := [1, 1, 1, 1, 1, 1, 1, 1, 1, 1, 1, 1, 1, 1, 1, 1, 1, 1, 1, 1, 1, 1, 1, 1, 0, 0, 0, 2, 0, 0, 0, 0]

/-- Severities of group 6. -/
def fltSev6 : List Nat := [1, 1, 1, 1, 1, 1, 1, 1, 1, 1, 1, 1, 1, 1, 1, 1, 2, 0, 2, 2, 6, 6, 2, 2, 2, 0, 0, 0, 1, 1, 1, 1]
/-- Start-up classes of group 6: 0 CORRECTED, 1 CONTAINED, 2 FATAL. -/
def fltCls6 : List Nat := [1, 1, 1, 1, 1, 1, 1, 1, 1, 1, 1, 1, 1, 1, 1, 1, 1, 0, 1, 1, 2, 2, 1, 1, 1, 0, 0, 0, 0, 0, 0, 0]

/-- Severities of group 7. -/
def fltSev7 : List Nat := [6, 6, 2, 2, 1, 1, 6, 6, 1, 2, 6, 1, 1, 1, 1, 1, 1, 1, 1, 1, 0, 0, 1, 1, 1, 1, 1, 1, 6, 6, 6, 2]
/-- Start-up classes of group 7: 0 CORRECTED, 1 CONTAINED, 2 FATAL. -/
def fltCls7 : List Nat := [2, 2, 1, 1, 0, 0, 2, 2, 1, 1, 2, 1, 0, 0, 0, 0, 0, 0, 0, 0, 0, 0, 0, 0, 0, 0, 1, 0, 2, 2, 2, 1]

/-- Severities of group 8. -/
def fltSev8 : List Nat := [2, 2, 2, 2, 2, 2, 2, 2, 6, 0, 1, 1, 1, 0, 0, 2, 1, 1, 1, 1, 2, 7, 7, 7, 7, 1, 1, 0, 1, 0, 1, 1]
/-- Start-up classes of group 8: 0 CORRECTED, 1 CONTAINED, 2 FATAL. -/
def fltCls8 : List Nat := [1, 1, 1, 1, 1, 1, 1, 1, 2, 0, 0, 1, 1, 0, 0, 1, 0, 0, 0, 0, 1, 2, 2, 2, 2, 0, 0, 0, 0, 0, 0, 0]

/-- Default severity of source `s` (Tables 13.3 to 13.11). -/
def fltSeverityDefaults : List Nat :=
  fltSev0 ++ fltSev1 ++ fltSev2 ++ fltSev3 ++ fltSev4 ++ fltSev5 ++ fltSev6 ++ fltSev7 ++ fltSev8

/-- Start-up class of source `s` (Tables 13.3 to 13.11). -/
def fltClassDefaults : List Nat :=
  fltCls0 ++ fltCls1 ++ fltCls2 ++ fltCls3 ++ fltCls4 ++ fltCls5 ++ fltCls6 ++ fltCls7 ++ fltCls8

end Sys2Proof.Machine
end

