-- ==== Sys2Proof/Machine/Obj.lean ====
section
/-! DEFINITION. The numbers of the objects, by the names of the object tables (R404, R405). -/

namespace Sys2Proof.Machine.Obj

def REF_RANK : Nat := 0x380010
def SEL_REVERTIVE : Nat := 0x380012
def REF_WTR : Nat := 0x380013
def REF_ACCEPT : Nat := 0x380014
def REF_REJECT : Nat := 0x380015
def REF_STATUS : Nat := 0x380020
def REF_OFFSET : Nat := 0x380021
def REF_WTR_LEFT : Nat := 0x380022
def SEL_MODE : Nat := 0x380030
def SEL_FORCE : Nat := 0x380031
def SEL_CURRENT : Nat := 0x380032
def DISAGREE_PPB : Nat := 0x380033
def THERMOS_STATE : Nat := 0x380040
def THERMOS_FREQ : Nat := 0x380041
def THERMOS_TAU : Nat := 0x380042
def THERMOS_DURATION : Nat := 0x380043
def LOSC_TRIM : Nat := 0x380050
def LOSC_CLEAN_COUNT : Nat := 0x380051
def MT_NOW : Nat := 0x380060
def MT_TIME_OFFSET : Nat := 0x380061
def MT_STEP_PENDING : Nat := 0x380062
def MT_STEP_APPLY : Nat := 0x380063
def MT_STEP_THRESHOLD : Nat := 0x380064
def SYNC_FRAME_RATE : Nat := 0x380065
def TOD_LAST : Nat := 0x380066
def FREF_SPREAD : Nat := 0x380070
def LANE_REF : Nat := 0x380071
def LANE_REF_PREFER : Nat := 0x380072
def CLKOUT_DIV_INT : Nat := 0x3C0001
def CLKOUT_DIV_NUM : Nat := 0x3C0002
def CLKOUT_DIV_DEN : Nat := 0x3C0003
def CLKOUT_FSYNC_MODE : Nat := 0x3C0005
def CLKOUT_FSYNC_DONE : Nat := 0x3C0006
def SYNTH_STROBE : Nat := 0x3C0010
def SYNTH_SHADOW_DIRTY : Nat := 0x3C0011
def SYNTH_LOCK : Nat := 0x3C0012
def GATE_EN : Nat := 0x3C0020
def GATE_STATE : Nat := 0x3C0021
def AVS_ENABLE : Nat := 0x3C0030
def AVS_MARGIN_TARGET : Nat := 0x3C0031
def AVS_VREQ : Nat := 0x3C0032
def AVS_MARGIN : Nat := 0x3C0033
def LANE_STATE : Nat := 0x300001
def LANE_FAIL_REASON : Nat := 0x300002
def LANE_EN : Nat := 0x300003
def LANE_SPARE_FOR : Nat := 0x300004
def LANE_SPARE_MODE : Nat := 0x300005
def LANE_SPARE_CHECK : Nat := 0x300006
def LANE_TX_PRESET : Nat := 0x300010
def LANE_TX_TAPS : Nat := 0x300011
def LANE_EYE_HEIGHT : Nat := 0x300012
def LANE_EYE_WIDTH : Nat := 0x300013
def LANE_EYE_MIN : Nat := 0x300014
def LANE_ID_SEEN : Nat := 0x300015
def LANE_HCRC_LIMIT : Nat := 0x300020
def LANE_RETRY_LIMIT : Nat := 0x300021
def LANE_RETRY_WINDOW : Nat := 0x300022
def LANE_RESTART : Nat := 0x300023
def LANE_SPARE_FORCE : Nat := 0x300024
def LANE_TEST_MODE : Nat := 0x300030
def LANE_PRBS_LOCK : Nat := 0x300031
def LANE_PRBS_ERR : Nat := 0x300032
def LANE_PRBS_BITS : Nat := 0x300033
def LANE_HCRC_ERR : Nat := 0x300040
def LANE_SYNC_ERR : Nat := 0x300041
def LANE_LOCK_LOSS : Nat := 0x300042
def LANE_RETRAINS : Nat := 0x300043
def LANE_REFSTEP_ERR : Nat := 0x300044
def LANE_RX_OVERFLOW : Nat := 0x300045
def LANE_TX_UNDERFLOW : Nat := 0x300046
def LANE_SAT : Nat := 0x300047
def LANE_COUNT_CLEAR : Nat := 0x300048
def XP_SOURCE : Nat := 0x100001
def XP_PENDING : Nat := 0x100002
def XP_PENDING_E : Nat := 0x100003
def XP_SUBSCRIPTION : Nat := 0x100004
def XP_FANOUT : Nat := 0x100005
def XP_PROTECT : Nat := 0x100010
def XP_MESH_LOAD : Nat := 0x100020
def TAKE : Nat := 0x110001
def TAKE_CANCEL : Nat := 0x110002
def HAMPER_ENTRIES : Nat := 0x110010
def HAMPER_COUNT : Nat := 0x110011
def HAMPER_FIRE : Nat := 0x110012
def HAMPER_STATE : Nat := 0x110013
def HAMPER_ABORT : Nat := 0x110014
def HAMPER_CLEAR : Nat := 0x110015
def HAMPERS_IN_PROGRESS : Nat := 0x110016
def TAKES_EXECUTED : Nat := 0x110020
def TAKES_LATE : Nat := 0x110021
def TAKES_DIRTY : Nat := 0x110022
def TAKES_REFUSED : Nat := 0x110023
def TAKE_LAST_TIME : Nat := 0x110030
def TAKE_COUNT_CLEAR : Nat := 0x110040
def IN_TRANSPORT : Nat := 0x140001
def IN_GANG : Nat := 0x140002
def IN_FORMAT : Nat := 0x140003
def IN_STATUS : Nat := 0x140004
def IN_PHASE : Nat := 0x140005
def IN_MARK_DISAGREE : Nat := 0x140010
def IN_DISCONT : Nat := 0x140011
def IN_HOLES : Nat := 0x140012
def IN_GANG_SKEW : Nat := 0x140013
def IN_COUNT_CLEAR : Nat := 0x140020
def OUT_TRANSPORT : Nat := 0x150001
def OUT_GANG : Nat := 0x150002
def OUT_FORMAT : Nat := 0x150003
def OUT_OFFSET : Nat := 0x150004
def OUT_TIMING_WINDOW : Nat := 0x150005
def OUT_FIELD_SWITCH : Nat := 0x150006
def OUT_STATE : Nat := 0x150010
def OUT_PASS_LATENCY : Nat := 0x150011
def OUT_REPHASE : Nat := 0x150012
def OUT_DIRTY : Nat := 0x150013
def OUT_UNDERFLOW : Nat := 0x150014
def OUT_COUNT_CLEAR : Nat := 0x150020
def FS_MODE : Nat := 0x1C0001
def FS_OFFSET : Nat := 0x1C0002
def FS_DELAY_FRAMES : Nat := 0x1C0003
def FS_LOSS_HOLD : Nat := 0x1C0004
def FS_LOSS_ACTION : Nat := 0x1C0005
def FS_FORMAT_PLAN : Nat := 0x1C0006
def FS_STATE : Nat := 0x1C0010
def FS_DROPS : Nat := 0x1C0011
def FS_REPEATS : Nat := 0x1C0012
def FS_MIRROR_MISS : Nat := 0x1C0013
def FS_BW_USED : Nat := 0x1C0020
def FS_BW_BUDGET : Nat := 0x1C0021
def FS_MEM_USED : Nat := 0x1C0022
def FS_MEM_REGION : Nat := 0x1C0023
def FS_COUNT_CLEAR : Nat := 0x1C0030
def RF_ENABLE : Nat := 0x180001
def RF_PORT : Nat := 0x180002
def RF_DST_IP : Nat := 0x180003
def RF_DST_UDP : Nat := 0x180004
def RF_SSRC : Nat := 0x180005
def RF_MATCH_SSRC : Nat := 0x180006
def RF_ESSENCE : Nat := 0x180007
def RF_HOME : Nat := 0x180008
def RF_LEG : Nat := 0x180009
def RF_PARTNER : Nat := 0x18000A
def RF_FORMAT : Nat := 0x18000B
def RF_CHANNELS : Nat := 0x18000C
def RF_PTIME : Nat := 0x18000D
def RF_SAMPLE : Nat := 0x18000E
def RF_TIMING : Nat := 0x18000F
def RF_PLAYOUT : Nat := 0x180010
def RF_WINDOW : Nat := 0x180011
def RF_PT : Nat := 0x180012
def RF_STATE : Nat := 0x180020
def RF_STORE : Nat := 0x180021
def RF_STORE_BYTES : Nat := 0x180022
def RF_LEG_STATE : Nat := 0x180023
def RF_LAST_SEQ : Nat := 0x180024
def RF_PKTS : Nat := 0x180030
def RF_BYTES : Nat := 0x180031
def RF_SEQ_LOST : Nat := 0x180032
def RF_LATE : Nat := 0x180033
def RF_EARLY : Nat := 0x180034
def RF_RECOVERED : Nat := 0x180035
def RF_ABSENT : Nat := 0x180036
def RF_BAD : Nat := 0x180037
def RF_OFFGRID : Nat := 0x180038
def RF_STORE_FULL : Nat := 0x180039
def RF_MIRROR_GAP : Nat := 0x18003A
def RF_COUNT_CLEAR : Nat := 0x18003F
def TF_ENABLE : Nat := 0x180101
def TF_SOURCE : Nat := 0x180102
def TF_ESSENCE : Nat := 0x180103
def TF_RED_PORT : Nat := 0x180104
def TF_BLUE_PORT : Nat := 0x180105
def TF_RED_HDR : Nat := 0x180106
def TF_BLUE_HDR : Nat := 0x180107
def TF_SSRC : Nat := 0x180108
def TF_PT : Nat := 0x180109
def TF_CHANNELS : Nat := 0x18010A
def TF_PTIME : Nat := 0x18010B
def TF_SAMPLE : Nat := 0x18010C
def TF_TRO_EXTRA : Nat := 0x18010D
def TF_AUDIO_OFFSET : Nat := 0x18010E
def TF_STATE : Nat := 0x180120
def TF_LOAD : Nat := 0x180121
def TF_PKTS : Nat := 0x180130
def TF_BYTES : Nat := 0x180131
def TF_LATE_DATA : Nat := 0x180132
def TF_COUNT_CLEAR : Nat := 0x18013F
def GW_DEEMBED : Nat := 0x180201
def GW_EMBED : Nat := 0x180202
def GW_EMBED_CHANNELS : Nat := 0x180203
def GW_EMBED_OFFSET : Nat := 0x180204
def GW_AUDIO_PRESENT : Nat := 0x180210
def GW_AUDIO_ASYNC : Nat := 0x180211
def GW_REANCHOR : Nat := 0x180212
def PKT_TX_LOAD : Nat := 0x180220
def PKT_FCS_ERR : Nat := 0x180221
def PKT_HDR_ERR : Nat := 0x180222
def PKT_UNMATCHED : Nat := 0x180223
def PKT_COUNT_CLEAR : Nat := 0x18022F
def STORE_BW_USED : Nat := 0x180301
def STORE_BW_BUDGET : Nat := 0x180302
def STORE_MEM_USED : Nat := 0x180303
def STORE_MEM_REGION : Nat := 0x180304
def POOL_FREE : Nat := 0x180305
def PKT_MIRROR_MISS : Nat := 0x180306
def CE_OUTPUT : Nat := 0x200001
def CE_ORDER_MODE : Nat := 0x200002
def CE_ORDER : Nat := 0x200003
def CE_LAYER : Nat := 0x200010
def CE_LAYER_SOURCE : Nat := 0x200011
def CE_LAYER_STATE : Nat := 0x200012
def CE_LAYER_DROPOUTS : Nat := 0x200013
def CE_LAYER_UNDERRUN : Nat := 0x200014
def CE_STATE : Nat := 0x200020
def CE_FORMAT : Nat := 0x200021
def CE_LATENCY : Nat := 0x200022
def CE_BG_ABSENT : Nat := 0x200023
def CE_COUNT_CLEAR : Nat := 0x200030
def STILL_DATA : Nat := 0x200100
def STILL_FORMAT : Nat := 0x200101
def STILL_BYTES : Nat := 0x200102
def SP_STILL : Nat := 0x200110
def SP_SUBSCRIBERS : Nat := 0x200111
def STILL_MEM_USED : Nat := 0x200120
def STILL_MEM_REGION : Nat := 0x200121
def STILL_BW_USED : Nat := 0x200122
def STILL_BW_BUDGET : Nat := 0x200123
def CANOPY_SOURCE : Nat := 0x210001
def CANOPY_SYNC_STATE : Nat := 0x210002
def CANOPY_SOURCE_FORMAT : Nat := 0x210003
def CANOPY_LOSS_ACTION : Nat := 0x210004
def CANOPY_LOSS_HOLD : Nat := 0x210005
def CI_OUTPUT : Nat := 0x210010
def CI_ON : Nat := 0x210011
def CI_MODE : Nat := 0x210012
def CI_BAND_TOP : Nat := 0x210013
def CI_BAND_ROWS : Nat := 0x210014
def CI_CLIP : Nat := 0x210015
def CI_GAIN : Nat := 0x210016
def CI_STATE : Nat := 0x210020
def CI_FRAMES : Nat := 0x210021
def CANOPY_EPOCH : Nat := 0x210030
def CN_ADDR : Nat := 0x210031
def CN_FRAMES_OK : Nat := 0x210032
def CN_FRAMES_BAD : Nat := 0x210033
def CN_REFUSED : Nat := 0x210034
def CANOPY_MIRROR_MISS : Nat := 0x210035
def CANOPY_BW_USED : Nat := 0x210036
def CANOPY_COUNT_CLEAR : Nat := 0x210037
def SHUF_SRC : Nat := 0x280001
def AO_DELAY : Nat := 0x280002
def AO_STATE : Nat := 0x280003
def AO_ABSENT : Nat := 0x280010
def AO_LATE_DROP : Nat := 0x280011
def AUD_MIRROR_GAP : Nat := 0x280012
def AUD_MIRROR_MISS : Nat := 0x280013
def AUD_DELAY_MEM_USED : Nat := 0x280020
def AUD_DELAY_MEM_REGION : Nat := 0x280021
def AO_COUNT_CLEAR : Nat := 0x280030
def MIX_GAIN_ROW : Nat := 0x290001
def MIX_JOURNAL_ADD : Nat := 0x290002
def MIX_JOURNAL_DISCARD : Nat := 0x290003
def MIX_COMMIT : Nat := 0x290004
def MIX_JOURNAL_OPEN : Nat := 0x290005
def MIX_JOURNAL_ARMED : Nat := 0x290006
def MIX_COMMIT_STATE : Nat := 0x290007
def MIX_COMMIT_E : Nat := 0x290008
def MIX_COMMIT_LAST : Nat := 0x290009
def MIX_COMMITS : Nat := 0x29000A
def MIX_IN_OFFSET : Nat := 0x290010
def MIX_OUT_SAT : Nat := 0x290020
def MIX_ECC_ERR : Nat := 0x290021
def MIX_COUNT_CLEAR : Nat := 0x290030
def AP_ENABLE : Nat := 0x2A0001
def AP_MODE : Nat := 0x2A0002
def AP_OUT_OFFSET : Nat := 0x2A0003
def AP_IN_DELAY : Nat := 0x2A0004
def AP_STATE : Nat := 0x2A0010
def AP_DRIVING : Nat := 0x2A0011
def AP_FRAME_PERIOD : Nat := 0x2A0012
def AP_REPLACED : Nat := 0x2A0020
def AP_MUTES : Nat := 0x2A0021
def AP_SLIPS : Nat := 0x2A0022
def AP_COUNT_CLEAR : Nat := 0x2A0030
def FM_PC_STATE : Nat := 0x340001
def FM_CAPACITY : Nat := 0x340002
def FM_PEAK : Nat := 0x340003
def FM_RETIRED_PC : Nat := 0x340004
def FM_PC_RETIRE : Nat := 0x340005
def FM_RETIRE_CLEAR : Nat := 0x340006
def FM_HASH_MASK : Nat := 0x340010
def FM_HASH_LIVE : Nat := 0x340011
def FM_WR_HIGH : Nat := 0x340012
def FM_WR_LOW : Nat := 0x340013
def FM_AGE_LIMIT : Nat := 0x340014
def FM_PAGE_IDLE : Nat := 0x340015
def FM_CLASS_BUDGET : Nat := 0x340020
def FM_CLASS_USED : Nat := 0x340021
def FM_CLASS_OVER : Nat := 0x340022
def FM_REF_POSTPONE : Nat := 0x340030
def FM_TEMP : Nat := 0x340031
def FM_HOT : Nat := 0x340032
def FM_HOT_ENTRIES : Nat := 0x340033
def FM_REF_FORCED : Nat := 0x340034
def FM_REF_DEBT_MAX : Nat := 0x340035
def FM_RH_THRESHOLD : Nat := 0x340040
def FM_RH_GAP : Nat := 0x340041
def FM_RH_EVENTS : Nat := 0x340042
def FM_RH_LAST : Nat := 0x340043
def FM_CE : Nat := 0x340050
def FM_UE : Nat := 0x340051
def FM_ODECC : Nat := 0x340052
def FM_POISON_READ : Nat := 0x340053
def FM_UE_LIMIT : Nat := 0x340054
def FM_SCRUB_POS : Nat := 0x340060
def FM_SCRUB_PASSES : Nat := 0x340061
def FM_EYE_WIDTH : Nat := 0x340070
def FM_EYE_MIN : Nat := 0x340071
def FM_RETRAIN_GAP : Nat := 0x340072
def FM_RETRAINS : Nat := 0x340073
def FM_COUNT_CLEAR : Nat := 0x340080
def TWIN_MODE : Nat := 0x030001
def TWIN_SIDE : Nat := 0x030002
def TWIN_STATE : Nat := 0x030003
def DP_HELD : Nat := 0x030004
def DP_LEASE_NO : Nat := 0x030005
def DP_LEASE_LEFT : Nat := 0x030006
def PEER_STATE : Nat := 0x030007
def TWIN_HOLDER : Nat := 0x030008
def TWIN_REJOIN_HOLDOFF : Nat := 0x030010
def TWIN_REJOIN_LIMIT : Nat := 0x030011
def TWIN_VERIFY_WINDOWS : Nat := 0x030012
def TWIN_MT_LIMIT : Nat := 0x030013
def TWIN_MT_DIFF : Nat := 0x030014
def DP_RELEASE : Nat := 0x030020
def TWIN_JOIN : Nat := 0x030021
def DP_GRANTS : Nat := 0x030030
def DP_EXPIRIES : Nat := 0x030031
def TWIN_DIGEST_MISMATCH : Nat := 0x030032
def TWIN_JOINS : Nat := 0x030033
def TWIN_JOIN_FAILS : Nat := 0x030034
def TWIN_UNSEALED : Nat := 0x030035
def TWIN_RECORDS_LOST : Nat := 0x030036
def TWIN_COUNT_CLEAR : Nat := 0x030037
def TWIN_PREFER : Nat := 0x030040
def REF_HANDOVER : Nat := 0x030041
def REF_SUSPECT : Nat := 0x030042
def REF_GRANTS : Nat := 0x030043
def MG_MAC : Nat := 0x480001
def MG_PAIR_ADDR : Nat := 0x480002
def MG_GROUP_ADDR : Nat := 0x480003
def MG_HASH_BINS : Nat := 0x480004
def MG_ACCEPT_BROADCAST : Nat := 0x480005
def MG_ETHERTYPE : Nat := 0x480006
def MG_EVENT_TCI : Nat := 0x480007
def MG_ACCESS_MODE : Nat := 0x480010
def MG_ACCESS_STATE : Nat := 0x480011
def MG_PLCA_STATUS : Nat := 0x480012
def MG_PLCA_ID : Nat := 0x480013
def MG_PLCA_COUNT : Nat := 0x480014
def MG_PLCA_TO : Nat := 0x480015
def MG_PLCA_BURST : Nat := 0x480016
def MG_PLCA_BURST_TIMER : Nat := 0x480017
def MG_PLCA_ENTER_RATE : Nat := 0x480018
def MG_PLCA_ENTER_TIME : Nat := 0x480019
def MG_PLCA_EXIT_RATE : Nat := 0x48001A
def MG_PLCA_EXIT_TIME : Nat := 0x48001B
def MG_PLCA_ENTRIES : Nat := 0x48001C
def MG_GATE_EN : Nat := 0x480020
def MG_GATE_BASE : Nat := 0x480021
def MG_GATE_LIST : Nat := 0x480022
def MG_GATE_CYCLE : Nat := 0x480023
def MG_DELIVER_ERRORED : Nat := 0x480030
def MG_OVERSIZE_MODE : Nat := 0x480031
def MG_SEG_SIZE : Nat := 0x480032
def MG_LAST_ERRORED : Nat := 0x480033
def MG_RX_FRAMES : Nat := 0x480040
def MG_RX_BYTES : Nat := 0x480041
def MG_TX_FRAMES : Nat := 0x480042
def MG_TX_BYTES : Nat := 0x480043
def MG_RX_FCS_ERR : Nat := 0x480050
def MG_RX_SYMBOL_ERR : Nat := 0x480051
def MG_RX_RUNT : Nat := 0x480052
def MG_RX_OVERSIZE : Nat := 0x480053
def MG_RX_FRAGMENTS : Nat := 0x480054
def MG_RX_FILTERED : Nat := 0x480055
def MG_RX_OTHER_TYPE : Nat := 0x480056
def MG_RX_NO_DESC : Nat := 0x480057
def MG_RX_ABANDONED : Nat := 0x480058
def MG_TX_COLLISIONS : Nat := 0x480060
def MG_TX_EXCESS : Nat := 0x480061
def MG_TX_LATE_COLL : Nat := 0x480062
def MG_TX_BULK_ABORTS : Nat := 0x480063
def MG_SAT : Nat := 0x480070
def MG_COUNT_CLEAR : Nat := 0x480071
def DEV_VENDOR : Nat := 0x010001
def DEV_MODEL : Nat := 0x010002
def DEV_STEPPING : Nat := 0x010003
def DEV_SERIAL : Nat := 0x010004
def ROM_VERSION : Nat := 0x010005
def FW_VERSION : Nat := 0x010006
def CHAWYN_VERSION : Nat := 0x010007
def STORE_FORMAT : Nat := 0x010008
def LIFECYCLE : Nat := 0x010010
def DEV_NAME : Nat := 0x010011
def DEV_LOCATION : Nat := 0x010012
def DEV_ASSET_TAG : Nat := 0x010013
def DEV_STRAPS : Nat := 0x010020
def DEV_STATE : Nat := 0x020001
def LAYBY_REASON : Nat := 0x020002
def RESET_CAUSE : Nat := 0x020003
def UPTIME : Nat := 0x020004
def START_TIME : Nat := 0x020005
def START : Nat := 0x020010
def DEV_LAYBY : Nat := 0x020011
def DEV_RESET : Nat := 0x020012
def CONFIG_DIGEST : Nat := 0x020020
def STORE_PENDING : Nat := 0x020021
def CH_REQUESTS : Nat := 0x020030
def CH_REFUSED : Nat := 0x020031
def CH_MALFORMED : Nat := 0x020032
def CH_DUPLICATES : Nat := 0x020033
def CH_EVENTS_DROPPED : Nat := 0x020034
def CH_BULK_EXPIRED : Nat := 0x020035
def CH_COUNT_CLEAR : Nat := 0x020036
def SUB_PAIR : Nat := 0x020040
def SUB_OWN : Nat := 0x020041
def FLT_SUMMARY : Nat := 0x400001
def FLT_SCHEME : Nat := 0x400002
def FLT_LIVE : Nat := 0x400010
def FLT_LATCHED : Nat := 0x400011
def FLT_FORCE : Nat := 0x400012
def FLT_ENABLE : Nat := 0x400013
def FLT_ACK : Nat := 0x400014
def FLT_ESC_TIME : Nat := 0x400015
def FLT_ESC_LEFT : Nat := 0x400016
def FLT_ESCALATED : Nat := 0x400017
def FLT_SEVERITY : Nat := 0x400020
def FLT_CLASS : Nat := 0x400021
def FLT_COUNT : Nat := 0x400022
def TRAIL_LOG : Nat := 0x400030
def TRAIL_NEXT_SEQ : Nat := 0x400031
def TRAIL_MARK : Nat := 0x400032
def TRAIL_MIN_SEVERITY : Nat := 0x400033
def CNT_SAT_LIST : Nat := 0x400040
def FLT_COUNT_CLEAR : Nat := 0x400041
def TEL_SET : Nat := 0x440001
def TEL_SET_BYTES : Nat := 0x440002
def TEL_SNAP : Nat := 0x440003
def TEL_TEMP : Nat := 0x440010
def TEL_TEMP_MAX : Nat := 0x440011
def TEL_VCORE : Nat := 0x440012
def TEL_ICORE : Nat := 0x440013
def TEL_FAR_HEALTH : Nat := 0x440020
def RMB_LAST : Nat := 0x440030
def RMB_RUNS : Nat := 0x440031
def RMB_TABLE_CE : Nat := 0x440032
def RMB_TABLE_UE : Nat := 0x440033
def RMB_FLASH_FREE : Nat := 0x440034
def RMB_FLASH_ERASE_MAX : Nat := 0x440035
def RMB_COUNT_CLEAR : Nat := 0x440036
def UPD_MANIFEST : Nat := 0x500001
def UPD_PIECE : Nat := 0x500002
def UPD_BITMAP : Nat := 0x500003
def UPD_PIECES_LEFT : Nat := 0x500004
def UPD_STATE : Nat := 0x500005
def UPD_RATE_MAX : Nat := 0x500006
def UPD_OWNER_LOCK : Nat := 0x500007
def UPD_ACTIVATE : Nat := 0x500008
def UPD_REVERT : Nat := 0x500009
def UPD_DISCARD : Nat := 0x50000A
def UPD_TRIAL_LEFT : Nat := 0x50000B
def UPD_REFUSAL : Nat := 0x50000C
def SLOT_VERSION : Nat := 0x500010
def SLOT_STATE : Nat := 0x500011
def UPD_FALLBACKS : Nat := 0x500012
def GAIN_ROWS_MAX : Nat := 0x500013
def SEC_ID_PUBKEY : Nat := 0x540001
def SEC_ID_CERT : Nat := 0x540002
def SEC_ATTEST : Nat := 0x540003
def SEC_ATTEST_STATE : Nat := 0x540004
def SEC_EVIDENCE : Nat := 0x540005
def SEC_KEY_STATE : Nat := 0x540010
def SEC_KEY_PUB : Nat := 0x540011
def SEC_KEY_REVOKE : Nat := 0x540012
def SEC_LIFECYCLE_SET : Nat := 0x540020
def CAL_LANE_PRESET : Nat := 0x580001
def CAL_TEMP_TRIM : Nat := 0x580002
def CAL_LOSC_PPT : Nat := 0x580003
def CAL_AP_IN_DELAY : Nat := 0x580004
def CAL_HBM_SEED : Nat := 0x580005
def CAL_SET : Nat := 0x580010
def CAL_STATE : Nat := 0x580011
def CAL_ORIGIN : Nat := 0x580012
def CAL_CRC : Nat := 0x580013
def DBG_STATE : Nat := 0x600001
def DBG_HALTED : Nat := 0x600002
def DBG_REFUSED : Nat := 0x600003
def DBG_HALT_REFUSED : Nat := 0x600004
def DBG_MEM_ACCESSES : Nat := 0x600005
def BUS_QOS : Nat := 0x600010
def BUS_OUTSTANDING_MAX : Nat := 0x600011
def BUS_ERRORS : Nat := 0x600012
def BUS_AGED : Nat := 0x600013
def BUS_GRANTS : Nat := 0x600014
def DBG_COUNT_CLEAR : Nat := 0x600020

end Sys2Proof.Machine.Obj
end

