-- ==== Sys2Proof/Machine/Dictionary.lean ====
section
/-! DEFINITION. The object dictionary: one descriptor per row of the object tables, with its type, its access
per port class, its default, its range, and whether it is shared and persisted (R404 to R410, Tables 12.2, 12.13, 12.14
and the object table of each chapter). Ranges are intervals; a rule that no interval can say is in the area's own rule
(Rules.lean). -/

namespace Sys2Proof.Machine

/-- The types of Table 12.2. `void` is the type of a command that takes no value. -/
inductive Ty where
  | bool
  | u (bytes : Nat)
  | s (bytes : Nat)
  | enum8
  | bits32
  | mtime
  | octets (n : Nat)
  | text (n : Nat)
  | table
  | void
deriving DecidableEq, Repr

/-- The access codes of Table 0.5; `no` is the dash. -/
inductive Acc where
  | ro | rw | wo | cmd | no
deriving DecidableEq, Repr

/-- A default: one value for all elements, or one value per element. -/
inductive Dflt where
  | all (v : Nat)
  | each (vs : List Nat)
deriving DecidableEq, Repr

/-- One row of an object table. -/
structure ObjDesc where
  num : Nat
  elems : Option Nat
  ty : Ty
  mg : Acc
  tw : Acc
  cn : Acc
  db : Acc
  dflt : Dflt
  rng : List (Int × Int)
  shared : Bool
  persisted : Bool
deriving DecidableEq, Repr

/-- Area 0x01. -/
def identityObjs : List ObjDesc := [
  ⟨Obj.DEV_VENDOR, none, (.u 4), .ro, .ro, .ro, .ro, (.all 23834), [], false, false⟩,
  ⟨Obj.DEV_MODEL, none, (.text 16), .ro, .ro, .ro, .ro, (.all 0), [], false, false⟩,
  ⟨Obj.DEV_STEPPING, none, (.u 1), .ro, .ro, .ro, .ro, (.all 0), [], false, false⟩,
  ⟨Obj.DEV_SERIAL, none, (.octets 16), .ro, .ro, .ro, .ro, (.all 0), [], false, false⟩,
  ⟨Obj.ROM_VERSION, none, (.u 4), .ro, .ro, .no, .ro, (.all 0), [], false, false⟩,
  ⟨Obj.FW_VERSION, none, (.u 4), .ro, .ro, .ro, .ro, (.all 0), [], false, false⟩,
  ⟨Obj.CHAWYN_VERSION, none, (.u 1), .ro, .ro, .ro, .ro, (.all 1), [], false, false⟩,
  ⟨Obj.STORE_FORMAT, none, (.u 2), .ro, .ro, .no, .ro, (.all 0), [], false, false⟩,
  ⟨Obj.LIFECYCLE, none, .enum8, .ro, .ro, .ro, .ro, (.all 0), [], false, false⟩,
  ⟨Obj.DEV_NAME, none, (.text 32), .rw, .ro, .ro, .rw, (.all 0), [], false, true⟩,
  ⟨Obj.DEV_LOCATION, none, (.text 64), .rw, .ro, .no, .rw, (.all 0), [], false, true⟩,
  ⟨Obj.DEV_ASSET_TAG, none, (.text 32), .rw, .ro, .no, .rw, (.all 0), [], false, true⟩,
  ⟨Obj.DEV_STRAPS, none, .bits32, .ro, .ro, .ro, .ro, (.all 0), [], false, false⟩]

/-- Area 0x02. -/
def deviceObjs : List ObjDesc := [
  ⟨Obj.DEV_STATE, none, .enum8, .ro, .ro, .ro, .ro, (.all 0), [], false, false⟩,
  ⟨Obj.LAYBY_REASON, none, .enum8, .ro, .ro, .no, .ro, (.all 0), [], false, false⟩,
  ⟨Obj.RESET_CAUSE, none, .enum8, .ro, .ro, .no, .ro, (.all 0), [], false, false⟩,
  ⟨Obj.UPTIME, none, (.u 4), .ro, .ro, .ro, .ro, (.all 0), [], false, false⟩,
  ⟨Obj.START_TIME, none, .mtime, .ro, .ro, .no, .ro, (.all 0), [], false, false⟩,
  ⟨Obj.START, none, .void, .cmd, .no, .no, .cmd, (.all 0), [], false, false⟩,
  ⟨Obj.DEV_LAYBY, none, .void, .cmd, .no, .no, .cmd, (.all 0), [], false, false⟩,
  ⟨Obj.DEV_RESET, none, .void, .cmd, .no, .no, .cmd, (.all 0), [], false, false⟩,
  ⟨Obj.CONFIG_DIGEST, none, (.u 8), .ro, .ro, .ro, .ro, (.all 0), [], false, false⟩,
  ⟨Obj.STORE_PENDING, none, .bool, .ro, .ro, .no, .ro, (.all 0), [], false, false⟩,
  ⟨Obj.CH_REQUESTS, (some 5), (.u 4), .ro, .ro, .no, .ro, (.all 0), [], false, false⟩,
  ⟨Obj.CH_REFUSED, (some 5), (.u 4), .ro, .ro, .no, .ro, (.all 0), [], false, false⟩,
  ⟨Obj.CH_MALFORMED, (some 5), (.u 4), .ro, .ro, .no, .ro, (.all 0), [], false, false⟩,
  ⟨Obj.CH_DUPLICATES, (some 5), (.u 4), .ro, .ro, .no, .ro, (.all 0), [], false, false⟩,
  ⟨Obj.CH_EVENTS_DROPPED, none, (.u 4), .ro, .ro, .no, .ro, (.all 0), [], false, false⟩,
  ⟨Obj.CH_BULK_EXPIRED, none, (.u 4), .ro, .ro, .no, .ro, (.all 0), [], false, false⟩,
  ⟨Obj.CH_COUNT_CLEAR, none, .void, .cmd, .no, .no, .cmd, (.all 0), [], false, false⟩,
  ⟨Obj.SUB_PAIR, (some 16), (.octets 32), .ro, .rw, .no, .ro, (.all 0), [], true, false⟩,
  ⟨Obj.SUB_OWN, (some 16), (.octets 32), .ro, .ro, .no, .ro, (.all 0), [], false, false⟩]

/-- Area 0x03. -/
def twinObjs : List ObjDesc := [
  ⟨Obj.TWIN_MODE, none, .enum8, .rw, .ro, .no, .rw, (.all 0), [(0, 1)], false, true⟩,
  ⟨Obj.TWIN_SIDE, none, .enum8, .ro, .ro, .ro, .ro, (.all 0), [], false, false⟩,
  ⟨Obj.TWIN_STATE, none, .enum8, .ro, .ro, .ro, .ro, (.all 0), [], false, false⟩,
  ⟨Obj.DP_HELD, none, .bool, .ro, .ro, .ro, .ro, (.all 0), [], false, false⟩,
  ⟨Obj.DP_LEASE_NO, none, (.u 2), .ro, .ro, .no, .ro, (.all 0), [], false, false⟩,
  ⟨Obj.DP_LEASE_LEFT, none, (.u 4), .ro, .ro, .no, .ro, (.all 0), [], false, false⟩,
  ⟨Obj.PEER_STATE, none, .enum8, .ro, .ro, .no, .ro, (.all 0), [], false, false⟩,
  ⟨Obj.TWIN_HOLDER, none, .enum8, .ro, .ro, .no, .ro, (.all 255), [], false, false⟩,
  ⟨Obj.TWIN_REJOIN_HOLDOFF, none, (.u 2), .rw, .ro, .no, .rw, (.all 1000), [(100, 60000)], false, true⟩,
  ⟨Obj.TWIN_REJOIN_LIMIT, none, (.u 1), .rw, .ro, .no, .rw, (.all 3), [(1, 20)], false, true⟩,
  ⟨Obj.TWIN_VERIFY_WINDOWS, none, (.u 4), .rw, .ro, .no, .rw, (.all 10000), [(1000, 1000000)], false, true⟩,
  ⟨Obj.TWIN_MT_LIMIT, none, (.u 2), .rw, .ro, .no, .rw, (.all 1000), [(100, 3000)], false, true⟩,
  ⟨Obj.TWIN_MT_DIFF, none, (.s 4), .ro, .ro, .no, .ro, (.all 0), [], false, false⟩,
  ⟨Obj.DP_RELEASE, none, .void, .cmd, .no, .no, .cmd, (.all 0), [], false, false⟩,
  ⟨Obj.TWIN_JOIN, none, .void, .cmd, .no, .no, .cmd, (.all 0), [], false, false⟩,
  ⟨Obj.DP_GRANTS, none, (.u 4), .ro, .ro, .no, .ro, (.all 0), [], false, false⟩,
  ⟨Obj.DP_EXPIRIES, none, (.u 4), .ro, .ro, .no, .ro, (.all 0), [], false, false⟩,
  ⟨Obj.TWIN_DIGEST_MISMATCH, none, (.u 4), .ro, .ro, .no, .ro, (.all 0), [], false, false⟩,
  ⟨Obj.TWIN_JOINS, none, (.u 4), .ro, .ro, .no, .ro, (.all 0), [], false, false⟩,
  ⟨Obj.TWIN_JOIN_FAILS, none, (.u 4), .ro, .ro, .no, .ro, (.all 0), [], false, false⟩,
  ⟨Obj.TWIN_UNSEALED, none, (.u 4), .ro, .ro, .no, .ro, (.all 0), [], false, false⟩,
  ⟨Obj.TWIN_RECORDS_LOST, none, (.u 4), .ro, .ro, .no, .ro, (.all 0), [], false, false⟩,
  ⟨Obj.TWIN_COUNT_CLEAR, none, .void, .cmd, .no, .no, .cmd, (.all 0), [], false, false⟩,
  ⟨Obj.TWIN_PREFER, none, .enum8, .rw, .ro, .no, .rw, (.all 0), [(0, 1)], false, true⟩,
  ⟨Obj.REF_HANDOVER, none, .void, .cmd, .no, .no, .cmd, (.all 0), [], false, false⟩,
  ⟨Obj.REF_SUSPECT, none, .bits32, .ro, .ro, .no, .ro, (.all 0), [], false, false⟩,
  ⟨Obj.REF_GRANTS, none, (.u 4), .ro, .ro, .no, .ro, (.all 0), [], false, false⟩]

/-- Area 0x10. -/
def crosspointObjs : List ObjDesc := [
  ⟨Obj.XP_SOURCE, (some 1024), (.u 2), .ro, .ro, .no, .ro, (.all 4095), [], false, true⟩,
  ⟨Obj.XP_PENDING, (some 1024), (.u 2), .ro, .ro, .no, .ro, (.all 65535), [], false, false⟩,
  ⟨Obj.XP_PENDING_E, (some 1024), .mtime, .ro, .ro, .no, .ro, (.all 0), [], false, false⟩,
  ⟨Obj.XP_SUBSCRIPTION, (some 1128), .bits32, .ro, .ro, .no, .ro, (.all 0), [], false, false⟩,
  ⟨Obj.XP_FANOUT, (some 1128), (.u 2), .ro, .ro, .no, .ro, (.all 0), [], false, false⟩,
  ⟨Obj.XP_PROTECT, (some 1024), .bool, .rw, .rw, .no, .rw, (.all 0), [(0, 1)], true, true⟩,
  ⟨Obj.XP_MESH_LOAD, (some 240), (.u 1), .ro, .ro, .no, .ro, (.all 0), [], false, false⟩]

/-- Area 0x11. -/
def takesObjs : List ObjDesc := [
  ⟨Obj.TAKE, none, (.octets 16), .wo, .wo, .no, .wo, (.all 0), [], true, false⟩,
  ⟨Obj.TAKE_CANCEL, (some 1024), .void, .cmd, .cmd, .no, .cmd, (.all 0), [], true, false⟩,
  ⟨Obj.HAMPER_ENTRIES, (some 256), .table, .rw, .rw, .no, .rw, (.all 0), [], true, true⟩,
  ⟨Obj.HAMPER_COUNT, (some 256), (.u 2), .ro, .ro, .no, .ro, (.all 0), [], false, false⟩,
  ⟨Obj.HAMPER_FIRE, (some 256), .mtime, .cmd, .cmd, .no, .cmd, (.all 0), [], true, false⟩,
  ⟨Obj.HAMPER_STATE, (some 256), .enum8, .ro, .ro, .no, .ro, (.all 0), [], false, false⟩,
  ⟨Obj.HAMPER_ABORT, (some 256), .void, .cmd, .cmd, .no, .cmd, (.all 0), [], true, false⟩,
  ⟨Obj.HAMPER_CLEAR, (some 256), .void, .cmd, .cmd, .no, .cmd, (.all 0), [], true, false⟩,
  ⟨Obj.HAMPERS_IN_PROGRESS, none, (.u 2), .ro, .ro, .no, .ro, (.all 0), [], false, false⟩,
  ⟨Obj.TAKES_EXECUTED, none, (.u 4), .ro, .ro, .no, .ro, (.all 0), [], false, false⟩,
  ⟨Obj.TAKES_LATE, none, (.u 4), .ro, .ro, .no, .ro, (.all 0), [], false, false⟩,
  ⟨Obj.TAKES_DIRTY, none, (.u 4), .ro, .ro, .no, .ro, (.all 0), [], false, false⟩,
  ⟨Obj.TAKES_REFUSED, none, (.u 4), .ro, .ro, .no, .ro, (.all 0), [], false, false⟩,
  ⟨Obj.TAKE_LAST_TIME, (some 1024), .mtime, .ro, .ro, .no, .ro, (.all 0), [], false, false⟩,
  ⟨Obj.TAKE_COUNT_CLEAR, none, .void, .cmd, .no, .no, .cmd, (.all 0), [], false, false⟩]

/-- Area 0x14. -/
def inputsObjs : List ObjDesc := [
  ⟨Obj.IN_TRANSPORT, (some 1024), .enum8, .rw, .rw, .no, .rw, (.all 0), [(0, 1)], true, true⟩,
  ⟨Obj.IN_GANG, (some 1024), .bool, .rw, .rw, .no, .rw, (.all 0), [(0, 1)], true, true⟩,
  ⟨Obj.IN_FORMAT, (some 1024), .enum8, .ro, .ro, .no, .ro, (.all 0), [], false, false⟩,
  ⟨Obj.IN_STATUS, (some 1024), .enum8, .ro, .ro, .no, .ro, (.all 0), [], false, false⟩,
  ⟨Obj.IN_PHASE, (some 1024), (.u 4), .ro, .ro, .no, .ro, (.all 0), [], false, false⟩,
  ⟨Obj.IN_MARK_DISAGREE, (some 1024), (.u 4), .ro, .ro, .no, .ro, (.all 0), [], false, false⟩,
  ⟨Obj.IN_DISCONT, (some 1024), (.u 4), .ro, .ro, .no, .ro, (.all 0), [], false, false⟩,
  ⟨Obj.IN_HOLES, (some 1024), (.u 4), .ro, .ro, .no, .ro, (.all 0), [], false, false⟩,
  ⟨Obj.IN_GANG_SKEW, (some 1024), (.u 4), .ro, .ro, .no, .ro, (.all 0), [], false, false⟩,
  ⟨Obj.IN_COUNT_CLEAR, (some 1024), .void, .cmd, .no, .no, .cmd, (.all 0), [], false, false⟩]

/-- Area 0x15. -/
def outputsObjs : List ObjDesc := [
  ⟨Obj.OUT_TRANSPORT, (some 1024), .enum8, .rw, .rw, .no, .rw, (.all 0), [(0, 1)], true, true⟩,
  ⟨Obj.OUT_GANG, (some 1024), .bool, .rw, .rw, .no, .rw, (.all 0), [(0, 1)], true, true⟩,
  ⟨Obj.OUT_FORMAT, (some 1024), .enum8, .rw, .rw, .no, .rw, (.all 0), [(0, 23)], true, true⟩,
  ⟨Obj.OUT_OFFSET, (some 1024), (.u 4), .rw, .rw, .no, .rw, (.all 0), [(0, 41708333)], true, true⟩,
  ⟨Obj.OUT_TIMING_WINDOW, (some 1024), (.u 2), .rw, .rw, .no, .rw, (.all 1000), [(0, 1500)], true, true⟩,
  ⟨Obj.OUT_FIELD_SWITCH, (some 1024), .enum8, .rw, .rw, .no, .rw, (.all 0), [(0, 1)], true, true⟩,
  ⟨Obj.OUT_STATE, (some 1024), .enum8, .ro, .ro, .no, .ro, (.all 0), [], false, false⟩,
  ⟨Obj.OUT_PASS_LATENCY, (some 1024), (.u 4), .ro, .ro, .no, .ro, (.all 0), [], false, false⟩,
  ⟨Obj.OUT_REPHASE, (some 1024), (.u 4), .ro, .ro, .no, .ro, (.all 0), [], false, false⟩,
  ⟨Obj.OUT_DIRTY, (some 1024), (.u 4), .ro, .ro, .no, .ro, (.all 0), [], false, false⟩,
  ⟨Obj.OUT_UNDERFLOW, (some 1024), (.u 4), .ro, .ro, .no, .ro, (.all 0), [], false, false⟩,
  ⟨Obj.OUT_COUNT_CLEAR, (some 1024), .void, .cmd, .no, .no, .cmd, (.all 0), [], false, false⟩]

/-- Area 0x18. -/
def packetObjs : List ObjDesc := [
  ⟨Obj.RF_ENABLE, (some 4096), .bool, .rw, .rw, .no, .rw, (.all 0), [(0, 1)], true, true⟩,
  ⟨Obj.RF_PORT, (some 4096), (.u 2), .rw, .rw, .no, .rw, (.all 0), [(0, 1023)], true, true⟩,
  ⟨Obj.RF_DST_IP, (some 4096), (.u 4), .rw, .rw, .no, .rw, (.all 0), [], true, true⟩,
  ⟨Obj.RF_DST_UDP, (some 4096), (.u 2), .rw, .rw, .no, .rw, (.all 0), [(0, 65535)], true, true⟩,
  ⟨Obj.RF_SSRC, (some 4096), (.u 4), .rw, .rw, .no, .rw, (.all 0), [], true, true⟩,
  ⟨Obj.RF_MATCH_SSRC, (some 4096), .bool, .rw, .rw, .no, .rw, (.all 0), [(0, 1)], true, true⟩,
  ⟨Obj.RF_ESSENCE, (some 4096), .enum8, .rw, .rw, .no, .rw, (.all 0), [(0, 2)], true, true⟩,
  ⟨Obj.RF_HOME, (some 4096), (.u 2), .rw, .rw, .no, .rw, (.all 0), [], true, true⟩,
  ⟨Obj.RF_LEG, (some 4096), .enum8, .rw, .rw, .no, .rw, (.all 0), [(0, 2)], true, true⟩,
  ⟨Obj.RF_PARTNER, (some 4096), (.u 2), .rw, .rw, .no, .rw, (.all 65535), [(0, 4095), (65535, 65535)], true, true⟩,
  ⟨Obj.RF_FORMAT, (some 4096), .enum8, .rw, .rw, .no, .rw, (.all 14), [(1, 23)], true, true⟩,
  ⟨Obj.RF_CHANNELS, (some 4096), (.u 1), .rw, .rw, .no, .rw, (.all 8), [(1, 64)], true, true⟩,
  ⟨Obj.RF_PTIME, (some 4096), .enum8, .rw, .rw, .no, .rw, (.all 0), [(0, 1)], true, true⟩,
  ⟨Obj.RF_SAMPLE, (some 4096), .enum8, .rw, .rw, .no, .rw, (.all 0), [(0, 1)], true, true⟩,
  ⟨Obj.RF_TIMING, (some 4096), .enum8, .rw, .rw, .no, .rw, (.all 0), [(0, 1)], true, true⟩,
  ⟨Obj.RF_PLAYOUT, (some 4096), (.u 4), .rw, .rw, .no, .rw, (.all 500000), [(0, 100000000)], true, true⟩,
  ⟨Obj.RF_WINDOW, (some 4096), (.u 4), .rw, .rw, .no, .rw, (.all 100), [(0, 50000)], true, true⟩,
  ⟨Obj.RF_PT, (some 4096), (.u 1), .rw, .rw, .no, .rw, (.all 0), [(0, 0), (96, 127)], true, true⟩,
  ⟨Obj.RF_STATE, (some 4096), .enum8, .ro, .ro, .no, .ro, (.all 0), [], false, false⟩,
  ⟨Obj.RF_STORE, (some 4096), .enum8, .ro, .ro, .no, .ro, (.all 0), [], false, false⟩,
  ⟨Obj.RF_STORE_BYTES, (some 4096), (.u 4), .ro, .ro, .no, .ro, (.all 0), [], false, false⟩,
  ⟨Obj.RF_LEG_STATE, (some 4096), .enum8, .ro, .ro, .no, .ro, (.all 0), [], false, false⟩,
  ⟨Obj.RF_LAST_SEQ, (some 4096), (.u 4), .ro, .ro, .no, .ro, (.all 0), [], false, false⟩,
  ⟨Obj.RF_PKTS, (some 4096), (.u 8), .ro, .ro, .no, .ro, (.all 0), [], false, false⟩,
  ⟨Obj.RF_BYTES, (some 4096), (.u 8), .ro, .ro, .no, .ro, (.all 0), [], false, false⟩,
  ⟨Obj.RF_SEQ_LOST, (some 4096), (.u 4), .ro, .ro, .no, .ro, (.all 0), [], false, false⟩,
  ⟨Obj.RF_LATE, (some 4096), (.u 4), .ro, .ro, .no, .ro, (.all 0), [], false, false⟩,
  ⟨Obj.RF_EARLY, (some 4096), (.u 4), .ro, .ro, .no, .ro, (.all 0), [], false, false⟩,
  ⟨Obj.RF_RECOVERED, (some 4096), (.u 4), .ro, .ro, .no, .ro, (.all 0), [], false, false⟩,
  ⟨Obj.RF_ABSENT, (some 4096), (.u 4), .ro, .ro, .no, .ro, (.all 0), [], false, false⟩,
  ⟨Obj.RF_BAD, (some 4096), (.u 4), .ro, .ro, .no, .ro, (.all 0), [], false, false⟩,
  ⟨Obj.RF_OFFGRID, (some 4096), (.u 4), .ro, .ro, .no, .ro, (.all 0), [], false, false⟩,
  ⟨Obj.RF_STORE_FULL, (some 4096), (.u 4), .ro, .ro, .no, .ro, (.all 0), [], false, false⟩,
  ⟨Obj.RF_MIRROR_GAP, (some 4096), (.u 4), .ro, .ro, .no, .ro, (.all 0), [], false, false⟩,
  ⟨Obj.RF_COUNT_CLEAR, (some 4096), .void, .cmd, .no, .no, .cmd, (.all 0), [], false, false⟩,
  ⟨Obj.TF_ENABLE, (some 2048), .bool, .rw, .rw, .no, .rw, (.all 0), [(0, 1)], true, true⟩,
  ⟨Obj.TF_SOURCE, (some 2048), (.u 2), .rw, .rw, .no, .rw, (.all 0), [], true, true⟩,
  ⟨Obj.TF_ESSENCE, (some 2048), .enum8, .rw, .rw, .no, .rw, (.all 0), [(0, 2)], true, true⟩,
  ⟨Obj.TF_RED_PORT, (some 2048), (.u 2), .rw, .rw, .no, .rw, (.all 0), [(0, 1023)], true, true⟩,
  ⟨Obj.TF_BLUE_PORT, (some 2048), (.u 2), .rw, .rw, .no, .rw, (.all 65535), [(0, 1023), (65535, 65535)], true, true⟩]

/-- Area 0x18, further rows. -/
def packetObjs2 : List ObjDesc := [
  ⟨Obj.TF_RED_HDR, (some 2048), (.octets 32), .rw, .rw, .no, .rw, (.all 0x1000000000000000000000000000000000), [], true, true⟩,
  ⟨Obj.TF_BLUE_HDR, (some 2048), (.octets 32), .rw, .rw, .no, .rw, (.all 0x1000000000000000000000000000000000), [], true, true⟩,
  ⟨Obj.TF_SSRC, (some 2048), (.u 4), .rw, .rw, .no, .rw, (.all 0), [], true, true⟩,
  ⟨Obj.TF_PT, (some 2048), (.u 1), .rw, .rw, .no, .rw, (.all 96), [(96, 127)], true, true⟩,
  ⟨Obj.TF_CHANNELS, (some 2048), (.u 1), .rw, .rw, .no, .rw, (.all 8), [(1, 64)], true, true⟩,
  ⟨Obj.TF_PTIME, (some 2048), .enum8, .rw, .rw, .no, .rw, (.all 0), [(0, 1)], true, true⟩,
  ⟨Obj.TF_SAMPLE, (some 2048), .enum8, .rw, .rw, .no, .rw, (.all 0), [(0, 1)], true, true⟩,
  ⟨Obj.TF_TRO_EXTRA, (some 2048), (.u 4), .rw, .rw, .no, .rw, (.all 0), [(0, 1000000)], true, true⟩,
  ⟨Obj.TF_AUDIO_OFFSET, (some 2048), (.u 4), .rw, .rw, .no, .rw, (.all 1000000), [(250000, 10000000)], true, true⟩,
  ⟨Obj.TF_STATE, (some 2048), .enum8, .ro, .ro, .no, .ro, (.all 0), [], false, false⟩,
  ⟨Obj.TF_LOAD, (some 2048), (.u 4), .ro, .ro, .no, .ro, (.all 0), [], false, false⟩,
  ⟨Obj.TF_PKTS, (some 2048), (.u 8), .ro, .ro, .no, .ro, (.all 0), [], false, false⟩,
  ⟨Obj.TF_BYTES, (some 2048), (.u 8), .ro, .ro, .no, .ro, (.all 0), [], false, false⟩,
  ⟨Obj.TF_LATE_DATA, (some 2048), (.u 4), .ro, .ro, .no, .ro, (.all 0), [], false, false⟩,
  ⟨Obj.TF_COUNT_CLEAR, (some 2048), .void, .cmd, .no, .no, .cmd, (.all 0), [], false, false⟩,
  ⟨Obj.GW_DEEMBED, (some 1024), .bool, .rw, .rw, .no, .rw, (.all 1), [(0, 1)], true, true⟩,
  ⟨Obj.GW_EMBED, (some 1024), .enum8, .rw, .rw, .no, .rw, (.all 0), [(0, 2)], true, true⟩,
  ⟨Obj.GW_EMBED_CHANNELS, (some 1024), (.u 1), .rw, .rw, .no, .rw, (.all 16), [(4, 32)], true, true⟩,
  ⟨Obj.GW_EMBED_OFFSET, (some 1024), (.u 4), .rw, .rw, .no, .rw, (.all 1000000), [(250000, 10000000)], true, true⟩,
  ⟨Obj.GW_AUDIO_PRESENT, (some 1024), .bits32, .ro, .ro, .no, .ro, (.all 0), [], false, false⟩,
  ⟨Obj.GW_AUDIO_ASYNC, (some 1024), .bits32, .ro, .ro, .no, .ro, (.all 0), [], false, false⟩,
  ⟨Obj.GW_REANCHOR, (some 1024), (.u 4), .ro, .ro, .no, .ro, (.all 0), [], false, false⟩,
  ⟨Obj.PKT_TX_LOAD, (some 1024), (.u 4), .ro, .ro, .no, .ro, (.all 0), [], false, false⟩,
  ⟨Obj.PKT_FCS_ERR, (some 1024), (.u 4), .ro, .ro, .no, .ro, (.all 0), [], false, false⟩,
  ⟨Obj.PKT_HDR_ERR, (some 1024), (.u 4), .ro, .ro, .no, .ro, (.all 0), [], false, false⟩,
  ⟨Obj.PKT_UNMATCHED, (some 1024), (.u 4), .ro, .ro, .no, .ro, (.all 0), [], false, false⟩,
  ⟨Obj.PKT_COUNT_CLEAR, (some 1024), .void, .cmd, .no, .no, .cmd, (.all 0), [], false, false⟩,
  ⟨Obj.STORE_BW_USED, none, (.u 4), .ro, .ro, .no, .ro, (.all 0), [], false, false⟩,
  ⟨Obj.STORE_BW_BUDGET, none, (.u 4), .ro, .ro, .no, .ro, (.all 3400000), [], false, false⟩,
  ⟨Obj.STORE_MEM_USED, none, (.u 8), .ro, .ro, .no, .ro, (.all 0), [], false, false⟩,
  ⟨Obj.STORE_MEM_REGION, none, (.u 8), .ro, .ro, .no, .ro, (.all 8589934592), [], false, false⟩,
  ⟨Obj.POOL_FREE, (some 16), (.u 2), .ro, .ro, .no, .ro, (.all 512), [], false, false⟩,
  ⟨Obj.PKT_MIRROR_MISS, none, (.u 4), .ro, .ro, .no, .ro, (.all 0), [], false, false⟩]

/-- Area 0x1C. -/
def frameSyncObjs : List ObjDesc := [
  ⟨Obj.FS_MODE, (some 1024), .enum8, .rw, .rw, .no, .rw, (.all 0), [(0, 2)], true, true⟩,
  ⟨Obj.FS_OFFSET, (some 1024), (.u 4), .rw, .rw, .no, .rw, (.all 0), [(0, 41708333)], true, true⟩,
  ⟨Obj.FS_DELAY_FRAMES, (some 1024), (.u 1), .rw, .rw, .no, .rw, (.all 1), [(1, 30)], true, true⟩,
  ⟨Obj.FS_LOSS_HOLD, (some 1024), (.u 1), .rw, .rw, .no, .rw, (.all 10), [(0, 250)], true, true⟩,
  ⟨Obj.FS_LOSS_ACTION, (some 1024), .enum8, .rw, .rw, .no, .rw, (.all 0), [(0, 1)], true, true⟩,
  ⟨Obj.FS_FORMAT_PLAN, (some 1024), .enum8, .rw, .rw, .no, .rw, (.all 0), [(0, 23)], true, true⟩,
  ⟨Obj.FS_STATE, (some 1024), .enum8, .ro, .ro, .no, .ro, (.all 0), [], false, false⟩,
  ⟨Obj.FS_DROPS, (some 1024), (.u 4), .ro, .ro, .no, .ro, (.all 0), [], false, false⟩,
  ⟨Obj.FS_REPEATS, (some 1024), (.u 4), .ro, .ro, .no, .ro, (.all 0), [], false, false⟩,
  ⟨Obj.FS_MIRROR_MISS, none, (.u 4), .ro, .ro, .no, .ro, (.all 0), [], false, false⟩,
  ⟨Obj.FS_BW_USED, none, (.u 4), .ro, .ro, .no, .ro, (.all 0), [], false, false⟩,
  ⟨Obj.FS_BW_BUDGET, none, (.u 4), .ro, .ro, .no, .ro, (.all 6090000), [], false, false⟩,
  ⟨Obj.FS_MEM_USED, none, (.u 8), .ro, .ro, .no, .ro, (.all 0), [], false, false⟩,
  ⟨Obj.FS_MEM_REGION, none, (.u 8), .ro, .ro, .no, .ro, (.all 34359738368), [], false, false⟩,
  ⟨Obj.FS_COUNT_CLEAR, (some 1024), .void, .cmd, .no, .no, .cmd, (.all 0), [], false, false⟩]

/-- Area 0x20. -/
def compositionObjs : List ObjDesc := [
  ⟨Obj.CE_OUTPUT, (some 64), (.u 2), .rw, .rw, .no, .rw, (.all 65535), [(0, 1023), (65535, 65535)], true, true⟩,
  ⟨Obj.CE_ORDER_MODE, (some 64), .enum8, .rw, .rw, .no, .rw, (.all 0), [(0, 1)], true, true⟩,
  ⟨Obj.CE_ORDER, (some 64), .bits32, .rw, .rw, .no, .rw, (.all 16434824), [], true, true⟩,
  ⟨Obj.CE_LAYER, (some 512), (.octets 8), .rw, .rw, .no, .rw, (.all 0xffff1000400000), [], true, true⟩,
  ⟨Obj.CE_LAYER_SOURCE, (some 512), (.u 2), .ro, .ro, .no, .ro, (.all 4095), [], false, true⟩,
  ⟨Obj.CE_LAYER_STATE, (some 512), .enum8, .ro, .ro, .no, .ro, (.all 0), [], false, false⟩,
  ⟨Obj.CE_LAYER_DROPOUTS, (some 512), (.u 4), .ro, .ro, .no, .ro, (.all 0), [], false, false⟩,
  ⟨Obj.CE_LAYER_UNDERRUN, (some 512), (.u 4), .ro, .ro, .no, .ro, (.all 0), [], false, false⟩,
  ⟨Obj.CE_STATE, (some 64), .enum8, .ro, .ro, .no, .ro, (.all 0), [], false, false⟩,
  ⟨Obj.CE_FORMAT, (some 64), .enum8, .ro, .ro, .no, .ro, (.all 0), [], false, false⟩,
  ⟨Obj.CE_LATENCY, (some 64), (.u 4), .ro, .ro, .no, .ro, (.all 0), [], false, false⟩,
  ⟨Obj.CE_BG_ABSENT, (some 64), (.u 4), .ro, .ro, .no, .ro, (.all 0), [], false, false⟩,
  ⟨Obj.CE_COUNT_CLEAR, (some 64), .void, .cmd, .no, .no, .cmd, (.all 0), [], false, false⟩,
  ⟨Obj.STILL_DATA, (some 1024), .table, .rw, .rw, .no, .rw, (.all 0), [], true, false⟩,
  ⟨Obj.STILL_FORMAT, (some 1024), .enum8, .rw, .rw, .no, .rw, (.all 0), [(0, 23)], true, false⟩,
  ⟨Obj.STILL_BYTES, (some 1024), (.u 4), .ro, .ro, .no, .ro, (.all 0), [], false, false⟩,
  ⟨Obj.SP_STILL, (some 32), (.u 2), .rw, .rw, .no, .rw, (.all 65535), [(0, 1023), (65535, 65535)], true, true⟩,
  ⟨Obj.SP_SUBSCRIBERS, (some 32), (.u 2), .ro, .ro, .no, .ro, (.all 0), [], false, false⟩,
  ⟨Obj.STILL_MEM_USED, none, (.u 8), .ro, .ro, .no, .ro, (.all 0), [], false, false⟩,
  ⟨Obj.STILL_MEM_REGION, none, (.u 8), .ro, .ro, .no, .ro, (.all 3758096384), [], false, false⟩,
  ⟨Obj.STILL_BW_USED, none, (.u 4), .ro, .ro, .no, .ro, (.all 0), [], false, false⟩,
  ⟨Obj.STILL_BW_BUDGET, none, (.u 4), .ro, .ro, .no, .ro, (.all 1200000), [], false, false⟩]

/-- Area 0x21. -/
def canopyObjs : List ObjDesc := [
  ⟨Obj.CANOPY_SOURCE, (some 16), (.u 2), .ro, .ro, .rw, .ro, (.all 65535), [], true, false⟩,
  ⟨Obj.CANOPY_SYNC_STATE, (some 16), .enum8, .ro, .ro, .ro, .ro, (.all 0), [], false, false⟩,
  ⟨Obj.CANOPY_SOURCE_FORMAT, (some 16), .enum8, .ro, .ro, .ro, .ro, (.all 0), [], false, false⟩,
  ⟨Obj.CANOPY_LOSS_ACTION, none, .enum8, .ro, .ro, .rw, .ro, (.all 0), [(0, 1)], true, false⟩,
  ⟨Obj.CANOPY_LOSS_HOLD, none, (.u 1), .ro, .ro, .rw, .ro, (.all 10), [(1, 250)], true, false⟩,
  ⟨Obj.CI_OUTPUT, (some 128), (.u 2), .ro, .ro, .rw, .ro, (.all 65535), [(0, 1023), (65535, 65535)], true, false⟩,
  ⟨Obj.CI_ON, (some 128), .bool, .ro, .ro, .rw, .ro, (.all 0), [(0, 1)], true, false⟩,
  ⟨Obj.CI_MODE, (some 128), .enum8, .ro, .ro, .rw, .ro, (.all 0), [(0, 1)], true, false⟩,
  ⟨Obj.CI_BAND_TOP, (some 128), (.u 2), .ro, .ro, .rw, .ro, (.all 0), [], true, false⟩,
  ⟨Obj.CI_BAND_ROWS, (some 128), (.u 2), .ro, .ro, .rw, .ro, (.all 0), [], true, false⟩,
  ⟨Obj.CI_CLIP, (some 128), (.u 2), .ro, .ro, .rw, .ro, (.all 64), [(64, 940)], true, false⟩,
  ⟨Obj.CI_GAIN, (some 128), (.u 2), .ro, .ro, .rw, .ro, (.all 256), [(1, 65535)], true, false⟩,
  ⟨Obj.CI_STATE, (some 128), .enum8, .ro, .ro, .ro, .ro, (.all 0), [], false, false⟩,
  ⟨Obj.CI_FRAMES, (some 128), (.u 4), .ro, .ro, .ro, .ro, (.all 0), [], false, false⟩,
  ⟨Obj.CANOPY_EPOCH, none, (.u 4), .ro, .ro, .ro, .ro, (.all 0), [], false, false⟩,
  ⟨Obj.CN_ADDR, none, (.u 1), .ro, .ro, .ro, .ro, (.all 0), [], false, false⟩,
  ⟨Obj.CN_FRAMES_OK, none, (.u 4), .ro, .ro, .ro, .ro, (.all 0), [], false, false⟩,
  ⟨Obj.CN_FRAMES_BAD, none, (.u 4), .ro, .ro, .ro, .ro, (.all 0), [], false, false⟩,
  ⟨Obj.CN_REFUSED, none, (.u 4), .ro, .ro, .ro, .ro, (.all 0), [], false, false⟩,
  ⟨Obj.CANOPY_MIRROR_MISS, none, (.u 4), .ro, .ro, .ro, .ro, (.all 0), [], false, false⟩,
  ⟨Obj.CANOPY_BW_USED, none, (.u 4), .ro, .ro, .ro, .ro, (.all 0), [], false, false⟩,
  ⟨Obj.CANOPY_COUNT_CLEAR, none, .void, .no, .no, .cmd, .no, (.all 0), [], false, false⟩]

/-- Area 0x28. -/
def shuffleObjs : List ObjDesc := [
  ⟨Obj.SHUF_SRC, (some 37376), (.u 2), .rw, .rw, .no, .rw, (.all 65535), [], true, true⟩,
  ⟨Obj.AO_DELAY, (some 37376), (.u 4), .rw, .rw, .no, .rw, (.all 0), [(0, 480000)], true, true⟩,
  ⟨Obj.AO_STATE, (some 37376), .enum8, .ro, .ro, .no, .ro, (.all 0), [], false, false⟩,
  ⟨Obj.AO_ABSENT, (some 37376), (.u 4), .ro, .ro, .no, .ro, (.all 0), [], false, false⟩,
  ⟨Obj.AO_LATE_DROP, (some 37376), (.u 4), .ro, .ro, .no, .ro, (.all 0), [], false, false⟩,
  ⟨Obj.AUD_MIRROR_GAP, none, (.u 4), .ro, .ro, .no, .ro, (.all 0), [], false, false⟩,
  ⟨Obj.AUD_MIRROR_MISS, none, (.u 4), .ro, .ro, .no, .ro, (.all 0), [], false, false⟩,
  ⟨Obj.AUD_DELAY_MEM_USED, none, (.u 8), .ro, .ro, .no, .ro, (.all 0), [], false, false⟩,
  ⟨Obj.AUD_DELAY_MEM_REGION, none, (.u 8), .ro, .ro, .no, .ro, (.all 2147483648), [], false, false⟩,
  ⟨Obj.AO_COUNT_CLEAR, (some 37376), .void, .cmd, .no, .no, .cmd, (.all 0), [], false, false⟩]

/-- Area 0x29. -/
def mixerObjs : List ObjDesc := [
  ⟨Obj.MIX_GAIN_ROW, (some 4096), .table, .rw, .rw, .no, .rw, (.all 0), [], true, true⟩,
  ⟨Obj.MIX_JOURNAL_ADD, none, .table, .wo, .wo, .no, .wo, (.all 0), [], true, false⟩,
  ⟨Obj.MIX_JOURNAL_DISCARD, none, .void, .cmd, .cmd, .no, .cmd, (.all 0), [], true, false⟩,
  ⟨Obj.MIX_COMMIT, none, .mtime, .cmd, .cmd, .no, .cmd, (.all 0), [], true, false⟩,
  ⟨Obj.MIX_JOURNAL_OPEN, none, (.u 4), .ro, .ro, .no, .ro, (.all 0), [], false, false⟩,
  ⟨Obj.MIX_JOURNAL_ARMED, none, (.u 4), .ro, .ro, .no, .ro, (.all 0), [], false, false⟩,
  ⟨Obj.MIX_COMMIT_STATE, none, .enum8, .ro, .ro, .no, .ro, (.all 0), [], false, false⟩,
  ⟨Obj.MIX_COMMIT_E, none, .mtime, .ro, .ro, .no, .ro, (.all 0), [], false, false⟩,
  ⟨Obj.MIX_COMMIT_LAST, none, .mtime, .ro, .ro, .no, .ro, (.all 0), [], false, false⟩,
  ⟨Obj.MIX_COMMITS, none, (.u 4), .ro, .ro, .no, .ro, (.all 0), [], false, false⟩,
  ⟨Obj.MIX_IN_OFFSET, none, (.u 4), .rw, .rw, .no, .rw, (.all 1000000), [(400000, 10000000)], true, true⟩,
  ⟨Obj.MIX_OUT_SAT, (some 4096), (.u 4), .ro, .ro, .no, .ro, (.all 0), [], false, false⟩,
  ⟨Obj.MIX_ECC_ERR, none, (.u 4), .ro, .ro, .no, .ro, (.all 0), [], false, false⟩,
  ⟨Obj.MIX_COUNT_CLEAR, none, .void, .cmd, .no, .no, .cmd, (.all 0), [], false, false⟩]

/-- Area 0x2A. -/
def tdmObjs : List ObjDesc := [
  ⟨Obj.AP_ENABLE, (some 32), .bool, .rw, .rw, .no, .rw, (.all 0), [(0, 1)], true, true⟩,
  ⟨Obj.AP_MODE, (some 32), .enum8, .rw, .rw, .no, .rw, (.all 0), [(0, 1)], true, true⟩,
  ⟨Obj.AP_OUT_OFFSET, (some 32), (.u 4), .rw, .rw, .no, .rw, (.all 1000000), [(250000, 10000000)], true, true⟩,
  ⟨Obj.AP_IN_DELAY, (some 32), (.u 1), .rw, .no, .no, .rw, (.all 0), [(0, 255)], false, true⟩,
  ⟨Obj.AP_STATE, (some 32), .enum8, .ro, .ro, .no, .ro, (.all 0), [], false, false⟩,
  ⟨Obj.AP_DRIVING, (some 32), .bool, .ro, .ro, .no, .ro, (.all 0), [], false, false⟩,
  ⟨Obj.AP_FRAME_PERIOD, (some 32), (.u 4), .ro, .ro, .no, .ro, (.all 0), [], false, false⟩,
  ⟨Obj.AP_REPLACED, (some 32), (.u 4), .ro, .ro, .no, .ro, (.all 0), [], false, false⟩,
  ⟨Obj.AP_MUTES, (some 32), (.u 4), .ro, .ro, .no, .ro, (.all 0), [], false, false⟩,
  ⟨Obj.AP_SLIPS, (some 32), (.u 4), .ro, .ro, .no, .ro, (.all 0), [], false, false⟩,
  ⟨Obj.AP_COUNT_CLEAR, (some 32), .void, .cmd, .no, .no, .cmd, (.all 0), [], false, false⟩]

/-- Area 0x30. -/
def lanesObjs : List ObjDesc := [
  ⟨Obj.LANE_STATE, (some 274), .enum8, .ro, .ro, .no, .ro, (.all 0), [], false, false⟩,
  ⟨Obj.LANE_FAIL_REASON, (some 274), .enum8, .ro, .ro, .no, .ro, (.all 0), [], false, false⟩,
  ⟨Obj.LANE_EN, (some 274), .bool, .rw, .ro, .no, .rw, (.all 1), [(0, 1)], false, true⟩,
  ⟨Obj.LANE_SPARE_FOR, (some 16), (.u 1), .ro, .ro, .no, .ro, (.all 255), [], false, false⟩,
  ⟨Obj.LANE_SPARE_MODE, (some 16), .enum8, .rw, .ro, .no, .rw, (.all 0), [(0, 1)], false, true⟩,
  ⟨Obj.LANE_SPARE_CHECK, none, (.u 2), .rw, .ro, .no, .rw, (.all 24), [(0, 720)], false, true⟩,
  ⟨Obj.LANE_TX_PRESET, (some 274), (.u 1), .rw, .ro, .no, .rw, (.all 0), [(0, 7)], false, true⟩,
  ⟨Obj.LANE_TX_TAPS, (some 274), (.u 4), .ro, .ro, .no, .ro, (.all 0x3F00), [], false, false⟩,
  ⟨Obj.LANE_EYE_HEIGHT, (some 274), (.u 2), .ro, .ro, .no, .ro, (.all 0), [], false, false⟩,
  ⟨Obj.LANE_EYE_WIDTH, (some 274), (.u 2), .ro, .ro, .no, .ro, (.all 0), [], false, false⟩,
  ⟨Obj.LANE_EYE_MIN, none, (.u 2), .rw, .ro, .no, .rw, (.all 30), [(5, 200)], false, true⟩,
  ⟨Obj.LANE_ID_SEEN, (some 274), (.u 2), .ro, .ro, .no, .ro, (.all 0), [], false, false⟩,
  ⟨Obj.LANE_HCRC_LIMIT, none, (.u 2), .rw, .ro, .no, .rw, (.all 32), [(1, 25826)], false, true⟩,
  ⟨Obj.LANE_RETRY_LIMIT, none, (.u 1), .rw, .ro, .no, .rw, (.all 3), [(1, 15)], false, true⟩,
  ⟨Obj.LANE_RETRY_WINDOW, none, (.u 2), .rw, .ro, .no, .rw, (.all 10), [(1, 3600)], false, true⟩,
  ⟨Obj.LANE_RESTART, (some 274), .void, .cmd, .no, .no, .cmd, (.all 0), [], false, false⟩,
  ⟨Obj.LANE_SPARE_FORCE, (some 272), .void, .cmd, .no, .no, .cmd, (.all 0), [], false, false⟩,
  ⟨Obj.LANE_TEST_MODE, (some 274), .enum8, .rw, .no, .no, .rw, (.all 0), [(0, 3)], false, false⟩,
  ⟨Obj.LANE_PRBS_LOCK, (some 274), .bool, .ro, .ro, .no, .ro, (.all 0), [], false, false⟩,
  ⟨Obj.LANE_PRBS_ERR, (some 274), (.u 4), .ro, .ro, .no, .ro, (.all 0), [], false, false⟩,
  ⟨Obj.LANE_PRBS_BITS, (some 274), (.u 8), .ro, .ro, .no, .ro, (.all 0), [], false, false⟩,
  ⟨Obj.LANE_HCRC_ERR, (some 274), (.u 4), .ro, .ro, .no, .ro, (.all 0), [], false, false⟩,
  ⟨Obj.LANE_SYNC_ERR, (some 274), (.u 4), .ro, .ro, .no, .ro, (.all 0), [], false, false⟩,
  ⟨Obj.LANE_LOCK_LOSS, (some 274), (.u 4), .ro, .ro, .no, .ro, (.all 0), [], false, false⟩,
  ⟨Obj.LANE_RETRAINS, (some 274), (.u 4), .ro, .ro, .no, .ro, (.all 0), [], false, false⟩,
  ⟨Obj.LANE_REFSTEP_ERR, (some 274), (.u 4), .ro, .ro, .no, .ro, (.all 0), [], false, false⟩,
  ⟨Obj.LANE_RX_OVERFLOW, (some 274), (.u 4), .ro, .ro, .no, .ro, (.all 0), [], false, false⟩,
  ⟨Obj.LANE_TX_UNDERFLOW, (some 274), (.u 4), .ro, .ro, .no, .ro, (.all 0), [], false, false⟩,
  ⟨Obj.LANE_SAT, (some 274), .bits32, .ro, .ro, .no, .ro, (.all 0), [], false, false⟩,
  ⟨Obj.LANE_COUNT_CLEAR, (some 274), .void, .cmd, .no, .no, .cmd, (.all 0), [], false, false⟩]

/-- Area 0x34. -/
def frameMemoryObjs : List ObjDesc := [
  ⟨Obj.FM_PC_STATE, (some 64), .enum8, .ro, .ro, .no, .ro, (.all 0), [], false, false⟩,
  ⟨Obj.FM_CAPACITY, none, (.u 8), .ro, .ro, .no, .ro, (.all 51539607552), [], false, false⟩,
  ⟨Obj.FM_PEAK, none, (.u 4), .ro, .ro, .no, .ro, (.all 13107200), [], false, false⟩,
  ⟨Obj.FM_RETIRED_PC, none, (.u 1), .ro, .ro, .no, .ro, (.all 255), [], false, false⟩,
  ⟨Obj.FM_PC_RETIRE, (some 64), .void, .cmd, .no, .no, .cmd, (.all 0), [], false, false⟩,
  ⟨Obj.FM_RETIRE_CLEAR, none, .void, .cmd, .no, .no, .cmd, (.all 0), [], false, false⟩,
  ⟨Obj.FM_HASH_MASK, (some 10), (.u 2), .rw, .ro, .no, .rw, (.each [1, 2, 4, 8, 16, 32, 1088, 2176, 4352, 8704]), [(0, 16383)], false, true⟩,
  ⟨Obj.FM_HASH_LIVE, (some 10), (.u 2), .ro, .ro, .no, .ro, (.each [1, 2, 4, 8, 16, 32, 1088, 2176, 4352, 8704]), [], false, false⟩,
  ⟨Obj.FM_WR_HIGH, none, (.u 1), .rw, .ro, .no, .rw, (.all 48), [(2, 64)], false, true⟩,
  ⟨Obj.FM_WR_LOW, none, (.u 1), .rw, .ro, .no, .rw, (.all 16), [], false, true⟩,
  ⟨Obj.FM_AGE_LIMIT, none, (.u 2), .rw, .ro, .no, .rw, (.all 4000), [(1000, 20000)], false, true⟩,
  ⟨Obj.FM_PAGE_IDLE, none, (.u 2), .rw, .ro, .no, .rw, (.all 200), [(0, 10000)], false, true⟩,
  ⟨Obj.FM_CLASS_BUDGET, (some 6), (.u 4), .ro, .ro, .no, .ro, (.each [6090000, 3400000, 1800000, 120000, 100000, 262144]), [], false, false⟩,
  ⟨Obj.FM_CLASS_USED, (some 6), (.u 4), .ro, .ro, .no, .ro, (.all 0), [], false, false⟩,
  ⟨Obj.FM_CLASS_OVER, (some 6), (.u 4), .ro, .ro, .no, .ro, (.all 0), [], false, false⟩,
  ⟨Obj.FM_REF_POSTPONE, none, (.u 1), .rw, .ro, .no, .rw, (.all 8), [(0, 8)], false, true⟩,
  ⟨Obj.FM_TEMP, (some 2), (.s 1), .ro, .ro, .no, .ro, (.all 0), [], false, false⟩,
  ⟨Obj.FM_HOT, (some 2), .bool, .ro, .ro, .no, .ro, (.all 0), [], false, false⟩,
  ⟨Obj.FM_HOT_ENTRIES, (some 2), (.u 4), .ro, .ro, .no, .ro, (.all 0), [], false, false⟩,
  ⟨Obj.FM_REF_FORCED, (some 64), (.u 4), .ro, .ro, .no, .ro, (.all 0), [], false, false⟩,
  ⟨Obj.FM_REF_DEBT_MAX, (some 64), (.u 1), .ro, .ro, .no, .ro, (.all 0), [], false, false⟩,
  ⟨Obj.FM_RH_THRESHOLD, none, (.u 2), .rw, .ro, .no, .rw, (.all 2000), [(256, 16000)], false, true⟩,
  ⟨Obj.FM_RH_GAP, none, (.u 2), .rw, .ro, .no, .rw, (.all 2000), [(100, 50000)], false, true⟩,
  ⟨Obj.FM_RH_EVENTS, (some 64), (.u 4), .ro, .ro, .no, .ro, (.all 0), [], false, false⟩,
  ⟨Obj.FM_RH_LAST, none, (.u 8), .ro, .ro, .no, .ro, (.all 0), [], false, false⟩,
  ⟨Obj.FM_CE, (some 64), (.u 4), .ro, .ro, .no, .ro, (.all 0), [], false, false⟩,
  ⟨Obj.FM_UE, (some 64), (.u 4), .ro, .ro, .no, .ro, (.all 0), [], false, false⟩,
  ⟨Obj.FM_ODECC, (some 64), (.u 4), .ro, .ro, .no, .ro, (.all 0), [], false, false⟩,
  ⟨Obj.FM_POISON_READ, (some 64), (.u 4), .ro, .ro, .no, .ro, (.all 0), [], false, false⟩,
  ⟨Obj.FM_UE_LIMIT, none, (.u 2), .rw, .ro, .no, .rw, (.all 16), [(1, 1000)], false, true⟩,
  ⟨Obj.FM_SCRUB_POS, none, (.u 8), .ro, .ro, .no, .ro, (.all 0), [], false, false⟩,
  ⟨Obj.FM_SCRUB_PASSES, none, (.u 4), .ro, .ro, .no, .ro, (.all 0), [], false, false⟩,
  ⟨Obj.FM_EYE_WIDTH, (some 64), (.u 2), .ro, .ro, .no, .ro, (.all 0), [], false, false⟩,
  ⟨Obj.FM_EYE_MIN, none, (.u 2), .rw, .ro, .no, .rw, (.all 350), [(150, 600)], false, true⟩,
  ⟨Obj.FM_RETRAIN_GAP, none, (.u 2), .rw, .ro, .no, .rw, (.all 1), [(1, 3600)], false, true⟩,
  ⟨Obj.FM_RETRAINS, (some 64), (.u 4), .ro, .ro, .no, .ro, (.all 0), [], false, false⟩,
  ⟨Obj.FM_COUNT_CLEAR, (some 64), .void, .cmd, .no, .no, .cmd, (.all 0), [], false, false⟩]

/-- Area 0x38. -/
def referencesObjs : List ObjDesc := [
  ⟨Obj.REF_RANK, (some 5), (.u 1), .rw, .ro, .no, .rw, (.each [3, 3, 2, 2, 1]), [(0, 15)], false, true⟩,
  ⟨Obj.SEL_REVERTIVE, none, .bool, .rw, .ro, .no, .rw, (.all 1), [(0, 1)], false, true⟩,
  ⟨Obj.REF_WTR, (some 5), (.u 2), .rw, .ro, .no, .rw, (.all 10), [(0, 3600)], false, true⟩,
  ⟨Obj.REF_ACCEPT, (some 5), (.u 4), .rw, .ro, .no, .rw, (.all 4600), [(100, 99999)], false, true⟩,
  ⟨Obj.REF_REJECT, (some 5), (.u 4), .rw, .ro, .no, .rw, (.all 10000), [(101, 100000)], false, true⟩,
  ⟨Obj.REF_STATUS, (some 6), .enum8, .ro, .ro, .no, .ro, (.all 0), [], false, false⟩,
  ⟨Obj.REF_OFFSET, (some 5), (.s 4), .ro, .ro, .no, .ro, (.all 0), [], false, false⟩,
  ⟨Obj.REF_WTR_LEFT, (some 5), (.u 2), .ro, .ro, .no, .ro, (.all 0), [], false, false⟩,
  ⟨Obj.SEL_MODE, none, .enum8, .ro, .ro, .no, .ro, (.all 0), [], false, false⟩,
  ⟨Obj.SEL_FORCE, none, (.u 1), .rw, .no, .no, .rw, (.all 254), [(0, 4), (254, 255)], false, false⟩,
  ⟨Obj.SEL_CURRENT, none, (.u 1), .ro, .ro, .no, .ro, (.all 255), [], false, false⟩,
  ⟨Obj.DISAGREE_PPB, none, (.u 4), .rw, .ro, .no, .rw, (.all 2000), [(100, 20000)], false, true⟩,
  ⟨Obj.THERMOS_STATE, none, .enum8, .ro, .ro, .no, .ro, (.all 0), [], false, false⟩,
  ⟨Obj.THERMOS_FREQ, none, (.s 4), .ro, .ro, .no, .ro, (.all 0), [], false, false⟩,
  ⟨Obj.THERMOS_TAU, none, (.u 2), .rw, .ro, .no, .rw, (.all 300), [(60, 3600)], false, true⟩,
  ⟨Obj.THERMOS_DURATION, none, (.u 4), .ro, .ro, .no, .ro, (.all 0), [], false, false⟩,
  ⟨Obj.LOSC_TRIM, none, (.s 4), .rw, .ro, .no, .rw, (.all 0), [(-200000000, 200000000)], false, true⟩,
  ⟨Obj.LOSC_CLEAN_COUNT, none, (.u 4), .ro, .ro, .no, .ro, (.all 0), [], false, false⟩,
  ⟨Obj.MT_NOW, none, .mtime, .ro, .ro, .no, .ro, (.all 0), [], false, false⟩,
  ⟨Obj.MT_TIME_OFFSET, none, (.s 8), .ro, .ro, .no, .ro, (.all 0), [], false, false⟩,
  ⟨Obj.MT_STEP_PENDING, none, .bool, .ro, .ro, .no, .ro, (.all 0), [], false, false⟩,
  ⟨Obj.MT_STEP_APPLY, none, .void, .cmd, .no, .no, .cmd, (.all 0), [], false, false⟩,
  ⟨Obj.MT_STEP_THRESHOLD, none, (.u 4), .rw, .ro, .no, .rw, (.all 1000), [(0, 1000000)], false, true⟩,
  ⟨Obj.SYNC_FRAME_RATE, (some 2), .enum8, .rw, .ro, .no, .rw, (.all 2), [(0, 7)], false, true⟩,
  ⟨Obj.TOD_LAST, none, (.octets 16), .ro, .ro, .no, .ro, (.all 0), [], false, false⟩,
  ⟨Obj.FREF_SPREAD, none, (.u 2), .rw, .ro, .no, .rw, (.all 0), [(0, 2500)], false, true⟩,
  ⟨Obj.LANE_REF, none, (.u 1), .ro, .ro, .no, .ro, (.all 0), [], false, false⟩,
  ⟨Obj.LANE_REF_PREFER, none, (.u 1), .rw, .ro, .no, .rw, (.all 0), [(0, 1)], false, true⟩]

/-- Area 0x3C. -/
def clocksObjs : List ObjDesc := [
  ⟨Obj.CLKOUT_DIV_INT, (some 4), (.u 2), .rw, .ro, .no, .rw, (.all 148), [(10, 4000)], false, true⟩,
  ⟨Obj.CLKOUT_DIV_NUM, (some 4), (.u 4), .rw, .ro, .no, .rw, (.all 4), [], false, true⟩,
  ⟨Obj.CLKOUT_DIV_DEN, (some 4), (.u 4), .rw, .ro, .no, .rw, (.all 27), [(1, 16777215)], false, true⟩,
  ⟨Obj.CLKOUT_FSYNC_MODE, (some 4), .enum8, .rw, .ro, .no, .rw, (.all 0), [(0, 2)], false, true⟩,
  ⟨Obj.CLKOUT_FSYNC_DONE, (some 4), .bool, .ro, .ro, .no, .ro, (.all 0), [], false, false⟩,
  ⟨Obj.SYNTH_STROBE, none, .void, .cmd, .no, .no, .cmd, (.all 0), [], false, false⟩,
  ⟨Obj.SYNTH_SHADOW_DIRTY, none, .bool, .ro, .ro, .no, .ro, (.all 0), [], false, false⟩,
  ⟨Obj.SYNTH_LOCK, none, .bool, .ro, .ro, .no, .ro, (.all 0), [], false, false⟩,
  ⟨Obj.GATE_EN, (some 37), .bool, .rw, .ro, .no, .rw, (.each [1, 1, 1, 1, 1, 1, 1, 1, 1, 1, 1, 1, 1, 1, 1, 1, 1, 1, 1, 1, 1, 1, 1, 1, 1, 0, 0, 0, 0, 1, 1, 1, 1, 1, 1, 1, 1]), [(0, 1)], false, true⟩,
  ⟨Obj.GATE_STATE, (some 37), .enum8, .ro, .ro, .no, .ro,
    (.each [1, 1, 1, 1, 1, 1, 1, 1, 1, 1, 1, 1, 1, 1, 1, 1, 1, 1, 1, 1, 1, 1, 1, 1, 1, 0, 0, 0, 0, 1, 1, 1, 1, 1, 1, 1, 1]),
    [], false, false⟩,
  ⟨Obj.AVS_ENABLE, none, .bool, .rw, .ro, .no, .rw, (.all 1), [(0, 1)], false, true⟩,
  ⟨Obj.AVS_MARGIN_TARGET, none, (.u 1), .rw, .ro, .no, .rw, (.all 8), [(5, 20)], false, true⟩,
  ⟨Obj.AVS_VREQ, none, (.u 2), .ro, .ro, .no, .ro, (.all 700), [], false, false⟩,
  ⟨Obj.AVS_MARGIN, none, (.u 1), .ro, .ro, .no, .ro, (.all 0), [], false, false⟩]

/-- Area 0x40. -/
def faultsObjs : List ObjDesc := [
  ⟨Obj.FLT_SUMMARY, none, .bits32, .ro, .ro, .no, .ro, (.all 16777216), [], false, false⟩,
  ⟨Obj.FLT_SCHEME, none, .enum8, .ro, .ro, .no, .ro, (.all 0), [], false, false⟩,
  ⟨Obj.FLT_LIVE, (some 9), .bits32, .ro, .ro, .no, .ro, (.all 0), [], false, false⟩,
  ⟨Obj.FLT_LATCHED, (some 9), .bits32, .rw, .ro, .no, .rw, (.all 0), [], false, false⟩,
  ⟨Obj.FLT_FORCE, (some 9), .bits32, .rw, .ro, .no, .rw, (.all 0), [], false, false⟩,
  ⟨Obj.FLT_ENABLE, (some 9), .bits32, .rw, .ro, .no, .rw, (.all 4294967295), [], false, true⟩,
  ⟨Obj.FLT_ACK, (some 9), .bits32, .rw, .ro, .no, .rw, (.all 0), [], false, false⟩,
  ⟨Obj.FLT_ESC_TIME, (some 9), (.u 4), .rw, .ro, .no, .rw, (.all 5000), [(100, 1000000)], false, true⟩,
  ⟨Obj.FLT_ESC_LEFT, (some 9), (.u 4), .ro, .ro, .no, .ro, (.all 0), [], false, false⟩,
  ⟨Obj.FLT_ESCALATED, (some 9), .bits32, .ro, .ro, .no, .ro, (.all 0), [], false, false⟩,
  ⟨Obj.FLT_SEVERITY, (some 288), (.u 1), .rw, .ro, .no, .rw, (.each fltSeverityDefaults), [(0, 7)], false, true⟩,
  ⟨Obj.FLT_CLASS, (some 288), .enum8, .ro, .ro, .no, .ro, (.each fltClassDefaults), [], false, false⟩,
  ⟨Obj.FLT_COUNT, (some 288), (.u 4), .ro, .ro, .no, .ro, (.all 0), [], false, false⟩,
  ⟨Obj.TRAIL_LOG, none, .table, .ro, .ro, .no, .ro, (.all 0), [], false, false⟩,
  ⟨Obj.TRAIL_NEXT_SEQ, none, (.u 4), .ro, .ro, .no, .ro, (.all 0), [], false, false⟩,
  ⟨Obj.TRAIL_MARK, none, (.u 4), .rw, .ro, .no, .rw, (.all 0), [], false, true⟩,
  ⟨Obj.TRAIL_MIN_SEVERITY, none, (.u 1), .rw, .ro, .no, .rw, (.all 2), [(0, 7)], false, true⟩,
  ⟨Obj.CNT_SAT_LIST, none, .table, .ro, .ro, .no, .ro, (.all 0), [], false, false⟩,
  ⟨Obj.FLT_COUNT_CLEAR, none, .void, .cmd, .no, .no, .cmd, (.all 0), [], false, false⟩]

/-- Area 0x44. -/
def telemetryObjs : List ObjDesc := [
  ⟨Obj.TEL_SET, (some 8), .table, .rw, .ro, .no, .rw, (.all 0), [], false, true⟩,
  ⟨Obj.TEL_SET_BYTES, (some 8), (.u 2), .ro, .ro, .no, .ro, (.each [22, 0, 0, 0, 0, 0, 0, 0]), [], false, false⟩,
  ⟨Obj.TEL_SNAP, none, (.u 4), .ro, .ro, .no, .ro, (.all 0), [], false, false⟩,
  ⟨Obj.TEL_TEMP, (some 8), (.s 1), .ro, .ro, .no, .ro, (.all 0), [], false, false⟩,
  ⟨Obj.TEL_TEMP_MAX, none, (.s 1), .ro, .ro, .no, .ro, (.all 0), [], false, false⟩,
  ⟨Obj.TEL_VCORE, none, (.u 2), .ro, .ro, .no, .ro, (.all 0), [], false, false⟩,
  ⟨Obj.TEL_ICORE, none, (.u 2), .ro, .ro, .no, .ro, (.all 0), [], false, false⟩,
  ⟨Obj.TEL_FAR_HEALTH, (some 274), (.octets 10), .ro, .ro, .no, .ro, (.all 0), [], false, false⟩,
  ⟨Obj.RMB_LAST, (some 7), .mtime, .ro, .ro, .no, .ro, (.all 0), [], false, false⟩,
  ⟨Obj.RMB_RUNS, (some 7), (.u 4), .ro, .ro, .no, .ro, (.all 0), [], false, false⟩,
  ⟨Obj.RMB_TABLE_CE, none, (.u 4), .ro, .ro, .no, .ro, (.all 0), [], false, false⟩,
  ⟨Obj.RMB_TABLE_UE, none, (.u 4), .ro, .ro, .no, .ro, (.all 0), [], false, false⟩,
  ⟨Obj.RMB_FLASH_FREE, none, (.u 1), .ro, .ro, .no, .ro, (.all 0), [], false, false⟩,
  ⟨Obj.RMB_FLASH_ERASE_MAX, none, (.u 4), .ro, .ro, .no, .ro, (.all 0), [], false, false⟩,
  ⟨Obj.RMB_COUNT_CLEAR, none, .void, .cmd, .no, .no, .cmd, (.all 0), [], false, false⟩]

/-- Area 0x48. -/
def managementObjs : List ObjDesc := [
  ⟨Obj.MG_MAC, (some 2), (.octets 6), .ro, .ro, .no, .ro, (.all 0), [], false, false⟩,
  ⟨Obj.MG_PAIR_ADDR, none, (.octets 6), .rw, .ro, .no, .rw, (.all 0x30088b50001), [], false, true⟩,
  ⟨Obj.MG_GROUP_ADDR, (some 16), (.octets 6), .rw, .ro, .no, .rw, (.all 0), [], false, true⟩,
  ⟨Obj.MG_HASH_BINS, (some 16), .bits32, .ro, .ro, .no, .ro, (.all 0), [], false, false⟩,
  ⟨Obj.MG_ACCEPT_BROADCAST, none, .bool, .rw, .ro, .no, .rw, (.all 0), [(0, 1)], false, true⟩,
  ⟨Obj.MG_ETHERTYPE, none, (.u 2), .rw, .ro, .no, .rw, (.all 34997), [], false, true⟩,
  ⟨Obj.MG_EVENT_TCI, none, (.u 2), .rw, .ro, .no, .rw, (.all 0), [], false, true⟩,
  ⟨Obj.MG_ACCESS_MODE, (some 2), .enum8, .rw, .ro, .no, .rw, (.all 0), [(0, 2)], false, true⟩,
  ⟨Obj.MG_ACCESS_STATE, (some 2), .enum8, .ro, .ro, .no, .ro, (.all 0), [], false, false⟩,
  ⟨Obj.MG_PLCA_STATUS, (some 2), .bool, .ro, .ro, .no, .ro, (.all 0), [], false, false⟩,
  ⟨Obj.MG_PLCA_ID, (some 2), (.u 1), .rw, .ro, .no, .rw, (.all 255), [], false, true⟩,
  ⟨Obj.MG_PLCA_COUNT, (some 2), (.u 1), .rw, .ro, .no, .rw, (.all 8), [(1, 255)], false, true⟩,
  ⟨Obj.MG_PLCA_TO, (some 2), (.u 1), .rw, .ro, .no, .rw, (.all 32), [(1, 255)], false, true⟩,
  ⟨Obj.MG_PLCA_BURST, (some 2), (.u 1), .rw, .ro, .no, .rw, (.all 0), [(0, 255)], false, true⟩,
  ⟨Obj.MG_PLCA_BURST_TIMER, (some 2), (.u 1), .rw, .ro, .no, .rw, (.all 128), [(1, 255)], false, true⟩,
  ⟨Obj.MG_PLCA_ENTER_RATE, none, (.u 2), .rw, .ro, .no, .rw, (.all 100), [(10, 10000)], false, true⟩,
  ⟨Obj.MG_PLCA_ENTER_TIME, none, (.u 2), .rw, .ro, .no, .rw, (.all 2000), [(100, 60000)], false, true⟩,
  ⟨Obj.MG_PLCA_EXIT_RATE, none, (.u 2), .rw, .ro, .no, .rw, (.all 10), [(1, 10000)], false, true⟩,
  ⟨Obj.MG_PLCA_EXIT_TIME, none, (.u 2), .rw, .ro, .no, .rw, (.all 60), [(1, 3600)], false, true⟩,
  ⟨Obj.MG_PLCA_ENTRIES, (some 2), (.u 4), .ro, .ro, .no, .ro, (.all 0), [], false, false⟩,
  ⟨Obj.MG_GATE_EN, (some 2), .bool, .rw, .ro, .no, .rw, (.all 0), [(0, 1)], false, true⟩,
  ⟨Obj.MG_GATE_BASE, (some 2), .mtime, .rw, .ro, .no, .rw, (.all 0), [], false, true⟩,
  ⟨Obj.MG_GATE_LIST, (some 16), (.u 4), .rw, .ro, .no, .rw, (.each [3222225472, 3221225472, 3221225472, 3221225472, 3221225472, 3221225472, 3221225472, 3221225472, 3222225472, 3221225472, 3221225472, 3221225472, 3221225472, 3221225472, 3221225472, 3221225472]), [], false, true⟩,
  ⟨Obj.MG_GATE_CYCLE, (some 2), (.u 4), .ro, .ro, .no, .ro, (.all 1000000), [], false, false⟩,
  ⟨Obj.MG_DELIVER_ERRORED, none, .bool, .rw, .ro, .no, .rw, (.all 0), [(0, 1)], false, true⟩,
  ⟨Obj.MG_OVERSIZE_MODE, none, .enum8, .rw, .ro, .no, .rw, (.all 0), [(0, 1)], false, true⟩,
  ⟨Obj.MG_SEG_SIZE, none, (.u 2), .rw, .ro, .no, .rw, (.all 1024), [(256, 1472)], false, true⟩,
  ⟨Obj.MG_LAST_ERRORED, (some 2), (.octets 64), .ro, .ro, .no, .ro, (.all 0), [], false, false⟩,
  ⟨Obj.MG_RX_FRAMES, (some 2), (.u 8), .ro, .ro, .no, .ro, (.all 0), [], false, false⟩,
  ⟨Obj.MG_RX_BYTES, (some 2), (.u 8), .ro, .ro, .no, .ro, (.all 0), [], false, false⟩,
  ⟨Obj.MG_TX_FRAMES, (some 2), (.u 8), .ro, .ro, .no, .ro, (.all 0), [], false, false⟩,
  ⟨Obj.MG_TX_BYTES, (some 2), (.u 8), .ro, .ro, .no, .ro, (.all 0), [], false, false⟩,
  ⟨Obj.MG_RX_FCS_ERR, (some 2), (.u 4), .ro, .ro, .no, .ro, (.all 0), [], false, false⟩,
  ⟨Obj.MG_RX_SYMBOL_ERR, (some 2), (.u 4), .ro, .ro, .no, .ro, (.all 0), [], false, false⟩,
  ⟨Obj.MG_RX_RUNT, (some 2), (.u 4), .ro, .ro, .no, .ro, (.all 0), [], false, false⟩,
  ⟨Obj.MG_RX_OVERSIZE, (some 2), (.u 4), .ro, .ro, .no, .ro, (.all 0), [], false, false⟩,
  ⟨Obj.MG_RX_FRAGMENTS, (some 2), (.u 4), .ro, .ro, .no, .ro, (.all 0), [], false, false⟩,
  ⟨Obj.MG_RX_FILTERED, (some 2), (.u 4), .ro, .ro, .no, .ro, (.all 0), [], false, false⟩,
  ⟨Obj.MG_RX_OTHER_TYPE, (some 2), (.u 4), .ro, .ro, .no, .ro, (.all 0), [], false, false⟩,
  ⟨Obj.MG_RX_NO_DESC, (some 2), (.u 4), .ro, .ro, .no, .ro, (.all 0), [], false, false⟩]

/-- Area 0x48, further rows. -/
def managementObjs2 : List ObjDesc := [
  ⟨Obj.MG_RX_ABANDONED, (some 2), (.u 4), .ro, .ro, .no, .ro, (.all 0), [], false, false⟩,
  ⟨Obj.MG_TX_COLLISIONS, (some 2), (.u 4), .ro, .ro, .no, .ro, (.all 0), [], false, false⟩,
  ⟨Obj.MG_TX_EXCESS, (some 2), (.u 4), .ro, .ro, .no, .ro, (.all 0), [], false, false⟩,
  ⟨Obj.MG_TX_LATE_COLL, (some 2), (.u 4), .ro, .ro, .no, .ro, (.all 0), [], false, false⟩,
  ⟨Obj.MG_TX_BULK_ABORTS, (some 2), (.u 4), .ro, .ro, .no, .ro, (.all 0), [], false, false⟩,
  ⟨Obj.MG_SAT, (some 2), .bits32, .ro, .ro, .no, .ro, (.all 0), [], false, false⟩,
  ⟨Obj.MG_COUNT_CLEAR, (some 2), .void, .cmd, .no, .no, .cmd, (.all 0), [], false, false⟩]

/-- Area 0x50. -/
def updateObjs : List ObjDesc := [
  ⟨Obj.UPD_MANIFEST, none, .table, .rw, .no, .no, .rw, (.all 0), [], false, false⟩,
  ⟨Obj.UPD_PIECE, (some 2016), .table, .wo, .no, .no, .wo, (.all 0), [], false, false⟩,
  ⟨Obj.UPD_BITMAP, none, (.octets 252), .ro, .ro, .no, .ro, (.all 0), [], false, false⟩,
  ⟨Obj.UPD_PIECES_LEFT, none, (.u 2), .ro, .ro, .no, .ro, (.all 0), [], false, false⟩,
  ⟨Obj.UPD_STATE, none, .enum8, .ro, .ro, .ro, .ro, (.all 0), [], false, false⟩,
  ⟨Obj.UPD_RATE_MAX, none, (.u 2), .rw, .ro, .no, .rw, (.all 8), [(1, 600)], false, true⟩,
  ⟨Obj.UPD_OWNER_LOCK, none, .bool, .rw, .ro, .no, .rw, (.all 0), [(0, 1)], false, true⟩,
  ⟨Obj.UPD_ACTIVATE, none, .void, .cmd, .no, .no, .cmd, (.all 0), [], false, false⟩,
  ⟨Obj.UPD_REVERT, none, .void, .cmd, .no, .no, .cmd, (.all 0), [], false, false⟩,
  ⟨Obj.UPD_DISCARD, none, .void, .cmd, .no, .no, .cmd, (.all 0), [], false, false⟩,
  ⟨Obj.UPD_TRIAL_LEFT, none, (.u 4), .ro, .ro, .no, .ro, (.all 0), [], false, false⟩,
  ⟨Obj.UPD_REFUSAL, none, .enum8, .ro, .ro, .no, .ro, (.all 0), [], false, false⟩,
  ⟨Obj.SLOT_VERSION, (some 2), (.u 4), .ro, .ro, .no, .ro, (.all 0), [], false, false⟩,
  ⟨Obj.SLOT_STATE, (some 2), .enum8, .ro, .ro, .no, .ro, (.all 0), [], false, false⟩,
  ⟨Obj.UPD_FALLBACKS, none, (.u 4), .ro, .ro, .no, .ro, (.all 0), [], false, false⟩,
  ⟨Obj.GAIN_ROWS_MAX, none, (.u 2), .ro, .ro, .no, .ro, (.all 0), [], false, false⟩]

/-- Area 0x54. -/
def securityObjs : List ObjDesc := [
  ⟨Obj.SEC_ID_PUBKEY, none, (.octets 32), .ro, .ro, .ro, .ro, (.all 0), [], false, false⟩,
  ⟨Obj.SEC_ID_CERT, none, .table, .ro, .ro, .no, .ro, (.all 0), [], false, false⟩,
  ⟨Obj.SEC_ATTEST, none, (.octets 32), .cmd, .no, .no, .cmd, (.all 0), [], false, false⟩,
  ⟨Obj.SEC_ATTEST_STATE, none, .enum8, .ro, .ro, .no, .ro, (.all 0), [], false, false⟩,
  ⟨Obj.SEC_EVIDENCE, none, .table, .ro, .ro, .no, .ro, (.all 0), [], false, false⟩,
  ⟨Obj.SEC_KEY_STATE, (some 4), .enum8, .ro, .ro, .no, .ro, (.all 0), [], false, false⟩,
  ⟨Obj.SEC_KEY_PUB, (some 4), (.octets 32), .ro, .ro, .no, .ro, (.all 0), [], false, false⟩,
  ⟨Obj.SEC_KEY_REVOKE, (some 4), .void, .cmd, .no, .no, .cmd, (.all 0), [], false, false⟩,
  ⟨Obj.SEC_LIFECYCLE_SET, none, .enum8, .no, .no, .no, .cmd, (.all 0), [(1, 2)], false, false⟩]

/-- Area 0x58. -/
def calibrationObjs : List ObjDesc := [
  ⟨Obj.CAL_LANE_PRESET, (some 274), (.u 1), .rw, .ro, .no, .rw, (.all 0), [(0, 7)], false, false⟩,
  ⟨Obj.CAL_TEMP_TRIM, (some 8), (.s 2), .rw, .ro, .no, .rw, (.all 0), [(-2000, 2000)], false, false⟩,
  ⟨Obj.CAL_LOSC_PPT, none, (.s 4), .rw, .ro, .no, .rw, (.all 0), [(-200000000, 200000000)], false, false⟩,
  ⟨Obj.CAL_AP_IN_DELAY, (some 32), (.u 1), .rw, .ro, .no, .rw, (.all 0), [(0, 255)], false, false⟩,
  ⟨Obj.CAL_HBM_SEED, (some 64), (.octets 64), .rw, .ro, .no, .rw, (.all 0), [], false, false⟩,
  ⟨Obj.CAL_SET, none, .table, .rw, .ro, .no, .rw, (.all 0), [], false, false⟩,
  ⟨Obj.CAL_STATE, none, .enum8, .ro, .ro, .no, .ro, (.all 0), [], false, false⟩,
  ⟨Obj.CAL_ORIGIN, none, .enum8, .ro, .ro, .no, .ro, (.all 0), [], false, false⟩,
  ⟨Obj.CAL_CRC, none, (.u 4), .ro, .ro, .no, .ro, (.all 0), [], false, false⟩]

/-- Area 0x60. -/
def debugObjs : List ObjDesc := [
  ⟨Obj.DBG_STATE, none, .enum8, .ro, .ro, .no, .ro, (.all 0), [], false, false⟩,
  ⟨Obj.DBG_HALTED, none, .bits32, .ro, .ro, .no, .ro, (.all 0), [], false, false⟩,
  ⟨Obj.DBG_REFUSED, none, (.u 4), .ro, .ro, .no, .ro, (.all 0), [], false, false⟩,
  ⟨Obj.DBG_HALT_REFUSED, none, (.u 4), .ro, .ro, .no, .ro, (.all 0), [], false, false⟩,
  ⟨Obj.DBG_MEM_ACCESSES, none, (.u 4), .ro, .ro, .no, .ro, (.all 0), [], false, false⟩,
  ⟨Obj.BUS_QOS, (some 9), (.u 1), .rw, .ro, .no, .rw, (.each [8, 8, 8, 8, 4, 10, 6, 0, 4]), [(0, 15)], false, true⟩,
  ⟨Obj.BUS_OUTSTANDING_MAX, (some 9), (.u 1), .ro, .ro, .no, .ro, (.all 0), [], false, false⟩,
  ⟨Obj.BUS_ERRORS, (some 9), (.u 4), .ro, .ro, .no, .ro, (.all 0), [], false, false⟩,
  ⟨Obj.BUS_AGED, (some 12), (.u 4), .ro, .ro, .no, .ro, (.all 0), [], false, false⟩,
  ⟨Obj.BUS_GRANTS, (some 12), (.u 8), .ro, .ro, .no, .ro, (.all 0), [], false, false⟩,
  ⟨Obj.DBG_COUNT_CLEAR, none, .void, .cmd, .no, .no, .cmd, (.all 0), [], false, false⟩]

/-- The object tables of one area (Table 12.1); none where the area is not listed. -/
def areaObjs (area : Nat) : List ObjDesc :=
  match area with
  | 0x01 => identityObjs
  | 0x02 => deviceObjs
  | 0x03 => twinObjs
  | 0x10 => crosspointObjs
  | 0x11 => takesObjs
  | 0x14 => inputsObjs
  | 0x15 => outputsObjs
  | 0x18 => packetObjs ++ packetObjs2
  | 0x1C => frameSyncObjs
  | 0x20 => compositionObjs
  | 0x21 => canopyObjs
  | 0x28 => shuffleObjs
  | 0x29 => mixerObjs
  | 0x2A => tdmObjs
  | 0x30 => lanesObjs
  | 0x34 => frameMemoryObjs
  | 0x38 => referencesObjs
  | 0x3C => clocksObjs
  | 0x40 => faultsObjs
  | 0x44 => telemetryObjs
  | 0x48 => managementObjs ++ managementObjs2
  | 0x50 => updateObjs
  | 0x54 => securityObjs
  | 0x58 => calibrationObjs
  | 0x60 => debugObjs
  | _ => []

/-- The descriptor of an object number (R404, R405). -/
def objDesc (num : Nat) : Option ObjDesc := (areaObjs (num / 65536)).find? (fun o => o.num == num)

/-- The default of element `i` of a row (R408). -/
def Dflt.val (d : Dflt) (i : Nat) : Nat :=
  match d with
  | .all v => v
  | .each vs => vs.getD i 0

/-- The bytes of a value of fixed length; none for TEXT and TABLE (Table 12.2). -/
def Ty.size (t : Ty) : Option Nat :=
  match t with
  | .bool => some 1
  | .u n => some n
  | .s n => some n
  | .enum8 => some 1
  | .bits32 => some 4
  | .mtime => some 12
  | .octets n => some n
  | .text _ => none
  | .table => none
  | .void => some 0

/-- The key of element `i` of object `num` in the register file. -/
def objKey (num i : Nat) : Nat := num * 65536 + i

/-- What an unlisted key of the register file reads as: the default of the object table (R408). -/
def keyDefault (k : Nat) : Nat :=
  match objDesc (k / 65536) with
  | some o => o.dflt.val (k % 65536)
  | none => 0

end Sys2Proof.Machine
end

