-- ==== Sys2Proof/Machine/MediaTime.lean ====
section
/-! DEFINITION. Media Time as a number of 2^-16 ns, its 96-bit MTIME encoding, and the grids that hang on it
(R57 to R59, R65, R66). -/

namespace Sys2Proof.Machine

/-- Units of 2^-16 ns in one ns, one second. -/
def subNs : Nat := 65536
def subSec : Nat := 65536000000000

/-- Media Time wraps after 2^48 s (R58). -/
def mtWrap : Nat := 2 ^ 48 * subSec

/-- The 96-bit encoding SECONDS, NANOSECONDS, SUBNS of a Media Time (R57). -/
def mtEncode (t : Nat) : Nat :=
  t / subSec % 2 ^ 48 * 2 ^ 48 + t % subSec / subNs * 2 ^ 16 + t % subNs

/-- The Media Time that a 96-bit encoding names. -/
def mtDecode (v : Nat) : Nat :=
  v / 2 ^ 48 % 2 ^ 48 * subSec + v / 2 ^ 16 % 2 ^ 32 * subNs + v % 2 ^ 16

/-- NANOSECONDS is below 10^9 (Table 12.2). -/
def mtValid (v : Nat) : Bool := decide (v / 2 ^ 16 % 2 ^ 32 < 1000000000)

/-- Milliseconds and microseconds of Media Time. -/
def msMt (n : Nat) : Nat := n * 1000000 * subNs
def usMt (n : Nat) : Nat := n * 1000 * subNs

/-- The 4 ns count of a Media Time (R59). -/
def fourNs (t : Nat) : Nat := t / (4 * subNs)

/-- The TIME field of a Basket header: the low 16 bits of the 4 ns count (R59). -/
def timeField (t : Nat) : Nat := fourNs t % 65536

/-- A period as an exact fraction of a second: `num / den` s. -/
structure Period where
  num : Nat
  den : Nat
deriving DecidableEq, Repr

/-- The first 4 ns tick at or after `n` periods from the epoch plus `off` ns (R65, R188), as Media Time. -/
def periodStart (p : Period) (n off : Nat) : Nat :=
  let x := n * p.num * 1000000000 + off * p.den
  (x + 4 * p.den - 1) / (4 * p.den) * (4 * subNs)

/-- The number of the last period that began at or before `t` (period starts unrounded). -/
def periodIndex (p : Period) (t : Nat) : Nat := t * p.den / (p.num * subSec)

/-- `n` periods in units of 2^-16 ns, truncated. -/
def periodsMt (p : Period) (n : Nat) : Nat := n * p.num * subSec / p.den

/-- The Media Time stamp of audio block `n`: n / 3000 s, truncated to SUBNS (R66). -/
def blockTime (n : Nat) : Nat := n * subSec / 3000

/-- The first block whose stamp is at or after `t`. -/
def blockAtOrAfter (t : Nat) : Nat := (t * 3000 + subSec - 1) / subSec

end Sys2Proof.Machine
end

