-- ==== Sys2Proof/Machine/Sparse.lean ====
section
/-! DEFINITION. Sparse maps in one canonical form: keys strictly rising, and no entry equal to what an
unlisted key reads as. The object register file, the frame memory and every per-element table use it. -/

namespace Sys2Proof.Machine

/-- A sparse map: (key, value) pairs. -/
abbrev SMap (α : Type) := List (Nat × α)

/-- The value at key `k`; `d` where the map lists none. -/
def smGet {α : Type} (m : SMap α) (k : Nat) (d : α) : α :=
  match m with
  | [] => d
  | (j, v) :: r => if j = k then v else if k < j then d else smGet r k d

/-- The map with `v` at key `k`; an entry equal to the default `d` is removed. -/
def smSet {α : Type} [DecidableEq α] (m : SMap α) (k : Nat) (v d : α) : SMap α :=
  match m with
  | [] => if v = d then [] else [(k, v)]
  | (j, u) :: r =>
    if k < j then (if v = d then (j, u) :: r else (k, v) :: (j, u) :: r)
    else if j = k then (if v = d then r else (k, v) :: r)
    else (j, u) :: smSet r k v d

/-- Every key of the map is above `k`. -/
def smAbove {α : Type} (k : Nat) : SMap α → Bool
  | [] => true
  | (j, _) :: r => decide (k < j) && smAbove k r

/-- The canonical form, for defaults `d k`. -/
def smWf {α : Type} [DecidableEq α] (d : Nat → α) : SMap α → Bool
  | [] => true
  | (k, v) :: r => decide (v ≠ d k) && smAbove k r && smWf d r

/-- The listed keys. -/
def smKeys {α : Type} (m : SMap α) : List Nat := m.map (·.1)

end Sys2Proof.Machine
end

