-- ==== Sys2Proof/Machine/Parts.lean ====
section
/-! DEFINITION. The parts of the state that are no object of the dictionary, unit by unit: timers, queues, negotiations,
buffers, records in flash. Times named `At`, `End` or `Since` are on the elapsed-time clock in ns, `e` on Media Time in
2^-16 ns, unless a comment says otherwise. -/

namespace Sys2Proof.Machine

/-! ### Time, life cycle -/

/-- The Media Time Counter and the elapsed-time clock (R57, R58, R60). -/
structure TimeX where
  /-- Media Time in units of 2^-16 ns. -/
  mt : Nat := 0
  /-- The 32-bit fractional accumulator below SUBNS. -/
  frac : Nat := 0
  /-- Correction still to be slewed in, in units of 2^-48 ns. -/
  slewLeft : Int := 0
  /-- Elapsed time since reset, ns. -/
  clock : Nat := 0
deriving DecidableEq, Repr

/-- The device states behind DEV_STATE (Table 12.14); `running` reads STANDBY or ACTIVE by R349. -/
inductive Phase where
  | booting | selfTest | layBy | starting | running | fail | lockout
deriving DecidableEq, Repr

/-- Where the edge root runs from (R53, R54). -/
inductive EdgeRoot where
  | boot | localOsc | laneRef
deriving DecidableEq, Repr

/-- References, selector, Thermos, LOCAL_OSC, time of day (R34 to R63). -/
structure RefX where
  /-- Bit i: input i of Table 2.1 shows activity. -/
  active : Nat := 0
  /-- Ends of the wait-to-restore timers, by input; 0 none. -/
  wtrEnd : SMap Nat := []
  /-- Updates since activity appeared, by input, and since the gate of ABSENT → DISQUALIFIED started afresh; 1PPS edges for TIME_IN;
  at most a full gate (R39). -/
  gateRun : SMap Nat := []
  gateFresh : SMap Nat := []
  /-- 27 MHz cycles between a SYNC input's last good frame pulse and the last pulse of any spacing (R37). -/
  pulseGap : SMap Nat := []
  /-- A candidate's state changed, or any input's, during SWITCHING (R47). -/
  evalDue : Bool := false
  changedDue : Bool := false
  /-- End of the switch window; the frequency held in it, in ppt from LOCAL_OSC (R46). -/
  windowEnd : Nat := 0
  heldFreq : Int := 0
  /-- Phase build-out offset, in 2^-16 ns, and the bandwidth of the loop, in tenths of a hertz; 0 none (R46). -/
  buildOut : Int := 0
  loop : Nat := 0
  /-- The candidates of equal rank whose disagreement kept the current input; none where R45 kept nothing. -/
  kept : List Nat := []
  /-- Records not yet 5 s old, newest first, and the count of records held (R50). -/
  recent : List Int := []
  records : Nat := 0
  /-- Weighted sum of the records, in 2^-64 ppt, and of their weights, in 2^-64 (R50). -/
  meanSum : Int := 0
  meanWeight : Nat := 0
  /-- When the selected input was last disqualified in LOCKED: the record of that second is discarded. -/
  spoiledAt : Option Nat := none
  /-- Start of the HOLDOVER in force. -/
  holdSince : Nat := 0
  loscLost : Bool := false
  loscStable : Bool := false
  /-- Since when the cycles of LOCAL_OSC count toward stability; none while it is lost (R53). -/
  loscFrom : Option Nat := some 0
  edgeRoot : EdgeRoot := .boot
  /-- SECONDS of the message accepted for the next 1PPS edge (R38). -/
  todNext : Option Nat := none
  /-- Consecutive messages discarded. -/
  todBad : Nat := 0
  /-- The last 1PPS edge. -/
  ppsAt : Option Nat := none
  /-- The last accepted message, or the appearance of activity on TIME_IN (Table 2.1). -/
  todFrom : Nat := 0
  /-- TIME_IN entered QUALIFIED: compare at the next edge (R61). -/
  compareDue : Bool := false
  /-- MT_STEP_APPLY armed (R63). -/
  stepArmed : Bool := false
  /-- Start of the current lane-reference step window (R91); its end. -/
  refStepEnd : Nat := 0
deriving DecidableEq, Repr

/-- One captured or live divider setting of a CLKOUT (R68). -/
structure ClkSet where
  int : Nat := 148
  num : Nat := 4
  den : Nat := 27
deriving DecidableEq, Repr

/-- The synthesiser's programmable outputs (R69 to R72). -/
structure SynthX where
  live : List ClkSet := [{}, {}, {}, {}]
  captured : Option (List ClkSet) := none
  /-- The update instant, Media Time. -/
  updateE : Nat := 0
  /-- The reset instant after FRAME_SYNC_IN. -/
  resetAt : Option Nat := none
  /-- Each CLKOUT's last divider restart; an update or a reset restarts it (R70, R71). -/
  restartAt : SMap Nat := []
  /-- The end of each changed CLKOUT's last old cycle, plus one: it is low from there to its restart (R70). -/
  lowFrom : SMap Nat := []
  /-- CLKOUT stopped by lockout (R455). -/
  stopped : Bool := false
deriving DecidableEq, Repr

/-- A write whose reply waits for gates (R77, R79): the gates still waiting with the item that names each, and the first item whose
close ended BUSY. -/
structure GateReply where
  req : Req
  kind : Nat
  e : Nat
  left : List (Nat × Nat)
  busy : Option Nat
deriving DecidableEq, Repr

/-- Gates and AVS (R75 to R79, R13 to R15, R547, R562). -/
structure ClockX where
  /-- Deadlines of waiting close requests, by gate; 0 none (R77). -/
  waiting : SMap Nat := []
  replies : List GateReply := []
  /-- RESULT of each gate's last request (Table 2.10). -/
  result : SMap Nat := []
  /-- Consecutive evaluations above target plus 4 % (R14). -/
  above : Nat := 0
  /-- Consecutive failed AVSBus transactions (Table 13.14). -/
  busFails : Nat := 0
  /-- The regulator's last answered STATUS word. -/
  avsStatus : Nat := 0
deriving DecidableEq, Repr

/-! ### Lanes -/

/-- A Basket inside the device: after its checks on ingress, before its serialisation on egress (Table 4.1). -/
structure Basket where
  type : Nat := 0
  valid : Bool := false
  mark : Nat := 0
  seq : Nat := 0
  count : Nat := 0
  offset : Nat := 0
  time : Nat := 0
  payload : Bytes := []
deriving DecidableEq, Repr

/-- Where the receiver's negotiation stands (R101). -/
inductive NegPhase where
  /-- Sweeping presets. -/
  | sweep (p : Nat)
  /-- The best preset is requested. -/
  | best
  /-- A step of tap `tap` (0 POST1, 1 PRE1, 2 PRE2) in direction `dir` (0 increment, 1 decrement). -/
  | step (tap dir : Nat)
  /-- The opposite step is requested after a step that gained less than 2 mV. -/
  | undo (tap dir : Nat)
  | done
deriving DecidableEq, Repr

/-- The receiver's negotiation (R99, R101). -/
structure NegX where
  phase : NegPhase := .done
  margins : List Nat := []
  /-- Margin before the step in hand. -/
  base : Nat := 0
  improved : Bool := false
  steps : Nat := 0
  /-- The far end has answered the request; hold is sent until its status reads 0. -/
  answered : Bool := false
  /-- The answer was minimum or maximum. -/
  refused : Bool := false
  /-- The status fields have read 0 since: the margin may be measured. -/
  cleared : Bool := false
  /-- The far transmitter's taps as the answered requests left them, and whether the last step moved MAIN too. -/
  far : Nat := 0
  withMain : Bool := false
deriving DecidableEq, Repr

/-- An Ethernet frame as its Baskets arrive in a slot (R134): the next OFFSET, the bytes so far and their number, or, once it is lost, the
rest of it to ignore. -/
structure FrameAsm where
  next : Nat := 0
  bytes : Nat := 0
  data : Bytes := []
  lost : Bool := false
deriving DecidableEq, Repr

/-- A Basket in a lane receive buffer: its port, the holes inserted before it (256 a discontinuity), and the instant of its stamp,
Media Time (R135, R140). -/
structure RxEntry where
  port : Nat
  holes : Nat
  stampAt : Nat
  basket : Basket
deriving DecidableEq, Repr

/-- One lane pair beyond its objects. -/
structure LaneX where
  termHits : Nat := 0
  gotWord : Bool := false
  rxReady : Bool := false
  readyWords : Nat := 0
  neg : NegX := {}
  /-- The far end's request last applied, bits 46:35 of its word, and our status fields (R98). -/
  farReq : Nat := 0
  status : Nat := 0
  /-- Start times of charged transitions, newest first (R108). -/
  charged : List Nat := []
  goodRun : Nat := 0
  /-- The pattern checker of TEST (R104): bits it has seeded with and its register; bits compared since, up to 1,024, the mismatches
  among the latest 1,024 as a shift register, latest in bit 0, and their number. -/
  testSeed : Nat := 0
  testReg : Nat := 0
  testBits : Nat := 0
  testHist : Nat := 0
  testErrs : Nat := 0
  /-- Block lock (R102): consecutive UI within the phase limit, up to 10,000; consecutive valid sync headers, up to 64; consecutive
  Baskets whose 0b10 header stood in its place, up to 4; the invalid headers of the latest 64 blocks, latest in bit 0; the last
  Basket had a 0b10 header out of its place. -/
  uiRun : Nat := 0
  validRun : Nat := 0
  placedRun : Nat := 0
  syncHist : Nat := 0
  lastMisplaced : Bool := false
  blockLock : Bool := false
  /-- The latest 58 received bits, latest in bit 0 (R89). -/
  descram : Nat := 0
  /-- Bad Baskets and invalid sync headers of the current 1 ms window, and its index; those of the last whole one. -/
  winIndex : Nat := 0
  winBad : Nat := 0
  winSync : Nat := 0
  prevBad : Nat := 0
  prevSync : Nat := 0
  winOver : Bool := false
  prevOver : Bool := false
  /-- Cycle lock (R125): bit i: the Basket i before the latest was a good SERVICE Basket; the cycle position of the next Basket; a cycle
  that began in ACTIVE has begun (R103). -/
  svcHist : Nat := 0
  cycleLock : Bool := false
  pos : Nat := 0
  live : Bool := false
  farCaps : Option (BitVec 160) := none
  farOk : Bool := false
  ourAcked : Bool := false
  slotStatus : BitVec 128 := 0
  /-- The last HEALTH body (R148); the last eye measurement was low (R115). -/
  health : Nat := 0
  lowEye : Bool := false
  /-- Expected SEQ per slot, plus one; 0 none (R140). -/
  expect : SMap Nat := []
  /-- IDLE Baskets in a row, per slot, up to 64 (R157). -/
  idleRun : SMap Nat := []
  /-- When a twin link last left ACTIVE; none while ACTIVE or before its first (Table 13.5). -/
  leftActive : Option Nat := none
  /-- The stamp of the packet frame in progress, and the frame itself, by slot (R134, R135). -/
  stamp : SMap Nat := []
  asm : SMap FrameAsm := []
  /-- The lane receive buffer, oldest first (R12, R140). -/
  rx : List RxEntry := []
deriving DecidableEq, Repr

/-- One lane pair's transmitter (R124, R127, R142). -/
structure LaneTx where
  /-- Cycle position of the next Basket, lane cycle count, last Basket sent. -/
  pos : Nat := 0
  cycle : Nat := 0
  last : Option (BitVec 64 × Bytes) := none
  /-- One-shot service messages waiting: code and body. -/
  svc : List (Nat × Bytes) := []
  statusAt : Nat := 0
  healthAt : Nat := 0
  sentStatus : Bytes := []
  /-- A cycle that began in ACTIVE has begun (R103). -/
  live : Bool := false
  /-- The registers of the idle fill, the training frames and the test pattern (R95, R104, R106), and the scrambler's, latest bit in
  bit 0 (R89). DESIGN CHOICE (log 114): a pattern register starts at 1 and the scrambler at 0; the spec gives neither. -/
  prbs : Nat := 1
  train : Nat := 1
  test : Nat := 1
  scram : Nat := 0
  /-- The 33 blocks last sent, as they stand on the line: the two bits of the sync header, and the block (R87, R88). In TEST they are
  33 times 66 raw bits. -/
  line : List (BitVec 2 × BitVec 64) := []
deriving DecidableEq, Repr

/-- What a slot group's spare is moving (R111, R112). -/
inductive Move where
  | none
  /-- The spare is being brought up to take lane `l` over. -/
  | bringUp (l : Nat)
  | takeover (l : Nat)
  | release (l : Nat)
deriving DecidableEq, Repr

/-- One slot group's spare sequence (R109 to R114, R560, R561). -/
structure GroupX where
  move : Move := .none
  acked : Bool := false
  /-- The far end's SPARE_GO has come: the receive direction has moved. Our SPARE_GO has left: the transmit direction has moved. -/
  goSeen : Bool := false
  goSent : Bool := false
  goLeft : Nat := 0
  /-- The pair on which SPARE_GO goes out, and the lane it names. -/
  goOn : Nat × Nat := (0, 0)
  /-- Retirements waiting for the next retirement point: lanes 0 to 16. -/
  retire : List Nat := []
  checking : Bool := false
  /-- LANE_PRBS_ERR as the check of the spare began. -/
  checkFrom : Nat := 0
  checkFailed : Bool := false
  /-- The lane whose slots a spare was carrying when it was retired: a restart of the spare takes them again (R113). -/
  orphan : Option Nat := none
deriving DecidableEq, Repr

/-! ### Faults, events, telemetry -/

/-- One event record (R437). -/
structure EvRec where
  code : Nat
  sev : Nat
  flags : Nat := 0
  time : Nat
  ref : Ref
  data : Bytes := []
deriving DecidableEq, Repr

/-- One Trail Log entry (Table 13.15). -/
structure TrailEntry where
  seq : Nat
  time : Nat
  code : Nat
  sev : Nat
  flags : Nat
  ref : Nat
  value : Nat
deriving DecidableEq, Repr

/-- A reaction that reaches outside the collector; it is carried out when the command that caused it ends. -/
inductive Reaction where
  | retire (c : Channel)
  | dropPass
  | failStop
  | lockout
  /-- A reset that the device starts itself, with its RESET_CAUSE. -/
  | reset (cause : Nat)
deriving DecidableEq, Repr

/-- The fault collector beyond its objects (R441 to R456). -/
structure FltX where
  /-- Unit error lines, by group. -/
  lines : SMap Nat := []
  /-- Ends of the "in the last 1 s" conditions, by source. -/
  pulses : SMap Nat := []
  /-- The channel each source last named. -/
  chans : SMap (Option Channel) := []
  /-- Elapsed time of each source's last Trail Log entry, plus one. -/
  lastEntry : SMap Nat := []
  /-- Sources that joined their group's timer, and the timers' ends; 0 stopped. -/
  joined : SMap Nat := []
  escEnd : SMap Nat := []
  /-- Sources that have taken an ALARM_N reaction, by group. -/
  alarmed : SMap Nat := []
  /-- Saturated counters, by reference (CNT_SAT_LIST). -/
  sat : List Nat := []
  todo : List Reaction := []
deriving DecidableEq, Repr

/-! ### Management ports and messages -/

/-- A frame in a transmit ring (R389, R393). -/
structure TxFrame where
  da : BitVec 48
  tag : Option (BitVec 16)
  msg : Bytes
  urgent : Bool := false
  /-- Number of the response it belongs to, 0 for an EVENT; whether it is the last segment; whether it is on its second
  placement (R394). -/
  resp : Nat := 0
  last : Bool := true
  segmented : Bool := false
  again : Bool := false
deriving DecidableEq, Repr

/-- One management port's MAC (R381 to R400). -/
structure MacX where
  urgent : List TxFrame := []
  normal : List TxFrame := []
  /-- Frames that firmware holds until a ring has room. -/
  waiting : List TxFrame := []
  /-- The frame on the wire, its collision count, and when its last bit has left. -/
  flight : Option TxFrame := none
  tries : Nat := 0
  endAt : Nat := 0
  /-- The bytes of the frame that began its preamble last, from DA to FCS (R395). -/
  wire : Bytes := []
  /-- End of the backoff being waited (R382). -/
  backoff : Option Nat := none
  /-- The access method that the port takes once the frame on the wire is done (R381). -/
  method : Option Nat := none
  /-- Next descriptor of the receive ring, and the descriptors as last completed (Table 11.4). -/
  rxNext : Nat := 0
  rxDesc : SMap (BitVec 128) := []
  /-- Collisions and busy cycles of the current 100 ms window, whether a BEACON was seen in it, and the runs of windows
  above or below the limits (R386, R387). -/
  winColl : Nat := 0
  winBusy : Nat := 0
  winBeacon : Bool := false
  enterRun : Nat := 0
  exitRun : Nat := 0
  /-- The 100 ms window in progress, and when the latest BEACON came. -/
  winK : Nat := 0
  beaconAt : Nat := 0
  /-- Gate settings in force: enable, base, the 8 entries (R392, Table 11.2). -/
  gateEn : Bool := false
  gateBase : Nat := 0
  gateList : List Nat := [0xC00F4240, 0xC0000000, 0xC0000000, 0xC0000000, 0xC0000000, 0xC0000000, 0xC0000000, 0xC0000000]
deriving DecidableEq, Repr

/-- A response as it stands before it is cut into frames (R423). -/
structure Resp where
  kind : Nat
  req : Req
  status : Nat
  late : Bool
  count : Nat
  payload : Bytes
  urgent : Bool
deriving DecidableEq, Repr

/-- A response kept for repeats (R422). -/
structure Kept where
  at_ : Nat
  resp : Resp
deriving DecidableEq, Repr

/-- What a message asks, by KIND (Table 12.5); `bad` is a payload that does not parse, or a kind of no request. -/
inductive Payload where
  | read (refs : List Ref)
  | write (apply : BitVec 96) (it : Item)
  | writeSet (apply : BitVec 96) (items : List Item)
  | command (apply : BitVec 96) (ref : Ref) (arg : Bytes)
  | take (recs : List (BitVec 128))
  | subscribe (recs : List (BitVec 256))
  | bulkRead (ref : Ref) (offset size : BitVec 32)
  | bulkWrite (b : BulkPiece)
  | bad (kind : BitVec 4) (bytes : Bytes)
deriving DecidableEq, Repr

/-- One element to be written: object, element, value in its wire encoding. -/
structure Wr where
  num : Nat
  idx : Nat
  val : Bytes
deriving DecidableEq, Repr

/-- What a pending write does at its E. -/
inductive Act where
  | writes (ws : List Wr)
  | command (num idx : Nat) (arg : Bytes)
  | subscribe (port : Port) (src : BitVec 48) (recs : List (BitVec 256))
deriving DecidableEq, Repr

/-- An accepted write whose E has not come (R411, R412, R421). -/
structure Pend where
  e : Nat
  seq : Nat
  port : Port
  act : Act
deriving DecidableEq, Repr

/-- A pair-addressed message that a device without the Day Pass keeps for its SEAL (R342, R343). -/
structure Copy where
  req : Req
  payload : Payload
  arrived : Nat
  /-- A SEAL has matched it. -/
  done : Bool := false
deriving DecidableEq, Repr

/-- An open BULK_WRITE transfer (R431). -/
structure Bulk where
  port : Port
  src : BitVec 48
  ref : Ref
  size : Nat
  staged : Bytes
  lastOff : Nat
  lastAt : Nat
deriving DecidableEq, Repr

/-- A subscription beyond its record (R435, R437 to R439). -/
structure SubX where
  /-- The source of the subscription; 0 where a join brought the entry. -/
  src : BitVec 48 := 0
  recs : List EvRec := []
  firstAt : Nat := 0
  dropped : Nat := 0
  secStart : Nat := 0
  secCount : Nat := 0
  endAt : Nat := 0
  noticeAt : Nat := 0
  changed : Bool := false
deriving DecidableEq, Repr

/-- A write to a setting of its own port, or a reset with its cause, that waits for its reply to leave (R375, R495,
Table 12.14). -/
structure Deferred where
  port : Port
  resp : Nat
  writes : List Wr
  reset : Option Nat := none
deriving DecidableEq, Repr

/-- The protocol engine (R420 to R439). -/
structure ChanX where
  kept : List Kept := []
  respNo : Nat := 0
  order : Nat := 0
  pend : List Pend := []
  copies : List Copy := []
  bulks : List Bulk := []
  subOwn : SMap SubX := []
  subPair : SMap SubX := []
  deferred : List Deferred := []
  /-- The Canopy port's reply that waits for its turn (R270). -/
  cnReply : Option Bytes := none
deriving DecidableEq, Repr

/-! ### Twin operation -/

/-- A record waiting for an INTERNAL Basket of TW_0 (R361 to R363): code, RSEQ, body, copies still to send. -/
structure TwRec where
  code : Nat
  rseq : Nat
  body : Bytes
  copies : Nat
deriving DecidableEq, Repr

/-- A SEAL that found no copy yet, or that waits for a snapshot with its message in `fetched` (R343, R365). -/
structure SealX where
  seq : Nat
  port : Port
  src : BitVec 48
  reqId : BitVec 32
  crc : Nat
  e : Nat
  fetched : Bytes := []
  /-- Parts of the WRITE_COPY received so far. -/
  parts : Nat := 0
deriving DecidableEq, Repr

/-- Where a join stands (Table 10.5). -/
inductive JoinStep where
  | none | requested | acked | loading | filling | verifying | switching
deriving DecidableEq, Repr

/-- Twin operation of a member of a pair (R340 to R369). -/
structure TwinX where
  /-- SOLO in force since the last START (R341). -/
  solo : Bool := false
  /-- End of the lease (R348); none where no lease runs. -/
  leaseEnd : Option Nat := none
  sealSeq : Nat := 0
  rseq : Nat := 0
  /-- RSEQs seen from the peer, newest first, for second copies (R363). -/
  rseqSeen : List Nat := []
  txSeq : Nat := 0
  rxSeq : Option Nat := none
  recs : List TwRec := []
  /-- The peer's latest ROLL_CALL and when it came. -/
  roll : Option (Nat × BitVec 256) := none
  seals : List SealX := []
  /-- Messages sealed and kept for WRITE_FETCH: SEAL_SEQ and message bytes. -/
  sealed : List (Nat × Bytes) := []
  /-- Digests of windows, by index, and the first window whose whole configuration was the holder's (R356). -/
  digests : SMap Nat := []
  validFrom : Nat := 0
  /-- Latest object snapshot: index and digest; the one before it (R357). -/
  snapIndex : Nat := 0
  snapDigest : Nat := 0
  prevSnapIndex : Nat := 0
  prevSnapDigest : Nat := 0
  snapValid : Bool := false
  prevSnapValid : Bool := false
  digestBad : Bool := false
  objBad : Bool := false
  join : JoinStep := .none
  joinTs : Nat := 0
  nextPart : Nat := 0
  /-- Parts of the snapshot received so far. -/
  snapItems : List Item := []
  snapRun : List RunItem := []
  /-- Joiner: matching windows in a row, and the index of the last one; whether an object snapshot matched. -/
  verified : Nat := 0
  lastWin : Nat := 0
  snapMatched : Bool := false
  /-- Holder: a join is served, and its snapshot is due at this Media Time. -/
  serving : Option Nat := none
  /-- Entries to SUSPECT in the last hour; the rejoin time. -/
  suspects : List Nat := []
  rejoinAt : Option Nat := none
  /-- Holder: absent positions (flow, frame, position) and blocks (AO, block) of the presence windows in progress. -/
  presV : List (Nat × Nat × Nat) := []
  presA : List (Nat × Nat) := []
  /-- Standby: presence records by window, with FINAL and entries, newest first (R227, R283). -/
  winV : List (Nat × Bool × List (Nat × Nat × Nat)) := []
  winA : List (Nat × Bool × List (Nat × Nat)) := []
  /-- Media Time of the latest object snapshot. -/
  snapAt : Nat := 0
  /-- TWIN_REJOIN_LIMIT is reached; the last join ended with a RESULT other than 0. -/
  stuck : Bool := false
  joinFailed : Bool := false
  /-- The tick of the latest ROLL_CALL (R355); the video and audio presence windows that have begun (R363). -/
  rollK : Nat := 0
  windowV : Nat := 0
  windowA : Nat := 0
deriving DecidableEq, Repr

/-- What the referee knows of one device (R351, R358). -/
structure RefDev where
  /-- When its latest good ROLL_CALL came; its FAULT, TWIN_STATE and WINDOW. -/
  heard : Option Nat := none
  fault : Bool := false
  state : Nat := 0
  window : Nat := 0
  /-- Valid digests of its latest windows and snapshots: (index, digest), newest first. -/
  egress : List (Nat × Nat) := []
  objs : List (Nat × Nat) := []
  /-- Windows in which FAULT was seen, newest first. -/
  faults : List Nat := []
  /-- A verdict marks it suspect, and it has read JOINING since. -/
  marked : Bool := false
  joined : Bool := false
deriving DecidableEq, Repr

/-- Where the referee's procedure of R350 stands. -/
inductive RefPhase where
  /-- No holder; a holder that is renewed; a revocation that waits for its end. -/
  | idle | granted | waiting
deriving DecidableEq, Repr

/-- Referee duty (R347, R350 to R358, R371): `holder` 0 A, 1 B, 255 none. -/
structure RefereeX where
  phase : RefPhase := .idle
  holder : Nat := 255
  leaseNo : Nat := 0
  leaseEnd : Nat := 0
  devA : RefDev := {}
  devB : RefDev := {}
  /-- Windows whose mismatch waits for the Roll Calls of the window after them. -/
  pending : List Nat := []
  /-- When the next RENEW or VERDICT is due (R350, Table 10.1). -/
  tickAt : Nat := 0
deriving DecidableEq, Repr

/-! ### Start-up, flash, security -/

/-- A boot pointer record (Table 14.3). -/
structure BootRec where
  seq : Nat
  slot : Nat
  prevSlot : Nat
  storeArea : Nat
  prevStoreArea : Nat
  /-- 0 CONFIRMED, 1 TRIAL, 2 FALLBACK. -/
  state : Nat
  boots : Nat
  version : Nat
deriving DecidableEq, Repr

/-- A record of the store or gain log (Tables 14.4, 14.5); `good` is that RMAGIC and RCRC check. -/
structure StoreRec where
  kind : Nat
  set : Nat
  body : Bytes
  good : Bool := true
deriving DecidableEq, Repr

/-- An image slot (R476, R490): its manifest, the pieces programmed, and whether the manifest's signature and the
components' hashes check at start-up. -/
structure ImageSlot where
  manifest : Bytes := []
  pieces : SMap Bytes := []
  manifestGood : Bool := false
  firstStageGood : Bool := false
  componentsGood : Bool := false
deriving DecidableEq, Repr

/-- A change of the flash that waits for the FLASH gate (R558). -/
inductive FlashJob where
  | boot (b : BootRec)
  | marker (kind time : Nat)
  | eraseStore (k : Nat)
  | manifest (m : Bytes)
  | piece (n : Nat) (b : Bytes)
  /-- The staged manifest and its bitmap are forgotten. -/
  | unstage
deriving DecidableEq, Repr

/-- What outlives a reset: straps, OTP, flash, and the lockout latch (R455, R476, R500). -/
structure NvX where
  /-- Strap balls TWIN_SIDE (B) and REFEREE_DUTY, and DEV_STEPPING. -/
  sideB : Bool := false
  refereeDuty : Bool := false
  stepping : Nat := 0
  /-- OTP: base MAC address, serial number, life-cycle encoding, vendor keys and their states. -/
  mac0 : BitVec 48 := 0
  serial : Bytes := []
  lifecycle : Nat := 0
  /-- The life-cycle state that the next reset makes (R500). -/
  lifecycleNext : Nat := 0
  keyPub : List Bytes := [[], [], [], []]
  keyState : List Nat := [0, 0, 0, 0]
  /-- Identity: public key and certificate (R501). -/
  idPub : Bytes := []
  idCert : Bytes := []
  romVersion : Nat := 0
  lockout : Bool := false
  /-- Flash density in bytes (R475). -/
  density : Nat := 67108864
  /-- Boot pointer records, newest first: as it leaves the factory, CONFIRMED slot 0. -/
  boot : List BootRec := [⟨1, 0, 255, 0, 255, 0, 0, 0⟩]
  slots : List ImageSlot := [{ manifestGood := true, firstStageGood := true, componentsGood := true }, {}]
  stores : List (List StoreRec) := [[], []]
  gainLog : List StoreRec := []
  trail : List TrailEntry := []
  trailSeq : Nat := 0
  /-- The CALIBRATION area: erased, or the 4,440 bytes (R487). -/
  calibration : Bytes := []
  calUser : Bool := false
  /-- UPDATE_STATE: the staged manifest, the piece bitmap. -/
  staged : Bytes := []
  stagedPieces : List Nat := []
  fallbacks : Nat := 0
  /-- The trial image was activated from LAY_BY (R498). -/
  fromLayby : Bool := false
  /-- Retirement of a pseudo-channel (R318); 255 none. -/
  fmRetired : Nat := 255
  canopyEpoch : Nat := 0
  /-- Flash: free share in percent, highest erase count of a block. -/
  flashFree : Nat := 100
  eraseMax : Nat := 0
deriving DecidableEq, Repr

/-- The life cycle of this run (R472 to R486, R494 to R499). -/
structure LifeX where
  phase : Phase := .booting
  /-- RESET_N is low, or the device has reset itself and its start-up has not begun. -/
  held : Bool := true
  resetCause : Nat := 0
  /-- Entered STARTING since reset (R61). -/
  started : Bool := false
  /-- START accepted, waiting for STORE_PENDING FALSE. -/
  startDue : Bool := false
  slot : Nat := 0
  storeArea : Nat := 0
  trial : Bool := false
  trialEnd : Nat := 0
  /-- No image slot boots: the device stays in BOOTING with ALARM_N low (R473). -/
  bootFailed : Bool := false
  /-- When DEV_STATE last became ACTIVE; when TWIN_HOLDER last changed. -/
  activeSince : Option Nat := none
  holderAt : Option Nat := none
  fatalSeen : Bool := false
  coreRestarts : Nat := 0
  /-- Restart times of each control core in the last hour. -/
  restarts : SMap (List Nat) := []
  /-- Values applied and not yet recorded: the sets waiting, each with its references (R409, R479). -/
  unrecorded : List (List Nat) := []
  /-- Gain rows changed by commits and not yet recorded (R298, R480). -/
  gainDirty : List Nat := []
  setNo : Nat := 0
  /-- A calibration write is being recorded (R488). -/
  calPending : Bool := false
  /-- Changes of the flash that wait while FLASH is closed, oldest first (R558). -/
  flashJobs : List FlashJob := []
  /-- LANE_TX_PRESETs neither loaded nor written since reset, while the fallback preset stands (R489). -/
  presetFallback : List Nat := []
  /-- A die sensor has been read since reset (TEL_TEMP_MAX). -/
  sampled : Bool := false
deriving DecidableEq, Repr

/-- Update and security (R490 to R503). -/
structure SecX where
  /-- Token bucket of R493: tokens in sixty-thousandths, and when it was last filled. -/
  tokens : Nat := 240000
  filledAt : Nat := 0
  evidence : Bytes := []
  nonce : Bytes := []
deriving DecidableEq, Repr

/-- A scrubbed entry at its reset default until it is restored: the values of its objects, by `objKey` (R466). -/
structure Broken where
  table : ScrubTable
  entry : Nat
  saved : List (Nat × Nat)
deriving DecidableEq, Repr

/-! ### Debug port and control bus -/

/-- The TAP instructions (Table 15.6). -/
inductive TapInstr where
  | extest | sample | idcode | clamp | highz | dbgAccess | bypass
deriving DecidableEq, Repr

/-- One comparator of a core (Table 15.7, R527). -/
structure Cmp where
  addr : Nat := 0
  ctrl : Nat := 0
  hits : Nat := 0
deriving DecidableEq, Repr

/-- One control core as the debug module sees it (R525 to R527). -/
structure CoreX where
  halted : Bool := false
  /-- A halt that waits for an outstanding access, and the cause it will have. -/
  pending : Bool := false
  pc : Nat := 0
  cause : Nat := 0
  causeCmp : Nat := 0
  cmps : SMap Cmp := []
deriving DecidableEq, Repr

/-- A memory access of the debug module as GO started it (R528). -/
structure MemOp where
  addr : Nat
  write : Bool
  size : Nat
  data : Nat
  /-- A waiting gate holds it (R77). -/
  held : Bool := false
deriving DecidableEq, Repr

/-- The TAP and the debug module (R517 to R530). -/
structure DbgX where
  tap : TapInstr := .idcode
  /-- Bit 2 of Capture-IR: the last EXTEST, CLAMP or HIGHZ was replaced (R520). -/
  replaced : Bool := false
  boundary : List Bool := []
  /-- A release of RESET_N held by R521. -/
  releaseHeld : Bool := false
  /-- Result of the previous DBG_ACCESS operation: REG, WRITE, STATUS, DATA (R522). -/
  resReg : Nat := 0
  resWrite : Bool := false
  resStatus : Nat := 0
  resData : Nat := 0
  sel : Nat := 0
  cores : List CoreX := [{}, {}, {}, {}]
  memAddr : Nat := 0
  memCtrl : Nat := 0
  memData : Nat := 0
  /-- The access in progress: BUSY while there is one. -/
  memOp : Option MemOp := none
  memResp : Nat := 0
  overrun : Bool := false
  /-- The mailbox: request bytes, a submitted request, the response, how much of it has been read, and that an early
  RX_DONE discards it (R529). -/
  tx : Bytes := []
  txBusy : Bool := false
  rx : Option Bytes := none
  rxPos : Nat := 0
  dropReply : Bool := false
deriving DecidableEq, Repr

/-- A transaction waiting at a target port (R515): its master, its QoS, grants to others since it began to compete, and the closable
gate that it lies behind; 0 none (R559). -/
structure BusWait where
  master : Nat
  qos : Nat
  passed : Nat
  gate : Nat
deriving DecidableEq, Repr

/-- The control bus (R505 to R516). -/
structure BusX where
  /-- Transactions that compete, by target; the master granted last, plus one. -/
  waiting : SMap (List BusWait) := []
  last : SMap Nat := []
  /-- Transactions outstanding, by master. -/
  open_ : SMap Nat := []
  /-- Transactions held at their masters before they compete: master and address (R77, R506). -/
  parked : List (Nat × Nat) := []
  /-- Transactions held by a waiting gate (R77). -/
  held : List BusTxn := []
  /-- Control RAM: bytes written over the bus. -/
  ram : SMap (Option Byte) := []
  /-- The last transaction's response and read data. -/
  resp : Nat := 0
  data : Bytes := []
deriving DecidableEq, Repr

end Sys2Proof.Machine
end

