-- ==== Sys2Proof/Machine/Formats.lean ====
section
/-! DEFINITION. The formats of Table 5.1 with the active pictures of Table 6.1, exact instants, and the costs of Table 5.7. An
exact instant of a format is an Int in units of 2^-16 ns divided by `scale`: in them the period, the word period and the line
period are whole (R557). -/

namespace Sys2Proof.Machine

/-- One format: total lines, samples per line, width, the first and last active lines of field 1 (or of the frame) and of
field 2 (0 when progressive), the period, packets per row and per field or frame, and whether a quad-link interface exists. -/
structure Fmt where
  lines : Nat
  samples : Nat
  width : Nat
  a1 : Nat
  b1 : Nat
  a2 : Nat
  b2 : Nat
  period : Period
  perRow : Nat
  packets : Nat
  quad : Bool
deriving DecidableEq, Repr

/-- The format of a code (Tables 5.1, 6.1). -/
def fmtOf (c : Nat) : Option Fmt :=
  let hd (s n d : Nat) : Option Fmt := some ⟨1125, s, 1920, 42, 1121, 0, 0, ⟨n, d⟩, 4, 4320, false⟩
  let uhd (s n d : Nat) : Option Fmt := some ⟨2250, s, 3840, 83, 2242, 0, 0, ⟨n, d⟩, 8, 17280, true⟩
  match c with
  | 1 => some ⟨525, 858, 720, 21, 263, 283, 525, ⟨1001, 30000⟩, 2, 486, false⟩
  | 2 => some ⟨625, 864, 720, 23, 310, 336, 623, ⟨1, 25⟩, 2, 576, false⟩
  | 3 => some ⟨750, 1980, 1280, 26, 745, 0, 0, ⟨1, 50⟩, 3, 2160, false⟩
  | 4 => some ⟨750, 1650, 1280, 26, 745, 0, 0, ⟨1001, 60000⟩, 3, 2160, false⟩
  | 5 => some ⟨750, 1650, 1280, 26, 745, 0, 0, ⟨1, 60⟩, 3, 2160, false⟩
  | 6 => some ⟨1125, 2640, 1920, 21, 560, 584, 1123, ⟨1, 25⟩, 4, 2160, false⟩
  | 7 => some ⟨1125, 2200, 1920, 21, 560, 584, 1123, ⟨1001, 30000⟩, 4, 2160, false⟩
  | 8 => hd 2750 1001 24000
  | 9 => hd 2750 1 24
  | 10 => hd 2640 1 25
  | 11 => hd 2200 1001 30000
  | 12 => hd 2200 1 30
  | 13 => hd 2640 1 50
  | 14 => hd 2200 1001 60000
  | 15 => hd 2200 1 60
  | 16 => uhd 5500 1001 24000
  | 17 => uhd 5500 1 24
  | 18 => uhd 5280 1 25
  | 19 => uhd 4400 1001 30000
  | 20 => uhd 4400 1 30
  | 21 => uhd 5280 1 50
  | 22 => uhd 4400 1001 60000
  | 23 => uhd 4400 1 60
  | _ => none

/-- The code names a format of Table 5.1. -/
def fmtKnown (c : Nat) : Bool := (fmtOf c).isSome

/-- Interlaced: two fields. -/
def Fmt.interlaced (f : Fmt) : Bool := f.a2 != 0

/-- The switch lines: of the frame, or of the first and second field (Table 5.1). -/
def switchLines (c : Nat) : List Nat :=
  match c with
  | 1 => [10, 273]
  | 2 => [6, 319]
  | 6 => [7, 569]
  | 7 => [7, 569]
  | _ => [7]

/-- Words per line and per frame of the one-port interface. -/
def Fmt.lineWords (f : Fmt) : Nat := 2 * f.samples
def Fmt.words (f : Fmt) : Nat := 2 * f.samples * f.lines

/-- Rows of a field or frame. -/
def Fmt.rows (f : Fmt) : Nat := f.b1 + 1 - f.a1 + (if f.a2 = 0 then 0 else f.b2 + 1 - f.a2)
/-- Fields or frames each second, as a fraction's numerator over the period's `num`. -/
def Fmt.perSecond (f : Fmt) : Nat := if f.a2 = 0 then f.period.den else 2 * f.period.den

/-! ### Exact instants -/

/-- Units of an exact instant in one 2^-16 ns. -/
def Fmt.scale (f : Fmt) : Int := (f.period.den * f.words : Nat)
/-- P, Tw and Tl in exact units. -/
def Fmt.exP (f : Fmt) : Int := (f.words * f.period.num * subSec : Nat)
def Fmt.exTw (f : Fmt) : Int := (f.period.num * subSec : Nat)
def Fmt.exTl (f : Fmt) : Int := (f.lineWords * f.period.num * subSec : Nat)
/-- A Media Time, and a number of ns, in exact units. -/
def Fmt.ex (f : Fmt) (t : Nat) : Int := (t : Int) * f.scale
def Fmt.exNs (f : Fmt) (n : Nat) : Int := ((n * subNs : Nat) : Int) * f.scale
/-- The word period of one link: four times Tw on a ganged stream. -/
def Fmt.linkTw (f : Fmt) (ganged : Bool) : Int := if ganged then 4 * f.exTw else f.exTw

/-- An exact instant truncated to 2^-16 ns; to whole ns; the first 4 ns tick at or after it; its 4 ns count (R557). -/
def Fmt.toMt (f : Fmt) (x : Int) : Nat := (x / f.scale).toNat
def Fmt.toNs (f : Fmt) (x : Int) : Nat := (x / (f.scale * 65536)).toNat
def Fmt.tick (f : Fmt) (x : Int) : Nat := (-(-x / (f.scale * 262144))).toNat * 262144
def Fmt.toTime (f : Fmt) (x : Int) : Nat := (x / (f.scale * 262144)).toNat % 65536

/-- PASS_LATENCY: 408 Tw + 6 µs (R163). -/
def Fmt.pass (f : Fmt) (ganged : Bool) : Int := 408 * f.linkTw ganged + f.exNs 6000

/-- A phase difference taken in the range −P/2 to +P/2. -/
def Fmt.wrapDiff (f : Fmt) (x : Int) : Int :=
  let m := x % f.exP
  if f.exP < 2 * m then m - f.exP else m

/-- The first instant of phase `ph` after `x`. -/
def Fmt.nextAt (f : Fmt) (ph x : Int) : Int := x + f.exP - (x - ph) % f.exP

/-- The instant of phase `ph` nearest to `x`. -/
def Fmt.nearAt (f : Fmt) (ph x : Int) : Int := x - f.wrapDiff (x - ph)

/-! ### Words and pixels -/

/-- Line number (from 1) and word in the line of a frame's word. -/
def Fmt.lineOf (f : Fmt) (i : Nat) : Nat := i / f.lineWords + 1
def Fmt.posOf (f : Fmt) (i : Nat) : Nat := i % f.lineWords

/-- The row of an active line: row 2i is the i-th line of field 1, 2i + 1 of field 2 (R257). -/
def Fmt.rowOf (f : Fmt) (l : Nat) : Option Nat :=
  if f.a1 ≤ l ∧ l ≤ f.b1 then some (if f.a2 = 0 then l - f.a1 else 2 * (l - f.a1))
  else if f.a2 ≠ 0 ∧ f.a2 ≤ l ∧ l ≤ f.b2 then some (2 * (l - f.a2) + 1)
  else none

/-- The line of a row of a frame. -/
def Fmt.lineOfRow (f : Fmt) (r : Nat) : Nat :=
  if f.a2 = 0 then f.a1 + r else if r % 2 = 0 then f.a1 + r / 2 else f.a2 + r / 2

/-- The row and the word within the row (0 to 2 × width − 1) of an active word; none in blanking (R204). -/
def Fmt.pixelOf (f : Fmt) (i : Nat) : Option (Nat × Nat) :=
  let p := f.posOf i
  let first := f.lineWords - 2 * f.width
  if p < first then none else (f.rowOf (f.lineOf i)).map (fun r => (r, p - first))

/-- The word index in the frame of word `x` of row `r`. -/
def Fmt.wordAt (f : Fmt) (r x : Nat) : Nat := (f.lineOfRow r - 1) * f.lineWords + (f.lineWords - 2 * f.width) + x

/-- A word carries luma: every second word of the Cb Y Cr Y order. -/
def isLuma (i : Nat) : Bool := i % 2 == 1

/-- The blanking word of a place in the stream order (R166). -/
def blankWord (i : Nat) : Nat := if isLuma i then 0x040 else 0x200

/-- MARK and OFFSET of the Basket whose word 0 is word `i` of a frame (R130): MARK code, OFFSET. -/
def Fmt.markAt (f : Fmt) (c i : Nat) : Nat × Nat :=
  let p := f.posOf i
  let off := if p = 0 then 0 else f.lineWords - p
  if 204 ≤ off then (0, 0)
  else
    let l := f.lineOf ((i + off) % f.words)
    (if l = 1 then 3 else if l ∈ switchLines c then 2 else 1, off)

/-! ### Payload words (R128) -/

/-- The 204 ten-bit words of a RASTER payload. -/
def unpackWords (b : Bytes) : List Nat :=
  let v := beNat (b ++ List.replicate (256 - b.length) 0)
  (List.range 204).map (fun w => v / 2 ^ (2048 - 10 * (w + 1)) % 1024)

/-- The payload of 204 words; byte 255 is 0. -/
def packWords (ws : List Nat) : Bytes :=
  beBytes 256 ((ws.foldl (fun a w => a * 1024 + w % 1024) 0) * 2 ^ (2048 - 10 * ws.length))

/-! ### Frame sync and delay costs (R193) -/

/-- The bandwidth cost, in bit/s times 1001 (exact for every rate). -/
def Fmt.cost1001 (f : Fmt) : Nat := 20 * f.words * f.period.den * 1001 / f.period.num
/-- The frame buffer in bytes, one port or all four links. -/
def Fmt.bufBytes (f : Fmt) (ganged : Bool) : Nat :=
  let up (w : Nat) : Nat := ((w * 10 + 7) / 8 + 65535) / 65536 * 65536
  if ganged then 4 * up (f.words / 4) else up f.words

/-- A still's bytes and its read cost in bit/s times 1001 (R257, R259). -/
def Fmt.stillBytes (f : Fmt) : Nat := f.width * f.rows * 5 / 2
def Fmt.stillCost1001 (f : Fmt) : Nat := f.stillBytes * 8 * f.period.den * 1001 / f.period.num

/-! ### Interface rates (Tables 4.10, 4.14, R28) -/

/-- The code whose raster one link of a ganged stream has (R28). -/
def linkCode (c : Nat) (ganged : Bool) : Nat := if ganged && decide (16 ≤ c) then c - 8 else c

/-- The SLOT_CAPS bit of a format's interface rate, or of one link of it (Table 4.10). -/
def rateBit (c : Nat) : Nat :=
  match fmtOf c with
  | none => 0
  | some f =>
    let r := f.cost1001 / 2
    if r ≤ 270000000 * 1001 then 0 else if r ≤ 1485000000 * 1001 then 1 else if r ≤ 2970000000 * 1001 then 2
    else if r ≤ 5940000000 * 1001 then 3 else 4

/-- RATE of a format (Table 4.14). -/
def rateCode (c : Nat) : Nat :=
  match fmtOf c with
  | none => 0
  | some f => let b := rateBit c
    if b = 0 then 1 else 2 * b + (if f.period.num % 1001 = 0 then 1 else 0)

end Sys2Proof.Machine
end

