-- ==== Sys2Proof/Machine/PartsMedia.lean ====
section
/-! DEFINITION. The parts of the state of the media units that are no object of the dictionary: inputs, mesh, outputs, takes,
Hampers, frame syncs, packet stores, engines, Canopy, audio, mixer, TDM ports and frame memory. -/

namespace Sys2Proof.Machine

/-! ### Video -/

/-- 204 words of a stream inside the device: the index in its frame of word 0, a hole or its words, and the link of a ganged
stream (R25, R28, R140). -/
structure Seg where
  idx : Nat
  hole : Bool
  words : List Nat
  link : Nat := 0
deriving DecidableEq, Repr

/-- A frame as a buffer holds it: its number, its start, exact in the units of its format, its parts (R189, R557). -/
structure Frame where
  no : Nat
  start : Int
  fmt : Nat
  segs : List Seg := []
deriving DecidableEq, Repr

/-- What the input stage has found in the words of one link (R131, R157, R237). -/
structure TrsX where
  /-- The last words before the next Basket, at most eleven. -/
  tail : List Nat := []
  /-- Words from the latest line start to the next word; none where words were lost before any was found. -/
  since : Option Nat := none
  /-- Words between the latest two line starts; the latest line's number; 0 unknown. -/
  lineLen : Nat := 0
  line : Nat := 0
  /-- F and V of the latest line, as 2 F + V; 4 none. -/
  fv : Nat := 4
  /-- A line 1 has been seen, and F has been 1 since; two fields or one. -/
  top : Bool := false
  fSeen : Bool := false
  interlaced : Option Bool := none
  /-- The payload identifier found. -/
  id : Option (List Nat) := none
  /-- The words of the line's HANC so far; none where some were lost. -/
  hanc : Option (List Nat) := none
deriving DecidableEq, Repr

/-- One line of a ganged stream as it starts on its links: first and last arrival (Media Time), the links that it has started on, and
whether its spread has been counted (R132, R159). -/
structure GangLine where
  first : Nat
  last : Nat
  links : Nat
  counted : Bool
deriving DecidableEq, Repr

/-- A frame sync decision that a standby would take itself, where no record comes: presented frame and start, action, frame, drops,
repeats, FS_LOSS (R194, R195). -/
structure FsWait where
  no : Nat
  start : Nat
  action : Nat
  frame : Option Frame
  drops : Nat
  reps : Nat
  loss : Bool
deriving DecidableEq, Repr

/-- One raster input beyond its objects (R157 to R161, R187 to R192). -/
structure InX where
  /-- Format being delivered; 0 none. -/
  fmt : Nat := 0
  /-- Index of the next word; holes are delivered until a line start, or a frame start. -/
  idx : Nat := 0
  waitLine : Bool := true
  waitFrame : Bool := true
  trs : TrsX := {}
  /-- Lines of a ganged stream that have started on some of its links, by number; its latest line starts spread too far (R132). -/
  gangLines : SMap (Option GangLine) := []
  gangSpread : Bool := false
  /-- The format that came last, and the arrival of its first frame, exact in its units (R175). -/
  newFmt : Nat := 0
  newAt : Int := 0
  /-- The slot brings data Baskets. -/
  signal : Bool := false
  /-- Records of φ by SEQ of the Basket with FRAME_START, newest first; mirrored ones on a standby (R161, R194). -/
  phases : List (Nat × Nat) := []
  /-- A standby's own measurement, used where no record comes (R195). -/
  ownPhase : Option (Nat × Nat) := none
  frame : Nat := 0
  /-- Arrival of the latest frame (Media Time). -/
  frameA : Nat := 0
  /-- Whole Ethernet frames that wait for the packet engine, oldest first: stamp (Media Time), bytes with the FCS (R134, R135). -/
  frames : List (Nat × Bytes) := []
  /-- Baskets that wait for the group node (R19). -/
  q : List Seg := []
  /-- The frame sync: mode in force, the frame that arrives, the frame that has arrived and is not complete, complete frames held
  (newest first). -/
  mode : Nat := 0
  delay : Nat := 1
  costFmt : Nat := 0
  writing : Option Frame := none
  filled : Option Frame := none
  held : List Frame := []
  /-- What is presented, and what is from `nextAt` on: none is black. -/
  shown : Option Frame := none
  next : Option Frame := none
  nextAt : Nat := 0
  /-- The last frame presented; decisions without a new frame; a Media Time step has come since the last decision (R190, R191). -/
  last : Option Frame := none
  missed : Nat := 0
  stepped : Bool := false
  /-- A standby's own decision, until the record comes or the frame starts (R194, R195). -/
  wait : Option FsWait := none
  /-- Frame periods of holes left after an increase of the delay (R192). -/
  holesLeft : Nat := 0
  /-- The PLAYOUT in force of a packet home. -/
  playout : Nat := 500000
  /-- A packet home: the frame whose positions are being decided, plus one; one of them is present; consecutive frames presented
  as holes (R220). -/
  decFrame : Nat := 0
  decAny : Bool := false
  holeFrames : Nat := 0
  /-- The de-embedding anchor G0 as a sample number, none before the first; samples since it by group; a re-anchor is due (R238). -/
  anchor : Option Nat := none
  anchorGot : SMap Nat := []
  anchorDue : Bool := false
  /-- Channels found in the frame in course; de-embedded samples as 24 bits plus one, key 32 × sample number + channel (R237). -/
  audioNow : Nat := 0
  pcm : SMap Nat := []
  /-- Mirrored FS decisions waiting: presented frame, frame number, action (R194). -/
  mirrored : SMap (Nat × Nat) := []
deriving DecidableEq, Repr

/-- A pending take of one target (R168 to R173). -/
structure TakeX where
  src : Nat
  e : Nat
  late : Bool
  hamper : Option Nat
deriving DecidableEq, Repr

/-- What the stream part of a switch did: dirty, a rephase to count, and the switch point of the cadence left (Media Time; R166, R170 to
R172). -/
structure SwitchX where
  dirty : Bool
  rephase : Bool
  at_ : Nat
deriving DecidableEq, Repr

/-- One output port beyond its objects (R162 to R180). `start` and `next` are frame starts (Media Time ticks); `ph`, `t` and
`resume` are exact in the units of `fmt`. Emission runs up to 2 µs and a Basket ahead of time. -/
structure OutX where
  /-- Format in use; 0 before an AUTO output has carried one. -/
  fmt : Nat := 0
  start : Nat := 0
  next : Nat := 0
  /-- Phase of the cadence of the frame in course, and of the next one. -/
  ph : Int := 0
  nextPh : Int := 0
  /-- The frame in course is on the reference cadence. -/
  onRef : Bool := true
  started : Bool := false
  /-- The next word to leave: it belongs to the frame at `next`; its index and instant. -/
  ahead : Bool := false
  word : Nat := 0
  t : Int := 0
  /-- Blanking words still to fill, and the instant of the word after them (R166). -/
  fill : Nat := 0
  resume : Int := 0
  /-- Source of the words before `oldUntil` of this frame, after a switch inside it. -/
  oldSrc : Nat := 4095
  oldUntil : Nat := 0
  /-- The source, or the old source, is of another format: black stands in for it (R175). -/
  mismatch : Bool := false
  oldMismatch : Bool := false
  /-- The line CRCs in course, by 2 × link + stream (0 C, 1 Y); the HANC of the line in course, by link (R129, R239, R240). -/
  crc : SMap Nat := []
  hanc : SMap (List Nat) := []
  /-- The next AO sample to embed; the block numbers of audio data packets, by group (R239). -/
  embedNext : Option Nat := none
  dbn : SMap Nat := []
  /-- Emission has passed the switch of the pending take, whose switch point has not come. -/
  swDone : Option SwitchX := none
  pend : Option TakeX := none
  /-- The still that its still player plays in this frame (R258). -/
  still : Option Nat := none
  /-- The port has been in service since SEQ began; a join has switched this output to its data (Table 10.5). -/
  serving : Bool := false
  live : Bool := false
  seq : Nat := 0
  /-- Baskets of the output at or after TS of a join in progress (R138, R366). -/
  sinceTs : Nat := 0
  /-- Ancillary packets sent since then, by transmit flow (R232). -/
  ancSeq : SMap Nat := []
  /-- Packet Baskets queued for the port's slot: Media Time of the frame, Basket. -/
  pkts : List (Nat × Basket) := []
deriving DecidableEq, Repr

/-- A fired Hamper (R183 to R186): its E, late or not, and the entries not yet executed, as KIND and TARGET words. -/
structure HamperX where
  e : Nat
  late : Bool
  left : List Nat
deriving DecidableEq, Repr

/-- An engine beyond its objects: armed layer takes, θ0 and number of the frame in progress, the assignment in force, and the
records, order and stills that this frame uses (R243, R251, R255, R258). -/
structure EngineX where
  takes : SMap (Option TakeX) := []
  theta0 : Int := 0
  frame : Nat := 0
  /-- CE_OUTPUT in force: it waits for the output's frame start. -/
  out : Nat := 0xFFFF
  live : SMap Nat := []
  liveOrder : Nat := 0x00FAC688
  liveMode : Nat := 0
  stills : SMap Nat := []
  /-- Times of internal check errors of the last second (R459). -/
  errors : List Nat := []
deriving DecidableEq, Repr

/-- A Canopy sync (R262 to R264). -/
structure CanopyX where
  writing : Option Frame := none
  /-- The next word of a source that the device forms itself, and the start of its frame, exact. -/
  word : Nat := 0
  start : Int := 0
  /-- Frames complete in a buffer, newest first: at most four with the one being written. -/
  bufs : List Frame := []
  lastAt : Nat := 0
deriving DecidableEq, Repr

/-- An inserter: settings in force, the frame selected, internal check errors (R263, R265, R267, R459). -/
structure InserterX where
  out : Nat := 0xFFFF
  on : Bool := false
  mode : Nat := 0
  top : Nat := 0
  rows : Nat := 0
  clip : Nat := 64
  gain : Nat := 256
  /-- The frame selected for the next output frame, and the one in use. -/
  sel : Option Nat := none
  cur : Option Nat := none
  /-- A mirrored selection: its output frame number and Canopy frame. -/
  mirrored : Option (Nat × Nat) := none
  errors : List Nat := []
deriving DecidableEq, Repr

/-- The Canopy port's line: times of the latest bad frames, newest first (R269, Table 13.8); when the last byte of the latest request
came, and the frame last sent on CN_TX under CN_DE (R270, Table 7.5). -/
structure CnX where
  bad : List Nat := []
  heardAt : Nat := 0
  sent : Bytes := []
deriving DecidableEq, Repr

/-- The store of a receive flow, or of a RED and BLUE pair (R217 to R222). Keys: frame × 2^32 + row × 2^16 + pixel for video, line
and number for ancillary data, the sample number for audio. -/
structure StoreX where
  /-- Positions filled, and the legs that filled them: bit 0 RED or SINGLE, bit 1 BLUE. -/
  fill : SMap (List Nat) := []
  legs : SMap Nat := []
  /-- Decisions of R219: 1 absent, 2 present. -/
  decided : SMap Nat := []
  /-- The pool granules, or the bytes and bandwidth of frame memory, that it takes, and its group node. -/
  granules : Nat := 0
  memBytes : Nat := 0
  bw : Nat := 0
  node : Nat := 0
  /-- Positions past their deadline that wait for the holder's record (R227). -/
  due : List Nat := []
  /-- STAMP frames: their stamps in 2^-16 ns, latest first. -/
  stamps : List Nat := []
  /-- A flow without a video home: the PLAYOUT in force, and the frame whose positions are being decided, plus one (R210). -/
  playout : Nat := 500000
  frame : Nat := 0
deriving DecidableEq, Repr

/-- One leg (R224, R226). -/
structure LegX where
  expect : Option Nat := none
  lastAt : Nat := 0
deriving DecidableEq, Repr

/-! ### Audio -/

/-- A decided or received audio block: 16 presence bits and 16 samples (R275, Table 8.3). -/
structure Block where
  present : Nat := 0
  samples : List Int := List.replicate 16 0
deriving DecidableEq, Repr

/-- An audio edge buffer (R12, R282): numbers of the blocks placed, oldest first, the block being taken, and silence in its place. -/
structure EdgeX where
  blocks : List Nat := []
  taken : Option Nat := none
  silent : Bool := false
deriving DecidableEq, Repr

/-- One AO's aligner (R280 to R289). -/
structure AoX where
  /-- Blocks that reached the aligner in time: key block number × 65536 + AI. -/
  got : SMap Block := []
  /-- Decisions by block number: 1 absent, 2 present. -/
  decided : SMap Nat := []
  /-- Blocks past their deadline that wait for the holder's record (R283). -/
  due : List Nat := []
  /-- Sources, newest first, each with the block number from which it holds (R286); silence before the first. -/
  srcs : List (Nat × Nat) := []
  /-- Delays, newest first: the delayed block from which each holds, the delay, the first source sample that the allocation
  holds (R289); no delay before the first. -/
  delays : List (Nat × Nat × Int) := []
  /-- A block of the current source has been decided present. -/
  heard : Bool := false
deriving DecidableEq, Repr

/-- The mixer (R290 to R299). -/
structure MixX where
  /-- Gains in force by cell 4096 o + i, as 16-bit values; armed and open journals. -/
  gain : SMap Nat := []
  opened : SMap (Option Nat) := []
  armed : SMap (Option Nat) := []
  armedE : Option Nat := none
  /-- Cells with an uncorrectable error: used as 0 (R299). -/
  bad : List Nat := []
  /-- MO blocks made, newest first: block number, and the blocks of the MOs that are not all zero. -/
  made : List (Nat × SMap Block) := []
  /-- The edge buffer of the direction into the mixer (R282). -/
  edge : EdgeX := {}
deriving DecidableEq, Repr

/-- One TDM port (R300 to R309). -/
structure ApX where
  /-- MASTER: the first frame of the run, and the first frame of the stop, where one is due (Table 8.11). -/
  on : Option Nat := none
  off : Option Nat := none
  /-- Sample number of the latest frame: its stamp × 48,000 (R301, R302). -/
  k : Int := 0
  /-- SLAVE: the state that the port's own detection has reached, consecutive clean frames, consecutive frames not clean, and
  the periods and edge counts of those. -/
  det : Nat := 0
  clean : Nat := 0
  dirty : Nat := 0
  periods : List (Nat × Nat) := []
  /-- A SLAVE port anchors at its next frame, and whether the ramp starts there. -/
  anchorDue : Bool := false
  rampDue : Bool := false
  /-- Samples of a ramp up already done; 48 at full level. -/
  level : Nat := 48
  lastGood : List Int := List.replicate 16 0
  /-- SDOUT of the latest frame. -/
  sdout : List Int := List.replicate 16 0
  /-- Stamped SDIN samples, newest first. -/
  ring : List (Int × List Int) := []
  errors : List Nat := []
  /-- A standby's own detections that wait for the holder's record: kind, sample number, Media Time (R284). -/
  own : List (Nat × Int × Nat) := []
  /-- The edge buffer behind the port's aligners (R282). -/
  edge : EdgeX := {}
deriving DecidableEq, Repr

/-! ### Frame memory -/

/-- One bank (R323 to R329): its open row plus one, the last row activated plus one, its predictor, its refresh debt, the
activation counts of rows over the latest eight sub-windows, its last access, and its next tREFI tick
(0 before the first). -/
structure BankX where
  open_ : Nat := 0
  last : Nat := 0
  pred : Nat := 2
  debt : Nat := 0
  acts : SMap (List Nat) := []
  usedAt : Nat := 0
  tickAt : Nat := 0
deriving DecidableEq, Repr

/-- A throttled requester (R329): its class and instance, the bank and row, the throttle's end, and the last activation for it. -/
structure ThrottleX where
  cls : Nat
  inst : Nat
  bank : Nat
  row : Nat
  endAt : Nat
  lastAct : Nat
deriving DecidableEq, Repr

/-- A request in a queue of a pseudo-channel (R320 to R322): its number in the order of acceptance, when it was accepted, whether it found
its tokens, and the units of a read that a queued write holds. -/
structure FmQ where
  req : FmReq
  no : Nat
  at_ : Nat
  inBudget : Bool
  fwd : SMap Bytes := []
deriving DecidableEq, Repr

/-- The frame memory (R311 to R336). Banks have key 48 pc + 16 SID + bank. -/
structure FmX where
  /-- Unit number (offset / 32) ↦ its 32 bytes as a big-endian number, plus one; unlisted units were never written. -/
  cells : SMap Nat := []
  poison : List Nat := []
  banks : SMap BankX := []
  throttles : List ThrottleX := []
  /-- Bits spent of each class's bucket, in thousandths, as last reckoned, and when (R320). -/
  spent : SMap (Nat × Nat) := []
  /-- Queues of the pseudo-channels, oldest first: key 2 pc for reads, 2 pc + 1 for writes; their modes, 1 WRITE; requests accepted so
  far (R321). -/
  queues : SMap (List FmQ) := []
  modes : SMap Nat := []
  accepted : Nat := 0
  /-- The request buffers, 64 a class, oldest first; requesters that they hold (R12). -/
  buffer : List FmReq := []
  held : List FmReq := []
  /-- Failed attempts of each pseudo-channel's training; a fatal failure. -/
  attempts : SMap Nat := []
  trainFatal : Bool := false
  /-- Times of uncorrectable errors of the last hour, by pseudo-channel. -/
  ueTimes : SMap (List Nat) := []
  /-- Units that wait for a write-back (R331). -/
  writeback : List Nat := []
  /-- The pseudo-channel being retired, plus one, and when its copy began (R317). -/
  copying : Nat := 0
  copyAt : Nat := 0
  /-- A retired pseudo-channel, plus one, that answered no more as it was copied, and its units written since (R317). -/
  gone : Nat := 0
  rewritten : List Nat := []
  /-- Retraining (R336): the pseudo-channel plus one, its step, the pseudo-channel done last, when that ended, and when the
  last step began. -/
  retrain : Nat := 0
  retrainStep : Nat := 0
  retrainLast : Nat := 63
  retrainAt : Nat := 0
  stepAt : Nat := 0
  /-- When the scrub pass in hand began (R333). -/
  passAt : Nat := 0
  /-- Bytes served of each class in the current 100 ms. -/
  served : SMap Nat := []
deriving DecidableEq, Repr

end Sys2Proof.Machine
end

