-- ==== Sys2Proof/Machine/State.lean ====
section
/-! DEFINITION. The state of the block, the reasons a step can stop, and the state after reset. -/

namespace Sys2Proof.Machine

/-- Why a step stops with a fault: nothing stops this block so. Whatever a wire brings in has an answer, a counter or no effect. -/
inductive Fault where
deriving DecidableEq, Repr

/-- Why a command is refused by the model. -/
inductive Refusal where
  /-- A command whose meaning is not written yet. Safe. -/
  | notModelled (mnemonic : String)
  /-- Raised by BUS_TRANSACTION for a read of a control bus window whose contents the spec leaves undocumented (R510). Safe. -/
  | undocumentedWindow
deriving DecidableEq, Repr

/-- The block without its command queue. `regs` holds every fixed-length object of the dictionary by `objKey`, at its
default where unlisted; `blobs` every TEXT and TABLE, empty where unlisted (R404, R408). -/
structure Dev where
  regs : SMap Nat := []
  blobs : SMap Bytes := []
  time : TimeX := {}
  /-- Counts the open values drawn (Config.freeNat): the model's own field. -/
  freeN : Nat := 0
  nv : NvX := {}
  life : LifeX := {}
  ref : RefX := {}
  synth : SynthX := {}
  clk : ClockX := {}
  lanes : SMap LaneX := []
  ltx : SMap LaneTx := []
  groups : SMap GroupX := []
  flt : FltX := {}
  /-- Trail Log entries in control RAM, not yet in flash (R463). -/
  trailRam : List TrailEntry := []
  macs : SMap MacX := []
  ch : ChanX := {}
  tw : TwinX := {}
  rf : RefereeX := {}
  sec : SecX := {}
  dbg : DbgX := {}
  bus : BusX := {}
  /-- Table entries that wait for their restoration (R466). -/
  broken : List Broken := []
  ins : SMap InX := []
  /-- Baskets delivered to a group node: key 2048 g + source, newest first (R19, R254). -/
  mesh : SMap (List Seg) := []
  outs : SMap OutX := []
  hampers : SMap (Option HamperX) := []
  engines : SMap EngineX := []
  canopies : SMap CanopyX := []
  inserters : SMap InserterX := []
  cn : CnX := {}
  stores : SMap StoreX := []
  legs : SMap LegX := []
  aos : SMap AoX := []
  /-- The latest mesh audio Basket that came into group node g, key g; 16 the mixer's audio links (R278). -/
  audioMesh : SMap (Option Basket) := []
  mix : MixX := {}
  aps : SMap ApX := []
  fm : FmX := {}
deriving DecidableEq, Repr

/-- The block and the commands that wait, first in, first out. -/
structure State where
  dev : Dev := {}
  pending : List Instr := []
deriving DecidableEq, Repr

/-- The machine right after reset: every object at its default, nothing listed, RESET_N held low, the queue empty. -/
def State.reset : State := {}

end Sys2Proof.Machine
end

