-- ==== Sys2Proof/Machine/Ops.lean ====
section
/-! DEFINITION. The shared operations: objects and counters, open values, the roles of the pair, events, the Trail Log, the
fault collector's latch and its reactions, and the way a response leaves. -/

namespace Sys2Proof.Machine

/-! ### Objects -/

/-- The value of element `i` of a fixed-length object (R404, R408). -/
def Dev.reg (d : Dev) (n : Nat) (i : Nat := 0) : Nat := smGet d.regs (objKey n i) (keyDefault (objKey n i))

/-- Store a value in element `i` of a fixed-length object. -/
def Dev.setReg (d : Dev) (n i v : Nat) : Dev :=
  { d with regs := smSet d.regs (objKey n i) v (keyDefault (objKey n i)) }

/-- The value of a signed object of `w` bits. -/
def Dev.sreg (d : Dev) (w n : Nat) (i : Nat := 0) : Int := toInt w (d.reg n i)

/-- Store a signed value, saturated to `w` bits. -/
def Dev.setSreg (d : Dev) (w n i : Nat) (v : Int) : Dev :=
  d.setReg n i (ofInt w (clampInt (-(2 ^ (w - 1) : Int)) (2 ^ (w - 1) - 1 : Int) v))

/-- A BOOL object reads TRUE. -/
def Dev.flag (d : Dev) (n : Nat) (i : Nat := 0) : Bool := d.reg n i != 0

/-- The bytes of a TEXT or TABLE element; empty where nothing is held. -/
def Dev.blob (d : Dev) (n : Nat) (i : Nat := 0) : Bytes := smGet d.blobs (objKey n i) []

/-- Store the bytes of a TEXT or TABLE element. -/
def Dev.setBlob (d : Dev) (n i : Nat) (v : Bytes) : Dev := { d with blobs := smSet d.blobs (objKey n i) v [] }

/-- Media Time now, in 2^-16 ns. -/
def Dev.now (d : Dev) : Nat := d.time.mt

/-- Elapsed time since reset, ns. -/
def Dev.clock (d : Dev) : Nat := d.time.clock

/-- An open value below `n` (0 where `n` is 0), and the state with the next one due. -/
def Dev.draw (d : Dev) (n : Nat) : Nat × Dev := (Config.freeNat d.freeN % n, { d with freeN := d.freeN + 1 })

/-! ### The roles of the pair -/

/-- The lease timer runs: DP_HELD (R348). -/
def Dev.holds (d : Dev) : Bool :=
  match d.tw.leaseEnd with
  | some e => decide (d.clock < e)
  | none => false

/-- The device acts: its lease timer runs, or it runs in SOLO (R341, R349). -/
def Dev.acts (d : Dev) : Bool := d.holds || (d.tw.solo && decide (d.life.phase = .running))

/-- TWIN_STATE values (Table 10.10). -/
def twDetached : Nat := 0
def twAlone : Nat := 1
def twActive : Nat := 2
def twJoining : Nat := 3
def twHot : Nat := 4
def twSuspect : Nat := 5
def twSolo : Nat := 6
def twReferee : Nat := 7

def Dev.twinState (d : Dev) : Nat := d.reg Obj.TWIN_STATE

/-- The peer's latest ROLL_CALL on TW_0 came within 4 µs (R353, R354). -/
def Dev.peerFresh (d : Dev) : Bool :=
  match d.tw.roll with
  | some (t, _) => decide (d.clock ≤ t + 4000)
  | none => false

/-- The TWIN_STATE, HOLDS and FAULT of the peer's latest ROLL_CALL (Table 10.3). -/
def Dev.peerTwin (d : Dev) : Nat := match d.tw.roll with | some (_, b) => fld b.toNat 247 240 | none => 0
def Dev.peerHolds (d : Dev) : Bool := match d.tw.roll with | some (_, b) => bitOf b.toNat 238 | none => false
def Dev.peerFault (d : Dev) : Bool := match d.tw.roll with | some (_, b) => bitOf b.toNat 239 | none => false

/-- Lane states (Table 3.10). -/
def lnOff : Nat := 0
def lnDetect : Nat := 1
def lnTrain : Nat := 2
def lnLock : Nat := 3
def lnExchange : Nat := 4
def lnActive : Nat := 5
def lnTest : Nat := 6
def lnFail : Nat := 7

def Dev.laneState (d : Dev) (l : Nat) : Nat := d.reg Obj.LANE_STATE l

/-- The device has a hot peer (R354). -/
def Dev.hotPeer (d : Dev) : Bool :=
  !d.tw.solo && d.twinState != twReferee && d.reg Obj.TWIN_MODE == 0 && d.laneState 272 == lnActive && d.peerFresh &&
  (d.peerTwin == twActive || d.peerTwin == twHot || d.peerTwin == twJoining)

/-- The peer reads HOT. -/
def Dev.peerIsHot (d : Dev) : Bool := d.peerFresh && d.peerTwin == twHot

/-- The value of DEV_STATE (Table 12.14, R353, R486). -/
def Dev.devState (d : Dev) : Nat :=
  match d.life.phase with
  | .booting => 0
  | .selfTest => 1
  | .layBy => 2
  | .starting => 3
  | .running => if d.acts then 5 else 4
  | .fail => 6
  | .lockout => 7

/-- Stream positions carry IDLE Baskets: before service, in LAY_BY, FAIL and LOCKOUT, and on a standby that is not hot
(R151, R455, R474). -/
def Dev.streamsIdle (d : Dev) : Bool :=
  match d.life.phase with
  | .running => !(d.acts || d.twinState == twHot)
  | _ => true

/-! ### Events and the Trail Log -/

/-- The reference to one element, or to a plain object (Table 12.8). -/
def refOf (n i : Nat) : Ref :=
  match objDesc n with
  | some ⟨_, some _, _, _, _, _, _, _, _, _, _⟩ => ⟨BitVec.ofNat 24 n, 0, true, BitVec.ofNat 16 i, 1⟩
  | _ => ⟨BitVec.ofNat 24 n, 0, false, 0, 0⟩

/-- The 64 bits of a reference (Table 12.8). -/
def refBits (r : Ref) : Nat :=
  r.object.toNat * 2 ^ 40 + r.resv.toNat * 2 ^ 33 + boolNat r.indexed * 2 ^ 32 + r.index.toNat * 2 ^ 16 + r.elements.toNat

/-- The event class of a code (Table 13.13). -/
def eventClass (code : Nat) : Nat :=
  if code == 0x4144 || code == 0x3001 || code == 0x4804 then 10
  else match code / 256 with
    | 0x38 => 1
    | 0x30 => 2
    | 0x11 => 3
    | 0x15 => 3
    | 0x1C => 3
    | 0x18 => 4
    | 0x20 => 5
    | 0x21 => 5
    | 0x29 => 6
    | 0x2A => 6
    | 0x03 => 8
    | 0x48 => 9
    | _ => 0

/-- The severity of a code of Table 13.13. -/
def eventSeverity (code : Nat) : Nat :=
  match code with
  | 0x4140 => 3
  | 0x4141 => 2
  | 0x4142 => 4
  | 0x4143 => 7
  | 0x1802 => 0
  | 0x2901 => 0
  | 0x2101 => 2
  | 0x2102 => 2
  | _ => 1

/-- A code raised by the fault collector: its EVENTs go in the URGENT class (R439). -/
def collectorCode (code : Nat) : Bool := decide (0x4000 ≤ code) && decide (code ≤ 0x4143)

/-- Add a record to a subscription; beyond 1,000 in a second it is dropped and counted (R439). Answers whether it was
dropped. -/
def gather (clock : Nat) (x : SubX) (e : EvRec) : SubX × Bool :=
  let sec := clock / 1000000000
  let n := if x.secStart = sec then x.secCount else 0
  if 1000 ≤ n ∧ e.code ≠ 2 then ({ x with dropped := x.dropped + 1, secStart := sec, secCount := n }, true)
  else
    ({ x with
        recs := x.recs ++ [e], firstAt := if x.recs = [] then clock else x.firstAt,
        secStart := sec, secCount := if e.code = 2 then n else n + 1 }, false)

/-- A stored subscription entry is live, on the given topic (Table 12.9). -/
def subLive (rec topic : Nat) : Bool := bitOf rec 32 && fld rec 239 232 == topic

/-- An entry of topic EVENTS takes an event (R438). -/
def subWants (rec code sev : Nat) : Bool :=
  subLive rec 0 && bitOf rec (112 + eventClass code) && decide (fld rec 231 224 ≤ sev)

/-- Give a record to every entry of one list whose stored record satisfies `p`; answers the dropped count. -/
def gatherAll (d : Dev) (obj : Nat) (subs : SMap SubX) (p : Nat → Bool) (e : EvRec) : SMap SubX × Nat :=
  (List.range 16).foldl (fun (m, n) s =>
    if p (d.reg obj s) then
      let (x, dr) := gather d.clock (smGet m s {}) e
      (smSet m s x {}, if dr then n + 1 else n)
    else (m, n)) (subs, 0)

/-- A saturating counter raised without an event (R460). -/
def Dev.bumpQuiet (d : Dev) (n i k : Nat) : Dev := d.setReg n i (min 0xFFFFFFFF (d.reg n i + k))

/-- Give a record to the subscriptions that want it: the device's own always, the pair's while it acts (R435). -/
def Dev.publish (d : Dev) (p : Nat → Bool) (e : EvRec) : Dev :=
  let (own, n) := gatherAll d Obj.SUB_OWN d.ch.subOwn p e
  let (pair, m) := if d.acts then gatherAll d Obj.SUB_PAIR d.ch.subPair p e else (d.ch.subPair, 0)
  let d := { d with ch := { d.ch with subOwn := own, subPair := pair } }
  if n + m = 0 then d else d.bumpQuiet Obj.CH_EVENTS_DROPPED 0 (n + m)

/-- The first 4 bytes of DATA, zero-padded (Table 13.15). -/
def value4 (data : Bytes) : Nat := beNat ((data ++ [0, 0, 0, 0]).take 4)

/-- Add an entry to the Trail Log (R462, Table 13.15). It is in control RAM until a flush (R463). -/
def Dev.addTrail (d : Dev) (code sev flags : Nat) (ref : Ref) (data : Bytes) : Dev :=
  let e : TrailEntry := ⟨d.reg Obj.TRAIL_NEXT_SEQ, d.now, code, sev, flags, (refBits ref), value4 data⟩
  let d := { d with trailRam := d.trailRam ++ [e] }
  d.setReg Obj.TRAIL_NEXT_SEQ 0 ((e.seq + 1) % 2 ^ 32)

/-- The Trail Log flag of a reaction's event; 0 for every other event (Table 13.15). -/
def reactionFlag (code : Nat) : Nat :=
  match code with
  | 0x4140 => 2
  | 0x4141 => 16
  | 0x4142 => 32
  | 0x4143 => 64
  | _ => 0

/-- Raise an event: to the subscriptions, and to the Trail Log where it is a reaction's or its severity is at least
TRAIL_MIN_SEVERITY (R438, R462). -/
def Dev.event (d : Dev) (code : Nat) (ref : Ref) (data : Bytes := []) (flags : Nat := 0) : Dev :=
  let sev := eventSeverity code
  let e : EvRec := { code, sev, time := d.now, ref, data }
  let d := d.publish (fun rec => subWants rec code sev) e
  if d.reg Obj.TRAIL_MIN_SEVERITY ≤ sev || reactionFlag code != 0 then d.addTrail code sev (reactionFlag code + flags) ref data else d

/-! ### Counters -/

/-- What a counter's saturation does: its bit in LANE_SAT or MG_SAT, its event, its place in CNT_SAT_LIST (R107, R402,
R460). -/
def Dev.saturated (d : Dev) (n i : Nat) : Dev :=
  let r := refOf n i
  let d := if refBits r ∈ d.flt.sat then d else { d with flt := { d.flt with sat := d.flt.sat ++ [refBits r] } }
  if n / 65536 = 0x30 then
    let b := if n = Obj.LANE_PRBS_ERR then 16 else n % 16
    (d.setReg Obj.LANE_SAT i (setBit (d.reg Obj.LANE_SAT i) b true)).event 0x3001 r
  else if n / 65536 = 0x48 then
    let b := if n = Obj.MG_PLCA_ENTRIES then 31 else if n % 256 < 0x60 then n % 16 else 16 + n % 16
    (d.setReg Obj.MG_SAT i (setBit (d.reg Obj.MG_SAT i) b true)).event 0x4804 r
  else d.event 0x4144 r

/-- Raise a 32-bit statistics counter by `k`; it saturates and holds (R460). -/
def Dev.count (d : Dev) (n : Nat) (i : Nat := 0) (k : Nat := 1) : Dev :=
  let v := d.reg n i
  if v + k < 0xFFFFFFFF then d.setReg n i (v + k)
  else if v = 0xFFFFFFFF then d
  else (d.setReg n i 0xFFFFFFFF).saturated n i

/-- Raise a 64-bit counter by `k`; it wraps (R461). -/
def Dev.countWrap (d : Dev) (n i k : Nat) : Dev := d.setReg n i ((d.reg n i + k) % 2 ^ 64)

/-- Clear counters `ns` of element `i`, and remove them from CNT_SAT_LIST (R460). -/
def Dev.clearCounters (d : Dev) (ns : List Nat) (i : Nat) : Dev :=
  let d := ns.foldl (fun d n => d.setReg n i 0) d
  { d with flt := { d.flt with sat := d.flt.sat.filter (fun b => !(ns.any (fun n => refBits (refOf n i) == b))) } }

/-! ### The fault collector -/

/-- The collector uses the fixed scheme (R445). -/
def Dev.fixedScheme (d : Dev) : Bool :=
  match d.life.phase with
  | .booting => true
  | .selfTest => true
  | .starting => true
  | .layBy => true
  | _ => d.twinState == twJoining

/-- The live bit of source `s`: its unit's line, its force bit, or a condition of the last second (R442). -/
def Dev.fltLive (d : Dev) (s : Nat) : Bool :=
  bitOf (smGet d.flt.lines (s / 32) 0) (s % 32) || bitOf (d.reg Obj.FLT_FORCE (s / 32)) (s % 32) ||
  decide (d.clock < smGet d.flt.pulses s 0)

def Dev.fltLatched (d : Dev) (s : Nat) : Bool := bitOf (d.reg Obj.FLT_LATCHED (s / 32)) (s % 32)
def Dev.fltEnabled (d : Dev) (s : Nat) : Bool := bitOf (d.reg Obj.FLT_ENABLE (s / 32)) (s % 32)
def Dev.fltAcked (d : Dev) (s : Nat) : Bool := bitOf (d.reg Obj.FLT_ACK (s / 32)) (s % 32)

/-- The object that names a channel's instance. -/
def channelRef : Channel → Ref
  | .lane l => refOf Obj.LANE_STATE l
  | .pc n => refOf Obj.FM_PC_STATE n
  | .engine n => refOf Obj.CE_STATE n
  | .inserter n => refOf Obj.CI_STATE n
  | .tdm n => refOf Obj.AP_STATE n

/-- A channel is already retired (R447). -/
def Dev.isRetired (d : Dev) : Channel → Bool
  | .lane l => d.laneState l == lnFail
  | .pc n => d.reg Obj.FM_PC_STATE n == 4 || d.reg Obj.FM_PC_STATE n == 3
  | .engine n => d.reg Obj.CE_STATE n == 4
  | .inserter n => d.reg Obj.CI_STATE n == 6
  | .tdm n => d.reg Obj.AP_STATE n == 8

def Dev.fltChan (d : Dev) (s : Nat) : Option Channel := smGet d.flt.chans s none

/-- The reference of a source's records: its instance, or the source itself. -/
def Dev.fltRef (d : Dev) (s : Nat) : Ref :=
  match d.fltChan s with
  | some c => (channelRef c)
  | none => refOf Obj.FLT_SEVERITY s

/-- The severity a source acts with: 3 counts as 2, and 5 as 4, where it names no channel that can be retired (R447). -/
def Dev.actSeverity (d : Dev) (s : Nat) : Nat :=
  let sev := d.reg Obj.FLT_SEVERITY s
  let can := match d.fltChan s with | some c => !d.isRetired c | none => false
  if sev = 3 && !can then 2 else if sev = 5 && !can then 4 else sev

/-- Ask for a reaction when the command ends. -/
def Dev.ask (d : Dev) (r : Reaction) : Dev := { d with flt := { d.flt with todo := d.flt.todo ++ [r] } }

/-- Source `s` takes an ALARM_N reaction (R456). -/
def Dev.alarm (d : Dev) (s : Nat) : Dev :=
  { d with flt := { d.flt with
      alarmed := smSet d.flt.alarmed (s / 32) (setBit (smGet d.flt.alarmed (s / 32) 0) (s % 32) true) 0 } }

/-- Source `s` joins its group's escalation timer, which starts where it is stopped (R449). -/
def Dev.joinTimer (d : Dev) (s : Nat) : Dev :=
  let g := s / 32
  let j := setBit (smGet d.flt.joined g 0) (s % 32) true
  let e := smGet d.flt.escEnd g 0
  let e := if e = 0 then d.clock + 1000 * d.reg Obj.FLT_ESC_TIME g else e
  { d with flt := { d.flt with joined := smSet d.flt.joined g j 0, escEnd := smSet d.flt.escEnd g e 0 } }

/-- The reactions of the service scheme that source `s` has not taken yet: at its latch, and again when its severity is
written (R446, R450, R451, Table 13.1). -/
def Dev.reactService (d : Dev) (s : Nat) : Dev :=
  let sev := d.actSeverity s
  if d.reg Obj.FLT_SEVERITY s = 7 then (d.alarm s).ask .lockout
  else
    let g := s / 32
    let d := if 2 ≤ sev then d.alarm s else d
    let done := bitOf (d.reg Obj.FLT_ACK g) (s % 32) || bitOf (d.reg Obj.FLT_ESCALATED g) (s % 32) ||
      bitOf (smGet d.flt.joined g 0) (s % 32)
    let d := if 3 ≤ sev && sev ≤ 5 && !done then d.joinTimer s else d
    if sev = 6 || d.reg Obj.FLT_CLASS s = 2 then d.ask .dropPass else d

/-- The reactions of the fixed scheme to a latch (R452, Table 13.2). -/
def Dev.reactFixed (d : Dev) (s : Nat) : Dev :=
  let cls := d.reg Obj.FLT_CLASS s
  let d := if 1 ≤ cls then d.alarm s else d
  if d.reg Obj.FLT_SEVERITY s = 7 then d.ask .lockout
  else
    let d := match d.fltChan s with
      | some c => if 1 ≤ cls && !d.isRetired c then d.ask (.retire c) else d
      | none => d
    if cls = 2 then (d.ask .failStop).ask .dropPass else d

/-- The event severity of a latch in the scheme in use (R452, R458). -/
def Dev.latchSeverity (d : Dev) (s : Nat) : Nat :=
  if d.fixedScheme then (match d.reg Obj.FLT_CLASS s with | 0 => 1 | 1 => 2 | _ => 6) else d.reg Obj.FLT_SEVERITY s

/-- The Trail Log entry of a latch, once a second (R462). -/
def Dev.latchEntry (d : Dev) (s : Nat) (data : Bytes) : Dev :=
  let last := smGet d.flt.lastEntry s 0
  let flags := boolNat (bitOf (d.reg Obj.FLT_FORCE (s / 32)) (s % 32)) + (if d.fixedScheme then 8 else 0)
  if last = 0 || last + 1000000000 ≤ d.clock + 1 then
    { d.addTrail (0x4000 + s) (d.latchSeverity s) flags (d.fltRef s) data with
      flt := { d.flt with lastEntry := smSet d.flt.lastEntry s (d.clock + 1) 0 } }
  else d

/-- Source `s` latches and counts; while enabled it enters the Trail Log, raises its event and takes its reactions (R442 to
R452, R458, R462). -/
def Dev.latch (d : Dev) (s : Nat) : Dev :=
  let g := s / 32
  let d := d.setReg Obj.FLT_LATCHED g (setBit (d.reg Obj.FLT_LATCHED g) (s % 32) true)
  let d := d.count Obj.FLT_COUNT s
  let d := if d.reg Obj.FLT_CLASS s = 2 then { d with life := { d.life with fatalSeen := true } } else d
  if d.fltEnabled s then
    let sev := d.latchSeverity s
    let data := [BitVec.ofNat 8 (boolNat (d.fltLive s))]
    let d := d.latchEntry s data
    let e : EvRec := { code := 0x4000 + s, sev, time := d.now, ref := d.fltRef s, data }
    let d := if d.fixedScheme || 1 ≤ sev then d.publish (fun rec => subWants rec (0x4000 + s) sev) e else d
    if d.fixedScheme then d.reactFixed s else d.reactService s
  else d

/-- A unit's error line to source `s` (R442). -/
def Dev.setLine (d : Dev) (s : Nat) (b : Bool) (c : Option Channel := none) : Dev :=
  let v := smGet d.flt.lines (s / 32) 0
  if bitOf v (s % 32) == b then d
  else
    let d := { d with flt := { d.flt with lines := smSet d.flt.lines (s / 32) (setBit v (s % 32) b) 0 } }
    if b then
      let d := { d with flt := { d.flt with chans := smSet d.flt.chans s c none } }
      if d.fltLatched s then d else d.latch s
    else d

/-- A condition of source `s` that is live for 1 s from now. -/
def Dev.pulse (d : Dev) (s : Nat) (c : Option Channel := none) : Dev :=
  let d := { d with flt := { d.flt with
      pulses := smSet d.flt.pulses s (d.clock + 1000000000) 0, chans := smSet d.flt.chans s c none } }
  if d.fltLatched s then d else d.latch s

/-- ALARM_N is held low (R456). -/
def Dev.alarmLow (d : Dev) : Bool :=
  decide (d.life.phase = .fail) || decide (d.life.phase = .lockout) || d.life.bootFailed ||
  (List.range 9).any (fun g =>
    (smGet d.flt.alarmed g 0 &&& d.reg Obj.FLT_LATCHED g &&& d.reg Obj.FLT_ENABLE g) != 0)

/-- The lane sources of slot group `g`: 0 LANE_FAIL, 1 LANE_UNPROTECTED, 2 LANE_MARGIN (Tables 13.4, 13.5). -/
def laneSource (k g : Nat) : Nat := if g < 8 then 32 + 3 * g + k else 64 + 3 * (g - 8) + k

/-! ### Responses -/

/-- The index of a port in the protocol counters (R440). -/
def portIdx : Port → Nat
  | .mgA => 0
  | .mgB => 1
  | .cn => 2
  | .db => 3

/-- A Chawyn header (Table 12.4): `kind`, RESPONSE, MORE, LATE, SENDER_B, STATUS, COUNT, REQ_ID, LENGTH, SEG_OFFSET,
TOTAL. -/
def headerBytes (kind : Nat) (response more late senderB : Bool) (status count reqId length segOff total : Nat) : Bytes :=
  beBytes 16 (1 * 2 ^ 124 + kind % 16 * 2 ^ 120 + boolNat response * 2 ^ 119 + boolNat more * 2 ^ 118 +
    boolNat late * 2 ^ 117 + boolNat senderB * 2 ^ 116 + status % 256 * 2 ^ 104 + count % 256 * 2 ^ 96 +
    reqId % 2 ^ 32 * 2 ^ 64 + length % 65536 * 2 ^ 48 + segOff % 65536 * 2 ^ 32 + total % 2 ^ 32)

/-- The bytes of a frame from DA to FCS that carries `msg`, padded (R395). -/
def frameLen (tag : Option (BitVec 16)) (msg : Bytes) : Nat :=
  max 60 (14 + (if tag.isSome then 4 else 0) + msg.length) + 4

/-- One management port's MAC. -/
def Dev.mac (d : Dev) (m : Nat) : MacX := smGet d.macs m {}
def Dev.setMac (d : Dev) (m : Nat) (x : MacX) : Dev := { d with macs := smSet d.macs m x {} }

/-- Put a frame in its transmit ring: 32 descriptors URGENT, 128 NORMAL; firmware holds what finds no room (R389). -/
def MacX.enqueue (x : MacX) (f : TxFrame) : MacX :=
  let f := { f with urgent := f.urgent && decide (frameLen f.tag f.msg ≤ 256) }
  if f.urgent then
    if x.urgent.length < 32 then { x with urgent := x.urgent ++ [f] } else { x with waiting := x.waiting ++ [f] }
  else
    if x.normal.length < 128 then { x with normal := x.normal ++ [f] } else { x with waiting := x.waiting ++ [f] }

/-- The messages of a response or EVENT, cut at `seg` bytes (R393): header fields, then payload. -/
def segments (kind : Nat) (response late senderB : Bool) (status count reqId : Nat) (payload : Bytes) (seg : Nat) :
    List Bytes :=
  let n := payload.length
  let pieces := if n = 0 then [[]] else chunksOf seg (n + 1) payload
  (List.range pieces.length).map (fun i =>
    let p := pieces.getD i []
    headerBytes kind response (decide (i + 1 < pieces.length)) late senderB status count reqId p.length (i * seg) n ++ p)

/-- Frames for a destination, in order; `resp` numbers the response. -/
def Dev.sendFrames (d : Dev) (m : Nat) (da : BitVec 48) (tag : Option (BitVec 16)) (urgent : Bool) (resp : Nat)
    (msgs : List Bytes) : Dev :=
  let n := msgs.length
  let x := (List.range n).foldl (fun x i =>
    x.enqueue { da, tag, msg := msgs.getD i [], urgent, resp, last := decide (i + 1 = n), segmented := decide (1 < n) })
    (d.mac m)
  d.setMac m x

/-- The whole bytes of a response, unsegmented: what the Canopy port and the mailbox send. -/
def Resp.bytes (r : Resp) (senderB : Bool) : Bytes :=
  headerBytes r.kind true false r.late senderB r.status r.count r.req.reqId.toNat r.payload.length 0 r.payload.length ++
  r.payload

/-- Send a response by its port (R374, R380, R423, R529): frames on a management port, the pending reply of the Canopy
port, the RX buffer of the mailbox. -/
def Dev.send (d : Dev) (r : Resp) : Dev :=
  let sb := d.nv.sideB
  match r.req.port with
  | .cn => { d with ch := { d.ch with cnReply := some (r.bytes sb) } }
  | .db =>
    if d.dbg.dropReply then { d with dbg := { d.dbg with txBusy := false, dropReply := false } }
    else { d with dbg := { d.dbg with txBusy := false, rx := some (r.bytes sb), rxPos := 0 } }
  | p =>
    let d := { d with ch := { d.ch with respNo := d.ch.respNo + 1 } }
    d.sendFrames (portIdx p) r.req.src r.req.tag r.urgent d.ch.respNo
      (segments r.kind true r.late sb r.status r.count r.req.reqId.toNat r.payload (d.reg Obj.MG_SEG_SIZE))

/-! ### Mirror records on TW_0 (R194, R361 to R363) -/

/-- Queue a record for TW_0, in `copies` consecutive INTERNAL Baskets. A SEAL or a mirrored decision finds no one where TW_0 is not
ACTIVE (Table 10.6). -/
def Dev.sendRec (d : Dev) (code : Nat) (body : Bytes) (copies : Nat) : Dev :=
  if code < 8 ∧ d.laneState 272 ≠ lnActive then d
  else { d with tw := { d.tw with
      recs := d.tw.recs ++ [⟨code, d.tw.rseq, body, copies⟩], rseq := (d.tw.rseq + 1) % 65536 } }

/-- The holder sends a mirrored decision, twice (R363); without a hot peer there is no one to send it to. -/
def Dev.mirror (d : Dev) (code : Nat) (body : Bytes) : Dev :=
  if d.acts && d.hotPeer then d.sendRec code body 2 else d

/-- The device applies the holder's decisions (R194, Table 10.5): it does not act, and reads HOT or has loaded a snapshot. -/
def Dev.follows (d : Dev) : Bool :=
  !d.acts && ((decide (d.life.phase = .running) && d.twinState == twHot) ||
    (d.twinState == twJoining &&
      (decide (d.tw.join = .filling) || decide (d.tw.join = .verifying) || decide (d.tw.join = .switching))))

/-- A standby took a decision itself: MIRROR_MISS (R195). -/
def Dev.mirrorMiss (d : Dev) (counter : Nat) : Dev :=
  ((d.count counter).event 0x0301 (refOf counter 0)).pulse Flt.TWIN_MIRROR

/-! ### Time passes -/

/-- The largest correction of one tick: 1 ppm of 4 ns, in units of 2^-48 ns (R60). -/
def slewMax : Int := 1125899906

/-- `n` ticks of the Media Time Counter: 4 ns each, plus the corrections that the fractional accumulator takes in (R58, R60). -/
def TimeX.pass (t : TimeX) (n : Nat) : TimeX :=
  let c := clampInt (-(slewMax * n)) (slewMax * n) t.slewLeft
  let acc : Int := (t.mt : Int) * 4294967296 + t.frac + n * (4 * 65536 * 4294967296) + c
  let u := acc.toNat
  { t with mt := u / 4294967296 % mtWrap, frac := u % 4294967296, slewLeft := t.slewLeft - c, clock := t.clock + 4 * n }

/-- One tick. -/
def TimeX.tick (t : TimeX) : TimeX := t.pass 1

/-- The ticks up to elapsed time `at_`, where it has not come: a command that stands for the end of a running timer brings the device
there. -/
def Dev.passTo (d : Dev) (at_ : Nat) : Dev :=
  if d.clock < at_ then { d with time := d.time.pass ((at_ - d.clock + 3) / 4) } else d

/-- The ticks up to Media Time `e`, where it has not come. -/
def Dev.passToMt (d : Dev) (e : Nat) : Dev :=
  (List.range 3).foldl (fun d _ =>
    if d.now < e then { d with time := d.time.pass ((e - d.now + 4 * subNs - 1) / (4 * subNs)) } else d) d

/-- The next multiple of `period` of Media Time, where the one of index `last` has had its turn. -/
def Dev.nextTick (d : Dev) (period last : Nat) : Nat := if d.now / period = last then (last + 1) * period else d.now

end Sys2Proof.Machine
end

