-- ==== Sys2Proof/Machine/Lanes.lean ====
section
/-! DEFINITION. Zwichlink lane pairs: the states of Table 3.2, training and tap negotiation, charged transitions and
retirement, and the spare of each slot group ("Zwichlink lanes", R84 to R120; spare messages R147, R560, R561). -/

namespace Sys2Proof.Machine

/-! ### Names and parts -/

/-- Slot group of a lane index; twin links answer 16 (R84). -/
def laneGroup (l : Nat) : Nat := l / 17
/-- Lane number in its group: 16 is the spare. -/
def laneNo (l : Nat) : Nat := l % 17
def isTwin (l : Nat) : Bool := decide (272 ≤ l)
def isSpare (l : Nat) : Bool := decide (l < 272) && laneNo l == 16
def spareOf (g : Nat) : Nat := 17 * g + 16

def Dev.lane (d : Dev) (l : Nat) : LaneX := smGet d.lanes l {}
def Dev.setLane (d : Dev) (l : Nat) (x : LaneX) : Dev := { d with lanes := smSet d.lanes l x {} }
def Dev.modLane (d : Dev) (l : Nat) (f : LaneX → LaneX) : Dev := d.setLane l (f (d.lane l))
def Dev.tx (d : Dev) (l : Nat) : LaneTx := smGet d.ltx l {}
def Dev.setTx (d : Dev) (l : Nat) (x : LaneTx) : Dev := { d with ltx := smSet d.ltx l x {} }
def Dev.group (d : Dev) (g : Nat) : GroupX := smGet d.groups g {}
def Dev.setGroup (d : Dev) (g : Nat) (x : GroupX) : Dev := { d with groups := smSet d.groups g x {} }

def Dev.out (d : Dev) (p : Nat) : OutX := smGet d.outs p {}
def Dev.setOut (d : Dev) (p : Nat) (x : OutX) : Dev := { d with outs := smSet d.outs p x {} }
def Dev.modOut (d : Dev) (p : Nat) (f : OutX → OutX) : Dev := d.setOut p (f (d.out p))
def Dev.modTx (d : Dev) (l : Nat) (f : LaneTx → LaneTx) : Dev := d.setTx l (f (d.tx l))

/-- A pair in EXCHANGE or ACTIVE sends service Baskets (R103). -/
def Dev.sendsSvc (d : Dev) (l : Nat) : Bool := d.laneState l == lnExchange || d.laneState l == lnActive

/-- Queue a one-shot service message for the next service Basket of a lane pair that sends them (R142, R143). -/
def Dev.sendSvc (d : Dev) (l code : Nat) (body : Bytes) : Dev :=
  if d.sendsSvc l then d.modTx l (fun x => { x with svc := x.svc ++ [(code, body)] }) else d

/-- The fault lines that follow the lane states of a slot group (Tables 13.4, 13.5). -/
def Dev.laneLines (d : Dev) (g : Nat) : Dev :=
  let ls := (List.range 17).map (fun k => 17 * g + k)
  let bad (r : Nat) (l : Nat) : Bool := d.laneState l == lnFail && d.reg Obj.LANE_FAIL_REASON l == r
  let find (p : Nat → Bool) : Option Channel := (ls.find? p).map (fun l => .lane (Fin.ofNat 274 l))
  let f := find (fun l => bad 1 l || bad 3 l || bad 4 l)
  let u := find (fun l => bad 2 l || (laneNo l == 16 && d.laneState l == lnFail))
  let d := d.setLine (laneSource 0 g) f.isSome f
  d.setLine (laneSource 1 g) u.isSome u

/-- The group or twin-link lines after a change of lane `l`, and LANE_TEST. -/
def Dev.laneChanged (d : Dev) (l : Nat) : Dev :=
  if l < 272 then d.laneLines (laneGroup l) else d

/-- The lane that the spare carries or is taking over; 255 none. -/
def Dev.spareLane (d : Dev) (g : Nat) : Nat :=
  match (d.group g).move with
  | .bringUp l => l
  | .takeover l => l
  | _ => d.reg Obj.LANE_SPARE_FOR g

/-- The egress that waits for the output ports of lane pair `l`, or of the lane that a spare carries, is discarded (R110). -/
def Dev.dropEgress (d : Dev) (l : Nat) : Dev :=
  let g := laneGroup l
  let k := if laneNo l = 16 then d.spareLane g else laneNo l
  if isTwin l || decide (16 ≤ k) then d
  else (List.range 4).foldl (fun d s => d.modOut (64 * g + 4 * k + s) (fun x => { x with pkts := [] })) d

/-- What ends as a lane pair leaves ACTIVE: its ports are out of service, received Baskets are not delivered and waiting egress is
discarded (R103, R110); a pair that sends no service Baskets forgets those that waited (R142). -/
def Dev.noteActive (d : Dev) (l st : Nat) : Dev :=
  let d := if st == lnActive then d.modLane l (fun x => { x with leftActive := none, live := false })
    else if d.laneState l == lnActive then
      ((d.modLane l (fun x => { x with leftActive := some d.clock, live := false, rx := [] })).modTx l
        (fun x => { x with live := false })).dropEgress l
    else d
  if st == lnActive || st == lnExchange then d else d.modTx l (fun x => { x with svc := [] })

/-- Move a lane pair to a state; its FAIL reason goes to none. -/
def Dev.toLane (d : Dev) (l st : Nat) : Dev :=
  (((d.noteActive l st).setReg Obj.LANE_STATE l st).setReg Obj.LANE_FAIL_REASON l 0).laneChanged l

/-- A lane pair fails with a reason (Table 3.10). -/
def Dev.failLane (d : Dev) (l reason : Nat) : Dev :=
  (((d.noteActive l lnFail).setReg Obj.LANE_STATE l lnFail).setReg Obj.LANE_FAIL_REASON l reason).laneChanged l

/-- The lane reference is there: one FREF input is QUALIFIED (R73, R92). -/
def Dev.laneRefOk (d : Dev) : Bool := d.reg Obj.LANE_REF != 255

/-! ### Taps and presets -/

/-- LANE_TX_TAPS of the four taps. -/
def tapsWord (pre2 pre1 main post1 : Nat) : Nat := pre2 * 2 ^ 24 + pre1 * 2 ^ 16 + main * 2 ^ 8 + post1

/-- The presets (Table 3.5). -/
def presetTaps (p : Nat) : Nat :=
  match p with
  | 0 => tapsWord 0 0 63 0
  | 1 => tapsWord 0 0 55 8
  | 2 => tapsWord 0 4 51 8
  | 3 => tapsWord 0 4 47 12
  | 4 => tapsWord 0 6 43 14
  | 5 => tapsWord 2 6 39 16
  | 6 => tapsWord 2 8 35 18
  | _ => tapsWord 3 8 32 20

/-- The tap settings obey Table 3.4 and both sum rules (R97). -/
def tapsOk (pre2 pre1 main post1 : Int) : Bool :=
  decide (0 ≤ pre2) && decide (pre2 ≤ 7) && decide (0 ≤ pre1) && decide (pre1 ≤ 15) && decide (16 ≤ main) &&
  decide (main ≤ 63) && decide (0 ≤ post1) && decide (post1 ≤ 31) && decide (main + pre2 + pre1 + post1 ≤ 63) &&
  decide (1 ≤ main - pre2 - pre1 - post1)

/-- A request field as a step: 0b01 up, 0b10 down (Table 3.3). -/
def reqStep (f : Nat) : Int := if f = 1 then 1 else if f = 2 then -1 else 0

/-- The status field of a request that was not applied: 0b11 for an increment, 0b10 for a decrement (R98). -/
def limitStatus (f : Nat) : Nat := if f = 1 then 3 else if f = 2 then 2 else 0
/-- The status field of a request that was applied. -/
def doneStatus (f : Nat) : Nat := if f = 0 then 0 else 1

/-- The transmitter's answer to the request bits 46:35 of a training word: new taps, and the status fields PRE2, PRE1, MAIN,
POST1 as bits 7:0 (R98). -/
def answerRequest (taps req : Nat) : Nat × Nat :=
  if bitOf req 11 then (presetTaps (fld req 10 8), 0x55)
  else
    let q2 := fld req 7 6
    let q1 := fld req 5 4
    let qm := fld req 3 2
    let qp := fld req 1 0
    let a2 : Int := fld taps 31 24 + reqStep q2
    let a1 : Int := fld taps 23 16 + reqStep q1
    let am : Int := fld taps 15 8 + reqStep qm
    let ap : Int := fld taps 7 0 + reqStep qp
    let pack (f : Nat → Nat) : Nat := f q2 * 64 + f q1 * 16 + f qm * 4 + f qp
    if tapsOk a2 a1 am ap then (tapsWord a2.toNat a1.toNat am.toNat ap.toNat, pack doneStatus)
    else (taps, pack limitStatus)

/-- A request that is not hold. -/
def isRequest (req : Nat) : Bool := bitOf req 11 || fld req 7 0 != 0

/-- CRC-8 of a training word over bits 63:8, polynomial 0x07 (Table 3.3). -/
def trainingCrc (w : Nat) : Nat := crcNorm 8 0x07 0 (beBytes 7 (w / 256))

/-- The training word that a transmitter sends in TRAIN, but for its WCRC: RX_READY, the request in hand, bits 46:35, the status of the
last request applied, and the identity of the link (Table 3.3, R98, R99). -/
def trainingHead (ready : Bool) (req status id : Nat) : Nat :=
  0xE5A7 * 2 ^ 40 + boolNat ready * 2 ^ 39 + req % 4096 * 2 ^ 27 + status % 256 * 2 ^ 19 + id % 1024 * 2 ^ 9

/-- A training word with its WCRC. -/
def trainingEncode (ready : Bool) (req status id : Nat) : Nat :=
  let h := trainingHead ready req status id
  h * 256 + crcNorm 8 0x07 0 (beBytes 7 h)

/-- A training word is valid (R96): TMARK, WCRC, and no reserved REQ_ encoding. -/
def trainingValid (w : Nat) : Bool :=
  fld w 63 48 == 0xE5A7 && fld w 7 0 == trainingCrc w && fld w 42 41 != 3 && fld w 40 39 != 3 && fld w 38 37 != 3 &&
  fld w 36 35 != 3

/-- The identity TWIN, GROUP, LANE that a training word or CAP for lane pair `l` must carry, as TWIN[9], GROUP[8:5],
LANE[4:0] (Table 3.3, R372). -/
def Dev.laneIdentity (d : Dev) (l : Nat) : Nat :=
  if l < 272 then laneGroup l * 32 + laneNo l
  else 512 + (if d.nv.refereeDuty then 1 else l - 272) * 32

/-! ### Entering the states -/

/-- Enter DETECT: the termination tests start afresh (R94). -/
def Dev.toDetect (d : Dev) (l : Nat) : Dev :=
  (d.modLane l (fun x => { x with
    termHits := 0, gotWord := false, rxReady := false, readyWords := 0, neg := {}, goodRun := 0,
    uiRun := 0, validRun := 0, placedRun := 0, syncHist := 0, lastMisplaced := false, blockLock := false,
    svcHist := 0, cycleLock := false, ourAcked := false, farOk := false, rx := [], expect := [], asm := [],
    status := 0, farReq := 0 })).toLane l lnDetect

/-- Start the receiver's negotiation: from the preset sweep, or, on a retrain from ACTIVE, at the single taps (R100,
R101). -/
def startNeg (sweep : Bool) (far : Nat) : NegX :=
  if sweep then { phase := .sweep 0, far } else { phase := .step 0 0, far }

/-- Enter TRAIN. From DETECT, LOCK, EXCHANGE and at a charged restart the transmitter loads LANE_TX_PRESET and the sweep
runs; from ACTIVE the taps stay (R100). -/
def Dev.toTrain (d : Dev) (l : Nat) (sweep : Bool) : Dev :=
  let d := if sweep then d.setReg Obj.LANE_TX_TAPS l (presetTaps (d.reg Obj.LANE_TX_PRESET l)) else d
  (d.modLane l (fun x => { x with
    gotWord := false, rxReady := false, readyWords := 0, neg := startNeg sweep x.neg.far, goodRun := 0, svcHist := 0,
    cycleLock := false, ourAcked := false, farOk := false, rx := [], expect := [], asm := [], status := 0,
    farReq := 0 })).toLane l lnTrain

/-- Charged transitions of a pair that began within LANE_RETRY_WINDOW (R108). -/
def Dev.chargedIn (d : Dev) (l : Nat) : Nat :=
  ((d.lane l).charged.filter (fun t => decide (d.clock < t + 1000000000 * d.reg Obj.LANE_RETRY_WINDOW))).length

/-- Ask for the retirement of a lane pair: at its group's next retirement point (R110), a twin link at once (R116). -/
def Dev.wantRetire (d : Dev) (l : Nat) : Dev :=
  let st := d.laneState l
  if isTwin l then (if st == lnOff || st == lnTest || st == lnFail then d else d.failLane l 2)
  else
    let g := laneGroup l
    let x := d.group g
    if laneNo l ∈ x.retire then d else d.setGroup g { x with retire := x.retire ++ [laneNo l] }

/-- A charged transition is due: the pair is retired where LANE_RETRY_LIMIT began within the window, else it is counted and
made (R108). -/
def Dev.charge (d : Dev) (l : Nat) (go : Dev → Dev) : Dev :=
  if d.reg Obj.LANE_RETRY_LIMIT ≤ d.chargedIn l then d.wantRetire l
  else
    let d := d.modLane l (fun x => { x with charged := (d.clock :: x.charged).take 16 })
    go ((d.count Obj.LANE_RETRAINS l).pulse Flt.LANE_RETRAIN)

/-- A retrain from ACTIVE: from current taps; not charged within the window of R91 (R108). -/
def Dev.retrain (d : Dev) (l : Nat) : Dev :=
  if d.clock < d.ref.refStepEnd then d.toTrain l false else d.charge l (fun d => d.toTrain l false)

/-! ### The spare -/

/-- The spare is available to take lane `k` over (R110): LANE_EN TRUE, not in FAIL, carrying no other lane. -/
def Dev.spareFree (d : Dev) (g k : Nat) : Bool :=
  d.flag Obj.LANE_EN (spareOf g) && d.laneState (spareOf g) != lnFail && (d.spareLane g == 255 || d.spareLane g == k)

/-- CODE of SPARE_REFUSED for an unavailable spare: the lowest that applies (Table 4.12). -/
def Dev.spareWhy (d : Dev) (g : Nat) : Nat :=
  if !d.flag Obj.LANE_EN (spareOf g) then 1 else if d.laneState (spareOf g) == lnFail then 2 else 3

/-- The pair whose line carries the slots of lane `k` of group `g` in one direction, which `moved` says has switched; none while a
takeover of the lane has not switched it (R111, R112, R560). -/
def Dev.slotPair (d : Dev) (g k : Nat) (moved : GroupX → Bool) : Option Nat :=
  let own := 17 * g + k
  match (d.group g).move with
  | .bringUp j => if j = k then none else some own
  | .takeover j => if j = k then (if moved (d.group g) then some (spareOf g) else none) else some own
  | .release j => if j = k ∧ ¬ moved (d.group g) then some (spareOf g) else some own
  | .none => if d.reg Obj.LANE_SPARE_FOR g = k then some (spareOf g) else some own

/-- The spare goes to the state its LANE_SPARE_MODE gives: WATCH keeps it up, OFF switches it off (R112). A spare in TEST or FAIL has
no such move in Table 3.2. -/
def Dev.restSpare (d : Dev) (g : Nat) : Dev :=
  let s := spareOf g
  if d.laneState s == lnTest || d.laneState s == lnFail then d
  else if d.reg Obj.LANE_SPARE_MODE g = 0 then (if d.laneState s == lnOff then d else d.toLane s lnOff)
  else if d.laneState s == lnOff then d.toDetect s else d

/-- The group starts a move, or ends one. -/
def Dev.setMove (d : Dev) (g : Nat) (m : Move) : Dev :=
  d.setGroup g { (d.group g) with move := m, acked := false, goSeen := false, goSent := false, goLeft := 0 }

/-- Begin a takeover of lane `k`: at once from ACTIVE, else after bring-up (R111, R114). -/
def Dev.startTakeover (d : Dev) (g k : Nat) : Dev :=
  let s := spareOf g
  let up := d.laneState s == lnActive
  let d := d.setMove g (if up then .takeover k else .bringUp k)
  let d := d.setGroup g { (d.group g) with checking := false, orphan := none }
  if d.laneState s == lnOff then d.toDetect s else d

/-- DATA of a RETIREMENT event: the instance's reference, then the assignment that follows. -/
def retireData (l next : Nat) : Bytes := beBytes 2 l ++ beBytes 2 next

/-- A pair in FAIL changes its reason from RETIRED to RETIRED_NO_SPARE (R113, R561). -/
def Dev.noSpare (d : Dev) (l : Nat) : Dev :=
  if d.laneState l == lnFail && d.reg Obj.LANE_FAIL_REASON l == 1 then d.failLane l 2 else d

/-- A pair goes to FAIL where Table 3.2 allows it: from any state but OFF and TEST. -/
def Dev.failUp (d : Dev) (l reason : Nat) : Dev :=
  if d.laneState l == lnOff || d.laneState l == lnTest then d else d.failLane l reason

/-- Retire lane number `k` of group `g` (R110, R112, R113). -/
def Dev.retireOne (d : Dev) (g k : Nat) : Dev :=
  let l := 17 * g + k
  let st := d.laneState l
  if st == lnOff || st == lnTest || st == lnFail then d
  else if k = 16 then
    let carried := d.spareLane g
    let d := ((d.failLane l 2).setReg Obj.LANE_SPARE_FOR g 255).setMove g .none
    let d := d.setGroup g { (d.group g) with checking := false, orphan := if carried < 16 then some carried else none }
    let d := if carried < 16 then d.noSpare (17 * g + carried) else d
    d.event 0x4141 (refOf Obj.LANE_STATE l) (retireData l 255)
  else if d.spareLane g = k then
    let d := match (d.group g).move with
      | .release _ => d.setMove g .none
      | _ => d
    (d.failLane l 1).event 0x4141 (refOf Obj.LANE_STATE l) (retireData l (spareOf g))
  else if d.spareFree g k then
    ((d.failLane l 1).startTakeover g k).event 0x4141 (refOf Obj.LANE_STATE l) (retireData l (spareOf g))
  else (d.failLane l 2).event 0x4141 (refOf Obj.LANE_STATE l) (retireData l 255)

/-- Decide the pending retirements of a group, the lower lane number first (R110). -/
def Dev.retirePoint (d : Dev) (g : Nat) : Dev :=
  let todo := (List.range 17).filter (fun k => decide (k ∈ (d.group g).retire))
  let d := d.setGroup g { (d.group g) with retire := [] }
  todo.foldl (fun d k => d.retireOne g k) d

/-- A takeover fails: the spare and the lane read RETIRED_NO_SPARE (R561). -/
def Dev.failTakeover (d : Dev) (g k : Nat) : Dev :=
  let d := d.setMove g .none
  let d := (d.failUp (spareOf g) 2).noSpare (17 * g + k)
  d.pulse Flt.SPARE_ABORT (some (.lane (Fin.ofNat 274 (spareOf g))))

/-- A release fails: the original lane returns to FAIL, RETIRED, and the spare keeps the slots (R561). -/
def Dev.failRelease (d : Dev) (g k : Nat) : Dev :=
  let d := d.setMove g .none
  (d.failUp (17 * g + k) 1).pulse Flt.SPARE_ABORT (some (.lane (Fin.ofNat 274 (17 * g + k))))

/-- Lane `k` is ACTIVE and the spare carries its slots: the release begins (R112). -/
def Dev.tryRelease (d : Dev) (g k : Nat) : Dev :=
  if d.reg Obj.LANE_SPARE_FOR g = k ∧ (d.group g).move = .none ∧ d.laneState (17 * g + k) = lnActive then d.setMove g (.release k) else d

/-- SPARE_ACK has come and both SPARE_GOs have passed: both directions have switched, and LANE_SPARE_FOR follows (R111, R112, R560).
SPARE_GO goes on through its eight cycles. -/
def Dev.finishMove (d : Dev) (g : Nat) : Dev :=
  let x := d.group g
  let ended := d.setGroup g { x with move := .none, acked := false, goSeen := false, goSent := false }
  if x.acked && x.goSeen && x.goSent then
    match x.move with
    | .takeover k => (ended.setReg Obj.LANE_SPARE_FOR g k).tryRelease g k
    | .release _ => (ended.setReg Obj.LANE_SPARE_FOR g 255).restSpare g
    | _ => d
  else d

/-- Enter ACTIVE: a spare brought up begins its takeover, a restarted spare takes its lane's slots again, and a restarted lane whose
slots the spare carries begins its release (R111, R112, R113). -/
def Dev.toActive (d : Dev) (l : Nat) : Dev :=
  let d := (d.modLane l (fun x => { x with winIndex := d.now / msMt 1, winBad := 0, winSync := 0 })).toLane l lnActive
  if isTwin l then d
  else
    let g := laneGroup l
    let x := d.group g
    if laneNo l = 16 then
      match x.move, x.orphan with
      | .bringUp k, _ => d.setMove g (.takeover k)
      | .none, some k =>
        if d.laneState (17 * g + k) = lnFail ∧ d.reg Obj.LANE_FAIL_REASON (17 * g + k) = 2 then
          (d.failLane (17 * g + k) 1).startTakeover g k
        else d
      | _, _ => d
    else
      let d := if x.orphan = some (laneNo l) then d.setGroup g { x with orphan := none } else d
      d.tryRelease g (laneNo l)

/-- EXCHANGE is complete when the far end acknowledged our capabilities and its own came and are compatible (Table 3.2). -/
def Dev.tryActive (d : Dev) (l : Nat) : Dev :=
  let x := d.lane l
  if d.laneState l == lnExchange && x.ourAcked && x.farOk then d.toActive l else d

/-- Neither FREF input is QUALIFIED: every pair that is not OFF, TEST or FAIL goes to DETECT, not charged (R92); the first test after
the pause counts as the first after entry (R94). -/
def Dev.dropLanes (d : Dev) : Dev :=
  (List.range 274).foldl (fun d l =>
    let st := d.laneState l
    if st == lnOff || st == lnTest || st == lnFail then d
    else if st == lnDetect then d.modLane l (fun x => { x with termHits := 0 })
    else d.toDetect l) d

/-- Lane pairs with LANE_EN TRUE leave OFF at step 6 of Table 14.1; spares only in WATCH; slot-group lanes stay OFF in
referee duty (R118, R371, R472). -/
def Dev.raiseLanes (d : Dev) : Dev :=
  (List.range 274).foldl (fun d l =>
    if d.laneState l != lnOff || !d.flag Obj.LANE_EN l then d
    else if isSpare l && d.reg Obj.LANE_SPARE_MODE (laneGroup l) == 0 then d
    else if l < 272 && d.nv.refereeDuty then d
    else d.toDetect l) d

/-! ### Training -/

/-- The margin a step must add (R101). -/
def marginStep : Nat := 2

/-- The request in hand is new. -/
def NegX.ask (n : NegX) (p : NegPhase) : NegX := { n with phase := p, answered := false, refused := false, cleared := false }

/-- The next tap after one is done: POST1, PRE1, PRE2. At the end of a pass a new one begins while a step improved and fewer than 400
were made; else the negotiation ends (R101). -/
def nextTap (n : NegX) (tap : Nat) : NegX :=
  if tap < 2 then n.ask (.step (tap + 1) 0)
  else if n.improved && decide (n.steps < 400) then { n with improved := false }.ask (.step 0 0)
  else { n with phase := .done }

/-- The other direction of a tap after the increment, else the next tap. -/
def nextDir (n : NegX) (tap dir : Nat) : NegX := if dir = 0 then n.ask (.step tap 1) else nextTap n tap

/-- The preset with the largest margin, the lowest on a tie; `ms` newest first. -/
def bestPreset (ms : List Nat) : Nat :=
  let v := ms.reverse
  (List.range v.length).foldl (fun b i => if v.getD b 0 < v.getD i 0 then i else b) 0

/-- A margin was measured: the negotiation moves on (R101). -/
def negMeasure (n : NegX) (m : Nat) : NegX :=
  match n.phase with
  | .sweep p =>
    let n := { n with margins := m :: n.margins }
    if p < 7 then n.ask (.sweep (p + 1)) else n.ask .best
  | .best => { n with base := m }.ask (.step 0 0)
  | .step tap dir =>
    let n := { n with steps := n.steps + 1 }
    if n.base + marginStep ≤ m then nextTap { n with improved := true, base := m } tap else n.ask (.undo tap dir)
  | _ => n

/-- The status fields have read 0 after an answered request: a refused step and an undone one go on without a measurement (R99,
R101). -/
def negCleared (n : NegX) : NegX :=
  match n.phase with
  | .step tap dir => if n.refused then nextDir { n with steps := n.steps + 1 } tap dir else { n with cleared := true }
  | .undo tap dir => nextDir n tap dir
  | _ => { n with cleared := true }

/-- The request bits of one step of a tap, with MAIN the other way where asked. -/
def tapRequest (tap dir : Nat) (main : Bool) : Nat :=
  let f := if dir = 0 then 1 else 2
  (match tap with | 0 => f | 1 => f * 16 | _ => f * 64) + (if main then (if dir = 0 then 8 else 4) else 0)

/-- A sum rule stops the step alone, and MAIN stepped the other way lets it pass (R97, R101). -/
def needsMain (far tap dir : Nat) : Bool :=
  (answerRequest far (tapRequest tap dir false)).2 != 0 &&
  (answerRequest far (tapRequest tap dir false)).1 == far && (answerRequest far (tapRequest tap dir true)).1 != far

/-- The request that the receiver sends: PRESET_REQ, PRESET and the REQ_ fields, bits 46:35 of the word (R99, R101). -/
def negRequest (n : NegX) : Nat :=
  if n.answered then 0
  else match n.phase with
    | .sweep p => 2048 + p * 256
    | .best => 2048 + bestPreset n.margins * 256
    | .step tap dir => tapRequest tap dir (needsMain n.far tap dir)
    | .undo tap dir => tapRequest tap (1 - dir) n.withMain
    | .done => 0

/-- The status fields of a received word, ST_PRE2 to ST_POST1 as bits 7:0, meet the request in hand (R99): every requested
field shows a status, then hold is sent until all read 0. -/
def negStatus (n : NegX) (st : Nat) : NegX :=
  if n.phase = .done then n
  else if n.answered then (if st = 0 && !n.cleared then negCleared n else n)
  else
    let req := negRequest n
    let need (f s : Nat) : Bool := f == 0 || s != 0
    let all := if bitOf req 11 then fld st 7 6 != 0 && fld st 5 4 != 0 && fld st 3 2 != 0 && fld st 1 0 != 0
      else need (fld req 7 6) (fld st 7 6) && need (fld req 5 4) (fld st 5 4) && need (fld req 3 2) (fld st 3 2) &&
        need (fld req 1 0) (fld st 1 0)
    if all then
      let lim (f s : Nat) : Bool := f != 0 && decide (2 ≤ s)
      let refused := !bitOf req 11 && (lim (fld req 7 6) (fld st 7 6) || lim (fld req 5 4) (fld st 5 4) ||
        lim (fld req 3 2) (fld st 3 2) || lim (fld req 1 0) (fld st 1 0))
      { n with
        answered := true, refused, withMain := fld req 3 2 != 0,
        far := if refused then n.far else (answerRequest n.far req).1 }
    else n

/-- A valid training word in TRAIN: identity, the far end's request, our status, our negotiation, and RX_READY (R96, R98,
R99, Table 3.2). DESIGN CHOICE (log 113): the eight words with RX_READY = 1 are counted from the own RX_READY on; Table 3.2 does not
say whether earlier ones count. -/
def Dev.trainWord (d : Dev) (l w : Nat) : Dev :=
  let id := fld w 26 17
  if id != d.laneIdentity l then d.failLane l 3
  else
    let x := d.lane l
    let req := fld w 46 35
    let (taps, st, seen) :=
      if !isRequest req then (d.reg Obj.LANE_TX_TAPS l, 0, 0)
      else if x.farReq = req then (d.reg Obj.LANE_TX_TAPS l, x.status, req)
      else
        let (t, s) := answerRequest (d.reg Obj.LANE_TX_TAPS l) req
        (t, s, req)
    let d := d.setReg Obj.LANE_TX_TAPS l taps
    let n := negStatus x.neg (fld w 34 27)
    let ready := x.rxReady || n.phase = .done
    let run := if ready && bitOf w 47 then x.readyWords + 1 else 0
    let d := d.setLane l { x with
      gotWord := true, farReq := seen, status := st, neg := n, rxReady := ready, readyWords := run }
    if 8 ≤ run then
      (d.modLane l (fun x => { x with goodRun := 0, readyWords := 0 })).toLane l lnLock
    else d

/-- A training word on lane pair `l`, by the pair's state (R96, Table 3.2). -/
def Dev.trainingWord (d : Dev) (l w : Nat) : Dev :=
  let st := d.laneState l
  if !trainingValid w || st == lnOff || st == lnTest then d
  else
    let d := d.setReg Obj.LANE_ID_SEEN l (fld w 26 17)
    if st == lnDetect then (if d.laneRefOk then (d.toTrain l true).trainWord l w else d)
    else if st == lnTrain then d.trainWord l w
    else if st == lnActive then d.retrain l
    else d

/-! ### Writes and commands of area 0x30 -/

/-- LANE_EN written (Table 3.2). -/
def Dev.laneEn (d : Dev) (l : Nat) (on : Bool) : Dev :=
  if on then
    if d.laneState l != lnOff then d
    else if isSpare l then (if d.reg Obj.LANE_SPARE_MODE (laneGroup l) = 1 then d.toDetect l else d)
    else if l < 272 && d.nv.refereeDuty then d
    else d.toDetect l
  else
    let d := if isSpare l then d.setGroup (laneGroup l) { (d.group (laneGroup l)) with checking := false } else d
    if d.laneState l == lnOff then d else d.toLane l lnOff

/-- LANE_SPARE_MODE written (Table 3.2). -/
def Dev.spareMode (d : Dev) (g m : Nat) : Dev :=
  let s := spareOf g
  if m = 1 then (if d.laneState s == lnOff && d.flag Obj.LANE_EN s then d.toDetect s else d)
  else if d.reg Obj.LANE_SPARE_FOR g == 255 && (d.group g).move = .none && !(d.group g).checking &&
      d.laneState s != lnOff then d.toLane s lnOff
  else d

/-- Any lane pair is in TEST: the line of source LANE_TEST. -/
def Dev.testLine (d : Dev) : Dev :=
  d.setLine Flt.LANE_TEST ((List.range 274).any (fun l => d.laneState l == lnTest))

/-- The pattern checker starts to seed (R104). -/
def LaneX.reseed (x : LaneX) : LaneX := { x with testSeed := 0, testReg := 0, testBits := 0, testHist := 0, testErrs := 0 }

/-- LANE_TEST_MODE written (R104, Table 3.2). -/
def Dev.testMode (d : Dev) (l m : Nat) : Dev :=
  let st := d.laneState l
  if m = 0 then (if st == lnTest then (d.toDetect l).testLine else d)
  else if st == lnOff then d
  else
    let d := if st == lnDetect then d.setReg Obj.LANE_TX_TAPS l (presetTaps (d.reg Obj.LANE_TX_PRESET l)) else d
    (((d.setReg Obj.LANE_PRBS_LOCK l 0).modLane l LaneX.reseed).toLane l lnTest).testLine

/-- LANE_RESTART of a FAIL pair: its charged history is cleared and it goes to DETECT (R112, Table 3.2). -/
def Dev.restartLane (d : Dev) (l : Nat) : Dev := (d.modLane l (fun x => { x with charged := [] })).toDetect l

/-- The counters of a lane pair (R107). -/
def laneCounters : List Nat :=
  [Obj.LANE_PRBS_ERR, Obj.LANE_PRBS_BITS, Obj.LANE_HCRC_ERR, Obj.LANE_SYNC_ERR, Obj.LANE_LOCK_LOSS, Obj.LANE_RETRAINS,
   Obj.LANE_REFSTEP_ERR, Obj.LANE_RX_OVERFLOW, Obj.LANE_TX_UNDERFLOW]

/-- Loss of signal on all 17 receive lanes of a group (R117). -/
def Dev.groupLoss (d : Dev) (g : Nat) : Dev :=
  let ls := (List.range 17).map (fun k => 17 * g + k)
  let d := ls.foldl (fun d l => d.modLane l (fun x => { x with charged := [] })) d
  let carried := d.spareLane g
  let d := (d.setReg Obj.LANE_SPARE_FOR g 255).setMove g .none
  let d := d.setGroup g { (d.group g) with retire := [], orphan := none }
  let d := ls.foldl (fun d l =>
    let r := d.reg Obj.LANE_FAIL_REASON l
    if d.laneState l == lnFail && (r == 1 || r == 2) then d.toDetect l else d) d
  if carried < 16 then d.restSpare g else d

/-- The received signal fell below squelch for 1 µs (Table 3.2). -/
def Dev.squelch (d : Dev) (l : Nat) : Dev :=
  let st := d.laneState l
  let r := d.reg Obj.LANE_FAIL_REASON l
  if st == lnTrain || st == lnLock || st == lnExchange || st == lnActive then d.toDetect l
  else if st == lnFail && (r == 3 || r == 4) then d.toDetect l
  else d

/-! ### Ports -/

/-- The pairs that carry the slots of port `p` inward and outward: its own lane, or the spare (R26, R27). -/
def Dev.rxPair (d : Dev) (p : Nat) : Option Nat := d.slotPair (p / 64) (p % 64 / 4) (·.goSeen)
def Dev.txPair (d : Dev) (p : Nat) : Option Nat := d.slotPair (p / 64) (p % 64 / 4) (·.goSent)

/-- The lane pair whose stored capabilities and reports hold for port `p` (R146). -/
def Dev.carrier (d : Dev) (p : Nat) : Nat := (d.rxPair p).getD (17 * (p / 64) + p % 64 / 4)

/-- The port that slot `s` of lane pair `l` carries in one direction; none for an idle spare or a twin link (R26, R27). -/
def Dev.slotPort (d : Dev) (l s : Nat) (moved : GroupX → Bool) : Option Nat :=
  let g := laneGroup l
  let k := if laneNo l = 16 then d.spareLane g else laneNo l
  if isTwin l || decide (16 ≤ k) then none
  else if d.slotPair g k moved = some l then some (64 * g + 4 * k + s) else none

def Dev.portIn (d : Dev) (l s : Nat) : Option Nat := d.slotPort l s (·.goSeen)
def Dev.portOf (d : Dev) (l s : Nat) : Option Nat := d.slotPort l s (·.goSent)

/-- The SLOT_CAPS and MAX_PACKET that the far end of the port's lane declared (R146). -/
def Dev.farSlotCaps (d : Dev) (p : Nat) : Option Nat := (d.lane (d.carrier p)).farCaps.map (fun b => fld b.toNat 111 80)
def Dev.farMaxPacket (d : Dev) (p : Nat) : Option Nat := (d.lane (d.carrier p)).farCaps.map (fun b => fld b.toNat 127 112)

/-- The port's slots stand on an ACTIVE lane, inward and outward, and a cycle that began in ACTIVE has begun there (R103, R110). -/
def Dev.rxUp (d : Dev) (p : Nat) : Bool :=
  match d.rxPair p with
  | some l => d.laneState l == lnActive && (d.lane l).live
  | none => false
def Dev.txUp (d : Dev) (p : Nat) : Bool :=
  match d.txPair p with
  | some l => d.laneState l == lnActive && (d.tx l).live
  | none => false

end Sys2Proof.Machine
end

