-- ==== Sys2Proof/Machine/Refs.lean ====
section
/-! DEFINITION. Reference inputs, the selector, the Thermos, the edge root, time of day and the steps of Media Time
("Media time, references and clocks", R34 to R64), the lane reference (R73), and the synthesiser outputs (R67 to R72). -/

namespace Sys2Proof.Machine

/-! ### Names -/

/-- REF_STATUS values (Table 2.12). -/
def rfAbsent : Nat := 0
def rfDisqualified : Nat := 1
def rfRestoring : Nat := 2
def rfQualified : Nat := 3
def rfDisabled : Nat := 4

/-- SEL_MODE values (Table 2.4). -/
def smFreeRun : Nat := 0
def smHoldover : Nat := 1
def smSwitching : Nat := 2
def smLocked : Nat := 3

/-- THERMOS_STATE values. -/
def thEmpty : Nat := 0
def thFilling : Nat := 1
def thReady : Nat := 2
def thInUse : Nat := 3

def Dev.refState (d : Dev) (i : Nat) : Nat := d.reg Obj.REF_STATUS i
def Dev.refRank (d : Dev) (i : Nat) : Nat := d.reg Obj.REF_RANK i
def Dev.selMode (d : Dev) : Nat := d.reg Obj.SEL_MODE
def Dev.modRef (d : Dev) (f : RefX → RefX) : Dev := { d with ref := f d.ref }

/-- The offset of input `i` from the centre of its bands, in ppt: FREF bands centre on −FREF_SPREAD / 2 (R36). -/
def Dev.refDev (d : Dev) (i : Nat) : Int :=
  d.sreg 32 Obj.REF_OFFSET i + (if i < 2 then (500000 * d.reg Obj.FREF_SPREAD : Nat) else 0 : Int)

/-- An offset from a band's centre, in ppt, is inside ± `ppb`. -/
def inBand (dev : Int) (ppb : Nat) : Bool := decide (dev.natAbs ≤ 1000 * ppb)

/-! ### Service -/

/-- The device is in service for R62: DEV_STATE is STARTING, STANDBY or ACTIVE. -/
def Dev.timeInService (d : Dev) : Bool := decide (d.life.phase = .starting) || decide (d.life.phase = .running)

/-! ### What Table 2.1 gives each input -/

/-- The longest silence of an input before its activity is lost, in ps times 27: 4 periods of 156.25 MHz or 27 MHz, or 1.5 s of 1PPS
(R34). -/
def lossGap (i : Nat) : Nat := if i < 2 then 27 * 25600 else if i < 4 then 4000000 else 27 * 1500000000000

/-- The loop bandwidth of an input, in tenths of a hertz (Table 2.1). -/
def loopBandwidth (i : Nat) : Nat := if i < 2 then 500 else if i < 4 then 100 else 1

/-- A full measurement gate: ten updates of 100 ms for FREF and SYNC, 17 edges for TIME_IN. -/
def gateFull (i : Nat) : Nat := if i = 4 then 17 else 10

/-- The frame period of a SYNC_FRAME_RATE value (Table 2.12). -/
def syncPeriod (rate : Nat) : Period :=
  match rate with
  | 0 => ⟨1001, 24000⟩
  | 1 => ⟨1, 24⟩
  | 2 => ⟨1, 25⟩
  | 3 => ⟨1001, 30000⟩
  | 4 => ⟨1, 30⟩
  | 5 => ⟨1, 50⟩
  | 6 => ⟨1001, 60000⟩
  | _ => ⟨1, 60⟩

/-- The 27 MHz cycles of a frame period: a whole number at every rate. -/
def Period.cycles (p : Period) : Nat := 27000000 * p.num / p.den

/-- The frame period of SYNC input `i`, 2 or 3 (R37). -/
def Dev.syncRate (d : Dev) (i : Nat) : Period := syncPeriod (d.reg Obj.SYNC_FRAME_RATE (i - 2))

/-- LOSC_TRIM in ppt, which corrects LOCAL_OSC wherever it is the standard (R52). -/
def Dev.loscTrim (d : Dev) : Int := d.sreg 32 Obj.LOSC_TRIM

/-- The synthesiser's frequency in ppt from LOCAL_OSC, as the selector's mode steers it (Table 2.4, R52). -/
def Dev.synthFreq (d : Dev) : Int :=
  if d.selMode == smFreeRun then d.loscTrim
  else if d.selMode == smHoldover then d.sreg 32 Obj.THERMOS_FREQ + d.loscTrim
  else if d.selMode == smSwitching then d.ref.heldFreq
  else d.sreg 32 Obj.REF_OFFSET (d.reg Obj.SEL_CURRENT) + d.loscTrim

/-! ### The lane reference and the edge root -/

/-- The lane reference: LANE_REF_PREFER while QUALIFIED, otherwise the other FREF input; 255 none (R73). -/
def Dev.laneRefNow (d : Dev) : Nat :=
  let p := d.reg Obj.LANE_REF_PREFER
  if d.refState p == rfQualified then p else if d.refState (1 - p) == rfQualified then 1 - p else 255

/-- Follow a change of lane reference: the window of R91 opens; with none, the lanes leave ACTIVE (R92), and an edge root on
the fallback has lost its source (R54, R55). -/
def Dev.laneRefUpdate (d : Dev) : Dev :=
  let n := d.laneRefNow
  if n = d.reg Obj.LANE_REF then d
  else
    let d := d.setReg Obj.LANE_REF 0 n
    if n = 255 then
      let d := d.dropLanes
      if d.ref.edgeRoot = .laneRef then d.ask (.reset 2) else d
    else d.modRef (fun r => { r with refStepEnd := d.clock + 5000 })

/-! ### The selector -/

/-- Input `i` is a candidate (R42, R36). -/
def Dev.refCand (d : Dev) (i : Nat) : Bool :=
  d.refState i == rfQualified && decide (1 ≤ d.refRank i) && !(decide (i < 2) && d.reg Obj.FREF_SPREAD != 0)

def Dev.refCands (d : Dev) : List Nat := (List.range 5).filter d.refCand

/-- The Thermos begins to record: it leaves EMPTY (R51). -/
def Dev.thermosStart (d : Dev) : Dev :=
  if d.reg Obj.THERMOS_STATE == thEmpty && !d.ref.loscLost then d.setReg Obj.THERMOS_STATE 0 thFilling else d

/-- Enter a selector mode on input `cur` (255 none), with what leaving and entering do to the Thermos (R50, R51), to the frequency
held in a switch window (R46), and to a correction of Media Time that the input left was making (R62, R64). -/
def Dev.enterMode (d : Dev) (m cur : Nat) : Dev :=
  let old := d.selMode
  let lost := old == smLocked && m != smLocked && !(d.refState (d.reg Obj.SEL_CURRENT) == rfQualified)
  let d := if lost then d.modRef (fun r => { r with recent := [], spoiledAt := some d.clock }) else d
  let d := if m == smSwitching
    then d.modRef (fun r => { r with heldFreq := d.synthFreq, windowEnd := d.clock + 1000000, loop := 0 }) else d
  let d := if old == smLocked && m != smLocked then { d with time := { d.time with slewLeft := 0 } } else d
  let d := if old == smHoldover && m != smHoldover && d.reg Obj.THERMOS_STATE == thInUse
    then d.setReg Obj.THERMOS_STATE 0 thReady else d
  let d := (d.setReg Obj.SEL_MODE 0 m).setReg Obj.SEL_CURRENT 0 cur
  let d := if m == smHoldover && old != smHoldover
    then (d.setReg Obj.THERMOS_STATE 0 thInUse).modRef (fun r => { r with holdSince := d.clock }) else d
  if m == smLocked then d.thermosStart.modRef (fun r => { r with loop := loopBandwidth cur }) else d

/-- HOLDOVER where the Thermos is READY, FREE_RUN otherwise (R48). A HOLDOVER in force goes on while its Thermos holds. -/
def Dev.selFallback (d : Dev) : Dev :=
  if d.reg Obj.THERMOS_STATE == thReady then d.enterMode smHoldover 255
  else if d.selMode == smHoldover && d.reg Obj.THERMOS_STATE == thInUse then d
  else d.enterMode smFreeRun 255

/-- The selector's choice. -/
inductive SelPick where
  | none
  | keep
  | input (i : Nat)
deriving DecidableEq, Repr

/-- The candidates of the best rank. -/
def Dev.bestGroup (d : Dev) (cands : List Nat) : List Nat :=
  cands.filter (fun c => cands.all (fun x => decide (d.refRank c ≤ d.refRank x)))

/-- R45 on the best-ranked candidates, of which `pick` would be taken: on disagreement LOCAL_OSC decides. Answers the group that kept
the current input, none where it did not. DESIGN CHOICE (log 11): of three or more candidates of equal rank, the two farthest apart are
compared, and all that lie inside their accept bands are the ones inside. -/
def Dev.selDisagree (d : Dev) (cands : List Nat) (pick cur : Nat) : SelPick × List Nat :=
  let grp := cands.filter (fun c => d.refRank c == d.refRank pick)
  let offs := grp.map (fun c => d.sreg 32 Obj.REF_OFFSET c)
  let hi := offs.foldl max (d.sreg 32 Obj.REF_OFFSET pick)
  let lo := offs.foldl min (d.sreg 32 Obj.REF_OFFSET pick)
  if grp.length < 2 || decide (hi - lo ≤ (1000 * d.reg Obj.DISAGREE_PPB : Nat)) then (.input pick, [])
  else
    let ok := grp.filter (fun c => inBand (d.refDev c) (d.reg Obj.REF_ACCEPT c))
    match ok with
    | [] => (.keep, grp)
    | c :: r =>
      let m := r.foldl (fun m x => min m (d.sreg 32 Obj.REF_OFFSET x).natAbs) (d.sreg 32 Obj.REF_OFFSET c).natAbs
      let tied := ok.filter (fun x => (d.sreg 32 Obj.REF_OFFSET x).natAbs == m)
      if cur ∈ tied then (.input cur, []) else (.input (tied.headD pick), [])

/-- The input that the selector wants (R42 to R45, R48, R49), and the group whose disagreement keeps the current one. `changed` is
that a candidate's state changed: R45 is evaluated then alone, and what it kept stands until then while the same candidates share the
best rank. DESIGN CHOICE (log 11): with SEL_REVERTIVE FALSE too, a disagreement with a candidate of equal rank may take the selector
from a current input that is still a candidate. -/
def Dev.selWant (d : Dev) (changed : Bool) : SelPick × List Nat :=
  let cands := d.refCands
  let force := d.reg Obj.SEL_FORCE
  if force = 255 then (.none, [])
  else if force ≤ 4 then (if force ∈ cands then .input force else .none, [])
  else
    let best := d.bestGroup cands
    match best with
    | [] => (.none, [])
    | first :: _ =>
      let cur := if d.selMode == smLocked then d.reg Obj.SEL_CURRENT else 255
      let pick := if cur ∈ cands && (!d.flag Obj.SEL_REVERTIVE || best.contains cur) then cur else first
      if changed && best.contains pick then d.selDisagree cands pick cur
      else if d.ref.kept = best then (.keep, best)
      else (.input pick, [])

/-- Choose and act (R42 to R49). -/
def Dev.selAct (d : Dev) (changed : Bool) : Dev :=
  let (want, kept) := d.selWant changed
  let d := if changed && want = .keep then d.event 0x3801 (refOf Obj.SEL_CURRENT 0) else d
  let d := d.modRef (fun r => { r with kept })
  let stay := d.selMode == smLocked && d.refCand (d.reg Obj.SEL_CURRENT)
  let free := d.selMode == smHoldover || d.selMode == smFreeRun
  match want with
  | .keep => if stay || free then d else d.selFallback
  | .none => if d.reg Obj.SEL_FORCE = 255 || !free then d.selFallback else d
  | .input i =>
    if d.selMode == smLocked && d.reg Obj.SEL_CURRENT == i then d
    else (d.enterMode smSwitching i).modRef (fun r => { r with evalDue := false, changedDue := false })

/-- Evaluate the selection: during SWITCHING it is only recorded (R47). -/
def Dev.evalSelector (d : Dev) (changed : Bool) : Dev :=
  if d.selMode == smSwitching then
    d.modRef (fun r => { r with evalDue := true, changedDue := r.changedDue || changed })
  else d.selAct changed

/-- The switch window of 1 ms ends (R46, R47): LOCKED on the target, or a new choice. `phase` is the phase of the new input against
the synthesiser output, in 2^-16 ns. -/
def Dev.switchEnd (d : Dev) (phase : Int) : Dev :=
  if d.selMode != smSwitching then d
  else
    let d := d.passTo d.ref.windowEnd
    let due := d.ref.evalDue
    let chg := d.ref.changedDue
    let d := d.modRef (fun r => { r with evalDue := false, changedDue := false })
    if d.refState (d.reg Obj.SEL_CURRENT) == rfQualified then
      let d := (d.modRef (fun r => { r with buildOut := phase })).enterMode smLocked (d.reg Obj.SEL_CURRENT)
      if due then d.selAct chg else d
    else d.selAct true

/-! ### Qualification -/

/-- Input `i` takes a qualification state (Table 2.3), with its consequences. -/
def Dev.setRef (d : Dev) (i new : Nat) : Dev :=
  let old := d.refState i
  if old = new then d
  else
    let d := d.setReg Obj.REF_STATUS i new
    let d := if old == rfRestoring then d.modRef (fun r => { r with wtrEnd := smSet r.wtrEnd i 0 0 }) else d
    let d := if i = 4 && new == rfQualified then d.modRef (fun r => { r with compareDue := true }) else d
    let d := if i < 2 then d.laneRefUpdate else d
    d.evalSelector (old == rfQualified || d.refCand i)

/-- Loss of activity under R34: any state but DISABLED goes ABSENT. -/
def Dev.refLoss (d : Dev) (i : Nat) : Dev :=
  let d := d.modRef (fun r => { r with
    active := setBit r.active i false, gateRun := smSet r.gateRun i 0 0, gateFresh := smSet r.gateFresh i 0 0,
    pulseGap := smSet r.pulseGap i 0 0, ppsAt := if i = 4 then none else r.ppsAt, todNext := if i = 4 then none else r.todNext })
  if d.refState i == rfDisabled then d else d.setRef i rfAbsent

/-- REF_ACTIVITY_LOSS: no edge for `gap` ps; a shorter silence than Table 2.1 names is no loss. -/
def Dev.edgeSilent (d : Dev) (i gap : Nat) : Dev := if lossGap i ≤ 27 * gap then d.refLoss i else d

/-- TIME_IN loses its activity as time passes: no 1PPS edge for 1.5 s, or no valid message for 2 s (Table 2.1). -/
def Dev.timeInWatch (d : Dev) : Dev :=
  let late := match d.ref.ppsAt with | some t => decide (t + 1500000000 ≤ d.clock) | none => false
  if bitOf d.ref.active 4 && (late || decide (d.ref.todFrom + 2000000000 ≤ d.clock)) then d.refLoss 4 else d

/-- A pulse of a SYNC input: at the spacing of its rate it is good; any other counts as missing, and its cycles go on to the next
(R37). Answers the cycles since the last good pulse. -/
def pulseStep (period gap cycles : Nat) : Nat := if cycles = period then 0 else gap + cycles

/-- The frame pulses that a monitor of SYNC input `i` counted: the cycles since the last good pulse, up to the last pulse, and whether
two frame periods passed without a good one (Table 2.1). -/
def Dev.pulses (d : Dev) (i : Nat) (s : SyncSeen) : Nat × Bool :=
  let p := (d.syncRate i).cycles
  let x := s.pulses.foldl (fun (x : Nat × Bool) c =>
    let g := pulseStep p x.1 c
    (g, x.2 || decide (2 * p ≤ x.1 + c))) (smGet d.ref.pulseGap i 0, false)
  (x.1, x.2 || decide (2 * p ≤ x.1 + s.after))

/-- The selected SYNC's last good frame pulse, less the phase that the build-out holds, is brought onto the nearest frame boundary
through the fractional accumulator (R60, R64, R65). -/
def Dev.frameBuildOut (d : Dev) (i after : Nat) : Dev :=
  let p := d.syncRate i
  let t : Int := d.now - (after * subSec / 27000000 : Nat) - d.ref.buildOut
  let n := periodIndex p t.toNat
  let lo : Int := periodStart p n 0
  let hi : Int := periodStart p (n + 1) 0
  let b := if t - lo ≤ hi - t then lo else hi
  { d with time := { d.time with slewLeft := (b - t) * 4294967296 } }

/-- What a SYNC's frame pulses do at an update: loss of activity, or the frame phase of the selected input. -/
def Dev.syncUpdate (d : Dev) (i : Nat) (s : SyncSeen) : Dev :=
  if !(i == 2 || i == 3) then d
  else
    let (gap, lost) := d.pulses i s
    let d := d.modRef (fun r => { r with pulseGap := smSet r.pulseGap i gap 0 })
    if lost then d.refLoss i
    else if gap = 0 && s.pulses ≠ [] && d.selMode == smLocked && d.reg Obj.SEL_CURRENT == i then d.frameBuildOut i s.after
    else d

/-- One more update, or one more edge, of an input's gates (R39). -/
def Dev.gateCount (d : Dev) (i : Nat) : Dev :=
  d.modRef (fun r => { r with
    active := setBit r.active i true
    gateRun := smSet r.gateRun i (min (gateFull i) (smGet r.gateRun i 0 + 1)) 0
    gateFresh := smSet r.gateFresh i (min (gateFull i) (smGet r.gateFresh i 0 + 1)) 0 })

/-- The gate of an update holds activity throughout; the gate that ABSENT → DISQUALIFIED needs is full (R39). -/
def Dev.gateWhole (d : Dev) (i : Nat) : Bool := decide (gateFull i ≤ smGet d.ref.gateRun i 0)
def Dev.gateFreshFull (d : Dev) (i : Nat) : Bool := decide (gateFull i ≤ smGet d.ref.gateFresh i 0)

/-- A frequency monitor reads `offset` ppt against LOCAL_OSC, which LOSC_TRIM corrects: the moves of Table 2.3 (R39, R41, R52). -/
def Dev.refMeasure (d : Dev) (i : Nat) (offset : Int) : Dev :=
  let off := offset - d.loscTrim
  let d := d.setSreg 32 Obj.REF_OFFSET i off
  let dev := off + (if i < 2 then (500000 * d.reg Obj.FREF_SPREAD : Nat) else 0 : Int)
  let accept := inBand dev (d.reg Obj.REF_ACCEPT i)
  let st := d.refState i
  if st == rfAbsent then (if d.gateFreshFull i then d.setRef i rfDisqualified else d)
  else if st == rfDisqualified then
    if d.gateWhole i && accept then
      let d := d.setRef i rfRestoring
      if d.reg Obj.REF_WTR i = 0 then d.setRef i rfQualified
      else d.modRef (fun r => { r with wtrEnd := smSet r.wtrEnd i (d.clock + 1000000000 * d.reg Obj.REF_WTR i) 0 })
    else d
  else if st == rfRestoring then (if accept then d else d.setRef i rfDisqualified)
  else if st == rfQualified then (if inBand dev (d.reg Obj.REF_REJECT i) then d else d.setRef i rfDisqualified)
  else d

/-- REF_MONITOR_UPDATE: an update of a monitor (R39, R56); the gates of TIME_IN count its edges, at TIME_PPS_EDGE. -/
def Dev.refUpdate (d : Dev) (i : Nat) (offset : Int) (s : SyncSeen) : Dev :=
  let d := if i = 4 then d else d.gateCount i
  let d := d.syncUpdate i s
  if d.ref.loscLost || !bitOf d.ref.active i then d else d.refMeasure i offset

/-- The wait-to-restore timer of a RESTORING input reaches zero (R39, R41); while LOCAL_OSC is lost every input keeps its state
(R56). -/
def Dev.refWtr (d : Dev) (i : Nat) : Dev :=
  if d.refState i == rfRestoring && !d.ref.loscLost then (d.passTo (smGet d.ref.wtrEnd i 0)).setRef i rfQualified else d

/-- REF_RANK written (Table 2.3): 0 disables; from 0, the state follows from activity and the gate that ABSENT → DISQUALIFIED needs
starts afresh; otherwise the ranks are compared again. -/
def Dev.refRankSet (d : Dev) (i v : Nat) : Dev :=
  if v = 0 then d.setRef i rfDisabled
  else if d.refState i == rfDisabled then
    let d := d.modRef (fun r => { r with gateFresh := smSet r.gateFresh i 0 0 })
    d.setRef i (if bitOf d.ref.active i then rfDisqualified else rfAbsent)
  else d.evalSelector false

/-- FREF_SPREAD written (R36): an input that starts or stops being a candidate by it is acted on at once (R48, R81). -/
def Dev.spreadSet (d : Dev) (v : Nat) : Dev :=
  let n := d.setReg Obj.FREF_SPREAD 0 v
  n.evalSelector (decide (d.refCands ≠ n.refCands))

/-! ### The Thermos and LOCAL_OSC -/

/-- `2^64 · e^(−1/tau)`: the share of its weight that a record keeps after one second (R50). The exponential's series in Horner's form,
`k` terms to go. -/
def keepSeries (tau : Nat) : Nat → Nat → Nat
  | 0, h => h
  | k + 1, h => keepSeries tau k (2 ^ 64 - h / ((k + 1) * tau))
def keepShare (tau : Nat) : Nat := keepSeries tau 12 (2 ^ 64)

/-- One more record enters the exponentially weighted mean of time constant `tau` seconds (R50). -/
def RefX.weigh (r : RefX) (rec : Int) (tau : Nat) : RefX :=
  { r with
    meanSum := r.meanSum * keepShare tau / 2 ^ 64 + rec * 2 ^ 64
    meanWeight := r.meanWeight * keepShare tau / 2 ^ 64 + 2 ^ 64
    records := r.records + 1 }

/-- The record falls in the second of a disqualification of the selected input (R50). -/
def Dev.recordSpoiled (d : Dev) : Bool :=
  match d.ref.spoiledAt with | some t => decide (d.clock ≤ t + 1000000000) | none => false

/-- A record of one second in LOCKED: the synthesiser's mean correction, in ppt from LOCAL_OSC as LOSC_TRIM corrects it (R50 to R52).
The most recent 5 s wait in `recent`; a record of the second of a disqualification is discarded. -/
def Dev.thermosRecord (d : Dev) (corr : Int) : Dev :=
  if d.selMode != smLocked || d.ref.loscLost then d
  else if d.recordSpoiled then d.modRef (fun r => { r with spoiledAt := none })
  else
    let d := d.thermosStart.modRef (fun r => { r with spoiledAt := none })
    let rs := (corr - d.loscTrim) :: d.ref.recent
    if rs.length ≤ 5 then d.modRef (fun r => { r with recent := rs })
    else
      let d := d.modRef (fun r => ({ r with recent := rs.take 5 }).weigh (rs.getD 5 0) (d.reg Obj.THERMOS_TAU))
      let d := d.setSreg 32 Obj.THERMOS_FREQ 0 (d.ref.meanSum / (d.ref.meanWeight : Int))
      if 60 ≤ d.ref.records && d.reg Obj.THERMOS_STATE == thFilling then d.setReg Obj.THERMOS_STATE 0 thReady else d

/-- LOSC_CLEAN_COUNT: one clean cycle every 25 ns since the count began (R53); only LOCAL_OSC_STABLE takes it to its end. -/
def Dev.cleanCount (d : Dev) : Nat :=
  if d.ref.loscStable then 1048576
  else match d.ref.loscFrom with
    | some t => min 1048575 ((d.clock - t) / 25)
    | none => 0

/-- LOCAL_OSC becomes stable after 1,048,576 consecutive clean cycles: the edge root moves to it (R53, R54). -/
def Dev.loscStable (d : Dev) : Dev :=
  let d := match d.ref.loscFrom with | some t => if d.ref.loscStable then d else d.passTo (t + 26214400) | none => d
  let d := d.modRef (fun r => { r with loscLost := false, loscStable := true, edgeRoot := .localOsc })
  let d := d.setReg Obj.REF_STATUS 5 rfQualified
  if d.selMode == smLocked then d.thermosStart else d

/-- LOCAL_OSC loses activity (R54 to R56): the Thermos goes EMPTY, the edge root moves to the lane reference or the device
resets, and a selector without a candidate enters FREE_RUN. DESIGN CHOICE (log 12): an EMPTY Thermos reads a THERMOS_FREQ of 0. -/
def Dev.loscLoss (d : Dev) : Dev :=
  let root := d.ref.edgeRoot
  let d := d.modRef (fun r => { r with loscLost := true, loscStable := false, loscFrom := none, recent := [], records := 0, meanSum := 0, meanWeight := 0 })
  let d := (d.setReg Obj.REF_STATUS 5 rfAbsent).setReg Obj.THERMOS_STATE 0 thEmpty
  let d := d.setReg Obj.THERMOS_FREQ 0 0
  let d := if d.selMode == smHoldover then d.enterMode smFreeRun 255 else d
  if root = .localOsc then
    if d.laneRefNow = 255 then d.ask (.reset 2) else d.modRef (fun r => { r with edgeRoot := .laneRef })
  else d

/-! ### Media Time steps and time of day -/

/-- CRC-16 of a time-of-day message over bits 127:16 (Table 2.2). -/
def todCrc (msg : Nat) : Nat := crc16 (beBytes 14 (msg / 65536))

/-- A time-of-day message's form is good (Table 2.2). -/
def todGood (msg : Nat) : Bool := fld msg 127 112 == 0x5444 && fld msg 111 104 == 1 && fld msg 15 0 == todCrc msg

/-- A time-of-day message completes (R38): accepted 100 ms to 800 ms after an edge, else discarded. -/
def Dev.todMessage (d : Dev) (msg : Nat) : Dev :=
  let inTime := match d.ref.ppsAt with
    | some t => decide (t + 100000000 ≤ d.clock) && decide (d.clock ≤ t + 800000000)
    | none => false
  if todGood msg && inTime then
    (d.modRef (fun r => { r with todNext := some (fld msg 95 48), todBad := 0, todFrom := d.clock })).setReg Obj.TOD_LAST 0 msg
  else d.modRef (fun r => { r with todBad := r.todBad + 1 })

/-- TIME_IN minus the counter, in 2^-16 ns. -/
def Dev.timeDiff (d : Dev) (secs : Nat) : Int := (secs * subSec : Nat) - (d.now : Int)

/-- The counter is loaded with a whole second (R61, R63). -/
def Dev.loadTime (d : Dev) (secs : Nat) : Dev :=
  { d with time := { d.time with mt := secs * subSec % mtWrap, frac := 0, slewLeft := 0 } }

/-- MT_STEP_APPLY steps the counter: the next decision of every frame sync follows a step (R63, R190). -/
def Dev.stepTime (d : Dev) (secs : Nat) : Dev :=
  let d := d.loadTime secs
  { d with ins := d.ins.map (fun kv => (kv.1, { kv.2 with stepped := true })) }

/-- While TIME_IN is the selected input, `diff` is what is left to remove; otherwise nothing of it is removed (R62). -/
def Dev.slewFrom (d : Dev) (diff : Int) : Dev :=
  if d.selMode == smLocked && d.reg Obj.SEL_CURRENT == 4 then { d with time := { d.time with slewLeft := diff * 4294967296 } } else d

/-- The comparison of R62 in service. -/
def Dev.timeCompare (d : Dev) (secs : Nat) : Dev :=
  let diff := d.timeDiff secs
  let d := d.setSreg 64 Obj.MT_TIME_OFFSET 0 diff
  if diff.natAbs ≤ d.reg Obj.MT_STEP_THRESHOLD * subNs then
    (d.setReg Obj.MT_STEP_PENDING 0 0).slewFrom diff
  else
    let d := d.slewFrom 0
    if d.flag Obj.MT_STEP_PENDING then d
    else (d.setReg Obj.MT_STEP_PENDING 0 1).event 0x3802 (refOf Obj.MT_STEP_PENDING 0)

/-- A 1PPS rising edge (R61 to R63). DESIGN CHOICE (log 13): where no message was accepted for the first edge after TIME_IN became
QUALIFIED, the comparison of R61 stays due for the next edge that has one. -/
def Dev.ppsEdge (d : Dev) : Dev :=
  let msg := d.ref.todNext
  let armed := d.ref.stepArmed
  let due := d.ref.compareDue
  let fresh := !d.life.started || decide (d.life.phase = .layBy)
  let appears := !bitOf d.ref.active 4
  let d := (d.gateCount 4).modRef (fun r => { r with
    ppsAt := some d.clock, todFrom := if appears then d.clock else r.todFrom, todNext := none,
    stepArmed := false, compareDue := due && decide (msg = none) })
  match msg with
  | some secs =>
    if armed && d.refState 4 == rfQualified then
      (((d.setSreg 64 Obj.MT_TIME_OFFSET 0 (d.timeDiff secs)).stepTime secs).setReg Obj.MT_STEP_PENDING 0 0)
    else if due && fresh then d.loadTime secs
    else
      let d := if due || d.timeInService then d.timeCompare secs else d
      if armed then d.event 0x3802 (refOf Obj.MT_STEP_PENDING 0) else d
  | none => if armed then d.event 0x3802 (refOf Obj.MT_STEP_PENDING 0) else d

/-! ### The synthesiser -/

/-- The shadow setting of CLKOUT_n (R68, R69). -/
def Dev.shadow (d : Dev) (n : Nat) : ClkSet :=
  ⟨d.reg Obj.CLKOUT_DIV_INT n, d.reg Obj.CLKOUT_DIV_NUM n, d.reg Obj.CLKOUT_DIV_DEN n⟩

def Dev.shadows (d : Dev) : List ClkSet := (List.range 4).map d.shadow

/-- SYNTH_STROBE: all shadows are captured for the first whole microsecond at least 2 µs on (R69, R70). -/
def Dev.strobe (d : Dev) : Dev :=
  let e := (d.now + usMt 2 + usMt 1 - 1) / usMt 1 * usMt 1
  { d with synth := { d.synth with
      captured := some d.shadows, updateE := if d.synth.captured.isSome then d.synth.updateE else e } }

/-- Edges of a divided output fall on the 15.625 ps grid, 2^10 units of Media Time (R68): the end of its last complete cycle at or
before `e`, where a cycle began at `start`. -/
def ClkSet.lastCycle (s : ClkSet) (start e : Nat) : Nat :=
  let m := 16 * (s.int * s.den + s.num)
  let k := (((e - start) / 1024 + 1) * s.den - 1) / m
  start + 1024 * (k * m / s.den)

/-- The update instant: each changed output ends with its last complete old cycle, is low until the instant, and rises there under its
captured setting (R70). -/
def Dev.synthUpdate (d : Dev) : Dev :=
  match d.synth.captured with
  | none => d
  | some cs =>
    let d := d.passToMt d.synth.updateE
    let e := d.synth.updateE
    let changed := (List.range 4).filter (fun n => cs.getD n {} != d.synth.live.getD n {})
    let low := changed.foldl (fun m n =>
      smSet m n ((d.synth.live.getD n {}).lastCycle (smGet d.synth.restartAt n 0 - 1) e + 1) 0) d.synth.lowFrom
    let restart := changed.foldl (fun m n => smSet m n (e + 1) 0) d.synth.restartAt
    { d with synth := { d.synth with live := cs, captured := none, restartAt := restart, lowFrom := low } }

/-- The fixed dividers of Table 2.6; FSYNC is BCLK / 512. -/
def mtcDivider : ClkSet := ⟨16, 0, 1⟩
def bclkDivider : ClkSet := ⟨162, 73, 96⟩

/-- The frequency of an output in hertz, as numerator and denominator: 4 GHz at the synthesiser's frequency over its divider (R67,
R68). -/
def Dev.outputHz (d : Dev) (s : ClkSet) : Int × Nat :=
  (4000000000 * (1000000000000 + d.synthFreq) * s.den, 1000000000000 * (s.int * s.den + s.num))

/-- SYNTH_LOCK: the PLL is within its lock window, which SYNTH_UNLOCK denies (Table 13.3). -/
def Dev.synthLocked (d : Dev) : Bool :=
  d.flag Obj.SYNTH_LOCK && !bitOf (smGet d.flt.lines (Flt.SYNTH_UNLOCK / 32) 0) (Flt.SYNTH_UNLOCK % 32)

/-- The output's FRAME_SYNC_IN reset is armed: EVERY, or ONCE not yet done (R71). -/
def Dev.fsyncArmed (d : Dev) (n : Nat) : Bool :=
  d.reg Obj.CLKOUT_FSYNC_MODE n == 2 || (d.reg Obj.CLKOUT_FSYNC_MODE n == 1 && !d.flag Obj.CLKOUT_FSYNC_DONE n)

/-- A rising edge on FRAME_SYNC_IN defines a reset instant 24 ns later (R71). -/
def Dev.frameSyncIn (d : Dev) : Dev :=
  if (List.range 4).any d.fsyncArmed then { d with synth := { d.synth with resetAt := some (d.now + 24 * subNs) } } else d

/-- The reset instant: armed dividers restart unless in phase; an update in the same tick comes first (R71, R72). -/
def Dev.clkReset (d : Dev) (inPhase : Nat) : Dev :=
  match d.synth.resetAt with
  | none => d
  | some t =>
    let d := d.passToMt t
    let d := if d.synth.captured.isSome && fourNs d.synth.updateE == fourNs t then d.synthUpdate else d
    let d := { d with synth := { d.synth with resetAt := none } }
    (List.range 4).foldl (fun d n =>
      if d.fsyncArmed n then
        let d := if bitOf inPhase n then d else
          { d with synth := { d.synth with restartAt := smSet d.synth.restartAt n (t + 1) 0 } }
        if d.reg Obj.CLKOUT_FSYNC_MODE n == 1 then d.setReg Obj.CLKOUT_FSYNC_DONE n 1 else d
      else d) d

/-- SYNTH_SHADOW_DIRTY: a shadow differs from live, or an update is pending. -/
def Dev.shadowDirty (d : Dev) : Bool := d.synth.captured.isSome || decide (d.shadows ≠ d.synth.live)

end Sys2Proof.Machine
end

