-- ==== Sys2Proof/Machine/Baskets.lean ====
section
/-! DEFINITION. Baskets on the receive side: the header, the receiver's checks and counters, SEQ, and the service messages
that concern the lane ("Baskets", R121 to R149). -/

namespace Sys2Proof.Machine

/-! ### The header (Tables 4.1 to 4.4) -/

def tyIdle : Nat := 0
def tyRaster : Nat := 1
def tyPacket : Nat := 2
def tyService : Nat := 3
def tyInternal : Nat := 4

/-- The header bits 63:16 of a Basket, with ROLE. -/
def Basket.head (b : Basket) (role : Bool) : Nat :=
  b.type % 8 * 2 ^ 45 + boolNat role * 2 ^ 44 + boolNat b.valid * 2 ^ 43 + b.mark % 8 * 2 ^ 40 + b.seq % 256 * 2 ^ 32 +
  b.count % 256 * 2 ^ 24 + b.offset % 256 * 2 ^ 16 + b.time % 65536

/-- HCRC over header bits 63:16 and the payload (R123). -/
def hcrc (head : Nat) (payload : Bytes) : Nat := crc16 (beBytes 6 head ++ payload)

/-- The whole header as sent. -/
def Basket.encode (b : Basket) (role : Bool) : Nat :=
  b.head role * 65536 + hcrc (b.head role) b.payload

/-- The fields of a header and payload. -/
def Basket.decode (h : Nat) (payload : Bytes) : Basket :=
  { type := fld h 63 61, valid := bitOf h 59, mark := fld h 58 56, seq := fld h 55 48, count := fld h 47 40,
    offset := fld h 39 32, time := fld h 31 16, payload }

/-- The values Table 4.4 allows (R122). INTERNAL on a twin link follows R361: VALID 1, MARK NONE, COUNT 4 to 255 or 0 for 256,
OFFSET 0. -/
def Basket.fieldsOk (b : Basket) : Bool :=
  match b.type with
  | 0 => !b.valid && b.mark == 0 && b.seq == 0 && b.count == 0 && b.offset == 0 && b.time == 0
  | 1 => decide (b.mark ≤ 3) && b.count == 204 && decide (b.offset ≤ 203) && (b.mark != 0 || b.offset == 0)
  | 2 => (b.mark == 0 || b.mark == 4 || b.mark == 5) && decide (b.offset ≤ 35)
  | 3 => b.valid && b.mark == 0 && b.offset == 0 && b.time == 0
  | 4 => b.valid && b.mark == 0 && b.offset == 0 && (b.count == 0 || decide (4 ≤ b.count))
  | _ => false

/-- TYPE is allowed at cycle position `k` (R126). -/
def placeOk (twin : Bool) (type k : Nat) : Bool :=
  if twin then type == tyIdle || type == tyInternal || type == tyService
  else if k = 16 then type == tyService || type == tyIdle
  else type == tyIdle || type == tyRaster || type == tyPacket

/-! ### The line: sync headers, blocks, scrambler, patterns (R87 to R89, R95, R104, R106) -/

/-- The sync headers of block 0 and of the others (R87). -/
def syncFirst : BitVec 2 := 0b10
def syncRest : BitVec 2 := 0b01

/-- The 33 blocks of a header or training word and 256 payload bytes (R88). -/
def blocksOf (head : Nat) (payload : Bytes) : List Nat :=
  head :: (List.range 32).map (fun i => beNat ((payload.drop (8 * i)).take 8))

/-- The payload bytes of blocks 1 to 32. -/
def payloadOf (blocks : List Nat) : Bytes := (blocks.drop 1).flatMap (beBytes 8)

/-- Blocks with their sync headers. -/
def withSync (blocks : List Nat) : List (BitVec 2 × BitVec 64) :=
  (List.range blocks.length).map (fun i => (if i = 0 then syncFirst else syncRest, BitVec.ofNat 64 (blocks.getD i 0)))

/-- `n` ≤ 39 bits through the scrambler x^58 + x^39 + 1: what is sent, and the register with its latest bit in bit 0 (R89). -/
def scrambleBits (n s d : Nat) : Nat × Nat :=
  let t := d ^^^ (s / 2 ^ (39 - n) % 2 ^ n) ^^^ (s / 2 ^ (58 - n) % 2 ^ n)
  (t, (s * 2 ^ n + t) % 2 ^ 58)

/-- Blocks through the scrambler, each from bit 63 to bit 0 (R87, R89). -/
def scramble : Nat → List Nat → List Nat × Nat
  | s, [] => ([], s)
  | s, b :: bs =>
    let (hi, s) := scrambleBits 32 s (b / 2 ^ 32 % 2 ^ 32)
    let (lo, s) := scrambleBits 32 s (b % 2 ^ 32)
    let (r, s) := scramble s bs
    ((hi * 2 ^ 32 + lo) :: r, s)

/-- Blocks through the descrambler, whose register holds the latest 58 received bits (R89). -/
def descramble : Nat → List Nat → List Nat × Nat
  | s, [] => ([], s)
  | s, b :: bs =>
    let v := s * 2 ^ 64 + b
    let (r, s') := descramble (v % 2 ^ 58) bs
    ((v ^^^ (v / 2 ^ 39) ^^^ (v / 2 ^ 58)) % 2 ^ 64 :: r, s')

/-- The degrees of the patterns of LANE_TEST_MODE: PRBS7, PRBS15, PRBS31 (Table 3.7). -/
def patternTaps (mode : Nat) : Nat × Nat := if mode = 1 then (7, 6) else if mode = 2 then (15, 14) else (31, 28)

/-- The next bit of x^a + x^b + 1 from a register whose bit 0 is the latest bit. -/
def patternBit (ab : Nat × Nat) (r : Nat) : Nat := (r / 2 ^ (ab.1 - 1) + r / 2 ^ (ab.2 - 1)) % 2

/-- `n` further bits of a pattern: the bits as a number, most significant first, and the register. -/
def patternRun (ab : Nat × Nat) : Nat → Nat → Nat → Nat × Nat
  | 0, r, acc => (acc, r)
  | n + 1, r, acc => patternRun ab n ((r * 2 + patternBit ab r) % 2 ^ ab.1) (acc * 2 + patternBit ab r)

/-- `n` further bits of PRBS31. -/
def prbsRun (n r : Nat) : Nat × Nat := patternRun (patternTaps 3) n r 0

/-- Errors of an idle payload: seeded from its first 31 bits, the other 2017 compared. -/
def prbsErrors (payload : Bytes) : Nat :=
  let v := beNat payload
  let (e, _) := prbsRun 2017 (v / 2 ^ 2017 % 2 ^ 31)
  popCount 2017 (e ^^^ (v % 2 ^ 2017))

/-! ### Counting and loss of lock -/

/-- The counters and windows of a received Basket (Table 4.8, R91, R108). -/
def Dev.countBasket (d : Dev) (l syncErrors : Nat) (bad : Bool) : Dev :=
  let w := d.now / msMt 1
  let d := d.modLane l (fun x =>
    if x.winIndex = w then { x with winBad := x.winBad + boolNat bad, winSync := x.winSync + syncErrors }
    else { x with
      prevBad := if x.winIndex + 1 = w then x.winBad else 0, prevSync := if x.winIndex + 1 = w then x.winSync else 0,
      prevOver := decide (x.winIndex + 1 = w) && x.winOver, winOver := false,
      winIndex := w, winBad := boolNat bad, winSync := syncErrors })
  let d := if syncErrors = 0 then d else d.count Obj.LANE_SYNC_ERR l syncErrors
  if !bad then d
  else if d.clock < d.ref.refStepEnd then d.count Obj.LANE_REFSTEP_ERR l
  else d.count Obj.LANE_HCRC_ERR l

/-- A sync header is invalid (R87). -/
def badSync (h : BitVec 2) : Bool := h == 0b00 || h == 0b11

/-- The invalid sync headers of a Basket; a 0b10 header stands out of its place in it; its own stands in it. -/
def wireErrors (w : WireBasket) : Nat := (w.blocks.filter (fun b => badSync b.1)).length
def wireMisplaced (w : WireBasket) : Bool := (w.blocks.drop 1).any (fun b => b.1 == syncFirst)
def wirePlaced (w : WireBasket) : Bool := (w.blocks.head?.any (fun b => b.1 == syncFirst)) && !wireMisplaced w

/-- One sync header enters the history of the latest 64 blocks; whether 16 of them are invalid now (R102). -/
def LaneX.syncIn (x : LaneX × Bool) (h : BitVec 2) : LaneX × Bool :=
  let bad := badSync h
  let hist := (x.1.syncHist * 2 + boolNat bad) % 2 ^ 64
  ({ x.1 with syncHist := hist, validRun := if bad then 0 else min 64 (x.1.validRun + 1) }, x.2 || decide (16 ≤ popCount 64 hist))

/-- The sync headers of 33 blocks reach the receiver: bit lock, then gain or loss of block lock (R102); whether it was lost. -/
def LaneX.headersIn (x : LaneX) (w : WireBasket) : LaneX × Bool :=
  let (x, many) := (w.blocks.map (·.1)).foldl LaneX.syncIn (x, false)
  let lost := x.blockLock && (many || (x.lastMisplaced && (wireMisplaced w)))
  let x := { x with
    uiRun := if w.steady then min 10000 (x.uiRun + 2178) else 0,
    placedRun := if (wirePlaced w) then min 4 (x.placedRun + 1) else 0, lastMisplaced := (wireMisplaced w) }
  if lost then ({ x with blockLock := false, cycleLock := false, svcHist := 0, goodRun := 0 }, true)
  else ({ x with blockLock := x.blockLock || (x.uiRun == 10000 && x.validRun == 64 && x.placedRun == 4) }, false)

/-- The depth of a lane receive buffer (Table 1.2). -/
def rxDepth (l : Nat) : Nat := if isTwin l then 32 else 16

/-! ### Data Baskets -/

def Dev.asm (d : Dev) (l s : Nat) : FrameAsm := smGet (d.lane l).asm s {}
def Dev.setAsm (d : Dev) (l s : Nat) (a : FrameAsm) : Dev := d.modLane l (fun x => { x with asm := smSet x.asm s a {} })

/-- The frame in progress of slot `s` of port `p` is lost: it is discarded whole and counted once for the port (R134). -/
def Dev.dropFrame (d : Dev) (l s p : Nat) : Dev :=
  let a := d.asm l s
  if a.next = 0 ∨ a.lost then d else (d.setAsm l s { a with lost := true }).count Obj.IN_DISCONT p

/-- A good PACKET Basket in the frame of its slot (R133, R134): OFFSET 0 begins a frame, and cuts one that has not ended. A whole frame
waits for the packet engine with its stamp, that of its first Basket (R135). -/
def Dev.packetBasket (d : Dev) (l s p : Nat) (b : Basket) : Dev :=
  let first := b.offset == 0
  let last := b.mark == 5
  let len := if b.count = 0 then 256 else b.count
  let d := if first then (d.dropFrame l s p).setAsm l s {} else d
  let a := d.asm l s
  let total := a.bytes + len
  let ok := b.valid && b.offset == a.next && (b.mark == (if first then 4 else 0) || last) && (last || len == 256) &&
    (!last || (decide (64 ≤ total) && decide (total ≤ 9216)))
  let data := a.data ++ b.payload.take len
  let next : FrameAsm := if last then {} else { next := b.offset + 1, bytes := total, data, lost := a.lost || !ok }
  let d := d.setAsm l s next
  if a.lost then d
  else if !ok then d.count Obj.IN_DISCONT p
  else if last then
    let x := smGet d.ins p {}
    { d with ins := smSet d.ins p { x with frames := x.frames ++ [((smGet (d.lane l).stamp s 0 - 1) * 262144, data)] } {} }
  else d

/-- An IDLE Basket in the slot of raster port `p`. DESIGN CHOICE (log 121): after 64 in a row, more than lie between two data Baskets of the
slowest format, the slot brings only IDLE Baskets, and the signal is gone (R157). -/
def Dev.idleSlot (d : Dev) (l s p : Nat) : Dev :=
  let n := min 64 (smGet (d.lane l).idleRun s 0 + 1)
  let d := d.modLane l (fun x => { x with idleRun := smSet x.idleRun s n 0 })
  let x := smGet d.ins p {}
  if n = 64 ∧ x.signal then { d with ins := smSet d.ins p { x with signal := false, waitLine := true, trs := {} } {} } else d

/-- A good data Basket of port `p`: SEQ, its stamp, the receive buffer (R135, R140, R12). -/
def Dev.dataBasket (d : Dev) (l s p : Nat) (b : Basket) : Dev :=
  let x := d.lane l
  let e := smGet x.expect s 0
  let gap := if e = 0 then 0 else (b.seq + 256 - (e - 1)) % 256
  let tick := fourNs d.now
  let start := b.type == tyRaster || b.offset == 0
  let t := if start then tick else smGet x.stamp s 0 - 1
  let d := d.setLane l { x with
    expect := smSet x.expect s ((b.seq + 1) % 256 + 1) 0, stamp := smSet x.stamp s (t + 1) 0, idleRun := smSet x.idleRun s 0 0 }
  if b.type = tyPacket then
    let d := if gap = 0 then d else d.dropFrame l s p
    d.packetBasket l s p b
  else
    let x := d.lane l
    if rxDepth l ≤ x.rx.length then
      ((d.modLane l (fun x => { x with winOver := true })).count Obj.LANE_RX_OVERFLOW l).pulse (Flt.EDGE_GN + laneGroup l)
    else
      let holes := if 33 ≤ gap then 256 else gap
      d.setLane l { x with rx := x.rx ++ [⟨p, holes, t * 262144, { b with time := t % 65536 }⟩] }

/-- An INTERNAL Basket of TW_0: a gap in SEQ loses the Baskets between (R361). -/
def Dev.internalIn (d : Dev) (seq : Nat) : Dev :=
  let lost := match d.tw.rxSeq with | some e => (seq + 256 - e) % 256 | none => 0
  let d := if lost = 0 then d else d.count Obj.TWIN_RECORDS_LOST 0 lost
  { d with tw := { d.tw with rxSeq := some ((seq + 1) % 256) } }

/-- A good SERVICE Basket in the receiver's count of positions: cycle lock once the Basket a cycle ago was one too (R125).
DESIGN CHOICE (log 116): an IDLE Basket in the service position, which R126 counts as a service Basket without messages, does not
count toward cycle lock. -/
def LaneX.cycleIn (x : LaneX) (twin service : Bool) : LaneX :=
  let n := if twin then 4 else 17
  let lock := x.cycleLock || (service && bitOf x.svcHist (n - 1))
  { x with
    svcHist := (x.svcHist * 2 + boolNat service) % 2 ^ 17, cycleLock := lock,
    pos := if x.cycleLock then (x.pos + 1) % n else 0 }

/-- The Basket that 33 descrambled blocks spell. -/
def basketOf (blocks : List Nat) : Basket := Basket.decode (blocks.headD 0) (payloadOf blocks)

/-- The receiver's verdict on a Basket: valid sync headers, HCRC, the values of Table 4.4, and, in cycle lock, its place in the cycle
(Table 4.8). -/
def LaneX.goodBasket (x : LaneX) (twin : Bool) (w : WireBasket) (blocks : List Nat) : Bool :=
  let h := blocks.headD 0
  let b := basketOf blocks
  (wireErrors w) == 0 && fld h 15 0 == hcrc (h / 65536) b.payload && b.fieldsOk && (!x.cycleLock || placeOk twin b.type x.pos)

/-- A Basket of a pair in block lock: the pattern checker, the counters, LOCK to EXCHANGE, a retrain, cycle lock, and a data Basket into
its buffer (R102, R106, R108, R125, R139). A good SERVICE or INTERNAL Basket is handed on for its messages or records. -/
def Dev.lockedBasket (d : Dev) (l : Nat) (w : WireBasket) (blocks : List Nat) : Dev × Option Basket :=
  let st := d.laneState l
  let b := basketOf blocks
  let x := d.lane l
  let good := x.goodBasket (isTwin l) w blocks
  let d := if b.type = tyIdle then
      (d.countWrap Obj.LANE_PRBS_BITS l 2017).count Obj.LANE_PRBS_ERR l (prbsErrors b.payload) else d
  let d := d.countBasket l (wireErrors w) (!good)
  let k := x.pos
  let live := x.live || (st == lnActive && x.cycleLock && k == 0)
  let d := d.modLane l (fun x => { x.cycleIn (isTwin l) (good && b.type == tyService) with
    live, goodRun := if good then x.goodRun + 1 else 0 })
  if st = lnLock then
    (if 4 ≤ (d.lane l).goodRun then (d.modLane l (fun x => { x with goodRun := 0 })).toLane l lnExchange else d, none)
  else if st = lnActive && decide (d.reg Obj.LANE_HCRC_LIMIT ≤ (d.lane l).winBad) then (d.retrain l, none)
  else if !good then (d, none)
  else if b.type = tyService then (d, some b)
  else if st ≠ lnActive then (d, none)
  else if b.type = tyInternal && l == 272 then (d.internalIn b.seq, some b)
  else if x.cycleLock && live && (b.type == tyRaster || b.type == tyPacket) then
    match d.portIn l (k % 4) with
    | some p => (if (d.reg Obj.IN_TRANSPORT p == 1) == (b.type == tyPacket) then d.dataBasket l (k % 4) p b else d, none)
    | none => (d, none)
  else if x.cycleLock && live && b.type == tyIdle then
    match d.portIn l (k % 4) with
    | some p => (d.idleSlot l (k % 4) p, none)
    | none => (d, none)
  else (d, none)

/-- BASKET_RECEIVED: 33 blocks arrive. Block 0 shows a training word, which nothing scrambles; in LOCK, EXCHANGE and ACTIVE the blocks
pass the descrambler, and in block lock they are a Basket (R87 to R89, R96, R102, R139). -/
def Dev.basketIn (d : Dev) (l : Nat) (w : WireBasket) : Dev × Option Basket :=
  let st := d.laneState l
  let raw := w.blocks.map (·.2.toNat)
  let (x, lost) := (d.lane l).headersIn w
  let locked := st == lnLock || st == lnExchange || st == lnActive
  if !locked then
    let d := if st == lnTrain then d.setLane l x else d
    (d.trainingWord l (raw.headD 0), none)
  else
    let had := (d.lane l).blockLock
    let (blocks, s) := descramble x.descram raw
    let d := d.setLane l { x with descram := s }
    let word := (wirePlaced w) && trainingValid (raw.headD 0)
    if lost then
      let d := (d.countBasket l (wireErrors w) false).count Obj.LANE_LOCK_LOSS l
      (if st = lnActive then d.retrain l else d, none)
    else if word then (d.trainingWord l (raw.headD 0), none)
    else if had then d.lockedBasket l w blocks
    else (d.countBasket l (wireErrors w) false, none)

/-! ### Service messages of the lane -/

/-- Ports of a lane pair's working slots: where a change of far capabilities is felt. -/
def Dev.portsOf (d : Dev) (l : Nat) : List Nat := (List.range 4).filterMap (d.portOf l)

/-- RESULT of a CAP on lane pair `l` (R145, Table 4.11). -/
def Dev.capResult (d : Dev) (l body : Nat) : Nat :=
  let kind := fld body 151 144
  let kindOk := if l < 272 then kind == 1
    else if d.nv.refereeDuty then kind == 0 else if l = 272 then kind == 0 else kind == 2
  let id := fld body 137 137 * 512 + fld body 136 133 * 32 + fld body 132 128
  if fld body 159 152 != 1 then 1
  else if !kindOk then 2
  else if id != d.laneIdentity l then 3
  else if fld body 127 112 < 1522 then 4
  else 0

/-- A CAP message (R145): answered, stored when compatible; the pair fails as a CAP_ACK with another RESULT leaves. It is acted on with
cycle lock only (R125). -/
def Dev.capIn (d : Dev) (l body : Nat) : Dev :=
  let st := d.laneState l
  if !(d.lane l).cycleLock || (st != lnExchange && st != lnActive) then d
  else
    let r := d.capResult l body
    let d := d.sendSvc l 0x02 [BitVec.ofNat 8 r, 0]
    if r = 0 then
      (d.modLane l (fun x => { x with farCaps := some (BitVec.ofNat 160 body), farOk := true })).tryActive l
    else d

/-- A CAP_ACK message (R145). -/
def Dev.capAckIn (d : Dev) (l body : Nat) : Dev :=
  let st := d.laneState l
  if !(d.lane l).cycleLock || (st != lnExchange && st != lnActive) then d
  else if fld body 15 8 = 0 then (d.modLane l (fun x => { x with ourAcked := true })).tryActive l
  else d.failLane l 4

/-- A SLOT_STATUS message (R149). -/
def Dev.slotStatusIn (d : Dev) (l : Nat) (body : BitVec 128) : Dev :=
  if l < 272 && d.laneState l == lnActive then d.modLane l (fun x => { x with slotStatus := body }) else d

/-- A HEALTH message goes to telemetry; RX_OVERFLOW is live for a second (R148, Table 13.4). -/
def Dev.healthIn (d : Dev) (l : Nat) (body : Nat) : Dev :=
  if d.laneState l != lnActive then d
  else
    let d := d.modLane l (fun x => { x with health := body })
    if bitOf body 0 then d.pulse Flt.LANE_FAR_OVERFLOW (some (.lane (Fin.ofNat 274 l))) else d

/-! ### Spare messages -/

/-- A SPARE_REQUEST naming `lane` (R109). -/
def Dev.spareRequest (d : Dev) (l lane : Nat) : Dev :=
  if l < 272 ∧ d.laneState l = lnActive ∧ lane < 16 then
    let g := laneGroup l
    let n := 17 * g + lane
    let st := d.laneState n
    if st = lnOff ∨ st = lnTest then d.sendSvc l 0x15 [BitVec.ofNat 8 lane, 4]
    else if st = lnFail then
      (if d.reg Obj.LANE_SPARE_FOR g = lane then d else d.sendSvc l 0x15 [BitVec.ofNat 8 lane, 4])
    else if d.spareFree g lane then d.retireOne g lane
    else d.sendSvc l 0x15 [BitVec.ofNat 8 lane, BitVec.ofNat 8 (d.spareWhy g)]
  else d

/-- The pair on which a group's move is signalled, and the lane it names (R147). -/
def Dev.moveLane (d : Dev) (g : Nat) : Option (Nat × Nat) :=
  match (d.group g).move with
  | .takeover k => some (spareOf g, k)
  | .release k => some (17 * g + k, k)
  | _ => none

/-- The first SPARE_ACK: SPARE_GO goes out in the next service Basket and those of the 7 cycles after it (R560, Table 4.9). -/
def Dev.spareAck (d : Dev) (l lane : Nat) : Dev :=
  if isTwin l then d
  else
    let g := laneGroup l
    if d.moveLane g = some (l, lane) ∧ (d.group g).acked = false then
      (d.setGroup g { (d.group g) with acked := true, goLeft := 8, goOn := (l, lane) }).finishMove g
    else d

/-- The first SPARE_GO: the receive direction switches from the next cycle, and its slots set their SEQ afresh (R140, R560). -/
def Dev.spareGo (d : Dev) (l lane : Nat) : Dev :=
  if isTwin l then d
  else
    let g := laneGroup l
    if d.moveLane g = some (l, lane) ∧ (d.group g).goSeen = false then
      ((d.modLane l (fun x => { x with expect := [], asm := [] })).setGroup g { (d.group g) with goSeen := true }).finishMove g
    else d

/-- SPARE_ACK or the far end's SPARE_GO is missing (R561). -/
def GroupX.unanswered (x : GroupX) : Bool := !x.acked || !x.goSeen

/-- The deadlines of a takeover passed (R561). -/
def Dev.takeoverTimeout (d : Dev) (g : Nat) : Dev :=
  match (d.group g).move with
  | .takeover k => if (d.group g).unanswered then d.failTakeover g k else d
  | .bringUp k => d.failTakeover g k
  | _ => d

/-- The deadlines of a release passed (R561). -/
def Dev.releaseTimeout (d : Dev) (g : Nat) : Dev :=
  match (d.group g).move with
  | .release k => if (d.group g).unanswered then d.failRelease g k else d
  | _ => d

/-! ### Checks of the Rambler -/

/-- A spare check starts on a spare in OFF, one spare at a time (R114). -/
def Dev.spareCheckStart (d : Dev) (g : Nat) : Dev :=
  let s := spareOf g
  if d.laneState s = lnOff ∧ d.flag Obj.LANE_EN s ∧ d.reg Obj.LANE_SPARE_CHECK ≠ 0 ∧ ¬ d.nv.refereeDuty ∧
      (List.range 16).all (fun h => !(d.group h).checking) then
    (d.setGroup g { (d.group g) with checking := true, checkFrom := d.reg Obj.LANE_PRBS_ERR s }).toDetect s
  else d

/-- The lane's eye is low, or the last spare check of its group failed: the line of source LANE_MARGIN_g. -/
def Dev.marginLine (d : Dev) (g : Nat) : Dev :=
  let low := (List.range 17).any (fun k =>
    d.laneState (17 * g + k) == lnActive && (d.lane (17 * g + k)).lowEye)
  d.setLine (laneSource 2 g) (low || (d.group g).checkFailed)

/-- A spare check ends after 10 s: SPARE_CHECK_FAIL on an error that LANE_PRBS_ERR counted meanwhile, or a low eye, whose height and width are read out (R115);
the spare returns to OFF (R114). -/
def Dev.spareCheckEnd (d : Dev) (g height width : Nat) : Dev :=
  let s := spareOf g
  if !(d.group g).checking then d
  else
    let errors := d.reg Obj.LANE_PRBS_ERR s
    let bad := errors != 0 && errors != (d.group g).checkFrom || decide (height < d.reg Obj.LANE_EYE_MIN)
    let d := d.setGroup g { (d.group g) with checking := false, checkFailed := bad }
    let d := ((d.setReg Obj.LANE_EYE_HEIGHT s height).setReg Obj.LANE_EYE_WIDTH s width).marginLine g
    let d := if bad then d.event 0x3003 (refOf Obj.LANE_STATE s) else d
    if d.laneState s = lnFail then d else d.restSpare g

/-- The eye of an ACTIVE pair (R115). -/
def Dev.eyeMeasured (d : Dev) (l height width : Nat) : Dev :=
  if d.laneState l != lnActive then d
  else
    let low := decide (height < d.reg Obj.LANE_EYE_MIN)
    let d := ((d.setReg Obj.LANE_EYE_HEIGHT l height).setReg Obj.LANE_EYE_WIDTH l width).modLane l
      (fun x => { x with lowEye := low })
    let d := if l < 272 then d.marginLine (laneGroup l) else d
    if low then d.event 0x3002 (refOf Obj.LANE_STATE l) else d

/-! ### Training events -/

/-- A termination test in DETECT (R94): two in a row start TRAIN; none while paused. -/
def Dev.termTest (d : Dev) (l : Nat) (found : Bool) : Dev :=
  if d.laneState l != lnDetect || !d.laneRefOk then d
  else
    let n := if found then (d.lane l).termHits + 1 else 0
    let d := d.modLane l (fun x => { x with termHits := n })
    if 2 ≤ n then d.toTrain l true else d

/-- A margin measurement ends in TRAIN (R101): it counts once the answered request's status has read 0. -/
def Dev.eyeMargin (d : Dev) (l margin : Nat) : Dev :=
  if d.laneState l != lnTrain then d
  else
    let x := d.lane l
    if !x.neg.answered then d.setLane l { x with neg := { x.neg with base := margin } }
    else if x.neg.cleared then d.setLane l { x with neg := negMeasure x.neg margin }
    else d

/-! ### Timeouts of Table 3.2 and the pattern checker -/

/-- TRAIN_WORD_TIMEOUT: 20 ms in TRAIN without a valid training word (Table 3.2). -/
def Dev.trainWordLate (d : Dev) (l : Nat) : Dev :=
  if d.laneState l = lnTrain ∧ ¬ (d.lane l).gotWord then d.toDetect l else d

/-- TRAIN_LOCK_TIMEOUT, LOCK_TIMEOUT and EXCHANGE_TIMEOUT: the time in state `st` is over, and TRAIN starts again from the start
preset, charged (R100, Table 3.2). -/
def Dev.bringUpLate (d : Dev) (l st : Nat) : Dev :=
  if d.laneState l = st then d.charge l (fun d => d.toTrain l true) else d

/-- One received bit at the pattern checker (R104): it seeds, or it is compared with the next bit of the pattern; then the bits compared,
up to 1,024, and the mismatches among the latest 1,024. -/
def LaneX.checkBit (ab : Nat × Nat) (x : LaneX) (b : Nat) : LaneX × Bool :=
  if x.testSeed < ab.1 then ({ x with testSeed := x.testSeed + 1, testReg := (x.testReg * 2 + b) % 2 ^ ab.1 }, false)
  else
    let want := patternBit ab x.testReg
    let bad := want != b
    ({ x with
      testReg := (x.testReg * 2 + want) % 2 ^ ab.1, testBits := min 1024 (x.testBits + 1),
      testHist := (x.testHist * 2 + boolNat bad) % 2 ^ 1024,
      testErrs := x.testErrs + boolNat bad - boolNat (bitOf x.testHist 1023) }, bad)

/-- The pattern checker takes one bit: it counts while locked, locks after 1,024 bits with fewer than 32 mismatches, and seeds again on
32 or more (R104). -/
def Dev.checkIn (d : Dev) (l b : Nat) : Dev :=
  let seeded := decide ((patternTaps (d.reg Obj.LANE_TEST_MODE l)).1 ≤ (d.lane l).testSeed)
  let (x, bad) := (d.lane l).checkBit (patternTaps (d.reg Obj.LANE_TEST_MODE l)) b
  let d := d.setLane l x
  let d := if d.flag Obj.LANE_PRBS_LOCK l && seeded then
      (d.countWrap Obj.LANE_PRBS_BITS l 1).count Obj.LANE_PRBS_ERR l (boolNat bad) else d
  if 32 ≤ x.testErrs then (d.modLane l LaneX.reseed).setReg Obj.LANE_PRBS_LOCK l 0
  else if x.testBits = 1024 then d.setReg Obj.LANE_PRBS_LOCK l 1
  else d

/-- LANE_PRBS_LOCK: `n` raw bits reach the pattern checker of a pair in TEST, the most significant of `bits` first (R104). -/
def Dev.prbsRunIn (d : Dev) (l : Nat) : Nat → Nat → Dev
  | 0, _ => d
  | n + 1, bits => if d.laneState l = lnTest then (d.checkIn l (bits / 2 ^ n % 2)).prbsRunIn l n bits else d

end Sys2Proof.Machine
end

