-- ==== Sys2Proof/Machine/Raster.lean ====
section
/-! DEFINITION. The words of a raster interface: timing references, line numbers, line CRCs, ancillary packets, payload identifiers,
embedded audio, and what the input stage finds of them ("Baskets", R129 to R131; "Crosspoint", R157; "Packet video engine", R203, R237
to R241). PRESUMED (log 120): the layouts are those of the SMPTE standards of R4; every interface but 270 Mbit/s has two streams, C and
Y, word by word. -/

namespace Sys2Proof.Machine

/-- Data streams in the multiplex of format `c`. -/
def streamsOf (c : Nat) : Nat := if c ≤ 2 then 1 else 2

/-- Field (0 or 1) of a line of a format: the second from where the F bit is 1. -/
def fieldOfLine (c l : Nat) : Nat :=
  match c with
  | 1 => if 266 ≤ l || l < 4 then 1 else 0
  | 2 => if 313 ≤ l then 1 else 0
  | 6 => if 564 ≤ l then 1 else 0
  | 7 => if 564 ≤ l then 1 else 0
  | _ => 0

/-! ### Ten-bit words -/

/-- b9 is the complement of b8. -/
def nineWord (v : Nat) : Nat := v % 512 + (if v / 256 % 2 = 1 then 0 else 512)

/-- Eight bits with even parity in b8 and its complement in b9. -/
def parityWord (v : Nat) : Nat :=
  nineWord (v % 256 + 256 * ((List.range 8).foldl (fun n i => n + v / 2 ^ i % 2) 0 % 2))

/-- XYZ of a timing reference from F, V and H, with its protection bits. -/
def xyzWord (f v h : Nat) : Nat :=
  512 + f * 256 + v * 128 + h * 64 + (v ^^^ h) * 32 + (f ^^^ h) * 16 + (f ^^^ v) * 8 + (f ^^^ v ^^^ h) * 4

/-- The two line number words. -/
def lineWord0 (l : Nat) : Nat := l % 128 * 4 + (if l / 64 % 2 = 1 then 0 else 512)
def lineWord1 (l : Nat) : Nat := 512 + l / 128 % 32 * 4

/-- One word into the line CRC x^18 + x^5 + x^4 + 1, least significant bit first. -/
def crc18 (r w : Nat) : Nat :=
  (List.range 10).foldl (fun r i => r / 2 ^^^ (if (r ^^^ w / 2 ^ i) % 2 = 1 then 0x23000 else 0)) r

/-- An ancillary packet: flag, DID, SDID or block number, count, words, checksum word. -/
def ancWords (did sdid : Nat) (udw : List Nat) : List Nat :=
  let body := [parityWord did, parityWord sdid, parityWord udw.length] ++ udw
  [0, 0x3FF, 0x3FF] ++ body ++ [nineWord (body.foldl (fun s w => s + w % 512) 0)]

/-! ### The payload identifier (R157, R203, R240) -/

/-- Lines that carry the payload identifier. -/
def payloadIdLines (c : Nat) : List Nat :=
  match c with
  | 1 => [13, 276]
  | 2 => [9, 322]
  | 6 => [10, 572]
  | 7 => [10, 572]
  | _ => [10]

/-- The picture rate code of a period. -/
def pictureRate (p : Period) : Nat :=
  match p.num, p.den with
  | 1001, 24000 => 2
  | 1, 24 => 3
  | 1, 25 => 5
  | 1001, 30000 => 6
  | 1, 30 => 7
  | 1, 50 => 9
  | 1001, 60000 => 10
  | 1, 60 => 11
  | _, _ => 0

/-- The four bytes of the payload identifier of format `c`, on one link of a quad-link stream or on one port. -/
def payloadId (c : Nat) (ganged : Bool) (link : Nat) : List Nat :=
  let f1 := if c ≤ 2 then 0x81 else if c ≤ 5 then 0x84 else if c ≤ 12 then 0x85 else if c ≤ 15 then 0x89
    else if ganged then 0x97 else if c ≤ 20 then 0xC0 else 0xCE
  match fmtOf c with
  | some f => [f1, (if f.interlaced then 0 else 0xC0) + pictureRate f.period, 0, link * 64 + 1]
  | none => [0, 0, 0, 0]

def payloadIdWords (c : Nat) (ganged : Bool) (link : Nat) : List Nat :=
  ancWords 0x41 0x01 ((payloadId c ganged link).map parityWord)

/-! ### Blanking of a raster -/

/-- The first word after a line's EAV with its line number and CRC, and the first word of its SAV. -/
def hancStart (c : Nat) : Nat := if streamsOf c = 1 then 4 else 16
def Fmt.savAt (f : Fmt) (c : Nat) : Nat := f.lineWords - 2 * f.width - 4 * streamsOf c

/-- Word `i` outside the active picture of the raster of link code `c`: timing references, line numbers, the payload identifier `id` in
the Y stream, blanking. The places of the line CRC hold blanking until the line leaves. -/
def Fmt.rasterWord (g : Fmt) (c : Nat) (id : List Nat) (i : Nat) : Nat :=
  let n := streamsOf c
  let p := g.posOf i
  let l := g.lineOf i
  let sav := g.savAt c
  let trs (q h : Nat) : Nat :=
    if q < n then 0x3FF else if q < 3 * n then 0 else xyzWord (fieldOfLine c l) (if (g.rowOf l).isSome then 0 else 1) h
  if p < 4 * n then trs p 1
  else if n = 2 ∧ p < 12 then (if p < 10 then lineWord0 l else lineWord1 l)
  else if sav ≤ p ∧ p < sav + 4 * n then trs (p - sav) 0
  else if hancStart c ≤ p ∧ p < sav ∧ l ∈ payloadIdLines c then
    if n = 1 then id.getD (p - 4) (blankWord i) else if isLuma i then id.getD ((p - 17) / 2) (blankWord i) else blankWord i
  else blankWord i

/-! ### What the input stage finds (R131, R157) -/

/-- F and V of an EAV word, as 2 F + V; none for any other word. -/
def eavBits (w : Nat) : Option Nat :=
  let f := w / 256 % 2
  let v := w / 128 % 2
  if w = xyzWord f v 1 then some (2 * f + v) else none

/-- The EAV at the head of a list of words: its length with the line number, F and V, the line number where one is carried. -/
def eavHere (ws : List Nat) : Option (Nat × Nat × Option Nat) :=
  if ws.take 6 = [0x3FF, 0x3FF, 0, 0, 0, 0] then
    match ws.drop 6 with
    | x :: y :: a :: _ :: b :: _ :: _ =>
      if x = y then (eavBits x).map (fun e => (12, e, some (a / 4 % 128 + b / 4 % 32 * 128))) else none
    | _ => none
  else if ws.take 3 = [0x3FF, 0, 0] then
    match ws.drop 3 with
    | x :: _ => (eavBits x).map (fun e => (4, e, none))
    | [] => none
  else none

/-- The first EAV of a list that ends behind its first `old` words: its place, F and V, line number. -/
def findEav (old : Nat) : Nat → List Nat → Option (Nat × Nat × Option Nat)
  | _, [] => none
  | i, w :: r =>
    match eavHere (w :: r) with
    | some (n, e) => if old < i + n then some (i, e) else findEav old (i + 1) r
    | none => findEav old (i + 1) r

/-- The words begin an EAV that runs on after them. -/
def eavBegins (n : Nat) (ws : List Nat) : Bool :=
  ws != [] && ws.take (3 * n) == ((List.replicate n 0x3FF ++ List.replicate (2 * n) 0).take (ws.length))

/-- The line of a 525-line or 625-line signal at which F and V became `now`, where the change names one (R131). -/
def sdLine (c before now : Nat) : Option Nat :=
  if before / 2 = 1 ∧ now / 2 = 0 then some (if c = 1 then 4 else 1)
  else if before / 2 = 0 ∧ now / 2 = 1 then some (if c = 1 then 266 else 313)
  else if before % 2 = 0 ∧ now % 2 = 1 then
    some (if c = 1 then (if now / 2 = 0 then 264 else 1) else (if now / 2 = 0 then 311 else 624))
  else none

/-! ### Ancillary packets found -/

/-- An ancillary packet found in a stream: DID and SDID or block number without parity, its words, and the whole packet. -/
structure AncFound where
  did : Nat
  sdid : Nat
  udw : List Nat
  all : List Nat
deriving DecidableEq, Repr

/-- The ancillary packets of a stream's words, at most `fuel` words looked at; one with a bad checksum word is passed over. -/
def ancFind : Nat → List Nat → List AncFound
  | 0, _ => []
  | fuel + 1, ws =>
    match ws with
    | 0 :: 0x3FF :: 0x3FF :: did :: sdid :: dc :: rest =>
      let n := dc % 256
      let body := [did, sdid, dc] ++ rest.take n
      if rest.length < n + 1 ∨ rest.getD n 0 ≠ nineWord (body.foldl (fun s w => s + w % 512) 0) then ancFind fuel (ws.drop 1)
      else ⟨did % 256, sdid % 256, rest.take n, ws.take (n + 7)⟩ :: ancFind fuel (ws.drop (n + 7))
    | [] => []
    | _ :: r => ancFind fuel r

/-- Every second word: those of the C stream from an even place, those of the Y stream from the next. -/
def alternate : List Nat → List Nat
  | a :: _ :: r => a :: alternate r
  | [a] => [a]
  | [] => []

/-- The streams of a line's HANC in which ancillary packets stand: all of it at 270 Mbit/s, else C and Y. -/
def hancStreams (c : Nat) (ws : List Nat) : List (List Nat) :=
  if streamsOf c = 1 then [ws] else [alternate ws, alternate (ws.drop 1)]

/-- Words of two streams, word by word. -/
def interleave : List Nat → List Nat → List Nat
  | a :: r, b :: s => a :: b :: interleave r s
  | [], s => s
  | r, [] => r

/-! ### Embedded audio (R233, R237, R239) -/

/-- DIDs of audio data and audio control packets (R233). -/
def audioDids (did : Nat) : Bool :=
  decide (0xE0 ≤ did ∧ did ≤ 0xE7) || decide (0xA0 ≤ did ∧ did ≤ 0xA7) || decide (0xEC ≤ did ∧ did ≤ 0xEF) ||
  decide (0xF8 ≤ did ∧ did ≤ 0xFF)

/-- DID of the audio data packets, and of the control packets, of group `g` (from 0). -/
def audioDid (c g : Nat) : Nat := if streamsOf c = 1 then 0xFF - 2 * g else if g < 4 then 0xE7 - g else 0xA7 - (g - 4)
def controlDid (c g : Nat) : Nat := if streamsOf c = 1 then 0xEF - g else if g < 4 then 0xE3 - g else 0xA3 - (g - 4)

/-- The groups that format `c` carries. -/
def audioGroups (c : Nat) : Nat := if streamsOf c = 1 then 4 else 8

/-- The parity bit of a sample: even over its 24 bits, V, U and C, the last three 0. -/
def sampleParity (v : Nat) : Nat := (List.range 24).foldl (fun n i => n + v / 2 ^ i % 2) 0 % 2

/-- Four words of one channel of ST 299-1; `v` is the sample as 24 bits, `z` its block start. -/
def sampleWords (z : Bool) (v : Nat) : List Nat :=
  [v % 16 * 16 + (if z then 8 else 0), v / 16 % 256, v / 4096 % 256, v / 1048576 % 16 + 128 * ((sampleParity v + (if z then 1 else 0)) % 2)].map
    parityWord

/-- The error correction words of ST 299-1: the remainder of each bit's 24 words by (x + 1)(x^5 + x^2 + 1). -/
def audioEcc (ws : List Nat) : List Nat :=
  let rem (b : Nat) : Nat := ws.foldl (fun r w =>
    r * 2 % 64 ^^^ (if (r / 32 + w / 2 ^ b) % 2 = 1 then 0x2F else 0)) 0
  (List.range 6).map (fun i => parityWord ((List.range 8).foldl (fun n b => n + rem b / 2 ^ i % 2 * 2 ^ b) 0))

/-- The audio data packet of ST 299-1 with one sample of each channel of group `g`. -/
def audioPacket (c g dbn clk : Nat) (z : Bool) (vs : List Nat) : List Nat :=
  let head := [0, 0x3FF, 0x3FF, parityWord (audioDid c g), parityWord dbn, parityWord 24]
  let udw := [parityWord (clk % 256), parityWord (clk / 256 % 16 + clk / 4096 % 2 * 32)] ++
    (List.range 4).flatMap (fun i => sampleWords z (vs.getD i 0))
  ancWords (audioDid c g) dbn (udw ++ audioEcc (head ++ udw))

/-- The audio data packet of ST 272 with the samples of group `g`: block start and the four values of each. -/
def audioPacketSd (g dbn : Nat) (ss : List (Bool × List Nat)) : List Nat :=
  ancWords (audioDid 1 g) dbn (ss.flatMap (fun s => (List.range 4).flatMap (fun i =>
    let v := s.2.getD i 0 / 16
    let z := if s.1 then 1 else 0
    [nineWord (z + 2 * i + v % 64 * 8), nineWord (v / 64 % 512),
     nineWord (v / 32768 % 32 + 256 * (((List.range 20).foldl (fun n j => n + v / 2 ^ j % 2) 0 + z) % 2))])))

/-- The audio control packet of group `g`: frame number, 48 kHz synchronous, active channels. -/
def controlPacket (c g frame active : Nat) : List Nat :=
  if streamsOf c = 1 then ancWords (controlDid c g) 0 ([frame, frame, 0, active].map nineWord ++ List.replicate 14 (nineWord 0))
  else ancWords (controlDid c g) 0 ([frame, 0, active].map parityWord ++ List.replicate 8 (nineWord 0))

/-- The samples of an audio data packet: for each the four channels as 24-bit values. -/
def packetSamples (c : Nat) (a : AncFound) : List (List Nat) :=
  let u (i : Nat) : Nat := a.udw.getD i 0
  if streamsOf c = 1 then
    (List.range (a.udw.length / 12)).map (fun s => (List.range 4).map (fun i =>
      let x := 12 * s + 3 * i
      (u x / 8 % 64 + u (x + 1) % 512 * 64 + u (x + 2) % 32 * 32768) * 16))
  else if a.udw.length = 24 then
    [(List.range 4).map (fun i =>
      let x := 2 + 4 * i
      u x / 16 % 16 + u (x + 1) % 256 * 16 + u (x + 2) % 256 * 4096 + u (x + 3) % 16 * 1048576)]
  else []

/-- An audio control packet states 48 kHz synchronous. -/
def controlSync (c : Nat) (a : AncFound) : Bool := a.udw.getD (if streamsOf c = 1 then 2 else 1) 0 % 16 == 0

end Sys2Proof.Machine
end

