-- ==== Sys2Proof/Machine/Sources.lean ====
section
/-! DEFINITION. Video sources and their subscribers: formats and phases of sources, subscription masks, the input stage, the
group nodes, and the word that a source gives a consumer ("The fabric and its namespaces", R17 to R32; "Crosspoint", R157 to
R163; "Composition", R248 to R251, R257 to R259). -/

namespace Sys2Proof.Machine

def srcBlack : Nat := 4095

def Dev.inp (d : Dev) (p : Nat) : InX := smGet d.ins p {}
def Dev.setInp (d : Dev) (p : Nat) (x : InX) : Dev := { d with ins := smSet d.ins p x {} }
def Dev.modInp (d : Dev) (p : Nat) (f : InX → InX) : Dev := d.setInp p (f (d.inp p))
def Dev.engine (d : Dev) (n : Nat) : EngineX := smGet d.engines n {}
def Dev.setEngine (d : Dev) (n : Nat) (x : EngineX) : Dev := { d with engines := smSet d.engines n x {} }
def Dev.inserter (d : Dev) (n : Nat) : InserterX := smGet d.inserters n {}
def Dev.setInserter (d : Dev) (n : Nat) (x : InserterX) : Dev := { d with inserters := smSet d.inserters n x {} }
def Dev.canopy (d : Dev) (g : Nat) : CanopyX := smGet d.canopies g {}
def Dev.setCanopy (d : Dev) (g : Nat) (x : CanopyX) : Dev := { d with canopies := smSet d.canopies g x {} }
def Dev.store (d : Dev) (f : Nat) : StoreX := smGet d.stores f {}
def Dev.setStore (d : Dev) (f : Nat) (x : StoreX) : Dev := { d with stores := smSet d.stores f x {} }

/-! ### Numbers (R17, R28, Table 1.4) -/

/-- The group node of a source; black is in every node. -/
def srcNode (s : Nat) : Nat :=
  if s < 1024 then s / 64 else if s < 1088 then (s - 1024) / 4 else if s < 1120 then (s - 1088) / 2 else 2 * (s - 1120)

/-- A source field names a source (Table 1.4). -/
def srcValid (s : Nat) : Bool := decide (s < 1128) || s == srcBlack

/-- The port is p+1 to p+3 of a ganged stream (R28). -/
def Dev.inGangMember (d : Dev) (p : Nat) : Bool := p % 4 != 0 && d.flag Obj.IN_GANG (p / 4 * 4)
def Dev.outGangMember (d : Dev) (p : Nat) : Bool := p % 4 != 0 && d.flag Obj.OUT_GANG (p / 4 * 4)

/-- A source is a ganged input. -/
def Dev.srcGanged (d : Dev) (s : Nat) : Bool := decide (s < 1024) && d.flag Obj.IN_GANG s

/-- The engine that composes onto output `p`, as assignments stand at its frames (R243). -/
def Dev.engineOf (d : Dev) (p : Nat) : Option Nat :=
  (List.range 4).map (fun k => 4 * (p / 64) + k) |>.find? (fun n =>
    (d.engine n).out == p)

/-- The inserter that is ON on output `p`, and any inserter set to it. -/
def Dev.inserterOf (d : Dev) (p : Nat) : Option Nat :=
  (List.range 8).map (fun k => 8 * (p / 64) + k) |>.find? (fun n =>
    (d.inserter n).out == p && (d.inserter n).on && d.reg Obj.CI_STATE n != 6)

/-- CI_ON is TRUE for an inserter set to output `p` (R261). -/
def Dev.underCanopy (d : Dev) (p : Nat) : Bool :=
  (List.range 8).any (fun k => let n := 8 * (p / 64) + k
    d.flag Obj.CI_ON n && d.reg Obj.CI_OUTPUT n == p && d.reg Obj.CI_STATE n != 6)

/-! ### Layers, taps, scrubbed entries -/

/-- An engine layer selects source `s`: layer 0 by its output's XP_SOURCE. -/
def Dev.layerSource (d : Dev) (n l : Nat) : Nat :=
  if l = 0 then (if (d.engine n).out < 1024 then d.reg Obj.XP_SOURCE (d.engine n).out else srcBlack)
  else d.reg Obj.CE_LAYER_SOURCE (8 * n + l)

/-- The Canopy tap of node `g` draws its source: an inserter of the node is ON (R262). -/
def Dev.tapOn (d : Dev) (g : Nat) : Bool := (List.range 8).any (fun k => d.flag Obj.CI_ON (8 * g + k))

/-- A scrubbed entry is at its reset default until it is restored (R466). -/
def Dev.isBroken (d : Dev) (t : ScrubTable) (entry : Nat) : Bool := d.broken.any (fun b => b.table == t && b.entry == entry)

/-! ### Formats, service -/

/-- The SLOT_CAPS bits that a port's transport, gang and fixed format need (R146). -/
def portNeeds (packet ganged : Bool) (c : Nat) : List Nat :=
  (if ganged then [5] else []) ++ (if packet then [6] else if c = 0 then [] else [rateBit (linkCode c ganged)])

/-- The far end of port `p` declared every bit of `needs`; unknown capabilities pass (R146). -/
def Dev.capsAllow (d : Dev) (p : Nat) (needs : List Nat) : Bool :=
  match d.farSlotCaps p with
  | some c => needs.all (bitOf c)
  | none => true

def Dev.outNeeds (d : Dev) (p : Nat) : List Nat :=
  portNeeds (d.reg Obj.OUT_TRANSPORT p == 1) (d.flag Obj.OUT_GANG p) (d.reg Obj.OUT_FORMAT p)

def Dev.inNeeds (d : Dev) (p : Nat) : List Nat :=
  portNeeds (d.reg Obj.IN_TRANSPORT p == 1) (d.flag Obj.IN_GANG p) 0

/-- An output, an input is in service (R105, R110, R146). -/
def Dev.outService (d : Dev) (p : Nat) : Bool := d.txUp p && d.capsAllow p (d.outNeeds p)
def Dev.inService (d : Dev) (p : Nat) : Bool := d.rxUp p && d.capsAllow p (d.inNeeds p)

/-! ### Inputs -/

/-- The slot's bits of SLOT_STATUS, as the I/O card gives them (Table 4.14). -/
def Dev.slotBits (d : Dev) (p : Nat) : Nat :=
  let s := p % 4
  fld (d.lane (d.carrier p)).slotStatus.toNat (127 - 32 * s) (96 - 32 * s)

/-- A raster input has a signal: its slot brings data and PRESENT is set (R157). -/
def Dev.inSignal (d : Dev) (p : Nat) : Bool := d.inService p && bitOf (d.slotBits p) 8 && (d.inp p).signal

/-- Elements of a BOOL object that are TRUE, where its default is FALSE. -/
def Dev.trueOf (d : Dev) (n : Nat) : List Nat :=
  (d.regs.filter (fun kv => kv.1 / 65536 == n && kv.2 != 0)).map (fun kv => kv.1 % 65536)

/-- An enabled leg of the video flow homed at input `p` (R208). -/
def Dev.videoFlow (d : Dev) (p : Nat) : Option Nat :=
  (d.trueOf Obj.RF_ENABLE).find? (fun f => d.reg Obj.RF_ESSENCE f == 0 && d.reg Obj.RF_HOME f == p)

/-- The entry whose store a leg fills: RED of a pair (R221). -/
def Dev.storeOwner (d : Dev) (f : Nat) : Nat := if d.reg Obj.RF_LEG f = 2 then d.reg Obj.RF_PARTNER f else f

/-- A packet input delivers packets: its flow runs and is not NO_PACKETS (R211, R220). -/
def Dev.packetUp (d : Dev) (p : Nat) : Bool :=
  match d.videoFlow p with
  | some f => d.reg Obj.RF_STATE f == 1
  | none => false

/-- IN_FORMAT (R157, R211). -/
def Dev.inFormat (d : Dev) (p : Nat) : Nat :=
  if d.reg Obj.IN_TRANSPORT p == 1 then
    match d.videoFlow p with
    | some f => if d.reg Obj.RF_STATE f == 1 then d.reg Obj.RF_FORMAT f else 0
    | none => 0
  else if d.inSignal p then d.reg Obj.IN_FORMAT p else 0

/-- IN_STATUS (R157, R220): 0 NO_SIGNAL, 1 LOCKED, 2 REGAINING, 3 NOT_IN_SERVICE. -/
def Dev.inStatus (d : Dev) (p : Nat) : Nat :=
  if !d.inService p || d.inGangMember p then 3
  else if d.reg Obj.IN_TRANSPORT p == 1 then (if d.packetUp p then 1 else 0)
  else if !d.inSignal p then 0
  else
    let x := d.inp p
    if !fmtKnown (d.reg Obj.IN_FORMAT p) || x.waitFrame || x.waitLine || x.gangSpread then 2 else 1

/-- The mode in force at an input: OFF, SYNC or DELAY (R187). -/
def Dev.fsMode (d : Dev) (p : Nat) : Nat := (d.inp p).mode

/-! ### Formats and phases of sources (R163, R164, R251) -/

/-- What a source has for a format. -/
inductive SrcFmt where
  /-- No format: neither timed nor untimed. -/
  | nothing
  /-- Generated at each subscriber's own format and timing. -/
  | own
  | code (c : Nat)
deriving DecidableEq, Repr

/-- The still that a player plays, with its format. -/
def Dev.playing (d : Dev) (n : Nat) : Option (Nat × Nat) :=
  let s := d.reg Obj.SP_STILL n
  if s < 1024 then some (s, d.reg Obj.STILL_FORMAT s) else none

/-- The format in use at an output (R175). -/
def Dev.outFormat (d : Dev) (p : Nat) : Nat :=
  if d.reg Obj.OUT_FORMAT p ≠ 0 then d.reg Obj.OUT_FORMAT p else (d.out p).fmt

/-- The format of engine `n`: that of its output (R244); 0 where it has none. -/
def Dev.engineFormat (d : Dev) (n : Nat) : Nat :=
  let o := (d.engine n).out
  if o < 1024 then d.outFormat o else 0

/-- Engine `n` composes: assigned, with a format, not retired. -/
def Dev.engineUp (d : Dev) (n : Nat) : Bool := d.reg Obj.CE_STATE n == 1 || d.reg Obj.CE_STATE n == 2

def Dev.srcFormat (d : Dev) (s : Nat) : SrcFmt :=
  if s < 1024 then
    let x := d.inp s
    if x.mode = 1 then
      match x.last with
      | some f => if fmtKnown f.fmt then .code f.fmt else .nothing
      | none => if fmtKnown x.costFmt then .code x.costFmt else .nothing
    else if x.mode = 2 && (d.reg Obj.FS_STATE s == 1 || x.holesLeft != 0) then .nothing
    else if d.inStatus s = 1 && fmtKnown (d.inFormat s) then .code (d.inFormat s) else .nothing
  else if s < 1088 then (if d.engineUp (s - 1024) then .code (d.engineFormat (s - 1024)) else .own)
  else if s < 1120 then
    match d.playing (s - 1088) with
    | some (_, c) => .code c
    | none => .own
  else .own

/-- The phase at an output of a source with format `f`, exact; `off` is the phase of generated sources. LB_n has the cadence that its
engine's output runs (R163). -/
def Dev.srcPhase (d : Dev) (f : Fmt) (s off : Nat) : Int :=
  if s < 1024 then
    if (d.inp s).mode = 1 then f.exNs (d.reg Obj.FS_OFFSET s)
    else f.exNs (d.reg Obj.IN_PHASE s) + f.pass (d.srcGanged s)
  else if s < 1088 then
    let o := (d.engine (s - 1024)).out
    if !d.engineUp (s - 1024) then f.exNs off
    else if (d.out o).started then (d.out o).ph else f.exNs (d.reg Obj.OUT_OFFSET o)
  else f.exNs off

/-- The phase at an engine of a source (R251): as at an output, but LB_m has OUT_OFFSET of its engine's output. -/
def Dev.enginePhase (d : Dev) (f : Fmt) (s off : Nat) : Int :=
  if 1024 ≤ s ∧ s < 1088 ∧ d.engineUp (s - 1024) then f.exNs (d.reg Obj.OUT_OFFSET (d.engine (s - 1024)).out)
  else d.srcPhase f s off

/-! ### Generated words -/

/-- A word of black on link `link` of code `c` (R203, R219): 0x040 and 0x200 in the active picture, the raster's words elsewhere. -/
def blackWord (f : Fmt) (c i : Nat) (ganged : Bool) (whole link : Nat) : Nat :=
  match f.pixelOf i with
  | some _ => blankWord i
  | none => f.rasterWord c (payloadIdWords whole ganged link) i

/-- Word `x` of row `r` of a still (R257). -/
def stillWord (b : Bytes) (f : Fmt) (r x : Nat) : Nat :=
  let bit := 10 * x
  let at_ := r * (f.width * 5 / 2) + bit / 8
  beNat ((b.drop at_).take 2) / 2 ^ (6 - bit % 8) % 1024

/-- Word `i` of a link held by a list of parts of frames of `w` words: none missing, `some none` a hole. -/
def segWord (w : Nat) (segs : List Seg) (link i : Nat) : Option (Option Nat) :=
  match segs.find? (fun s => s.link == link && decide ((i + w - s.idx % w) % w < 204)) with
  | some s => some (if s.hole then none else s.words[(i + w - s.idx % w) % w]?)
  | none => none

/-! ### Keys and blending (R248, R249) -/

/-- clamp(round((Y − 64) × 65535 / 876), 0, 65535), halves up. -/
def linearKey (y : Nat) : Nat :=
  (clampInt 0 65535 ((2 * ((y : Int) - 64) * 65535 + 876) / 1752)).toNat

/-- clamp(trunc((Y − CLIP) × GAIN × 65535 / (876 × 256)), 0, 65535). -/
def lumaKey (y clip gain : Nat) : Nat :=
  (clampInt 0 65535 ((((y : Int) - clip) * gain * 65535).tdiv (876 * 256))).toNat

/-- Steps 4 and 5 of R248. -/
def keyFinish (a : Nat) (invert : Bool) (opacity : Nat) : Nat :=
  (if invert then 65535 - a else a) * (opacity + 1) / 65536

/-- mul(a, v) of R249: truncation toward zero. -/
def keyMul (a : Nat) (v : Int) : Int := (v * (a + 1)).tdiv 65536

/-- The internal value of a code. -/
def codeVal (luma : Bool) (w : Nat) : Int := ((w : Int) - (if luma then 64 else 512)) * 64

/-- One layer laid over the accumulator. -/
def blendStep (acc : Int) (a : Nat) (v : Int) (shaped : Bool) : Int :=
  (if shaped then v else keyMul a v) + keyMul (65535 - a) acc

/-- The output code of an accumulator. -/
def blendCode (luma : Bool) (acc : Int) : Nat :=
  (clampInt 4 1019 ((acc + 32) / 64 + (if luma then 64 else 512))).toNat

/-- Fields of a layer record (Table 7.1). -/
def lyMode (r : Nat) : Nat := fld r 63 61
def lyKeyLayer (r : Nat) : Nat := fld r 60 58
def lyShaped (r : Nat) : Bool := bitOf r 57
def lyInvert (r : Nat) : Bool := bitOf r 56
def lyOpacity (r : Nat) : Nat := fld r 55 40
def lyClip (r : Nat) : Nat := fld r 39 30
def lyGain (r : Nat) : Nat := fld r 29 14

/-- The default record of Table 7.1: OPACITY 65535, CLIP 64, GAIN 256. -/
def lyDefault : Nat := 65535 * 2 ^ 40 + 64 * 2 ^ 30 + 256 * 2 ^ 14

/-- The record of layer `l` in force at engine `n`. -/
def EngineX.layer (x : EngineX) (l : Nat) : Nat := smGet x.live l lyDefault

/-- order[k] (R250). -/
def EngineX.orderAt (x : EngineX) (fixed : Bool) (k : Nat) : Nat :=
  if fixed then k else fld x.liveOrder (3 * k + 2) (3 * k)

/-! ### The word a source gives (R163, R188 to R192, R203, R254) -/

/-- How a consumer reads a source: its format `c` with its timing `f`, the geometry `g` of its words under code `gc`, whether it
is ganged and which link it is, and its group node. A ganged stream has on each link the words of a picture of half the lines and
half the samples (R28, R132). -/
structure Look where
  c : Nat
  f : Fmt
  gc : Nat
  g : Fmt
  ganged : Bool
  link : Nat
  node : Nat
  /-- The still that a still player plays for this consumer in its frame (R258). -/
  still : Option Nat := none
deriving DecidableEq, Repr

/-- The look of a consumer of format `c` in node `node`. -/
def lookOf (c : Nat) (ganged : Bool) (link node : Nat) : Option Look :=
  match fmtOf c, fmtOf (linkCode c ganged) with
  | some f, some g => some { c, f, gc := linkCode c ganged, g, ganged, link, node }
  | _, _ => none

/-- Row and word within the row of the whole picture of word `i` of a look. A link of a ganged stream has every second row, and
every second pair of pixels in it. -/
def Look.pictureOf (k : Look) (i : Nat) : Option (Nat × Nat) :=
  match k.g.pixelOf i with
  | none => none
  | some (r, x) =>
    if k.ganged then some (2 * r + k.link / 2, 4 * (2 * (x / 4) + k.link % 2) + x % 4) else some (r, x)

/-- The word period. -/
def Look.tw (k : Look) : Int := k.f.linkTw k.ganged

/-- A word of black. -/
def Look.black (k : Look) (i : Nat) : Nat := blackWord k.g k.gc i k.ganged k.c k.link

/-- The instant at which a consumer's frame starts, from word `i` at instant `t`. -/
def Look.frameAt (k : Look) (i : Nat) (t : Int) : Int := t - i * k.tw

/-- The source of word `i` of output `p`'s frame in course: the pending one once its switch has left, the old one before the
switch in this frame (R170). -/
def Dev.outSource (d : Dev) (p i : Nat) : Nat :=
  let x := d.out p
  match x.swDone, x.pend with
  | some _, some t => t.src
  | _, _ => if i < x.oldUntil then x.oldSrc else d.reg Obj.XP_SOURCE p

/-- The source of layer `l` of engine `n` at word `i`. -/
def Dev.layerAt (d : Dev) (n l i : Nat) : Nat :=
  if l = 0 ∧ (d.engine n).out < 1024 then d.outSource (d.engine n).out i else d.layerSource n l

/-- The key of a video position: frame, row, first pixel. -/
def posKey (frame row pixel : Nat) : Nat := frame * 2 ^ 32 + row * 2 ^ 16 + pixel

/-- The frame of flow `flow` that home `p` presents at instant `t`: frame number on the grid, or a stamp (R213, R214). -/
def Dev.packetFrame (d : Dev) (p flow : Nat) (f : Fmt) (t : Int) : Option Nat :=
  let x := t - f.pass false - f.exNs (d.inp p).playout
  if d.reg Obj.RF_TIMING flow = 0 then (if x < 0 then none else some (x / f.exP).toNat)
  else ((d.store (d.storeOwner flow)).stamps.filter (fun s => decide (f.ex s ≤ x))).head?

/-- The PLAYOUT in force of a video or ancillary flow: that of its home, or its own where the home has no video (R210). -/
def Dev.playoutOf (d : Dev) (flow : Nat) : Nat :=
  let home := d.reg Obj.RF_HOME flow
  match d.videoFlow home with
  | some _ => (d.inp home).playout
  | none => (d.store (d.storeOwner flow)).playout

/-- The start F of the presented frame `id` of flow `flow`: `id` is a number on the grid, or a stamp (R213, R214); exact units. -/
def Dev.presentStart (d : Dev) (flow : Nat) (f : Fmt) (id : Nat) : Int :=
  if d.reg Obj.RF_TIMING flow = 0 then id * f.exP + f.exNs (d.playoutOf flow)
  else f.ex (f.tick (f.ex id + f.exNs (d.playoutOf flow)))

/-! ### Ancillary data of a packet home (R203, R218) -/

/-- Key of an ancillary position: its frame, its line, its number on the line. -/
def ancKey (frame line k : Nat) : Nat := frame * 2 ^ 32 + (32768 + line) * 2 ^ 16 + k

/-- What the store holds of an ANC packet: its C bit and horizontal offset, then its words. -/
def ancEntry (c offset : Nat) (ws : List Nat) : List Nat := (4096 * c + offset) :: ws

/-- The stream in which an ANC packet of format `c` stands: 0 the only one, or C; 1 Y. -/
def ancStream (c : Nat) (e : List Nat) : Nat := if streamsOf c = 1 then 0 else 1 - e.headD 0 / 4096 % 2

/-- Words of one stream in the active part of a line. -/
def Fmt.streamWords (f : Fmt) (c : Nat) : Nat := 2 * f.width / streamsOf c

/-- An ANC packet stands in the horizontal ancillary space: ST 2110-40 says so (0xFFE), or its offset lies behind the active part. -/
def inHanc (c : Nat) (f : Fmt) (e : List Nat) : Bool :=
  let o := e.headD 0 % 4096
  o == 0xFFE || (decide (f.streamWords c ≤ o) && decide (o < 0xFFC))

/-- ANC packets laid into `room` words of a stream: each at its offset where that is free, else behind the one before; one that does not
fit is left out. A none is a blanking word. -/
def layAnc (room : Nat) (es : List (List Nat)) : List (Option Nat) :=
  es.foldl (fun out e =>
    let o := e.headD 0 % 4096
    let out' := out ++ List.replicate (if o < room then o - out.length else 0) none ++ (e.drop 1).map some
    if out'.length ≤ room then out' else out) []

/-- The ancillary packets that the flow of home `p` places on line `l` of frame `n` of flow `video`: present ones, in order. -/
def Dev.ancLine (d : Dev) (p video : Nat) (f : Fmt) (n l : Nat) : List (List Nat) :=
  match (d.trueOf Obj.RF_ENABLE).find? (fun a => d.reg Obj.RF_ESSENCE a == 2 && d.reg Obj.RF_HOME a == p) with
  | none => []
  | some a =>
    let st := d.store (d.storeOwner a)
    (st.fill.filter (fun kv => kv.1 / 2 ^ 16 % 2 ^ 16 == 32768 + l && smGet st.decided kv.1 0 == 2 &&
      decide (2 * (d.presentStart a f (kv.1 / 2 ^ 32) - d.presentStart video f n).natAbs ≤ f.exP.natAbs))).map (·.2)

/-- Word `i` in the blanking of a packet input's frame: the raster's words, with the ancillary packets of its line (R203). -/
def Dev.packetBlank (d : Dev) (p flow : Nat) (k : Look) (n i : Nat) : Nat :=
  let g := k.g
  let l := g.lineOf i
  let q := g.posOf i
  let first := g.lineWords - 2 * g.width
  let streams := streamsOf k.gc
  let es := d.ancLine p flow k.f n l
  let here (hanc : Bool) : List (List Nat) :=
    es.filter (fun e => inHanc k.gc g e == hanc && ancStream k.gc e == (if streams = 1 then 0 else i % 2))
  if first ≤ q then (((layAnc (g.streamWords k.gc) (here false)).getD ((q - first) / streams) none)).getD (k.black i)
  else if hancStart k.gc ≤ q ∧ q < g.savAt k.gc then
    let own := if l ∈ payloadIdLines k.gc ∧ (streams = 1 ∨ isLuma i) then (payloadIdWords k.c k.ganged k.link).length else 0
    let at_ := (q - hancStart k.gc) / streams
    if at_ < own then k.black i
    else ((layAnc ((g.savAt k.gc - hancStart k.gc) / streams - own) (here true)).getD (at_ - own) none).getD (k.black i)
  else k.black i

/-! ### The presented raster of a packet home (R203, R219) -/

/-- Position `key` lies in frame `n`, and in field `fld` of an interlaced one. -/
def inField (f : Fmt) (n fld key : Nat) : Bool := key / 2 ^ 32 == n && (!f.interlaced || key / 2 ^ 16 % 2 == fld)

/-- Field `fld` of frame `n` of a video flow is presented as holes. DESIGN CHOICE (log 43): every position of it can be known absent only at
its end, so it is presented as holes while none is present or filled; before the first is decided it goes on as the frame before. -/
def Dev.fieldHoles (d : Dev) (p flow : Nat) (f : Fmt) (n fld : Nat) : Bool :=
  let st := d.store (d.storeOwner flow)
  if st.legs.any (fun kv => inField f n fld kv.1 && smGet st.decided kv.1 0 != 1) then false
  else st.decided.any (fun kv => inField f n fld kv.1) || !(d.inp p).decAny

/-- Word `i` of a packet input at instant `t` (R203, R219): holes, placed data, black, or a word of the blanking. -/
def Dev.packetWord (d : Dev) (p : Nat) (k : Look) (i : Nat) (t : Int) : Option (Option Nat) :=
  match d.videoFlow p with
  | none => some none
  | some flow =>
    match d.packetFrame p flow k.f t with
    | none => some none
    | some n =>
      let st := d.store (d.storeOwner flow)
      if d.fieldHoles p flow k.f n (fieldOfLine k.c (k.g.lineOf i)) then some none
      else
        match k.g.pixelOf i with
        | none => some (some (d.packetBlank p flow k n i))
        | some (r, x) =>
          match st.fill.find? (fun kv => kv.1 / 2 ^ 32 == n && kv.1 / 2 ^ 16 % 2 ^ 16 == r &&
              decide (2 * (kv.1 % 2 ^ 16) ≤ x) && decide (x < 2 * (kv.1 % 2 ^ 16) + kv.2.length) &&
              smGet st.decided kv.1 0 == 2) with
          | some kv => some (some (kv.2.getD (x - 2 * (kv.1 % 2 ^ 16)) (k.black i)))
          | none => some (some (k.black i))

/-- A word of a stored frame: holes are stored as holes (R189). -/
def Frame.word (fr : Frame) (k : Look) (i : Nat) : Option (Option Nat) :=
  match segWord k.g.words fr.segs k.link i with
  | some w => some w
  | none => some none

/-- A frame-synced input's word (R188, R190, R191): the next frame where the consumer's frame starts nearer to its start, else the one
before it; black where none is presented. -/
def Dev.syncWord (d : Dev) (p : Nat) (k : Look) (i : Nat) (t : Int) : Option (Option Nat) :=
  let x := d.inp p
  match if x.nextAt ≠ 0 ∧ 2 * k.f.ex x.nextAt ≤ 2 * k.frameAt i t + k.f.exP then x.next else x.shown with
  | none => some (some (k.black i))
  | some fr => fr.word k i

/-- A delayed input's word: that of the frame that starts FS_DELAY_FRAMES later with the consumer's, nearest (R192, R557). -/
def Dev.delayWord (d : Dev) (p : Nat) (k : Look) (i : Nat) (t : Int) : Option (Option Nat) :=
  let x := d.inp p
  let due (fr : Frame) : Bool := fr.fmt == k.c && decide
    (2 * (fr.start + k.f.pass k.ganged + x.delay * k.f.exP - k.frameAt i t).natAbs ≤ k.f.exP.natAbs)
  if x.holesLeft ≠ 0 then some none
  else match (x.filled.toList ++ x.held).find? due with
    | some fr => fr.word k i
    | none => some none

mutual

/-- Word `i` that source `s` gives a consumer at instant `t`: none missing, `some none` a hole. The fuel bounds chains of LB
sources, which R245 keeps free of loops. -/
def Dev.srcWord (d : Dev) (fuel s : Nat) (k : Look) (i : Nat) (t : Int) : Option (Option Nat) :=
  match fuel with
  | 0 => none
  | fuel + 1 =>
    if s < 1128 && d.isBroken .subscription s then none
    else if s < 1024 then
      if (d.inp s).mode = 1 then d.syncWord s k i t
      else if (d.inp s).mode = 2 then d.delayWord s k i t
      else if d.reg Obj.IN_TRANSPORT s = 1 then d.packetWord s k i t
      else segWord k.g.words (smGet d.mesh (2048 * k.node + s + k.link) []) k.link i
    else if s < 1088 then
      if d.engineUp (s - 1024) then some (some (d.composite fuel (s - 1024) k i t)) else some (some (k.black i))
    else if s < 1120 then
      let n := k.still.getD (d.reg Obj.SP_STILL (s - 1088))
      some (some (match k.pictureOf i with
        | some (r, x) => if n < 1024 then stillWord (d.blob Obj.STILL_DATA n) k.f r x else k.black i
        | none => k.black i))
    else if s < 1128 then
      some (some (match k.pictureOf i with
        | some (r, x) => Config.patternWord (s - 1120) k.c (r * 2 ^ 16 + x) % 1024
        | none => k.black i))
    else some (some (k.black i))

/-- Word `i` of the composite of engine `n` (R249): layer 0, then the composited layers in blend order. The composite leaves one
line after the layers' words (R246). -/
def Dev.composite (d : Dev) (fuel n : Nat) (k : Look) (i : Nat) (t : Int) : Nat :=
  match fuel with
  | 0 => k.black i
  | fuel + 1 =>
    let x := d.engine n
    let k := { k with node := n / 4 }
    let t := t - k.f.exTl
    let bg := if d.reg Obj.CE_STATE n = 2 then none else d.srcWord fuel (d.layerAt n 0 i) k i t
    match k.g.pixelOf i with
    | none => match bg with
      | some (some w) => w
      | _ => k.black i
    | some _ =>
      let luma := isLuma i
      let yi := if luma then i else i + 1
      let word (l j : Nat) : Option Nat :=
        match d.srcWord fuel (d.layerSource n l) { k with still := smGet (x.stills.map (fun kv => (kv.1, some kv.2))) l none } j t with
        | some (some w) => some w
        | _ => none
      let acc0 : Int := match bg with
        | some (some w) => codeVal luma w
        | _ => 0
      let acc := (List.range 7).foldl (fun acc m =>
        let l := x.orderAt (x.liveMode == 0) (m + 1)
        let r := x.layer l
        if d.reg Obj.CE_LAYER_STATE (8 * n + l) != 1 then acc
        else
          match word l i with
          | none => acc
          | some w =>
            let a0 := match lyMode r with
              | 1 => some 65535
              | 2 => (word (lyKeyLayer r) yi).map linearKey
              | 3 => (word l yi).map (fun y => lumaKey y (lyClip r) (lyGain r))
              | _ => none
            match a0 with
            | some a0 => blendStep acc (keyFinish a0 (lyInvert r) (lyOpacity r)) (codeVal luma w) (lyShaped r)
            | none => if lyShaped r then acc + codeVal luma w else acc) acc0
      blendCode luma acc

end

/-! ### The input stage (R131, R157 to R161) -/

/-- The phase of a frame that arrived at `a` (Media Time): φ in whole ns, from 4 ns ticks (R161). -/
def Fmt.phaseNs (f : Fmt) (a : Int) : Nat :=
  let r := a % f.exP
  (r / (f.scale * 262144)).toNat * 4

/-- A record of φ (R161): the object, and the record by SEQ; a standby's own measurement of that frame is not needed. -/
def Dev.recordPhase (d : Dev) (p seq ns : Nat) : Dev :=
  (d.setReg Obj.IN_PHASE p ns).modInp p (fun x => { x with
    phases := ((seq, ns) :: x.phases).take 8,
    ownPhase := if x.ownPhase.any (fun o => o.1 == seq) then none else x.ownPhase })

/-- An output is about to use the phase of source `s`: where a standby has no record of the latest frame, it uses its own (R195). -/
def Dev.phaseDue (d : Dev) (s : Nat) : Dev :=
  if 1024 ≤ s ∨ !d.follows then d
  else match (d.inp s).ownPhase with
    | some (q, own) => (d.recordPhase s q own).mirrorMiss Obj.FS_MIRROR_MISS
    | none => d

/-- The first port of the stream that port `p` belongs to (R28). -/
def Dev.inBase (d : Dev) (p : Nat) : Nat := if d.inGangMember p then p / 4 * 4 else p
def Dev.outBase (d : Dev) (p : Nat) : Nat := if d.outGangMember p then p / 4 * 4 else p

/-- A discontinuity (R158). -/
def Dev.discont (d : Dev) (p : Nat) : Dev :=
  let b := d.inBase p
  let sd := d.reg Obj.IN_FORMAT b == 1 || d.reg Obj.IN_FORMAT b == 2
  (d.count Obj.IN_DISCONT b).modInp p (fun x => { x with waitLine := true, waitFrame := x.waitFrame || sd })

/-- A part leaves the input stage: to the frame sync or delay of its stream, or toward the group node (R30). A part with the last words
of one frame and the first of the next is in both buffers (R189). -/
def Dev.emitPart (d : Dev) (p : Nat) (s : Seg) : Dev :=
  let b := d.inBase p
  let s := { s with link := p - b }
  let d := if s.hole then d.count Obj.IN_HOLES b else d
  if (d.inp b).mode = 0 then d.modInp p (fun x => { x with q := x.q ++ [s] })
  else
    let w := match fmtOf (linkCode (d.inp b).fmt (d.flag Obj.IN_GANG b)) with | some g => g.words | none => 0
    let put (fr : Frame) : Frame := { fr with segs := fr.segs ++ [s] }
    d.modInp b (fun x => { x with
      writing := x.writing.map put, filled := if w < s.idx + 204 then x.filled.map put else x.filled })

/-- The oldest Basket of port `p` in a lane receive buffer, taken out: what the spare received before the slots moved back comes first. -/
def Dev.takeRx (d : Dev) (p : Nat) : Option (RxEntry × Dev) :=
  let own := 17 * (p / 64) + p % 64 / 4
  let take (l : Nat) : Option (RxEntry × Dev) :=
    let x := d.lane l
    (x.rx.find? (fun e => e.port == p)).map (fun e => (e, d.setLane l { x with rx := x.rx.erase e }))
  (take (spareOf (p / 64))).orElse (fun _ => take own)

end Sys2Proof.Machine
end

