-- ==== Sys2Proof/Machine/Inputs.lean ====
section
/-! DEFINITION. The input stage, the frame sync's capacity, frame sync and delay, and the group nodes' ingress
("Crosspoint", R157 to R161, R187 to R195; "The fabric", R19, R20). -/

namespace Sys2Proof.Machine

/-! ### Frame sync capacity (R193) -/

/-- The format at which an input is costed: IN_FORMAT, else FS_FORMAT_PLAN, else the last one; 0 none. -/
def Dev.costFormat (d : Dev) (p : Nat) : Nat :=
  let c := d.inFormat p
  if fmtKnown c then c
  else if fmtKnown (d.reg Obj.FS_FORMAT_PLAN p) then d.reg Obj.FS_FORMAT_PLAN p
  else (d.inp p).costFmt

/-- Bandwidth (bit/s times 1001) and bytes that an input takes in a mode with a delay and a format. -/
def fsNeed (mode delay c : Nat) (ganged : Bool) : Nat × Nat :=
  match fmtOf c with
  | some f =>
    if mode = 0 then (0, 0)
    else (f.cost1001, f.bufBytes ganged * (if mode = 1 then 3 else delay + 1))
  | none => (0, 0)

/-- What input `p` takes as its settings stand: FS_MODE and FS_DELAY_FRAMES as written. -/
def Dev.fsTakes (d : Dev) (p : Nat) : Nat × Nat :=
  if d.reg Obj.FS_STATE p = 5 then (0, 0)
  else fsNeed (d.reg Obj.FS_MODE p) (d.reg Obj.FS_DELAY_FRAMES p) (d.inp p).costFmt (d.flag Obj.IN_GANG p)

/-- Totals over every input but `skip`. -/
def Dev.fsTotals (d : Dev) (skip : Nat) : Nat × Nat :=
  (List.range 1024).foldl (fun t p =>
    if p = skip || d.reg Obj.FS_MODE p == 0 then t else let n := d.fsTakes p; (t.1 + n.1, t.2 + n.2)) (0, 0)

/-- The bounds of R193: 6,090 Gbit/s and 32 GiB. -/
def fsFits (t : Nat × Nat) : Bool := decide (t.1 ≤ 6090000000000 * 1001) && decide (t.2 ≤ 34359738368)

/-- A setting of input `p` fits. -/
def Dev.fsFitsWith (d : Dev) (p mode delay c : Nat) (ganged : Bool) : Bool :=
  let t := d.fsTotals p
  let n := fsNeed mode delay c ganged
  mode == 0 || fsFits (t.1 + n.1, t.2 + n.2)

/-! ### Modes in force (R187, R191, R192) -/

/-- The links of a stream at port `p`. -/
def Dev.inLinks (d : Dev) (p : Nat) : Nat := if d.flag Obj.IN_GANG p then 4 else 1

/-- The frame sync holds nothing. -/
def InX.fsClear (x : InX) : InX :=
  { x with writing := none, filled := none, held := [], shown := none, next := none, nextAt := 0, last := none, missed := 0, wait := none,
           holesLeft := 0 }

/-- What subscribers hold of the stream of input `p` is gone: they see a discontinuity (R30, R187). -/
def Dev.cutStream (d : Dev) (p : Nat) : Dev :=
  (List.range (d.inLinks p)).foldl (fun d l =>
    let d := d.modInp (p + l) (fun x => { x with q := [] })
    { d with mesh := d.mesh.filter (fun kv => kv.1 % 2048 != p + l) }) d

/-- FS_MODE takes effect: a sync reads FILLING and presents black; a delay presents holes until it has presented one full
delay. An input over capacity stays OFF (R193). -/
def Dev.fsEnter (d : Dev) (p : Nat) : Dev :=
  let m := d.reg Obj.FS_MODE p
  if m = (d.inp p).mode ∨ d.reg Obj.FS_STATE p = 5 then d
  else
    let d := d.modInp p (fun x => { x.fsClear with mode := m, delay := d.reg Obj.FS_DELAY_FRAMES p })
    (d.cutStream p).setReg Obj.FS_STATE p (if m = 0 then 0 else 1)

/-- A change of FS_DELAY_FRAMES takes effect: an increase presents holes for as many frame periods (R192). -/
def Dev.fsDelayEnter (d : Dev) (p : Nat) : Dev :=
  let x := d.inp p
  let n := d.reg Obj.FS_DELAY_FRAMES p
  if x.mode = 2 && n ≠ x.delay then d.setInp p { x with delay := n, holesLeft := x.holesLeft + (n - x.delay) } else d

/-- The input has frame starts: a signal with a format (R187). -/
def Dev.hasFrames (d : Dev) (p : Nat) : Bool := fmtKnown (d.inFormat p)

/-- A frame start of the input: a frame period of holes has passed, and settings of the frame sync take effect. -/
def Dev.fsAtFrame (d : Dev) (p : Nat) : Dev :=
  ((d.modInp p (fun x => { x with holesLeft := x.holesLeft - 1 })).fsEnter p).fsDelayEnter p

/-- The input's format is costed anew: over a bound, the input is left in OFF, OVER_CAPACITY (R193). -/
def Dev.fsRecost (d : Dev) (p c : Nat) : Dev :=
  if !fmtKnown c then d
  else if d.fsFitsWith p (d.reg Obj.FS_MODE p) (d.reg Obj.FS_DELAY_FRAMES p) c (d.flag Obj.IN_GANG p) then
    let d := if d.reg Obj.FS_STATE p = 5 then d.setReg Obj.FS_STATE p 0 else d
    d.modInp p (fun x => { x with costFmt := c })
  else
    let d := if (d.inp p).mode = 0 then d else (d.modInp p (fun x => { x.fsClear with mode := 0 })).cutStream p
    ((d.setReg Obj.FS_STATE p 5).event 0x1C01 (refOf Obj.FS_STATE p))

/-! ### Frames of a sync or delay (R189 to R192) -/

/-- A frame that has arrived is complete: a sync keeps the two newest, a delay FS_DELAY_FRAMES and one more. -/
def InX.keepFrame (x : InX) (fr : Frame) : InX :=
  { x with held := (fr :: x.held).take (if x.mode = 1 then 2 else x.delay + 1) }

/-- A frame of the input starts at arrival `a`, exact: a new frame buffer. The frame before it waits for its completion. -/
def Dev.fsFrameStart (d : Dev) (p c : Nat) (f : Fmt) (a : Int) : Dev :=
  let d := (d.modInp p (fun x => { x with
    frame := x.frame + 1, frameA := f.toMt a, newFmt := c, newAt := if x.newFmt = c then x.newAt else a })).fsAtFrame p
  let x := d.inp p
  if x.mode = 0 then d
  else
    let x := match x.filled with | some fr => x.keepFrame fr | none => x
    d.setInp p { x with filled := x.writing, writing := some { no := x.frame, start := a, fmt := c } }

/-- A frame is complete: its last word is in frame memory (R189). -/
def Dev.fsComplete (d : Dev) (p : Nat) : Dev :=
  let x := d.inp p
  match x.filled.orElse (fun _ => x.writing) with
  | some fr =>
    let x := x.keepFrame fr
    let d := d.setInp p (if x.filled.isSome then { x with filled := none } else { x with writing := none })
    if x.mode = 2 ∧ d.reg Obj.FS_STATE p = 1 ∧ x.delay ≤ x.held.length then d.setReg Obj.FS_STATE p 2 else d
  | none => d

/-- The presented frame n that starts next under FS_OFFSET: its start and number (R188). -/
def Dev.fsNextStart (d : Dev) (p : Nat) (f : Fmt) : Nat × Nat :=
  let off := d.reg Obj.FS_OFFSET p
  let n := ((f.ex d.now - f.exNs off) / f.exP + 1).toNat
  (f.tick (n * f.exP + f.exNs off), n)

/-- Frame sync actions (Table 10.4). -/
def fsPresent : Nat := 0
def fsDrop : Nat := 1
def fsRepeat : Nat := 2
def fsBlack : Nat := 3
def fsFreeze : Nat := 4

/-- Carry out a frame sync action for the presented frame that starts at `start` (R190, R191). -/
def Dev.fsAct (d : Dev) (p start action : Nat) (fr : Option Frame) : Dev :=
  let x := d.inp p
  let x := { x with shown := if x.nextAt ≠ 0 then x.next else x.shown, nextAt := start, stepped := false, wait := none }
  if action = fsPresent ∨ action = fsDrop then (d.setInp p { x with next := fr, last := fr, missed := 0 }).setReg Obj.FS_STATE p 2
  else
    let x := { x with missed := x.missed + 1 }
    if action = fsBlack then (d.setInp p { x with next := none }).setReg Obj.FS_STATE p 4
    else (d.setInp p { x with next := x.last }).setReg Obj.FS_STATE p (if x.last.isNone then 1 else 3)

/-- The decision of R190 and R191, as the holder takes it, for the presented frame `no` that starts at `start`. The first decision after
a step of Media Time presents the newest complete frame, or repeats, and counts neither. -/
def Dev.fsDecide (d : Dev) (p no start : Nat) : FsWait :=
  let x := d.inp p
  let newest := x.held.head?
  let fresh := match newest, x.last with
    | some f, some k => if k.no < f.no then some f else none
    | f, _ => f
  if x.stepped then ⟨no, start, if newest.isSome then fsPresent else fsRepeat, newest, 0, 0, false⟩
  else
    match fresh with
    | some f =>
      let dropped := match x.last with | some k => f.no - k.no - 1 | none => 0
      ⟨no, start, if dropped = 0 then fsPresent else fsDrop, some f, dropped, 0, false⟩
    | none =>
      if x.last = none then ⟨no, start, fsRepeat, none, 0, 0, false⟩
      else
        let n := x.missed + 1
        let hold := max 1 (d.reg Obj.FS_LOSS_HOLD p)
        if n < hold then ⟨no, start, fsRepeat, none, 0, 1, false⟩
        else if d.reg Obj.FS_LOSS_ACTION p = 0 then ⟨no, start, fsBlack, none, 0, 0, decide (n = hold)⟩
        else ⟨no, start, fsFreeze, none, 0, 1, decide (n = hold)⟩

/-- A decision of one's own takes effect: counters, FS_LOSS, the action. -/
def Dev.fsTake (d : Dev) (p : Nat) (w : FsWait) : Dev :=
  let d := if w.drops = 0 then d else d.count Obj.FS_DROPS p w.drops
  let d := if w.reps = 0 then d else d.count Obj.FS_REPEATS p w.reps
  let d := if w.loss then d.event 0x1C01 (refOf Obj.FS_STATE p) else d
  d.fsAct p w.start w.action w.frame

/-- The holder's decision on the presented frame that starts at `start`: frame `no` of the input, action (R194). -/
def Dev.fsFollow (d : Dev) (p start no action : Nat) : Dev :=
  let x := d.inp p
  let last := match x.last with | some g => g.no | none => no
  let d := if action = fsDrop ∧ !x.stepped then d.count Obj.FS_DROPS p (no - last - 1) else d
  let d := if (action = fsRepeat ∨ action = fsFreeze) ∧ !x.stepped ∧ x.last.isSome then d.count Obj.FS_REPEATS p else d
  let d := if (action = fsBlack ∨ action = fsFreeze) ∧ x.missed + 1 = max 1 (d.reg Obj.FS_LOSS_HOLD p) then
      d.event 0x1C01 (refOf Obj.FS_STATE p) else d
  d.fsAct p start action ((x.held ++ x.filled.toList).find? (fun g => g.no == no))

/-- The record of an FS decision (Table 10.4). -/
def fsRecord (p outFrame inFrame action : Nat) : Bytes :=
  beBytes 2 p ++ beBytes 4 outFrame ++ beBytes 4 inFrame ++ beBytes 1 action

/-- A standby takes a decision itself once its frame starts by `t` (Media Time) without a record: a mirror miss (R195). -/
def Dev.fsSettle (d : Dev) (p t : Nat) : Dev :=
  match (d.inp p).wait with
  | some w => if w.start ≤ t then (d.fsTake p w).mirrorMiss Obj.FS_MIRROR_MISS else d
  | none => d

/-- FS_DECISION: 250 µs before a presented frame (R190, R194, R195). A standby waits for the record until the frame starts. -/
def Dev.fsDecision (d : Dev) (p : Nat) : Dev :=
  let d := d.fsSettle p d.now
  let x := d.inp p
  match fmtOf x.costFmt with
  | none => d
  | some f =>
    if x.mode ≠ 1 then d
    else
      let (start, n) := d.fsNextStart p f
      let w := d.fsDecide p n start
      if !d.follows then
        let no := match w.frame.orElse (fun _ => x.last) with | some g => g.no | none => 0
        (d.fsTake p w).mirror 0x03 (fsRecord p n no w.action)
      else
        match smGet x.mirrored (n % 2 ^ 32 + 1) (0, 0) with
        | (0, 0) => d.modInp p (fun x => { x with wait := some w })
        | (no, act) =>
          (d.modInp p (fun x => { x with mirrored := smSet x.mirrored (n % 2 ^ 32 + 1) (0, 0) (0, 0) })).fsFollow p start (no - 1) (act - 1)

/-- FS_DECISION record at a standby (R194): kept until its decision is due, or taken at once where the decision waits for it. -/
def Dev.fsRecordIn (d : Dev) (p outFrame inFrame action : Nat) : Dev :=
  match (d.inp p).wait with
  | some w => if w.no % 2 ^ 32 = outFrame ∧ d.now < w.start then d.fsFollow p w.start inFrame action else d
  | none =>
    if d.follows || d.twinState == twJoining then
      d.modInp p (fun x => { x with mirrored := smSet x.mirrored (outFrame + 1) (inFrame + 1, action + 1) (0, 0) })
    else d

/-! ### Line starts (R129 to R131, R157 to R161) -/

/-- The first format of an interface whose lines have `n` words. -/
def lineFormat (n : Nat) : Option (Nat × Fmt) :=
  (List.range 24).findSome? (fun c => (fmtOf c).bind (fun f => if f.lineWords = n then some (c, f) else none))

/-- The number that follows line `l` of an interface with `n` lines. -/
def nextLine (n l : Nat) : Nat := if l = 0 then 0 else l % n + 1

/-- F and V of a line, and its number, as the field structure shows them: line 1 closes a frame that has F = 1, or has not. -/
def TrsX.lineSeen (x : TrsX) (line fv : Nat) : TrsX :=
  let seen := x.fSeen || decide (2 ≤ fv)
  let il := if 2 ≤ fv then some true else if line = 1 ∧ x.top ∧ !seen then some false else x.interlaced
  let again := decide (line = 1 ∧ x.line ≠ 1)
  { x with line, fv, top := x.top || decide (line = 1), fSeen := if again then decide (2 ≤ fv) else seen, interlaced := il }

/-- `n` words pass in which no line start is found: where one was due, its number is taken to follow. -/
def TrsX.pass (x : TrsX) (lines n : Nat) (tail : List Nat) : TrsX :=
  match x.since with
  | none => { x with tail }
  | some s =>
    if x.lineLen ≠ 0 ∧ x.lineLen ≤ s + n then
      { x with tail, since := some (s + n - x.lineLen), line := nextLine lines x.line, hanc := none }
    else if 65536 < s + n then { x with tail, since := none, line := 0, hanc := none }
    else { x with tail, since := some (s + n) }

/-- Words that did not come: `n` of them. -/
def TrsX.skip (x : TrsX) (lines n : Nat) : TrsX := { (x.pass lines n []) with hanc := none }

/-- After a discontinuity nothing is known of the place in the line (R158). -/
def TrsX.lost (x : TrsX) : TrsX := { x with tail := [], since := none, line := 0, fv := 4, hanc := none }

/-- The words of a Basket: what they tell of the line structure, and the line start found: its number, and the place of its first word,
negative where it lay in the Basket before (R131). `lines` is the number of lines of the format identified. -/
def TrsX.scan (x : TrsX) (lines : Nat) (ws : List Nat) : TrsX × Option (Nat × Int) :=
  let old := x.tail.length
  let all := x.tail ++ ws
  let tail := all.drop (all.length - 11)
  let n := ws.length
  match findEav old 0 all with
  | some (i, fv, ln) =>
    let at_ : Int := (i : Int) - old
    let confirms := decide (at_ < 0) && x.since == some (-at_).toNat
    let len := match x.since with | some s => (s + at_).toNat | none => 0
    let lineLen := if confirms || len == 0 then x.lineLen else len
    let line := match ln with
      | some l => l
      | none => match lineFormat lineLen with
        | some (c, g) => (if x.fv = 4 then none else sdLine c x.fv fv).getD (if confirms then x.line else nextLine g.lines x.line)
        | none => 0
    ({ (x.lineSeen line fv) with tail, since := some (n - at_).toNat, lineLen }, if line = 0 then none else some (line, at_))
  | none =>
    let k := match lineFormat x.lineLen with | some (c, _) => streamsOf c | none => 2
    match x.since with
    | some s =>
      let o := x.lineLen - s
      if s ≤ x.lineLen ∧ o < n ∧ n < o + 12 ∧ lines ≠ 0 ∧ x.line ≠ 0 ∧ eavBegins k (ws.drop o) then
        ({ x with tail, since := some (n - o), line := nextLine lines x.line }, some (nextLine lines x.line, (o : Int)))
      else (x.pass lines n tail, none)
    | none => (x.pass lines n tail, none)

/-- The words of a Basket in the HANC of their line, kept until the line's SAV: the state, and the whole HANC where it ends here.
`before` is the place in the line of the Basket's first word, `start` the line start found. -/
def TrsX.hancWords (x : TrsX) (before : Option Nat) (start : Option Int) (ws : List Nat) : TrsX × Option (Nat × List Nat) :=
  match lineFormat x.lineLen with
  | none => ({ x with hanc := none }, none)
  | some (c, g) =>
    let place (j : Nat) : Option Nat := match start with
      | some o => if o ≤ (j : Int) then some ((j : Int) - o).toNat else before.map (· + j)
      | none => before.map (· + j)
    (List.range ws.length).foldl (fun r j =>
      let (x, out) := r
      match place j with
      | none => (x, out)
      | some q =>
        if q = hancStart c then ({ x with hanc := some [ws.getD j 0] }, out)
        else if hancStart c < q ∧ q < g.savAt c then ({ x with hanc := x.hanc.map (· ++ [ws.getD j 0]) }, out)
        else if q = g.savAt c then ({ x with hanc := none }, x.hanc.map (fun h => (c, h)))
        else (x, out)) (x, none)

/-- The payload identifier, where one was found, is of the picture rate and scan of format `f`. -/
def TrsX.idFits (x : TrsX) (f : Fmt) : Bool :=
  match x.id with
  | some (_ :: b :: _) => b % 16 == pictureRate f.period && (bitOf b 7 != f.interlaced)
  | _ => true

/-- The format that the words of input `p` match, with RATE of SLOT_STATUS; 255 none of Table 5.1 (R157). -/
def Dev.identify (d : Dev) (p : Nat) : Nat :=
  let x := (d.inp p).trs
  let ganged := d.flag Obj.IN_GANG p
  let fits (c : Nat) : Bool := match fmtOf c, fmtOf (linkCode c ganged) with
    | some f, some g => (!ganged || f.quad) && g.lineWords == x.lineLen && rateCode (linkCode c ganged) == fld (d.slotBits p) 23 16 &&
        (c ≤ 2 || x.interlaced == some f.interlaced) && x.idFits f
    | _, _ => false
  ((List.range 24).find? fits).getD 255

/-- The identified format changed: holes until the first frame start of the new one, on every link (R157). -/
def Dev.formatSeen (d : Dev) (p c : Nat) : Dev :=
  if d.reg Obj.IN_FORMAT p = c then d
  else
    let d := (List.range (d.inLinks p)).foldl (fun d l => d.modInp (p + l) (fun x => { x with waitFrame := true })) d
    let d := (d.setReg Obj.IN_FORMAT p c).modInp p (fun x => { x with newFmt := 0 })
    d.fsRecost p c

/-! ### The gang (R132, R159) -/

/-- Four links, 4 µs. -/
def gangMax : Nat := usMt 4

/-- Line `ln` of the stream at `p` starts on link `link` at `a` (Media Time): a line that has started on all links within 4 µs ends the
holes; one that has not begins them, and counts once. -/
def Dev.gangLine (d : Dev) (p ln link a : Nat) : Dev :=
  let x := d.inp p
  let g := match smGet x.gangLines ln none with
    | some g => { g with first := min g.first a, last := max g.last a, links := setBit g.links link true }
    | none => ⟨a, a, 2 ^ link, false⟩
  let all := decide (g.links = 15)
  let lines := smSet x.gangLines ln (if all then none else some g) none
  let late (kv : Nat × Option GangLine) : Bool := kv.2.any (fun e => !e.counted && decide (e.first + gangMax < a))
  let bad := (lines.filter late).length + (if all ∧ !g.counted ∧ g.first + gangMax < g.last then 1 else 0)
  let lines := lines.map (fun kv => if late kv then (kv.1, kv.2.map (fun e => { e with counted := true })) else kv)
  let lines := lines.filter (fun kv => kv.2.any (fun e => decide (a < e.first + msMt 1)))
  let spread := if bad ≠ 0 then true else if all then decide (g.first + gangMax < g.last) else x.gangSpread
  let d := d.setInp p { x with gangLines := lines, gangSpread := spread }
  if bad = 0 then d else d.count Obj.IN_GANG_SKEW p bad

/-! ### De-embedding (R237, R238) -/

/-- At a frame of input `p`: its anchor, a re-anchor where samples depart from the arrival record by more than 1 ms, the channels that
the last frame brought. -/
def Dev.deembedFrame (d : Dev) (p : Nat) (f : Fmt) (a : Int) : Dev :=
  let x := d.inp p
  if !d.flag Obj.GW_DEEMBED p then
    (d.setInp p { x with anchor := none, anchorGot := [], anchorDue := false, audioNow := 0, pcm := [] }).setReg Obj.GW_AUDIO_PRESENT p 0
      |>.setReg Obj.GW_AUDIO_ASYNC p 0
  else
    let g0 := (f.toMt a * 48000 + subSec - 1) / subSec
    let d := (d.setReg Obj.GW_AUDIO_PRESENT p x.audioNow).modInp p (fun x => { x with audioNow := 0 })
    match x.anchor with
    | none => d
    | some g =>
      if x.anchorDue then
        ((d.modInp p (fun x => { x with anchor := some g0, anchorGot := x.anchorGot.map (fun kv => (kv.1, 1)), anchorDue := false })).count
          Obj.GW_REANCHOR p).pulse Flt.GW_REANCHOR
      else
        let apart (n : Nat) : Bool := decide ((f.exNs 1000000).natAbs < (f.ex ((g + n) * subSec / 48000) - a).natAbs)
        let newest := x.anchorGot.foldl (fun m kv => max m (g + kv.2)) 0
        d.modInp p (fun x => { x with
          anchorDue := x.anchorGot.any (fun kv => apart (kv.2 - 1)), pcm := x.pcm.filter (fun kv => decide (newest < kv.1 / 32 + 4096)) })

/-- One group's packets of a line: control, then samples. `anchorGot` holds a group's samples plus one. -/
def Dev.deembedGroup (d : Dev) (p c : Nat) (ps : List AncFound) (g : Nat) : Dev :=
  let data := ps.filter (fun a => a.did == audioDid c g)
  let mask := 15 * 16 ^ g
  let async := d.reg Obj.GW_AUDIO_ASYNC p
  let d := match ps.find? (fun a => a.did == controlDid c g) with
    | none => d
    | some a =>
      let now := if controlSync c a then async &&& (0xFFFFFFFF - mask) else async ||| mask
      let d := d.setReg Obj.GW_AUDIO_ASYNC p now
      if now ≠ async ∧ !controlSync c a then d.pulse Flt.GW_ASYNC else d
  if data = [] then d
  else
    let d := (d.modInp p (fun x => { x with audioNow := x.audioNow ||| mask })).setReg Obj.GW_AUDIO_PRESENT p
      (d.reg Obj.GW_AUDIO_PRESENT p ||| mask)
    if d.reg Obj.GW_AUDIO_ASYNC p &&& mask ≠ 0 then d
    else
      (data.flatMap (packetSamples c)).foldl (fun d vs => d.modInp p (fun x =>
        let anchor := x.anchor.getD ((x.frameA * 48000 + subSec - 1) / subSec)
        let most := x.anchorGot.foldl (fun m kv => max m kv.2) 1
        let n := match smGet x.anchorGot g 0 with | 0 => most | m => m
        { x with
          anchor := some anchor, anchorGot := smSet x.anchorGot g (n + 1) 0
          pcm := (List.range 4).foldl (fun m i => smSet m (32 * (anchor + (n - 1)) + 4 * g + i) (vs.getD i 0 + 1) 0) x.pcm })) d

/-- The packets of a line's HANC on the first link of input `p`: the payload identifier, and audio where it is de-embedded. -/
def Dev.hancIn (d : Dev) (p c : Nat) (ws : List Nat) : Dev :=
  let ps := (hancStreams c ws).flatMap (fun st => ancFind st.length st)
  let d := match ps.find? (fun a => a.did == 0x41 && a.sdid == 0x01) with
    | some a => d.modInp p (fun x => { x with trs := { x.trs with
        id := some (a.udw.map (· % 256)), interlaced := some (!bitOf (a.udw.getD 1 0) 7) } })
    | none => d
  if d.flag Obj.GW_DEEMBED p then (List.range (audioGroups c)).foldl (fun d g => d.deembedGroup p c ps g) d else d

/-! ### The input stage (R131, R140, R157 to R161) -/

/-- The words of a Basket of the far end, with the word index of its first word. -/
def partOf (idx : Nat) (ws : List Nat) : Seg := { idx, hole := false, words := ws }

/-- `n` holes from word `idx` of a frame of `w` words (R140). -/
def Dev.emitHoles (d : Dev) (p w : Nat) : Nat → Nat → Dev
  | 0, _ => d
  | n + 1, idx => (d.emitPart p { idx := idx % w, hole := true, words := [] }).emitHoles p w n ((idx + 204) % w)

/-- The record of φ for a frame that arrived (R161, R194): a standby keeps its own until a record comes or is due. -/
def Dev.framePhase (d : Dev) (p seq : Nat) (f : Fmt) (a : Int) : Dev :=
  let ns := f.phaseNs a
  if d.follows then
    if (d.inp p).phases.head?.any (fun r => r.1 == seq) then d else d.modInp p (fun x => { x with ownPhase := some (seq, ns) })
  else
    ((d.recordPhase p seq ns).modInp p (fun x => { x with ownPhase := none })).mirror 0x02
      (beBytes 2 p ++ beBytes 1 seq ++ beBytes 4 (a / f.exP).toNat ++ beBytes 4 (ns / 4))

/-- MARK of a line start (R130). -/
def lineMark (c ln : Nat) : Nat := if ln = 1 then 3 else if ln ∈ switchLines c then 2 else 1

/-- A data Basket's words: line structure, format, marks, gang, then the part that they make, a hole where the input delivers holes. -/
def Dev.inputWords (d : Dev) (p : Nat) (e : RxEntry) : Dev :=
  let b := e.basket
  let base := d.inBase p
  let ganged := d.flag Obj.IN_GANG base
  let ws := unpackWords b.payload
  let hole (d : Dev) (i : Nat) : Dev := d.emitPart p { idx := i, hole := true, words := [] }
  let x := d.inp p
  let lines := match fmtOf (linkCode (d.reg Obj.IN_FORMAT base) ganged) with | some g => g.lines | none => 0
  let (trs, found) := x.trs.scan lines ws
  let (trs, hanc) := trs.hancWords x.trs.since (found.map (·.2)) ws
  let d := d.setInp p { x with trs }
  let d := if p = base ∧ found.isSome then d.formatSeen p (d.identify p) else d
  let d := match hanc with | some (c, h) => if p = base then d.hancIn p c h else d | none => d
  let c := d.reg Obj.IN_FORMAT base
  match lookOf c ganged (p - base) (p / 64) with
  | none => (hole d 0).modInp p (fun x => { x with idx := 0 })
  | some k =>
    let g := k.g
    let here := match found with | some (ln, o) => if 0 ≤ o then some (ln, o.toNat) else none | none => none
    let mark := match here with | some (ln, _) => lineMark k.gc ln | none => 0
    let off := match here with | some (_, o) => o | none => 0
    let d := if b.mark = mark ∧ b.offset = off then d else d.count Obj.IN_MARK_DISAGREE base
    let idx := match found with
      | some (ln, o) => ((((ln - 1) * g.lineWords : Nat) - o) % (g.words : Int)).toNat
      | none => (d.inp p).idx % g.words
    let arrive : Int := k.f.ex e.stampAt - (203 - (off : Int)) * k.tw
    let d := match here with
      | some (ln, _) => if ganged then d.gangLine base ln (p - base) (k.f.toMt arrive) else d
      | none => d
    let waitFrame := (d.inp p).waitFrame && mark != 3
    let waitLine := (d.inp p).waitLine && found.isNone
    let d := d.modInp p (fun x => { x with waitFrame, waitLine, fmt := c, idx := (idx + 204) % g.words })
    let d := if mark = 3 ∧ p = base then ((d.framePhase p b.seq k.f arrive).deembedFrame p k.f arrive).fsFrameStart p c k.f arrive else d
    if waitFrame || waitLine || (d.inp base).gangSpread then hole d idx else d.emitPart p (partOf idx ws)

/-- INPUT_STAGE_BASKET: the input stage accepts the oldest Basket of port `p` (R23, R140, R157 to R161). Links of a ganged stream are
aligned by their line starts, and its first link carries the stream's format, phase and frames (R28, R132). -/
def Dev.inputStage (d : Dev) (p : Nat) : Dev :=
  match d.takeRx p with
  | none => d
  | some (e, d) =>
    let base := d.inBase p
    let d := (d.fsSettle base d.now).modInp p (fun x => { x with signal := true })
    let d := if e.holes = 256 then (d.discont p).modInp p (fun x => { x with trs := x.trs.lost }) else d
    let (w, lines) := match fmtOf (linkCode (d.reg Obj.IN_FORMAT base) (d.flag Obj.IN_GANG base)) with
      | some g => (g.words, g.lines)
      | none => (204, 0)
    let n := if e.holes = 256 then 0 else e.holes
    let gone := if e.basket.valid then n else n + 1
    let d := d.emitHoles p w gone (d.inp p).idx
    let d := if gone = 0 then d else d.modInp p (fun x => { x with
      idx := (x.idx + 204 * gone) % w, trs := (List.range gone).foldl (fun t _ => t.skip lines 204) x.trs })
    if e.basket.valid then d.inputWords p e else d

end Sys2Proof.Machine
end

