-- ==== Sys2Proof/Machine/Status.lean ====
section
/-! DEFINITION. The status codes of a response (Table 12.7), and marking an applied value for the persisted store (R409). -/

namespace Sys2Proof.Machine

def stOk : Nat := 0
def stBusy : Nat := 1
def stInvalid : Nat := 2
def stNoAccess : Nat := 3
def stNoObject : Nat := 4
def stLocked : Nat := 5
def stConflict : Nat := 6
def stNotInService : Nat := 7
def stNoCapacity : Nat := 8
def stUnsupported : Nat := 9
def stMalformed : Nat := 10
def stRefusedChild : Nat := 11
def stRefusedParent : Nat := 12
def stRefusedFixed : Nat := 13
def stTooLarge : Nat := 14
def stSequence : Nat := 15
def stWrongState : Nat := 16
def stPartial : Nat := 17
def stInternal : Nat := 18

/-- Elements of persisted objects, by `objKey`, have new applied values: one set of the store (R409). -/
def Dev.persist (d : Dev) (keys : List Nat) : Dev :=
  if keys = [] then d else { d with life := { d.life with unrecorded := d.life.unrecorded ++ [keys] } }

end Sys2Proof.Machine
end

