-- ==== Sys2Proof/Machine/Takes.lean ====
section
/-! DEFINITION. Takes and Hampers up to the moment they execute: checks, effective time, arming, withdrawal, and what an
executed take or entry records (R168 to R186, R245, R259). KIND 0 is an output take, KIND 1 a layer take. -/

namespace Sys2Proof.Machine

/-- E of a timed write from APPLY and the acceptance time, and whether it is late (R169). -/
def effective (apply accepted : Nat) : Nat × Bool :=
  let least := accepted + usMt 2000
  (max apply least, decide (apply ≠ 0 ∧ apply < least))

/-- The instance that a take's events name. -/
def takeRef (kind target : Nat) : Ref :=
  if kind = 0 then refOf Obj.XP_SOURCE target else refOf Obj.CE_LAYER_SOURCE target

/-- The pending take of a target (R173). -/
def Dev.pendTake (d : Dev) (kind target : Nat) : Option TakeX :=
  if kind = 0 then (d.out target).pend else smGet (d.engine (target / 8)).takes (target % 8) none

/-- Set or clear the pending take of a target, with XP_PENDING and XP_PENDING_E. -/
def Dev.setPend (d : Dev) (kind target : Nat) (t : Option TakeX) : Dev :=
  if kind = 0 then
    let d := d.modOut target (fun x => { x with pend := t, swDone := none })
    (d.setReg Obj.XP_PENDING target (match t with | some t => t.src | none => 0xFFFF)).setReg Obj.XP_PENDING_E target
      (match t with | some t => mtEncode t.e | none => 0)
  else
    let x := d.engine (target / 8)
    d.setEngine (target / 8) { x with takes := smSet x.takes (target % 8) t none }

/-- The source that a target carries. -/
def Dev.currentSource (d : Dev) (kind target : Nat) : Nat :=
  if kind = 0 then d.reg Obj.XP_SOURCE target else d.reg Obj.CE_LAYER_SOURCE target

/-! ### Loops (R183, R245) -/

/-- Engines whose LB feeds engine `n` under the layer assignments: armed ones too, but for those of the targets `gone`, which what is
checked replaces (R173), and those of `extra` (engine, source). -/
def Dev.feeders (d : Dev) (gone : List Nat) (extra : List (Nat × Nat)) (n : Nat) : List Nat :=
  let now := (List.range 8).map (d.layerSource n)
  let armed := ((d.engine n).takes.filter (fun kv => !gone.contains (8 * n + kv.1))).filterMap (fun kv => kv.2.map (·.src))
  ((now ++ armed ++ (extra.filter (fun e => e.1 == n)).map (·.2)).filter (fun s => decide (1024 ≤ s) && decide (s < 1088))).map
    (· - 1024)

/-- Engine `n` is reached from engine `m` in at most `fuel` steps back along LB sources. -/
def Dev.reaches (d : Dev) (gone : List Nat) (extra : List (Nat × Nat)) (n : Nat) : Nat → List Nat → Bool
  | 0, front => front.contains n
  | fuel + 1, front => front.contains n ||
      d.reaches gone extra n fuel
        ((List.range 64).filter (fun m => front.contains m || front.any (fun f => (d.feeders gone extra f).contains m)))

/-- Source `s` on a layer of engine `n` would close a loop. -/
def Dev.loops (d : Dev) (gone : List Nat) (extra : List (Nat × Nat)) (n s : Nat) : Bool :=
  decide (1024 ≤ s) && decide (s < 1088) && d.reaches gone extra n 64 [s - 1024]

/-! ### Still bandwidth (R259) -/

/-- The source a target will carry once its pending take has executed, or what `new` gives it. -/
def Dev.comingSource (d : Dev) (new : List (Nat × Nat × Nat)) (kind target : Nat) : Nat :=
  match new.find? (fun e => e.1 == kind && e.2.1 == target) with
  | some e => e.2.2
  | none => match d.pendTake kind target with
    | some t => t.src
    | none => d.currentSource kind target

/-- The read cost of a source, in bit/s times 1001, under the stills that players play. -/
def Dev.playerCost (d : Dev) (still : Nat → Nat) (s : Nat) : Nat :=
  if 1088 ≤ s ∧ s < 1120 ∧ still (s - 1088) < 1024 then
    match fmtOf (d.reg Obj.STILL_FORMAT (still (s - 1088))) with
    | some f => f.stillCost1001
    | none => 0
  else 0

/-- The still players' total: every subscriber's reads. -/
def Dev.stillLoad (d : Dev) (new : List (Nat × Nat × Nat)) (still : Nat → Nat) : Nat :=
  let outs := (List.range 1024).foldl (fun t p =>
    if d.reg Obj.XP_SOURCE p = srcBlack && (d.out p).pend.isNone && new.isEmpty then t
    else t + d.playerCost still (d.comingSource new 0 p)) 0
  let layers := (List.range 64).foldl (fun t n =>
    if (d.engine n).out < 1024 then
      (List.range 7).foldl (fun t l => t + d.playerCost still (d.comingSource new 1 (8 * n + l + 1))) t
    else t) 0
  let taps := (List.range 16).foldl (fun t g =>
    if d.tapOn g then t + d.playerCost still (d.reg Obj.CANOPY_SOURCE g) else t) 0
  outs + layers + taps

/-- 1,200 Gbit/s. -/
def stillShare : Nat := 1200000000000 * 1001

/-- Takes keep the still players inside their share. -/
def Dev.stillsFit (d : Dev) (new : List (Nat × Nat × Nat)) : Bool :=
  !(new.any (fun e => decide (1088 ≤ e.2.2) && decide (e.2.2 < 1120))) ||
  decide (d.stillLoad new (fun n => d.reg Obj.SP_STILL n) ≤ stillShare)

/-! ### Checks (R174, Table 5.3, R182, R245) -/

/-- The INVALID_FIELD causes of Table 5.3 and R245. -/
def Dev.takeFieldsOk (d : Dev) (kind target src : Nat) : Bool :=
  decide (kind ≤ 1) && srcValid src && (kind == 1 || decide (target < 1024)) &&
  (kind == 0 || (decide (target ≤ 511) && target % 8 != 0)) && !(decide (src < 1024) && d.inGangMember src) &&
  (if kind = 0 then
    let outG := d.flag Obj.OUT_GANG target
    !d.outGangMember target && (if src = srcBlack then true else d.srcGanged src == outG)
  else !d.srcGanged src)

/-- Status of a take as Table 5.3 and R245 give it. -/
def Dev.takeStatus (d : Dev) (kind target src : Nat) : Nat :=
  let held := match d.pendTake kind target with | some t => t.hamper.isSome | none => false
  if !d.takeFieldsOk kind target src then stInvalid
  else if kind = 0 && d.flag Obj.XP_PROTECT target then stLocked
  else if held then stConflict
  else if kind = 1 && d.loops [target] [] (target / 8) src then stConflict
  else if kind = 0 && d.laneState (d.carrier target) == lnFail then stNotInService
  else if kind = 1 && (!decide ((d.engine (target / 8)).out < 1024) || d.reg Obj.CE_STATE (target / 8) == 4) then stNotInService
  else if !d.stillsFit [(kind, target, src)] then stNoCapacity
  else stOk

/-! ### Arming (R169, R173, R183) -/

/-- Arm an accepted take. A take to the current source with none pending completes at acceptance. -/
def Dev.armTake (d : Dev) (kind target : Nat) (t : TakeX) : Dev :=
  match d.pendTake kind target with
  | some old =>
    (d.event 0x1103 (takeRef kind target) (beBytes 2 old.src ++ beBytes 12 (mtEncode old.e))).setPend kind target (some t)
  | none => if t.hamper.isNone && t.src == d.currentSource kind target then d else d.setPend kind target (some t)

/-- Fields of a take record (Table 5.2). -/
def tkKind (r : Nat) : Nat := fld r 127 124
def tkTarget (r : Nat) : Nat := fld r 123 112
def tkResv (r : Nat) : Nat := fld r 111 108
def tkSource (r : Nat) : Nat := fld r 107 96
def tkApply (r : Nat) : Nat := fld r 95 0

/-- One take record accepted or refused (R168 to R174, R429): its status, its E, and the state. -/
def Dev.takeRecord (d : Dev) (accepted r : Nat) : Nat × Nat × Dev :=
  let st := if tkResv r ≠ 0 ∨ !mtValid (tkApply r) then stInvalid else d.takeStatus (tkKind r) (tkTarget r) (tkSource r)
  if st = stOk then
    let (e, late) := effective (mtDecode (tkApply r)) accepted
    (stOk, e, d.armTake (tkKind r) (tkTarget r) { src := tkSource r, e, late, hamper := none })
  else (st, 0, d.count Obj.TAKES_REFUSED)

/-- TAKE_CANCEL of a destination at its E (R179): a Hamper's entry stays. -/
def Dev.cancelTake (d : Dev) (p : Nat) : Dev :=
  match (d.out p).pend with
  | some t => if t.hamper.isSome then d else d.setPend 0 p none
  | none => d

/-! ### Hampers (R181 to R186) -/

def hsEmpty : Nat := 0
def hsStored : Nat := 1
def hsArmed : Nat := 2
def hsInProgress : Nat := 3

/-- The entries of a Hamper, as 32-bit words (Table 5.4). -/
def hamperWords (b : Bytes) : List Nat := (chunksOf 4 1473 b).map beNat
def heKind (w : Nat) : Nat := fld w 31 28
def heTarget (w : Nat) : Nat := fld w 27 16
def heSource (w : Nat) : Nat := fld w 11 0
/-- KIND and TARGET. -/
def heKey (w : Nat) : Nat := w / 65536

def Dev.hamper (d : Dev) (h : Nat) : Option HamperX := smGet d.hampers h none
def Dev.hamperEntries (d : Dev) (h : Nat) : List Nat := hamperWords (d.blob Obj.HAMPER_ENTRIES h)

/-- No word of the list has the key of an earlier one. -/
def distinctKeys : List Nat → Bool
  | [] => true
  | w :: r => !(r.any (fun v => heKey v == heKey w)) && distinctKeys r

/-- A value of HAMPER_ENTRIES is allowed (R181, R182). -/
def Dev.hamperOk (d : Dev) (b : Bytes) : Bool :=
  let ws := hamperWords b
  b.length % 4 == 0 && decide (b.length ≤ 4 * 1472) && ws.all (fun w => fld w 15 12 == 0) && distinctKeys ws &&
  ws.all (fun w => d.takeFieldsOk (heKind w) (heTarget w) (heSource w))

/-- A Hamper at rest: EMPTY or STORED. -/
def Dev.hamperRest (d : Dev) (h : Nat) : Dev :=
  let d := { d with hampers := smSet d.hampers h none none }
  (d.setReg Obj.HAMPER_STATE h (if d.blob Obj.HAMPER_ENTRIES h = [] then hsEmpty else hsStored)).setReg
    Obj.HAMPERS_IN_PROGRESS 0 d.hampers.length

/-- HAMPER_ENTRIES applied. DESIGN CHOICE (log 122): a write accepted while the Hamper was at rest replaces the entries at its E although a
fire has armed them meanwhile; what is armed stays. R182 does not say; R186 settles the case for HAMPER_CLEAR alone. -/
def Dev.hamperSet (d : Dev) (h : Nat) (b : Bytes) : Dev :=
  let d := (d.setBlob Obj.HAMPER_ENTRIES h b).setReg Obj.HAMPER_COUNT h (b.length / 4)
  match d.hamper h with
  | some _ => d
  | none => d.hamperRest h

/-- The sources that the layer entries of a Hamper give, by engine. -/
def layerEntries (ws : List Nat) : List (Nat × Nat) :=
  (ws.filter (fun w => heKind w == 1)).map (fun w => (heTarget w / 8, heSource w))

/-- Status of HAMPER_FIRE (R183). A cycle of layer assignments passes each engine once, so it uses at most one source of each
engine: a loop in some state that a subset of the entries leaves is a loop under the old and new sources together. -/
def Dev.fireStatus (d : Dev) (h : Nat) : Nat :=
  let ws := d.hamperEntries h
  if ws = [] then stWrongState
  else
    match ws.find? (fun w => d.takeStatus (heKind w) (heTarget w) (heSource w) != stOk) with
    | some w => d.takeStatus (heKind w) (heTarget w) (heSource w)
    | none =>
      let extra := layerEntries ws
      let gone := (ws.filter (fun w => heKind w == 1)).map heTarget
      if extra.any (fun e => d.loops gone extra e.1 e.2) then stConflict
      else if !d.stillsFit (ws.map (fun w => (heKind w, heTarget w, heSource w))) then stNoCapacity
      else stOk

/-- HAMPER_FIRE accepted: every entry takes the same E (R183, R184). -/
def Dev.fireHamper (d : Dev) (h e : Nat) (late : Bool) : Dev :=
  let ws := d.hamperEntries h
  let d := ws.foldl (fun d w => d.armTake (heKind w) (heTarget w) { src := heSource w, e, late, hamper := some h }) d
  let d := { d with hampers := smSet d.hampers h (some { e, late, left := ws.map heKey }) none }
  let d := (d.setReg Obj.HAMPER_STATE h hsArmed).setReg Obj.HAMPERS_IN_PROGRESS 0 d.hampers.length
  if late then d.event 0x1104 (refOf Obj.HAMPER_STATE h) else d

/-- HAMPER_ARMED: every entry is armed (R185). -/
def Dev.hamperArmed (d : Dev) (h : Nat) : Dev :=
  if (d.hamper h).isSome && d.reg Obj.HAMPER_STATE h == hsArmed then d.setReg Obj.HAMPER_STATE h hsInProgress else d

/-- HAMPER_ABORT at its E (R186). -/
def Dev.abortHamper (d : Dev) (h : Nat) : Dev :=
  match d.hamper h with
  | none => d
  | some x =>
    let d := x.left.foldl (fun d k => d.setPend (k / 4096) (k % 4096) none) d
    (d.hamperRest h).event 0x1106 (refOf Obj.HAMPER_STATE h) (x.left.flatMap (beBytes 2))

/-- HAMPER_CLEAR at its E (R186). -/
def Dev.clearHamper (d : Dev) (h : Nat) : Dev :=
  match d.hamper h with
  | some _ => d
  | none => (d.hamperSet h []).persist [objKey Obj.HAMPER_ENTRIES h]

/-- One entry of a Hamper has executed (R185, R186). -/
def Dev.entryDone (d : Dev) (h key : Nat) : Dev :=
  match d.hamper h with
  | none => d
  | some x =>
    let left := x.left.filter (· != key)
    if left = [] then (d.hamperRest h).event 0x1105 (refOf Obj.HAMPER_STATE h)
    else { d with hampers := smSet d.hampers h (some { x with left }) none }

/-- A pending take may execute: its Hamper, where it has one, has every entry armed (R183). -/
def Dev.takeReady (d : Dev) (t : TakeX) : Bool :=
  match t.hamper with
  | some h => d.reg Obj.HAMPER_STATE h == hsInProgress
  | none => true

/-- What an executed take records, at Media Time `at_` (R172, R180, R184). -/
def Dev.takeDone (d : Dev) (kind target : Nat) (t : TakeX) (at_ : Nat) : Dev :=
  let d := d.setPend kind target none
  let d := d.count Obj.TAKES_EXECUTED
  let d := if kind = 0 then d.setReg Obj.TAKE_LAST_TIME target (mtEncode at_) else d
  let d := if t.late then
      let d := d.count Obj.TAKES_LATE
      if t.hamper.isNone then d.event 0x1102 (takeRef kind target) (beBytes 12 (mtEncode t.e) ++ beBytes 12 (mtEncode at_)) else d
    else d
  match t.hamper with
  | some h => d.entryDone h (kind * 4096 + target)
  | none => d

end Sys2Proof.Machine
end

