-- ==== Sys2Proof/Machine/Outputs.lean ====
section
/-! DEFINITION. The output stage: cadences, the switch of a take, format changes of AUTO outputs, frame starts and switch points
(R162 to R180, R243 to R246, R251, R252, R557). -/

namespace Sys2Proof.Machine

/-! ### Phases at an output (R162 to R164, R246, R251, R252) -/

/-- OUT_OFFSET as a phase of format `f`. -/
def Dev.refPhase (d : Dev) (p : Nat) (f : Fmt) : Int := f.exNs (d.reg Obj.OUT_OFFSET p) % f.exP

/-- A source is generated at its consumer's own format and timing: black, generators, players without a still, idle LBs. -/
def Dev.generated (d : Dev) (s : Nat) : Bool :=
  if s < 1024 then false else if s < 1088 then !d.engineUp (s - 1024) else true

/-- Layer 0 of an engine composing in format `c` is usable (R252). -/
def Dev.bgUsable (d : Dev) (s c : Nat) : Bool :=
  (decide (1024 ≤ s) || d.inStatus s == 1) &&
  (match d.srcFormat s with
    | .code e => e == c
    | .own => true
    | .nothing => false)

/-- θ0 of an engine on output `p` of format `c` with layer 0 from source `s` (R251, R252). -/
def Dev.theta0 (d : Dev) (p c : Nat) (f : Fmt) (s : Nat) : Int :=
  if d.bgUsable s c && !d.generated s then d.enginePhase f s (d.reg Obj.OUT_OFFSET p) else d.refPhase p f - f.exTl

/-- What source `s` would make of output `p` in format `c`: nothing without a format; another format; or its phase at the
output, the composite's where an engine is assigned (R163, R246). -/
inductive AtOut where
  | nothing
  | other (c : Nat)
  | phase (ph : Int)
deriving DecidableEq, Repr

/-- The still that a player plays for a subscriber that begins a frame (R258). -/
def Dev.stillOf (d : Dev) (s : Nat) : Option Nat :=
  if 1088 ≤ s ∧ s < 1120 then some (d.reg Obj.SP_STILL (s - 1088)) else none

def Dev.atOut (d : Dev) (p c : Nat) (f : Fmt) (s : Nat) : AtOut :=
  if (d.engineOf p).isSome then .phase (d.theta0 p c f s + f.exTl)
  else match d.srcFormat s with
    | .nothing => .nothing
    | .own => .phase (d.refPhase p f)
    | .code e => if e = c then .phase (d.srcPhase f s (d.reg Obj.OUT_OFFSET p)) else .other e

/-- A phase lies within OUT_TIMING_WINDOW of the reference cadence (R164). -/
def Dev.timedAt (d : Dev) (p : Nat) (f : Fmt) (ph : Int) : Bool :=
  decide ((f.wrapDiff (ph - d.refPhase p f)).natAbs ≤ (f.exNs (d.reg Obj.OUT_TIMING_WINDOW p)).natAbs)

/-- The cadence that follows from a source: its phase, and whether it is the reference's (R165, R170, R175, R178). -/
def Dev.cadence (d : Dev) (p c : Nat) (f : Fmt) (s : Nat) (cur : Int) (curRef : Bool) : Int × Bool :=
  match d.atOut p c f s with
  | .nothing => (cur, curRef)
  | .other _ => (d.refPhase p f, true)
  | .phase q => if d.timedAt p f q then (d.refPhase p f, true) else (q, false)

/-- The source's format that an AUTO output would take on; none where it keeps its own (R175, R261). -/
def Dev.autoFormat (d : Dev) (p s : Nat) : Option Nat :=
  if d.reg Obj.OUT_FORMAT p = 0 && !d.underCanopy p then
    match d.srcFormat s with
    | .code e => if e = (d.out p).fmt then none else some e
    | _ => none
  else none

/-- OUT_STATE of the cadence in use (Table 5.13). -/
def Dev.outState (d : Dev) (p : Nat) : Nat :=
  if !d.outService p then 0
  else
    match fmtOf (d.outFormat p) with
    | none => 4
    | some f => match d.atOut p (d.outFormat p) f (d.reg Obj.XP_SOURCE p) with
      | .other _ => 3
      | _ => if (d.out p).mismatch then 3 else if (d.out p).onRef then 1 else 2

/-! ### Cadence bookkeeping -/

/-- The first tick of the frame of phase `ph` nearest to exact instant `x`. -/
def Fmt.startNear (f : Fmt) (ph x : Int) : Nat := f.tick (f.nearAt ph x)

/-- The exact start of a frame that began at tick `t` on phase `ph`. -/
def Fmt.exactStart (f : Fmt) (ph : Int) (t : Nat) : Int := f.nearAt ph (f.ex t)

/-- One rephase of an output (R166, R175). -/
def Dev.rephased (d : Dev) (p : Nat) : Dev := (d.count Obj.OUT_REPHASE p).event 0x1501 (refOf Obj.OUT_STATE p)

/-- A move of the cadence counts when it exceeds the window (R166). -/
def Dev.bigMove (d : Dev) (p : Nat) (f : Fmt) (move : Int) : Bool :=
  decide ((f.exNs (d.reg Obj.OUT_TIMING_WINDOW p)).natAbs < move.natAbs)

/-- One dirty take of an output (R171). -/
def Dev.dirtyTake (d : Dev) (p : Nat) : Dev :=
  ((d.count Obj.TAKES_DIRTY).count Obj.OUT_DIRTY p).event 0x1101 (takeRef 0 p)

/-! ### The switch (R170, R171, R175, R176) -/

/-- The word period of an output's links. -/
def Dev.outTw (d : Dev) (p : Nat) (f : Fmt) : Int := f.linkTw (d.flag Obj.OUT_GANG p)

/-- First lines in which the F bit changes to 1 (R176). -/
def fieldLine (c : Nat) : Nat := match c with | 1 => 266 | 2 => 313 | _ => 564

/-- The line at which an output switches: `second` names the second field's (R170, R176). -/
def Dev.switchLine (d : Dev) (p c : Nat) (second : Bool) : Option Nat :=
  let field := d.reg Obj.OUT_FIELD_SWITCH p == 1 && (switchLines c).length == 2
  if d.reg Obj.OUT_TRANSPORT p = 1 then (if second then (if field then some (fieldLine c) else none) else some 1)
  else if second then (if field then (switchLines c)[1]? else none) else (switchLines c).head?

/-- Word index of a line's EAV in the geometry of the output's links. -/
def Dev.lineWord (d : Dev) (p c line : Nat) : Nat :=
  match fmtOf (linkCode c (d.flag Obj.OUT_GANG p)) with
  | some g => (line - 1) % g.lines * g.lineWords
  | none => 0

/-- The instant of phase `ph` of format `f` for what instant `x` of format `f0` reaches, exact (R557): the nearest, or the next one where
that lies more than a line before. DESIGN CHOICE (log 121): R166 discards words of the ending line alone, so no move goes back further. -/
def nearAcross (f0 f : Fmt) (ph x : Int) : Int :=
  let p := f.exP * f0.scale
  let r := (x * f.scale - ph * f0.scale) % p
  let r := if p < 2 * r then r - p else r
  let r := if f.exTl * f0.scale < r then r - p else r
  (x * f.scale - r) / f0.scale

/-- What a switch of an output comes to: its format from there on, the word at which the new source starts and its instant, the cadence,
and what it counts (R166, R170, R171, R175). -/
structure SwitchPlan where
  c : Nat
  f : Fmt
  word : Nat
  start : Nat
  at_ : Int
  ph : Int
  onRef : Bool
  changes : Bool
  dirty : Bool
  rephase : Bool
deriving DecidableEq, Repr

/-- The switch of output `p` to source `s` at line `line`, whose first word has instant `x0` on the cadence left, of format `f0`. None
where output and source have no format. -/
def Dev.switchPlan (d : Dev) (p s line : Nat) (f0 : Fmt) (x0 : Int) : Option SwitchPlan :=
  let x := d.out p
  let c := d.outFormat p
  let plan (c : Nat) (f : Fmt) (ph : Int) (move onRef changes dirty rephase : Bool) : SwitchPlan :=
    let w := d.lineWord p c line
    let tw := d.outTw p f
    let start := f.startNear ph (if move then nearAcross f0 f (ph + w * tw) x0 - w * tw else x0 - w * tw)
    ⟨c, f, w, start, f.ex start + w * tw, ph, onRef, changes, dirty, rephase⟩
  match d.autoFormat p s with
  | some e =>
    (fmtOf e).map (fun f =>
      let first := decide (c = 0)
      let q := match d.atOut p e f s with | .phase q => q | _ => d.refPhase p f
      let timed := d.timedAt p f q
      plan e f (if timed then d.refPhase p f else q) true timed true (!first || !timed) (!first))
  | none =>
    (fmtOf c).map (fun f =>
      let ph := if x.ahead then x.nextPh else x.ph
      let (ph', onRef) := d.cadence p c f s ph x.onRef
      let dirty := match d.atOut p c f s with | .phase q => !d.timedAt p f q | _ => false
      plan c f ph' (decide (f.wrapDiff (ph' - ph) ≠ 0)) onRef false dirty (d.bigMove p f (f.wrapDiff (ph' - ph))))

/-- Source `s` is of another format than `c`, that of output `p` (R175). -/
def Dev.mismatched (d : Dev) (p c s : Nat) : Bool :=
  match fmtOf c with
  | some f => match d.atOut p c f s with
    | .other _ => true
    | _ => false
  | none => false

/-- The stream part of a switch to source `s` at line `line`: the cadence moves to the new source's at its first word, with blanking to
fill or the words from here on discarded, or the output takes on the source's format (R166, R170, R175). Emission stands at a word of
format `f0`; the switch point of the cadence left is at `x0`. -/
def Dev.streamSwitch (d : Dev) (p s line : Nat) (f0 : Fmt) (x0 : Int) : Dev :=
  let d := d.phaseDue s
  let x := d.out p
  match d.switchPlan p s line f0 x0 with
  | none => d.setOut p { x with swDone := some ⟨false, false, f0.toMt x0⟩ }
  | some k =>
    let tw := d.outTw p k.f
    let gap := if d.outFormat p = 0 then 0 else ((k.at_ * f0.scale - x.t * k.f.scale) / (tw * f0.scale)).toNat
    let x := { x with
      onRef := k.onRef, word := k.word, t := if gap = 0 then k.at_ else if k.changes then k.at_ - gap * tw else x.t, fill := gap,
      resume := k.at_, oldSrc := d.reg Obj.XP_SOURCE p, oldUntil := k.word, oldMismatch := x.mismatch, still := d.stillOf s,
      swDone := some ⟨k.dirty, k.rephase, f0.toMt x0⟩ }
    let exact' := k.f.exactStart k.ph k.start
    let next := k.f.tick (exact' + k.f.exP)
    let d := d.setOut p (
      if k.changes then
        { x with fmt := k.c, started := true, start := k.start, ph := k.ph, next, nextPh := k.ph, ahead := false }
      else if x.ahead then { x with next := k.start, nextPh := k.ph }
      else { x with start := k.start, ph := k.ph, next, nextPh := k.ph })
    d.modOut p (fun y => { y with mismatch := d.mismatched p k.c s })

/-- The take of output `p` executes at line `line`, whose first word has instant `x0` on the running cadence of format `f0` (R170 to R173,
R180, R184, R256). -/
def Dev.executeTake (d : Dev) (p line : Nat) (f0 : Fmt) (x0 : Int) : Dev :=
  match (d.out p).pend with
  | none => d
  | some t =>
    let old := d.reg Obj.XP_SOURCE p
    if t.src = old then d.takeDone 0 p t (f0.toMt x0)
    else
      let d := if (d.out p).swDone.isSome then d
        else (d.modOut p (fun x => { x with t := x0, fill := 0, ahead := false })).streamSwitch p t.src line f0 x0
      let r := (d.out p).swDone.getD ⟨false, false, f0.toMt x0⟩
      let d := (d.setReg Obj.XP_SOURCE p t.src).persist [objKey Obj.XP_SOURCE p]
      let d := if r.dirty then d.dirtyTake p else d
      let d := if r.rephase then d.rephased p else d
      let d := match d.engineOf p, fmtOf (d.outFormat p) with
        | some n, some f => d.setEngine n { d.engine n with theta0 := d.theta0 p (d.outFormat p) f t.src }
        | _, _ => d
      let d := d.takeDone 0 p t r.at_
      d.setReg Obj.OUT_STATE p (d.outState p)

/-- Where the frames of source `s` in its new format `e` start at an output: its first frame start in that format, and those that follow
(R175). -/
def Dev.followBase (d : Dev) (p s e : Nat) (f : Fmt) : Int :=
  let x := d.inp s
  if s < 1024 ∧ x.mode ≠ 1 ∧ x.newFmt = e then x.newAt + f.pass (d.srcGanged s) + (if x.mode = 2 then x.delay * f.exP else 0)
  else match d.atOut p e f s with | .phase q => f.nearAt q (f.ex d.now) - f.exP | _ => d.refPhase p f

/-- The latest of those frame starts at instant `x0` of format `f0`, exact in `f`; none before the first, or more than `slack` later. -/
def Dev.followStart (d : Dev) (p : Nat) (f0 : Fmt) (x0 : Int) (slack : Fmt → Int) : Option (Nat × Fmt × Int) :=
  let s := d.reg Obj.XP_SOURCE p
  match d.autoFormat p s with
  | none => none
  | some e => (fmtOf e).bind (fun f =>
      let base := d.followBase p s e f
      let r := x0 * f.scale - base * f0.scale
      if r < 0 then none
      else
        let at_ := base + r / (f.exP * f0.scale) * f.exP
        if x0 * f.scale - at_ * f0.scale ≤ slack f * f0.scale then some (e, f, at_) else none)

/-- An AUTO output without a take follows its source to format `e` at a frame start of the source, on its cadence (R175). -/
def Dev.followFormat (d : Dev) (p e : Nat) (f : Fmt) (at_ : Int) : Dev :=
  let start := f.tick at_
  let ph := at_ % f.exP
  let d := d.modOut p (fun x => { x with
    fmt := e, started := true, start, ph, next := f.tick (at_ + f.exP), nextPh := ph, onRef := decide (f.wrapDiff (ph - d.refPhase p f) = 0),
    ahead := false, word := 0, t := f.ex start, fill := 0, oldUntil := 0, mismatch := false })
  let d := d.rephased p
  d.setReg Obj.OUT_STATE p (d.outState p)

/-- An AUTO output that has never carried a format starts in its source's, at the source's switch point (R175). -/
def Dev.firstFormat (d : Dev) (p e : Nat) (f : Fmt) : Dev :=
  let s := d.reg Obj.XP_SOURCE p
  match d.switchPlan p s ((switchLines e).headD 7) f (f.ex d.now) with
  | none => d
  | some k =>
    let d := d.modOut p (fun x => { x with
      fmt := e, started := true, start := k.start, ph := k.ph, next := f.tick (f.exactStart k.ph k.start + f.exP), nextPh := k.ph,
      onRef := k.onRef, ahead := false, word := k.word, t := k.at_, fill := 0, oldUntil := 0, mismatch := false })
    let d := if k.onRef then d else d.dirtyTake p
    d.setReg Obj.OUT_STATE p (d.outState p)

/-- OUTPUT_SWITCH_POINT: the output's cadence reaches a switch point (R170, R175, R176). -/
def Dev.outSwitchPoint (d : Dev) (p : Nat) (second : Bool) : Dev :=
  if d.outGangMember p then d
  else
    let x := d.out p
    let c := d.outFormat p
    match fmtOf c with
    | none =>
      let s := match x.pend with | some t => t.src | none => d.reg Obj.XP_SOURCE p
      let d := d.phaseDue s
      match d.autoFormat p s with
      | some e => match fmtOf e, x.pend with
        | some f, some t => if t.e ≤ d.now ∧ d.takeReady t then d.executeTake p ((switchLines e).headD 7) f (f.ex d.now) else d
        | some f, none => d.firstFormat p e f
        | none, _ => d
      | none => match x.pend, fmtOf 7 with
        | some t, some f => if t.e ≤ d.now ∧ d.takeReady t then d.executeTake p 7 f (f.ex d.now) else d
        | _, _ => d
    | some f =>
      if d.reg Obj.OUT_TRANSPORT p = 1 ∧ !second then d
      else
        match d.switchLine p c second, x.pend with
        | some line, some t =>
          let inst := f.ex x.start + d.lineWord p c line * d.outTw p f
          if (f.ex t.e ≤ inst ∨ x.swDone.isSome) ∧ d.takeReady t then d.executeTake p line f inst else d
        | _, _ => d

/-- OUTPUT_FRAME_START: the next frame begins, and the cadence of the one after it is chosen (R162, R165, R166, R175, R176). -/
def Dev.outFrameStart (d : Dev) (p : Nat) : Dev :=
  let c := d.outFormat p
  match fmtOf c with
  | none => d
  | some f =>
    let src := d.reg Obj.XP_SOURCE p
    let d := (d.phaseDue src).fsSettle src d.now
    let x := d.out p
    let (start, ph) := if x.started then (x.next, x.nextPh)
      else (f.startNear (d.refPhase p f) (f.ex d.now), d.refPhase p f)
    let move := if x.started then f.wrapDiff (ph - x.ph) else 0
    let x := { x with
      fmt := c, started := true, start, ph, onRef := decide (f.wrapDiff (ph - d.refPhase p f) = 0),
      oldUntil := 0, still := d.stillOf src, word := if x.ahead then x.word else 0, t := if x.ahead then x.t else f.ex start,
      fill := if x.ahead then x.fill else 0, mismatch := if x.ahead then x.mismatch else d.mismatched p c src, ahead := false }
    let d := d.setOut p x
    let d := if d.bigMove p f move then d.rephased p else d
    let d := if d.reg Obj.OUT_TRANSPORT p = 1 then
        match x.pend with
        | some t => if t.e ≤ start ∧ d.takeReady t then d.executeTake p 1 f (f.ex start) else d
        | none => d
      else d
    let d := match d.followStart p f (f.ex d.now) (·.exP) with
      | some (e, g, at_) => if d.outService p && d.reg Obj.OUT_TRANSPORT p == 0 then d else d.followFormat p e g at_
      | none => d
    match fmtOf (d.outFormat p) with
    | none => d
    | some f =>
      let x := d.out p
      let (nextPh, _) := d.cadence p (d.outFormat p) f (d.reg Obj.XP_SOURCE p) x.ph x.onRef
      let d := d.setOut p { x with next := f.tick (nearAcross f f nextPh (f.exactStart x.ph x.start + f.exP)), nextPh }
      d.setReg Obj.OUT_STATE p (d.outState p)

/-- Words of the frame in course before the next frame cuts it short (R166). -/
def Dev.frameLen (d : Dev) (p : Nat) (f g : Fmt) : Nat :=
  let x := d.out p
  let run := f.startNear x.ph (f.exactStart x.ph x.start + f.exP)
  if x.ahead || run ≤ x.next then g.words
  else g.words - ((f.ex (run - x.next) + d.outTw p f - 1) / d.outTw p f).toNat

/-- Blanking words between the frame in course and the next one (R166). -/
def Dev.frameGap (d : Dev) (p : Nat) (f : Fmt) : Nat :=
  let x := d.out p
  let run := f.startNear x.ph (f.exactStart x.ph x.start + f.exP)
  if x.ahead || x.next ≤ run then 0 else (f.ex (x.next - run) / d.outTw p f).toNat

/-! ### Settings of an output (R28, R146, R201, R261) -/

/-- Status of OUT_TRANSPORT, OUT_GANG, OUT_FORMAT as they would stand (R146, R201, R261). -/
def Dev.outSettingStatus (d : Dev) (p transport : Nat) (gang : Bool) (c : Nat) : Nat :=
  let quad := match fmtOf c with | some f => f.quad | none => true
  if d.underCanopy p then stLocked
  else if gang && (p % 4 != 0 || transport == 1 || !quad) then stInvalid
  else if !d.capsAllow p (portNeeds (transport == 1) gang c) then stInvalid
  else stOk

/-- OUT_FORMAT applied: another format starts on the reference cadence; AUTO keeps the format carried (R175). -/
def Dev.outFormatSet (d : Dev) (p v : Nat) : Dev :=
  let was := d.outFormat p
  let d := d.setReg Obj.OUT_FORMAT p v
  let d := if v = 0 then d.modOut p (fun x => { x with fmt := was }) else d
  if d.outFormat p = was then d
  else (d.modOut p (fun x => { x with fmt := v, started := false, ahead := false, fill := 0 }))

end Sys2Proof.Machine
end

