-- ==== Sys2Proof/Machine/Compose.lean ====
section
/-! DEFINITION. Composition engines and still players: assignment, layer records, engine frame starts, layer decisions,
retirement (R243 to R259, R268, R459). -/

namespace Sys2Proof.Machine

def ceUnassigned : Nat := 0
def ceRunning : Nat := 1
def ceBackground : Nat := 2
def ceIdle : Nat := 3
def ceRetired : Nat := 4

/-! ### Assignment (R243, R244) -/

/-- Engine `n` takes output `p`, or none. -/
def Dev.ceAssign (d : Dev) (n p : Nat) : Dev :=
  let d := d.setEngine n { d.engine n with out := p }
  let d := (List.range 8).foldl (fun d l => d.setReg Obj.CE_LAYER_STATE (8 * n + l) 0) d
  if d.reg Obj.CE_STATE n = ceRetired then d
  else d.setReg Obj.CE_STATE n (if 1024 ≤ p then ceUnassigned else if d.outFormat p = 0 then ceIdle else ceRunning)

/-- Assignments that take effect at a frame start of output `p` (R243); a retired engine leaves it (R268). -/
def Dev.ceAtOutput (d : Dev) (p : Nat) : Dev :=
  let es := (List.range 4).map (4 * (p / 64) + ·)
  let d := es.foldl (fun d n =>
    if (d.engine n).out = p ∧ (d.reg Obj.CE_OUTPUT n = 0xFFFF ∨ d.reg Obj.CE_STATE n = ceRetired) then d.ceAssign n 0xFFFF
    else d) d
  es.foldl (fun d n =>
    if d.reg Obj.CE_OUTPUT n = p ∧ (d.engine n).out ≠ p ∧ d.reg Obj.CE_STATE n ≠ ceRetired then d.ceAssign n p else d) d

/-- Status of a CE_OUTPUT value (R243); `other` gives CE_OUTPUT of the engines as the write leaves them. -/
def Dev.ceOutputStatus (d : Dev) (n v : Nat) (other : Nat → Nat) : Nat :=
  if v = 0xFFFF then stOk
  else if 1024 ≤ v || v / 64 != n / 4 || d.outGangMember v || d.flag Obj.OUT_GANG v then stInvalid
  else if (List.range 4).any (fun k => let m := 4 * (n / 4) + k; m != n && other m == v) then stConflict
  else stOk

/-- CE_OUTPUT applied: at the output's frame start, or at once where the output has none. -/
def Dev.ceOutputSet (d : Dev) (n v : Nat) : Dev :=
  let d := d.setReg Obj.CE_OUTPUT n v
  let target := if v = 0xFFFF then (d.engine n).out else v
  if target < 1024 ∧ d.outFormat target ≠ 0 then d
  else if d.reg Obj.CE_STATE n = ceRetired then d
  else d.ceAssign n v

/-! ### Records (R247, R250) -/

/-- Status of a CE_LAYER value at layer `8n + l`; `rec` gives the records as the write leaves them. -/
def layerStatus (idx v : Nat) (rec : Nat → Nat) : Nat :=
  let l := idx % 8
  let at_ (m : Nat) : Nat := rec (idx / 8 * 8 + m)
  if l = 0 || fld v 13 0 != 0 || decide (4 < lyMode v) || decide (lyClip v < 64) || decide (940 < lyClip v) || lyGain v == 0 then
    stInvalid
  else if lyMode v = 2 && (lyKeyLayer v == 0 || lyKeyLayer v == l || lyMode (at_ (lyKeyLayer v)) != 4) then stInvalid
  else if lyMode v != 4 && (List.range 7).any (fun m =>
      m + 1 != l && lyMode (at_ (m + 1)) == 2 && lyKeyLayer (at_ (m + 1)) == l) then stConflict
  else stOk

/-- Status of a CE_ORDER value. -/
def orderStatus (v : Nat) : Nat :=
  let ks := (List.range 7).map (fun k => fld v (3 * k + 5) (3 * k + 3))
  if fld v 2 0 = 0 && fld v 31 24 == 0 && (List.range 7).all (fun k => ks.contains (k + 1)) then stOk else stInvalid

/-! ### Engine frame starts (R251 to R255) -/

/-- A source is present for a layer (R252). -/
def Dev.layerPresent (d : Dev) (s : Nat) : Bool := decide (1024 ≤ s) || d.inStatus s == 1

/-- The first rows of Table 7.3: 2 ABSENT, 3 FORMAT_MISMATCH, 4 MISALIGNED, 1 where none applies. -/
def Dev.layerCheck (d : Dev) (p c : Nat) (f : Fmt) (th0 : Int) (s : Nat) : Nat :=
  if !d.layerPresent s then 2
  else
    let fits := match d.srcFormat s with
      | .code e => e == c
      | .own => true
      | .nothing => false
    if !fits then 3
    else
      let th := if d.generated s then th0 else d.enginePhase f s (d.reg Obj.OUT_OFFSET p)
      if f.exTl < (f.wrapDiff (th - th0)).natAbs then 4 else 1

/-- CE_LAYER_STATE of layer `l` of engine `n` (Table 7.3). -/
def Dev.layerDecision (d : Dev) (n p c : Nat) (f : Fmt) (th0 : Int) (l : Nat) : Nat :=
  let r := (d.engine n).layer l
  if lyMode r = 0 then 0
  else
    let k := d.layerCheck p c f th0 (d.layerSource n l)
    if k ≠ 1 then k
    else if lyMode r = 2 && d.layerCheck p c f th0 (d.layerSource n (lyKeyLayer r)) != 1 then 5
    else if lyMode r = 4 then 6
    else 1

/-- Layer takes of engine `n` that are due at its frame start `at_` execute (R180, R255). -/
def Dev.layerTakes (d : Dev) (n : Nat) (at_ : Nat) : Dev :=
  (List.range 7).foldl (fun d l =>
    let l := l + 1
    match smGet (d.engine n).takes l none with
    | some t =>
      if t.e ≤ at_ ∧ d.takeReady t then
        let i := 8 * n + l
        let d := if t.src = d.reg Obj.CE_LAYER_SOURCE i then d
          else (d.setReg Obj.CE_LAYER_SOURCE i t.src).persist [objKey Obj.CE_LAYER_SOURCE i]
        d.takeDone 1 i t at_
      else d
    | none => d) d

/-- ENGINE_FRAME_START (R252 to R255): due changes apply, then the layers are decided for the whole frame. -/
def Dev.engineFrame (d : Dev) (n : Nat) : Dev :=
  let p := (d.engine n).out
  if 1024 ≤ p || d.reg Obj.CE_STATE n == ceRetired then d
  else
    let c := d.outFormat p
    match fmtOf c with
    | none => d.setReg Obj.CE_STATE n ceIdle
    | some f =>
      let s := d.outSource p 0
      let d := ((List.range 7).foldl (fun d l => d.phaseDue (d.reg Obj.CE_LAYER_SOURCE (8 * n + l + 1))) (d.phaseDue s))
      let th0 := d.theta0 p c f s
      let at_ := f.toMt (f.nearAt th0 (f.ex d.now))
      let d := d.layerTakes n at_
      let x := d.engine n
      let d := d.setEngine n { x with
        theta0 := th0, frame := x.frame + 1, liveOrder := d.reg Obj.CE_ORDER n, liveMode := d.reg Obj.CE_ORDER_MODE n,
        live := (List.range 7).foldl (fun m l => smSet m (l + 1) (d.reg Obj.CE_LAYER (8 * n + l + 1)) lyDefault) [],
        stills := (List.range 7).foldl (fun m l =>
          match d.stillOf (d.reg Obj.CE_LAYER_SOURCE (8 * n + l + 1)) with
          | some v => smSet m (l + 1) v 0xFFFFFF
          | none => m) [] }
      let usable := d.bgUsable s c
      let d := d.setReg Obj.CE_STATE n (if usable then ceRunning else ceBackground)
      let d := if usable then d else d.count Obj.CE_BG_ABSENT n
      (List.range 7).foldl (fun d l =>
        let l := l + 1
        let i := 8 * n + l
        let was := d.reg Obj.CE_LAYER_STATE i
        let st := d.layerDecision n p c f th0 l
        let d := d.setReg Obj.CE_LAYER_STATE i st
        let d := if st = 0 ∨ st = 1 then d else d.count Obj.CE_LAYER_DROPOUTS i
        if was = 1 ∧ st ≠ 1 then (d.event 0x2001 (refOf Obj.CE_LAYER_STATE i)).pulse Flt.CE_DROPOUT else d) d

/-- Engine `n` takes words of layer `l`, of both kinds or luma: it is composited, or keys a composited LINEAR layer (R247, R254). -/
def Dev.layerNeeded (d : Dev) (n l i : Nat) : Bool :=
  let st := d.reg Obj.CE_LAYER_STATE (8 * n + l)
  st == 1 || (st == 6 && isLuma i && (List.range 7).any (fun m =>
    let r := (d.engine n).layer (m + 1)
    d.reg Obj.CE_LAYER_STATE (8 * n + m + 1) == 1 && lyMode r == 2 && lyKeyLayer r == l))

/-- Missing words of the layers that word `i` of the composite needs (R254). -/
def Dev.countUnderrun (d : Dev) (n : Nat) (k : Look) (i : Nat) (t : Int) : Dev :=
  match k.g.pixelOf i with
  | none => d
  | some _ =>
    (List.range 7).foldl (fun d l =>
      let l := l + 1
      if d.layerNeeded n l i ∧ (d.srcWord 65 (d.layerSource n l) k i (t - k.f.exTl)).isNone then
        d.count Obj.CE_LAYER_UNDERRUN (8 * n + l)
      else d) d

/-! ### Retirement (R268, R459) -/

/-- Engine `n` is retired: the RETIREMENT event names its output and layer sources. -/
def Dev.retireEngine (d : Dev) (n : Nat) : Dev :=
  if d.reg Obj.CE_STATE n = ceRetired then d
  else
    let data := beBytes 2 n ++ beBytes 2 (d.engine n).out ++
      (List.range 7).flatMap (fun l => beBytes 2 (d.reg Obj.CE_LAYER_SOURCE (8 * n + l + 1)))
    (d.setReg Obj.CE_STATE n ceRetired).event 0x4141 (refOf Obj.CE_STATE n) data

/-- The check errors of the last second, with one more now, and whether the bound of Table 13.14 is reached. -/
def Dev.checkErrors (d : Dev) (ts : List Nat) : List Nat × Bool :=
  let ts := (d.clock :: ts).filter (fun t => decide (d.clock < t + 1000000000))
  (ts, decide (3 ≤ ts.length))

/-! ### Stills (R257 to R259) -/

/-- The region that a still takes. -/
def stillRegion (bytes : Nat) : Nat := (bytes + 65535) / 65536 * 65536

/-- The region that the stills take in all. -/
def Dev.stillUsed (d : Dev) : Nat :=
  (List.range 1024).foldl (fun t n => t + stillRegion (d.blob Obj.STILL_DATA n).length) 0

/-- A still player plays still `n`. -/
def Dev.stillPlayed (d : Dev) (n : Nat) : Bool := (List.range 32).any (fun k => d.reg Obj.SP_STILL k == n)

/-- Status of a STILL_DATA value (R257). -/
def Dev.stillStatus (d : Dev) (n c : Nat) (len : Nat) : Nat :=
  match fmtOf c with
  | none => stInvalid
  | some f =>
    if len ≠ f.stillBytes then stInvalid
    else if d.stillPlayed n then stBusy
    else if 3758096384 < d.stillUsed - stillRegion (d.blob Obj.STILL_DATA n).length + stillRegion len then stNoCapacity
    else stOk

/-- Status of an SP_STILL value (R259). -/
def Dev.spStatus (d : Dev) (n v : Nat) : Nat :=
  if d.stillLoad [] (fun m => if m = n then v else d.reg Obj.SP_STILL m) ≤ stillShare then stOk else stNoCapacity

end Sys2Proof.Machine
end

