-- ==== Sys2Proof/Machine/Canopy.lean ====
section
/-! DEFINITION. Canopy syncs and inserters: buffers, selection, loss, settings at frame starts, the band, retirement (R261 to
R268, R459). -/

namespace Sys2Proof.Machine

def cyIdle : Nat := 0
def cyFilling : Nat := 1
def cyRunning : Nat := 2
def cyHold : Nat := 3
def cyLost : Nat := 4

def ciOff : Nat := 0
def ciInserting : Nat := 1
def ciNoSource : Nat := 2
def ciMismatch : Nat := 3
def ciDown : Nat := 4
def ciCleared : Nat := 5
def ciRetired : Nat := 6

/-- The format of the Canopy source of node `g`; 0 for none, or for a source generated at its consumer's format. -/
def Dev.canopyFormat (d : Dev) (g : Nat) : Nat :=
  let s := d.reg Obj.CANOPY_SOURCE g
  if s = 0xFFFF then 0 else match d.srcFormat s with | .code c => c | _ => 0

/-- The sync of node `g` runs (R262). -/
def Dev.syncRuns (d : Dev) (g : Nat) : Bool := d.tapOn g && d.reg Obj.CANOPY_SOURCE g != 0xFFFF

/-- The frame period of the sync's newest frame, else of its source, in 2^-16 ns. -/
def Dev.canopyPeriod (d : Dev) (g : Nat) : Nat :=
  let c := match (d.canopy g).bufs.head? with | some fr => fr.fmt | none => d.canopyFormat g
  match fmtOf c with
  | some f => f.period.num * subSec / f.period.den
  | none => subSec / 24

/-- CANOPY_SYNC_STATE as it reads: RUNNING turns to HOLD when a frame period has passed without a new frame (R264). -/
def Dev.canopyState (d : Dev) (g : Nat) : Nat :=
  let st := d.reg Obj.CANOPY_SYNC_STATE g
  if !d.syncRuns g then cyIdle
  else if st = cyIdle then cyFilling
  else if st = cyRunning ∧ (d.canopy g).lastAt + d.canopyPeriod g < d.now then cyHold
  else st

/-- The sync follows its tap: it starts FILLING and empty, and stops IDLE. -/
def Dev.canopyTap (d : Dev) (g : Nat) : Dev :=
  if d.syncRuns g then (if d.reg Obj.CANOPY_SYNC_STATE g = cyIdle then d.setReg Obj.CANOPY_SYNC_STATE g cyFilling else d)
  else (d.setReg Obj.CANOPY_SYNC_STATE g cyIdle).setCanopy g {}

/-- An inserter of node `g` reads, or will read, frame `no`. -/
def Dev.canopyInUse (d : Dev) (g no : Nat) : Bool :=
  (List.range 8).any (fun k => let x := d.inserter (8 * g + k); x.cur == some no || x.sel == some no)

/-- The buffers when a new frame is about to be written: the oldest that no inserter reads gives way where all four hold a frame; none is
free where inserters read all of them (R262). -/
def Dev.canopyFree (d : Dev) (g : Nat) : Option (List Frame) :=
  let bufs := (d.canopy g).bufs
  if bufs.length < 4 then some bufs
  else (bufs.reverse.find? (fun b => !d.canopyInUse g b.no)).map (fun b => bufs.erase b)

/-- The number of the frame that source `s` of node `g` begins now: counted in its frame periods, which both devices of a pair count alike
(R161; DEDUCED for Table 10.4, log 127). -/
def Dev.canopyNo (d : Dev) (g s c : Nat) : Nat :=
  match fmtOf c with
  | some f => let ph := d.srcPhase f s 0; ((f.nearAt ph (f.ex d.now) - ph) / f.exP).toNat % 2 ^ 32
  | none => d.now / d.canopyPeriod g % 2 ^ 32

/-- CANOPY_FRAME_COMPLETE: a frame is complete in its buffer; the oldest that no inserter reads is written next (R262, R264). A source
that is generated at its consumer's own format completes a frame whose words are drawn when it is inserted. -/
def Dev.canopyComplete (d : Dev) (g : Nat) : Dev :=
  if !d.syncRuns g then d
  else
    let x := d.canopy g
    let s := d.reg Obj.CANOPY_SOURCE g
    let done : Option (Frame × List Frame) := if d.generated s then
        (d.canopyFree g).map (fun bufs => ({ no := d.canopyNo g s (d.canopyFormat g), start := 0, fmt := d.canopyFormat g }, bufs))
      else x.writing.map (fun fr => (fr, x.bufs))
    match done with
    | none => d
    | some (fr, bufs) =>
      (d.setCanopy g { x with writing := none, bufs := fr :: bufs, lastAt := d.now }).setReg Obj.CANOPY_SYNC_STATE g cyRunning

/-- CANOPY_SOURCE applied: the sync begins anew with the other source's next frame; what its buffers hold stays (R262, R267). -/
def Dev.canopySourceSet (d : Dev) (g v : Nat) : Dev :=
  if d.reg Obj.CANOPY_SOURCE g = v then d
  else
    let d := d.setReg Obj.CANOPY_SOURCE g v
    (d.setCanopy g { d.canopy g with writing := none, word := 0 }).canopyTap g

/-- CANOPY_LOSS_TIMEOUT: no frame has completed for CANOPY_LOSS_HOLD frame periods (R264). -/
def Dev.canopyLoss (d : Dev) (g : Nat) : Dev :=
  let st := d.canopyState g
  if (st = cyRunning ∨ st = cyHold) ∧ (d.canopy g).lastAt + d.reg Obj.CANOPY_LOSS_HOLD * d.canopyPeriod g ≤ d.now then
    (d.setReg Obj.CANOPY_SYNC_STATE g cyLost).event 0x2101 (refOf Obj.CANOPY_SYNC_STATE g)
  else d

/-- The record of a selection (Table 10.4). -/
def canopyRecord (c outFrame no : Nat) : Bytes := beBytes 1 c ++ beBytes 4 outFrame ++ beBytes 4 no

/-- The number of an output's frame that starts at tick `t`: its start counted in frame periods on the reference cadence (R232). -/
def Dev.outFrameNo (d : Dev) (p t : Nat) : Nat :=
  match fmtOf (d.out p).fmt with
  | some f => ((2 * (f.ex t - d.refPhase p f) + f.exP) / (2 * f.exP)).toNat % 2 ^ 32
  | none => 0

/-- CANOPY_SELECT: 250 µs before a frame start of its output an inserter takes the newest complete frame; the holder sends which. A standby
has a record for that frame, or waits for one with what it would take itself (R263, R195). -/
def Dev.canopySelect (d : Dev) (c : Nat) : Dev :=
  let x := d.inserter c
  let next := if x.out < 1024 then d.outFrameNo x.out (d.out x.out).next else 0
  let sel := (d.canopy (c / 8)).bufs.head?.map (·.no)
  if d.follows then d.setInserter c { x with sel }
  else match sel with
    | none => d.setInserter c { x with sel }
    | some no => (d.setInserter c { x with sel }).mirror 0x06 (canopyRecord c next no)

/-- A CANOPY_SELECT record at a standby, kept until its frame starts (R263). -/
def Dev.canopyRecordIn (d : Dev) (c outFrame no : Nat) : Dev :=
  if d.follows || d.twinState == twJoining then
    d.setInserter c { d.inserter c with mirrored := some (outFrame, no) }
  else d

/-- The selection of an inserter takes effect at a frame of its output: at a standby the holder's for that frame, or its own where no
record came, a mirror miss (R195, R263). -/
def Dev.canopyUse (d : Dev) (c : Nat) : Dev :=
  let x := d.inserter c
  match x.mirrored.filter (fun m => d.follows && decide (x.out < 1024) && m.1 == d.outFrameNo x.out (d.out x.out).start) with
  | some (_, no) => d.setInserter c { x with cur := some no, sel := none, mirrored := none }
  | none =>
    let d' := d.setInserter c { x with cur := if x.sel.isSome then x.sel else x.cur, sel := none }
    if d.follows && x.on && x.sel.isSome then (d'.mirrorMiss Obj.CANOPY_MIRROR_MISS).pulse Flt.CANOPY_MIRROR else d'

/-- The state of an inserter as a frame of its output begins (R264, R267). -/
def Dev.inserterState (d : Dev) (c : Nat) : Nat :=
  let g := c / 8
  let x := d.inserter c
  if d.reg Obj.CI_STATE c = ciRetired then ciRetired
  else if !x.on || 1024 ≤ x.out then ciOff
  else if !d.outService x.out then ciDown
  else
    let st := d.canopyState g
    if st = cyIdle ∨ st = cyFilling then ciNoSource
    else if st = cyLost ∧ d.reg Obj.CANOPY_LOSS_ACTION = 1 then ciCleared
    else
      match x.cur.bind (fun no => (d.canopy g).bufs.find? (fun fr => fr.no == no)) with
      | none => ciNoSource
      | some fr => if fr.fmt = 0 ∨ fr.fmt = d.outFormat x.out then ciInserting else ciMismatch

/-- The settings of an inserter come into force. -/
def Dev.ciLoad (d : Dev) (c : Nat) : Dev :=
  let x := d.inserter c
  d.setInserter c { x with
    out := d.reg Obj.CI_OUTPUT c, on := d.flag Obj.CI_ON c, mode := d.reg Obj.CI_MODE c, top := d.reg Obj.CI_BAND_TOP c,
    rows := d.reg Obj.CI_BAND_ROWS c, clip := d.reg Obj.CI_CLIP c, gain := d.reg Obj.CI_GAIN c }

/-- Settings of inserters that take effect at a frame start of output `p`, and their selection and state (R263, R267). -/
def Dev.ciAtOutput (d : Dev) (p : Nat) : Dev :=
  (List.range 8).foldl (fun d k =>
    let c := 8 * (p / 64) + k
    if d.reg Obj.CI_STATE c = ciRetired then d
    else if d.reg Obj.CI_OUTPUT c ≠ p ∧ (d.inserter c).out = p then
      (d.setInserter c { d.inserter c with out := 0xFFFF, on := false }).setReg Obj.CI_STATE c ciOff
    else if d.reg Obj.CI_OUTPUT c = p then
      let d := (d.ciLoad c).canopyUse c
      let was := d.reg Obj.CI_STATE c
      let st := d.inserterState c
      let d := d.setReg Obj.CI_STATE c st
      let d := if st = ciInserting then d.count Obj.CI_FRAMES c else d
      if st = ciMismatch ∧ was ≠ ciMismatch then d.event 0x2102 (refOf Obj.CI_STATE c) else d
    else d) d

/-- The Canopy word of a picture position: from the selected frame, or drawn from a generated source (R266). -/
def Dev.canopyWord (d : Dev) (g : Nat) (fr : Frame) (k : Look) (r x i : Nat) (t : Int) : Option Nat :=
  let s := d.reg Obj.CANOPY_SOURCE g
  if d.generated s then (match d.srcWord 65 s k i t with | some (some w) => some w | _ => none)
  else
    let ganged := d.srcGanged s
    match lookOf fr.fmt ganged 0 g with
    | none => none
    | some q =>
      let (link, lr, lx) := if ganged then (2 * (r % 2) + x / 4 % 2, r / 2, 4 * (x / 8) + x % 4) else (0, r, x)
      match segWord q.g.words fr.segs link (q.g.wordAt lr lx) with
      | some (some w) => some w
      | _ => none

/-- The word that leaves output `p` after its inserter (R266): the band replaces the rows, or is keyed over them by its luma. -/
def Dev.insertBand (d : Dev) (p : Nat) (k : Look) (i : Nat) (t : Int) (w : Nat) : Nat :=
  match d.inserterOf p with
  | none => w
  | some c =>
    let x := d.inserter c
    let g := c / 8
    if d.reg Obj.CI_STATE c ≠ ciInserting then w
    else
      match k.pictureOf i, x.cur.bind (fun no => (d.canopy g).bufs.find? (fun fr => fr.no == no)) with
      | some (r, px), some fr =>
        if r < x.top ∨ x.top + x.rows ≤ r then w
        else
          match d.canopyWord g fr k r px i t with
          | none => w
          | some v =>
            if x.mode = 0 then v
            else
              let yx := if px % 2 = 1 then px else px + 1
              let y := (d.canopyWord g fr k r yx (i + yx - px) t).getD 64
              let a := keyFinish (lumaKey y x.clip x.gain) false 65535
              blendCode (isLuma i) (blendStep (codeVal (isLuma i) w) a (codeVal (isLuma i) v) false)
      | _, _ => w

/-! ### Settings (R265) and retirement (R268) -/

/-- Status of a CI_OUTPUT value; `other` gives CI_OUTPUT as the write leaves it. -/
def Dev.ciOutputStatus (d : Dev) (c v : Nat) (other : Nat → Nat) : Nat :=
  if v ≠ 0xFFFF && (1024 ≤ v || v / 64 != c / 8 || d.outGangMember v) then stInvalid
  else if v ≠ 0xFFFF && (List.range 8).any (fun k => let m := 8 * (c / 8) + k; m != c && other m == v) then stConflict
  else if d.flag Obj.CI_ON c then stBusy
  else stOk

/-- Status of an inserter that would be ON on output `p` with a band (R265). -/
def Dev.ciOnStatus (d : Dev) (c p top rows : Nat) : Nat :=
  if d.reg Obj.CI_STATE c = ciRetired then stNotInService
  else match fmtOf (if p < 1024 then d.outFormat p else 0) with
    | none => stNotInService
    | some f => if f.rows < top + rows ∨ f.rows / 4 < rows then stInvalid else stOk

/-- A CI setting was applied: at the output's frame start, or at once where it has none; the tap follows (R262, R267). -/
def Dev.ciSet (d : Dev) (c : Nat) : Dev :=
  let p := d.reg Obj.CI_OUTPUT c
  let target := if p < 1024 then p else (d.inserter c).out
  let d := if target < 1024 ∧ d.outFormat target ≠ 0 then d
    else
      let x := d.inserter c
      let d := d.setInserter c { x with out := p, on := d.flag Obj.CI_ON c }
      if d.reg Obj.CI_STATE c = ciRetired then d else d.setReg Obj.CI_STATE c (d.inserterState c)
  d.canopyTap (c / 8)

/-- Inserter `c` is retired: it releases its output, and the RETIREMENT event names it. -/
def Dev.retireInserter (d : Dev) (c : Nat) : Dev :=
  if d.reg Obj.CI_STATE c = ciRetired then d
  else
    let p := d.reg Obj.CI_OUTPUT c
    let d := ((d.setReg Obj.CI_STATE c ciRetired).setReg Obj.CI_ON c 0).setReg Obj.CI_OUTPUT c 0xFFFF
    let d := (d.setInserter c {}).canopyTap (c / 8)
    d.event 0x4141 (refOf Obj.CI_STATE c) (beBytes 2 c ++ beBytes 2 p)

end Sys2Proof.Machine
end

