-- ==== Sys2Proof/Machine/Packet.lean ====
section
/-! DEFINITION. The packet video engine's receive side: classification, placement, stores, deadlines, presence, legs, and the
checks of flow entries (R203 to R229, R242). -/

namespace Sys2Proof.Machine

/-! ### Bytes of a frame (R205, R207; header layouts are those of IEEE 802.3, IPv4, UDP, RTP and ST 2110) -/

/-- Field of `n` bytes at byte `i`. -/
def byteField (b : Bytes) (i n : Nat) : Nat := beNat ((b.drop i).take n)

/-- The ones-complement sum of 16-bit words. -/
def sum16 : Bytes → Nat
  | a :: b :: r => a.toNat * 256 + b.toNat + sum16 r
  | [a] => a.toNat * 256
  | [] => 0

/-- The IPv4 header checksum that makes a header with checksum 0 good. -/
def ipChecksum (h : Bytes) : Nat :=
  let s := sum16 h
  let s := s % 65536 + s / 65536
  let s := s % 65536 + s / 65536
  65535 - s % 65536

/-- Result of steps 1 to 4 of Table 6.2. -/
inductive UdpParse where
  | badFcs
  | badHdr
  | good (dstIp dstUdp : Nat) (payload : Bytes)
deriving DecidableEq, Repr

/-- Steps 1 to 4 of Table 6.2 on a frame with its FCS. -/
def parseUdp (b : Bytes) : UdpParse :=
  let body := b.take (b.length - 4)
  if (crc32 body) ≠ leNat (b.drop (b.length - 4)) then .badFcs
  else
    let tagged := byteField body 12 2 == 0x8100
    let i := if tagged then 18 else 14
    let h := body.drop i
    let total := byteField h 2 2
    if byteField body (i - 2) 2 ≠ 0x0800 then .badHdr
    else if byteField h 0 1 ≠ 0x45 ∨ h.length < 20 ∨ ipChecksum (h.take 20) ≠ 0 then .badHdr
    else if byteField h 6 2 % 16384 ≠ 0 ∨ byteField h 9 1 ≠ 17 ∨ total < 28 ∨ h.length < total then .badHdr
    else if byteField h 24 2 ≠ total - 20 then .badHdr
    else .good (byteField h 16 4) (byteField h 22 2) ((h.take total).drop 28)

/-- An RTP packet (R205, R212): payload type, sequence number, timestamp, SSRC, payload after CSRCs and any extension. -/
structure Rtp where
  pt : Nat
  seq : Nat
  ts : Nat
  ssrc : Nat
  payload : Bytes
deriving DecidableEq, Repr

/-- An RTP packet of version 2, none otherwise. -/
def parseRtp (b : Bytes) : Option Rtp :=
  let v := byteField b 0 1
  if b.length < 12 ∨ v / 64 ≠ 2 then none
  else
    let r := b.drop (12 + 4 * (v % 16))
    let r := if bitOf v 4 then r.drop (4 + 4 * byteField r 2 2) else r
    some ⟨byteField b 1 1 % 128, byteField b 2 2, byteField b 4 4, byteField b 8 4, r⟩

/-- One sample row data header of ST 2110-20: length, field bit, row, offset, and whether another follows. -/
structure Srd where
  len : Nat
  field : Bool
  row : Nat
  offset : Nat
deriving DecidableEq, Repr

/-- The SRDs of a payload after its extended sequence number, at most `fuel`. -/
def parseSrds : Nat → Bytes → Option (List Srd × Bytes)
  | 0, _ => none
  | fuel + 1, b =>
    if b.length < 6 then none
    else
      let s : Srd := ⟨byteField b 0 2, bitOf (byteField b 2 2) 15, byteField b 2 2 % 32768, byteField b 4 2 % 32768⟩
      if bitOf (byteField b 4 2) 15 then
        match parseSrds fuel (b.drop 6) with
        | some (r, d) => some (s :: r, d)
        | none => none
      else some ([s], b.drop 6)

/-- Rows of a field or frame. -/
def Fmt.fieldRows (f : Fmt) : Nat := f.b1 + 1 - f.a1

/-- The 10-bit words of pixel groups. -/
def tenBits (b : Bytes) : List Nat :=
  let v := beNat b
  let n := b.length * 8 / 10
  (List.range n).map (fun w => v / 2 ^ (b.length * 8 - 10 * (w + 1)) % 1024)

/-- Positions of a video payload: field, row, first pixel, words; none where it is not valid under R207. -/
def videoPositions (f : Fmt) (payload : Bytes) : Option (List (Nat × Nat × Nat × List Nat)) :=
  match parseSrds 3 (payload.drop 2) with
  | none => none
  | some (srds, data) =>
    let ok := srds.all (fun s => s.len % 5 == 0 && s.len != 0 && s.offset % 2 == 0 && decide (s.row < f.fieldRows) &&
      decide (s.offset + s.len / 5 * 2 ≤ f.width) && (f.interlaced || !s.field))
    if !ok || decide (data.length < srds.foldl (fun n s => n + s.len) 0) then none
    else
      some ((srds.foldl (fun (out, d) s =>
        (out ++ [(boolNat s.field, s.row, s.offset, tenBits (d.take s.len))], d.drop s.len)) (([], data) : List (Nat × Nat × Nat × List Nat) × Bytes)).1)

/-- Sample frames of an audio payload, as 24-bit values; none where it is not valid. -/
def audioFrames (channels bytes : Nat) (payload : Bytes) : Option (List (List Nat)) :=
  let n := channels * bytes
  if payload = [] ∨ n = 0 ∨ payload.length % n ≠ 0 then none
  else some ((chunksOf n payload.length payload).map (fun fr =>
    (chunksOf bytes channels fr).map (fun s => if bytes = 2 then beNat s * 256 else beNat s)))

/-- An ANC data packet of ST 2110-40: its C bit, line and horizontal offset, a good checksum word, the packet with its flag. -/
structure AncIn where
  c : Nat
  line : Nat
  offset : Nat
  good : Bool
  words : List Nat
deriving DecidableEq, Repr

/-- `n` ANC data packets, each aligned to 32 bits, that fill `b`; none where the layout is not that of ST 2110-40. -/
def parseAnc : Nat → Bytes → Option (List AncIn)
  | 0, b => if b = [] then some [] else none
  | n + 1, b =>
    let h := byteField b 0 4
    let dc := (tenBits ((b.drop 4).take 5)).getD 2 0 % 256
    let bytes := (10 * (dc + 4) + 31) / 32 * 4
    if b.length < 4 + bytes then none
    else
      let ws := (tenBits ((b.drop 4).take bytes)).take (dc + 4)
      let sum := (ws.take (dc + 3)).foldl (fun s w => s + w % 512) 0
      (parseAnc n (b.drop (4 + bytes))).map (fun r =>
        ⟨h / 2 ^ 31, h / 2 ^ 20 % 2 ^ 11, h / 2 ^ 8 % 2 ^ 12, ws.getD (dc + 3) 0 == nineWord sum, [0, 0x3FF, 0x3FF] ++ ws⟩ :: r)

/-- An ST 2110-40 payload: its F bits (2 field 1, 3 field 2, 0 neither) and its packets. -/
def ancPayload (b : Bytes) : Option (Nat × List AncIn) :=
  let f := byteField b 5 1 / 64
  if b.length < 8 ∨ f = 1 ∨ (b.drop 8).length < byteField b 2 2 then none
  else (parseAnc (byteField b 4 1) ((b.drop 8).take (byteField b 2 2))).map (fun r => (f, r))

/-! ### Times (R212 to R218) -/

/-- The unwrapped timestamp nearest to `a` at `c` Hz (R212). -/
def unwrapTs (a c ts : Nat) : Nat :=
  let x := a * c / subSec
  let base := x / 2 ^ 32 * 2 ^ 32 + ts
  let up := base + 2 ^ 32
  let near (y : Nat) : Nat := ((y * subSec : Nat) - (a * c : Nat) : Int).natAbs
  let best := if 2 ^ 32 ≤ base ∧ near (base - 2 ^ 32) < near base then base - 2 ^ 32 else base
  if near up < near best then up else best

/-- The RTP timestamp of instant `m` fields or frames of `f` from the epoch, before its reduction (R213, R232). -/
def instantTs (f : Fmt) (m : Nat) : Nat :=
  let per := if f.interlaced then 2 else 1
  m * 90000 * f.period.num / (f.period.den * per)

/-- The field or frame whose timestamp lies nearest to `u`, and whether it is off the grid (R213). -/
def gridFrame (f : Fmt) (u : Nat) : Nat × Bool :=
  let per := if f.interlaced then 2 else 1
  let m0 := u * f.period.den * per / (90000 * f.period.num)
  let dist (m : Nat) : Nat := ((instantTs f m : Nat) - (u : Nat) : Int).natAbs
  let m := if dist (m0 + 1) < dist m0 then m0 + 1 else m0
  (m, decide (1 < dist m))

/-- The instant of a stamp `u` at `c` Hz in 2^-16 ns. -/
def stampTime (u c : Nat) : Nat := u * subSec / c

/-- Presentation time of pixel `x` of picture row `r`, and of the EAV of a line, of the frame that starts at `F` (R204). -/
def Fmt.pixelTime (f : Fmt) (F : Int) (r x : Nat) : Int :=
  F + ((f.lineOfRow r - 1 : Nat) : Int) * f.exTl + ((f.samples - f.width + x : Nat) : Int) * (2 * f.exTw)

def Fmt.lineTime (f : Fmt) (F : Int) (l : Nat) : Int := F + ((l - 1 : Nat) : Int) * f.exTl

/-- Presentation time of the position of a key of flow `flow`, in 2^-16 ns (R218). -/
def Dev.positionTime (d : Dev) (flow key : Nat) : Nat :=
  match d.reg Obj.RF_ESSENCE flow with
  | 1 => stampTime key 48000 + d.reg Obj.RF_PLAYOUT flow * subNs
  | _ =>
    match fmtOf (d.reg Obj.RF_FORMAT flow) with
    | none => d.now
    | some f =>
      let start := d.presentStart flow f (key / 2 ^ 32)
      let row := key / 2 ^ 16 % 2 ^ 16
      f.toMt (if 32768 ≤ row then f.lineTime start (row - 32768) else f.pixelTime start row (key % 2 ^ 16))

/-- The deadline of a position (R218). -/
def Dev.deadline (d : Dev) (flow key : Nat) : Nat := d.positionTime flow key - usMt 40

/-! ### Stores (R221, R222) -/

/-- The payload rate V in bytes a second times 1001 (exact for every rate); R221 gives an ancillary flow none. -/
def Dev.flowRate1001 (d : Dev) (f : Nat) : Nat :=
  match d.reg Obj.RF_ESSENCE f with
  | 1 => d.reg Obj.RF_CHANNELS f * 4 * 48000 * 1001
  | 2 => 0
  | _ => match fmtOf (d.reg Obj.RF_FORMAT f) with
    | some g => g.stillCost1001 / 8
    | none => 0

/-- The need of a store in bytes, a multiple of 16,384. -/
def Dev.storeNeed (d : Dev) (f : Nat) : Nat :=
  if d.reg Obj.RF_ESSENCE f = 2 then 65536
  else
    let v := d.flowRate1001 f
    let b := ((d.reg Obj.RF_WINDOW f + 60) * v + 1001 * 1000000 - 1) / (1001 * 1000000) + 16384
    (b + 16383) / 16384 * 16384

/-- Granules taken from the pool of group node `g`, and what the packet store class holds. -/
def Dev.poolUsed (d : Dev) (g : Nat) : Nat := d.stores.foldl (fun n kv => if kv.2.node = g then n + kv.2.granules else n) 0
def Dev.storeMem (d : Dev) : Nat := d.stores.foldl (fun n kv => n + kv.2.memBytes) 0
def Dev.storeBw (d : Dev) : Nat := d.stores.foldl (fun n kv => n + kv.2.bw) 0

/-- The group node of a flow's home: that of the input, or of the AI base (R221, Table 1.5). -/
def Dev.flowNode (d : Dev) (f : Nat) : Nat :=
  if d.reg Obj.RF_ESSENCE f = 1 then d.reg Obj.RF_HOME f / 2048 else d.reg Obj.RF_HOME f / 64

/-- Where a new store of flow `f` would go (R221): 0 nowhere, 1 the pool, 2 frame memory. -/
def Dev.storePlace (d : Dev) (f : Nat) : Nat :=
  let need := d.storeNeed f
  if d.poolUsed (d.flowNode f) + need / 16384 ≤ 512 then 1
  else if d.storeMem + (need + 65535) / 65536 * 65536 ≤ 8589934592 ∧
      d.storeBw + 16 * d.flowRate1001 f ≤ 3400000000000 * 1001 then 2
  else 0

/-- The other leg of a flow's pair. -/
def Dev.partner (d : Dev) (f : Nat) : Option Nat :=
  if d.reg Obj.RF_LEG f = 0 then none
  else if d.reg Obj.RF_PARTNER f < 4096 then some (d.reg Obj.RF_PARTNER f) else none

/-- The other leg is enabled. -/
def Dev.partnerOn (d : Dev) (f : Nat) : Bool :=
  match d.partner f with
  | some g => d.flag Obj.RF_ENABLE g
  | none => false

/-- The legs of a flow that are enabled, this one with its partner. -/
def Dev.legsOf (d : Dev) (f : Nat) : List Nat :=
  (f :: (match d.partner f with | some g => [g] | none => [])).filter (fun g => d.flag Obj.RF_ENABLE g)

/-! ### Enabling a receive entry (R208, R209) -/

/-- Two entries would take the same packets (R209). -/
def Dev.keysClash (d : Dev) (f g : Nat) : Bool :=
  d.reg Obj.RF_PORT f == d.reg Obj.RF_PORT g && d.reg Obj.RF_DST_IP f == d.reg Obj.RF_DST_IP g &&
  d.reg Obj.RF_DST_UDP f == d.reg Obj.RF_DST_UDP g &&
  !(d.flag Obj.RF_MATCH_SSRC f && d.flag Obj.RF_MATCH_SSRC g && d.reg Obj.RF_SSRC f != d.reg Obj.RF_SSRC g)

/-- The settings in which two legs must agree (R209). -/
def legSettings : List Nat :=
  [Obj.RF_ESSENCE, Obj.RF_HOME, Obj.RF_FORMAT, Obj.RF_CHANNELS, Obj.RF_PTIME, Obj.RF_SAMPLE, Obj.RF_TIMING, Obj.RF_PLAYOUT,
   Obj.RF_WINDOW, Obj.RF_PT]

/-- Status of RF_ENABLE TRUE (R208, R209, R221). -/
def Dev.rfStatus (d : Dev) (f : Nat) : Nat :=
  let port := d.reg Obj.RF_PORT f
  let home := d.reg Obj.RF_HOME f
  let ess := d.reg Obj.RF_ESSENCE f
  let leg := d.reg Obj.RF_LEG f
  let others := (d.trueOf Obj.RF_ENABLE).filter (· != f)
  let strangers := others.filter (fun g => !(d.partner f == some g))
  let fmtOk := ess == 1 || fmtKnown (d.reg Obj.RF_FORMAT f)
  let homeOk := if ess = 1 then decide (home + d.reg Obj.RF_CHANNELS f ≤ 32768)
    else decide (home < 1024) && d.reg Obj.IN_TRANSPORT home == 1 && home / 64 == port / 64
  let pairOk := match leg with
    | 0 => true
    | _ => match d.partner f with
      | none => false
      | some g => d.reg Obj.RF_PARTNER g == f && d.reg Obj.RF_LEG g == 3 - leg &&
          legSettings.all (fun n => d.reg n f == d.reg n g)
  if d.flag Obj.RF_ENABLE f then stOk
  else if d.reg Obj.IN_TRANSPORT port ≠ 1 || !fmtOk || !homeOk || !pairOk ||
      (ess == 1 && d.reg Obj.RF_PTIME f == 0 && decide (8 < d.reg Obj.RF_CHANNELS f)) then stInvalid
  else if others.any (d.keysClash f) then stConflict
  else if ess ≠ 1 && strangers.any (fun g => d.reg Obj.RF_ESSENCE g == ess && d.reg Obj.RF_HOME g == home) then stConflict
  else if ess = 1 && strangers.any (fun g => d.reg Obj.RF_ESSENCE g == 1 &&
      decide (d.reg Obj.RF_HOME g < home + d.reg Obj.RF_CHANNELS f) &&
      decide (home < d.reg Obj.RF_HOME g + d.reg Obj.RF_CHANNELS g)) then stConflict
  else if !d.partnerOn f && d.storePlace f == 0 then stNoCapacity
  else stOk

/-- RF_ENABLE applied: the store is sized or released, and the state starts at NO_PACKETS (R211, R220, R221). -/
def Dev.rfEnable (d : Dev) (f : Nat) (on : Bool) : Dev :=
  if d.flag Obj.RF_ENABLE f == on then d
  else
    let o := d.storeOwner f
    let home := d.reg Obj.RF_HOME f
    if on then
      let need := d.storeNeed f
      let place := if d.partnerOn f then d.reg Obj.RF_STORE (match d.partner f with | some g => g | none => f) else d.storePlace f
      let d := if d.partnerOn f then d
        else
          let new : StoreX := { node := d.flowNode f, playout := d.reg Obj.RF_PLAYOUT f }
          d.setStore o (if place = 1 then { new with granules := need / 16384 }
            else { new with memBytes := (need + 65535) / 65536 * 65536, bw := 16 * d.flowRate1001 f })
      let d := if d.reg Obj.RF_ESSENCE f = 0 then
          d.modInp home (fun x => { x with playout := d.reg Obj.RF_PLAYOUT f, holeFrames := 0, decFrame := 0, decAny := false })
        else d
      let up := d.partnerOn f && (match d.partner f with | some g => d.reg Obj.RF_STATE g == 1 | none => false)
      (((d.setReg Obj.RF_ENABLE f 1).setReg Obj.RF_STATE f (if up then 1 else 2)).setReg Obj.RF_STORE f place).setReg
        Obj.RF_STORE_BYTES f need
    else
      let d := if d.partnerOn f then d else d.setStore o {}
      let d := { d with legs := smSet d.legs f {} {} }
      ((((d.setReg Obj.RF_ENABLE f 0).setReg Obj.RF_STATE f 0).setReg Obj.RF_STORE f 0).setReg Obj.RF_STORE_BYTES f 0).setReg
        Obj.RF_LEG_STATE f 0

/-! ### Legs (R224, R226) -/

def Dev.leg (d : Dev) (f : Nat) : LegX := smGet d.legs f {}
def Dev.setLeg (d : Dev) (f : Nat) (x : LegX) : Dev := { d with legs := smSet d.legs f x {} }

/-- A packet that passed Table 6.2: counts, sequence, leg state (R224, R226). DEDUCED (log 123): a leg's expectation is the number of its
latest packet, so that the packet after it has gap 1 and loses none, as in Table 6.4, step 2. -/
def Dev.legPacket (d : Dev) (f seq bytes : Nat) : Dev :=
  let m := if d.reg Obj.RF_ESSENCE f = 0 then 2 ^ 32 else 2 ^ 16
  let x := d.leg f
  let gap := match x.expect with
    | some e => (seq + m - e) % m
    | none => 0
  let d := d.setLeg f { x with expect := some seq, lastAt := d.clock }
  let d := if 1 < gap ∧ gap ≤ 32767 then d.count Obj.RF_SEQ_LOST f (gap - 1) else d
  let d := ((d.countWrap Obj.RF_PKTS f 1).countWrap Obj.RF_BYTES f bytes).setReg Obj.RF_LAST_SEQ f seq
  if d.reg Obj.RF_LEG_STATE f = 1 then d
  else (d.setReg Obj.RF_LEG_STATE f 1).event 0x1802 (refOf Obj.RF_LEG_STATE f)

/-- RF_LEG_DOWN: 10 ms without a packet (R226). -/
def Dev.legDown (d : Dev) (f : Nat) : Dev :=
  if d.flag Obj.RF_ENABLE f && d.reg Obj.RF_LEG_STATE f == 1 && decide ((d.leg f).lastAt + 10000000 ≤ d.clock) then
    (d.setReg Obj.RF_LEG_STATE f 0).event 0x1801 (refOf Obj.RF_LEG_STATE f)
  else d

/-! ### Placement (R212 to R218, R222) -/

/-- Bits of one filled position. -/
def Dev.entryBits (d : Dev) (flow : Nat) (ws : List Nat) : Nat :=
  match d.reg Obj.RF_ESSENCE flow with | 1 => 32 * ws.length | 2 => 10 * (ws.length - 1) | _ => 10 * ws.length

/-- Bytes that a store holds: those of its positions not yet presented. -/
def Dev.storeHeld (d : Dev) (flow : Nat) : Nat :=
  ((d.store (d.storeOwner flow)).fill.foldl (fun n kv =>
    if d.now < d.positionTime flow kv.1 then n + d.entryBits flow kv.2 else n) 0 + 7) / 8

/-- A flow's bookkeeping for frames long presented goes (the store is released as it is read). -/
def Dev.purgeStore (d : Dev) (flow : Nat) : Dev :=
  let o := d.storeOwner flow
  let x := d.store o
  let keep (k : Nat) : Bool := decide (d.now ≤ d.positionTime flow k + subSec / 12)
  d.setStore o { x with
    fill := x.fill.filter (fun kv => keep kv.1), legs := x.legs.filter (fun kv => keep kv.1),
    decided := x.decided.filter (fun kv => keep kv.1), stamps := x.stamps.take 16 }

/-- Fill positions of a packet that arrived in its window. A copy of a filled position is discarded; a packet with a position to fill
finds a store over its need full (R217, R222, R223). -/
def Dev.fillPositions (d : Dev) (f : Nat) (ps : List (Nat × List Nat)) : Dev :=
  let o := d.storeOwner f
  let bit := if d.reg Obj.RF_LEG f = 2 then 1 else 0
  let x := d.store o
  let fresh := ps.filter (fun p => smGet x.legs p.1 0 == 0 && smGet x.decided p.1 0 == 0)
  if fresh ≠ [] ∧ d.storeNeed f < d.storeHeld f then (d.count Obj.RF_STORE_FULL f).pulse Flt.RF_STORE_FULL
  else
    let x := fresh.foldl (fun x p => { x with fill := smSet x.fill p.1 p.2 [] }) x
    d.setStore o (ps.foldl (fun x p =>
      if smGet x.decided p.1 0 = 0 then { x with legs := smSet x.legs p.1 (setBit (smGet x.legs p.1 0) bit true) 0 } else x) x)

/-- A packet against its deadline `dl` and window: on time, late or early (R218). -/
def Dev.takeIn (d : Dev) (f a dl : Nat) (ps : List (Nat × List Nat)) : Dev :=
  if dl < a then (d.count Obj.RF_LATE f).pulse Flt.RF_LATE
  else if a + usMt (d.reg Obj.RF_WINDOW f) + usMt 20 < dl then (d.count Obj.RF_EARLY f).pulse Flt.RF_LATE
  else (d.purgeStore f).fillPositions f ps

/-- The frame of a video or ancillary packet, and its field, by timestamp and field bit (R213, R214). -/
def Dev.packetOf (d : Dev) (f : Nat) (g : Fmt) (u field : Nat) : Nat × Nat × Dev :=
  if d.reg Obj.RF_TIMING f = 0 then
    let (m, off) := gridFrame g u
    let d := if off then (d.count Obj.RF_OFFGRID f).pulse Flt.RF_OFFGRID else d
    if g.interlaced then (m / 2, m % 2, d) else (m, 0, d)
  else
    let t := stampTime u 90000
    let o := d.storeOwner f
    let x := d.store o
    if field = 0 then
      let stamps := x.stamps.filter (fun s => decide (t < s)) ++ [t] ++ x.stamps.filter (fun s => decide (s < t))
      (t, 0, d.setStore o { x with stamps })
    else ((x.stamps.find? (fun s => decide (s ≤ t))).getD t, 1, d)

/-- Words of the Y stream, or the only one, that frame `id` of a flow has on line `l` outside the horizontal space. -/
def Dev.ancUsed (d : Dev) (f id : Nat) (g : Fmt) (l : Nat) : Nat :=
  let c := d.reg Obj.RF_FORMAT f
  (d.store (d.storeOwner f)).fill.foldl (fun n kv =>
    if kv.1 / 2 ^ 16 = ancKey id l 0 / 2 ^ 16 ∧ !inHanc c g kv.2 ∧ ancStream c kv.2 = streamsOf c - 1 then n + kv.2.length - 1 else n) 0

/-- The line of an ANC packet of `n` words: its own, or, where it names none, the first after the switch line of its field whose VANC has
room (R218). PRESUMED (log 120): ST 2110-40 writes 0x7FF for no line, 0x7FE for one from the second after the switch line on. -/
def Dev.ancLineOf (d : Dev) (f id fld : Nat) (g : Fmt) (line n : Nat) : Nat :=
  if line < 0x7FD then line
  else
    let c := d.reg Obj.RF_FORMAT f
    let sw := (switchLines c).getD fld ((switchLines c).headD 7)
    let first := sw + (if line = 0x7FE then 2 else 1)
    let vanc := ((List.range 64).map (first + ·)).takeWhile (fun l => (g.rowOf l).isNone && decide (l ≤ g.lines))
    (vanc.find? (fun l => decide (d.ancUsed f id g l + n ≤ g.streamWords c))).getD (vanc.getLastD first)

/-- The ANC packets of a payload with good checksum words, placed one by one: keys and entries. A key's number on its line holds the
packet's place in the payload and the low bits of the sequence number, alike on both legs (R217, R223). -/
def Dev.ancPlace (d : Dev) (f id fld seq : Nat) (g : Fmt) (pkts : List AncIn) : List (Nat × List Nat) :=
  ((List.range pkts.length).foldl (fun (r : List (Nat × List Nat) × Dev) i =>
    match pkts[i]? with
    | none => r
    | some x =>
      let l := r.2.ancLineOf f id fld g x.line x.words.length
      let q := (ancKey id l (seq % 256 * 256 + i), ancEntry x.c x.offset x.words)
      let o := d.storeOwner f
      let st := r.2.store o
      (r.1 ++ [q], r.2.setStore o { st with fill := smSet st.fill q.1 q.2 [] })) ([], d)).1

/-- A packet of flow `f` that passed steps 1 to 6 and arrived at `a` (R205 step 7 to R218). -/
def Dev.placePacket (d : Dev) (f a : Nat) (r : Rtp) (bytes : Nat) : Dev :=
  let bad (d : Dev) : Dev := (d.count Obj.RF_BAD f).pulse Flt.PKT_HDR
  match d.reg Obj.RF_ESSENCE f with
  | 0 =>
    match fmtOf (d.reg Obj.RF_FORMAT f) with
    | none => bad d
    | some g =>
      match videoPositions g r.payload with
      | none => bad d
      | some [] => bad d
      | some ((fld0, row0, px0, w0) :: rest) =>
        let d := d.legPacket f (byteField r.payload 0 2 * 65536 + r.seq) bytes
        let (id, fld, d) := d.packetOf f g (unwrapTs a 90000 r.ts) fld0
        let key (row px : Nat) : Nat := posKey id (if g.interlaced then 2 * row + fld else row) px
        d.takeIn f a (d.deadline f (key row0 px0)) (((fld0, row0, px0, w0) :: rest).map (fun q => (key q.2.1 q.2.2.1, q.2.2.2)))
  | 1 =>
    match audioFrames (d.reg Obj.RF_CHANNELS f) (if d.reg Obj.RF_SAMPLE f = 1 then 2 else 3) r.payload with
    | none => bad d
    | some frs =>
      let d := d.legPacket f r.seq bytes
      let u := unwrapTs a 48000 r.ts
      d.takeIn f a (d.deadline f u) ((List.range frs.length).map (fun i => (u + i, frs.getD i [])))
  | _ =>
    match fmtOf (d.reg Obj.RF_FORMAT f), ancPayload r.payload with
    | some g, some (fbits, pkts) =>
      let d := d.legPacket f r.seq bytes
      let (id, fld, d) := d.packetOf f g (unwrapTs a 90000 r.ts) (if g.interlaced && fbits == 3 then 1 else 0)
      let d := pkts.foldl (fun d x => if x.good then d else bad d) d
      let ps := d.ancPlace f id fld r.seq g (pkts.filter (·.good))
      match ps.map (·.1) with
      | [] => d
      | k :: ks => d.takeIn f a (d.deadline f (ks.foldl min k)) ps
    | _, _ => bad d

/-- PACKET_RECEIVE: Table 6.2 on the oldest frame that port `p` has received; it arrived at the stamp of its first Basket (R205, R212). -/
def Dev.packetReceive (d : Dev) (p : Nat) : Dev :=
  match (d.inp p).frames with
  | [] => d
  | (a, bytes) :: rest =>
    let d := d.modInp p (fun x => { x with frames := rest })
    if d.reg Obj.IN_TRANSPORT p ≠ 1 then d
    else
      match parseUdp bytes with
      | .badFcs => (d.count Obj.PKT_FCS_ERR p).pulse Flt.PKT_FCS
      | .badHdr => (d.count Obj.PKT_HDR_ERR p).pulse Flt.PKT_HDR
      | .good ip udp payload =>
        let ssrc := byteField payload 8 4
        match (d.trueOf Obj.RF_ENABLE).find? (fun f => d.reg Obj.RF_PORT f == p && d.reg Obj.RF_DST_IP f == ip &&
            d.reg Obj.RF_DST_UDP f == udp && (!d.flag Obj.RF_MATCH_SSRC f || d.reg Obj.RF_SSRC f == ssrc)) with
        | none => d.count Obj.PKT_UNMATCHED p
        | some f =>
          match parseRtp payload with
          | some r =>
            if d.reg Obj.RF_PT f ≠ 0 ∧ d.reg Obj.RF_PT f ≠ r.pt then (d.count Obj.RF_BAD f).pulse Flt.PKT_HDR
            else d.placePacket f a r bytes.length
          | none => (d.count Obj.RF_BAD f).pulse Flt.PKT_HDR

/-! ### Presence (R219, R220, R225, R227) -/

/-- Every leg of a flow shows a state. -/
def Dev.rfState (d : Dev) (flow v : Nat) : Dev := (d.legsOf flow).foldl (fun d g => d.setReg Obj.RF_STATE g v) d

/-- Baskets of frame `id` presented as holes: those of the fields that have no present position (R200, R219). -/
def Dev.holeBaskets (d : Dev) (flow : Nat) (f : Fmt) (id : Nat) : Nat :=
  let st := d.store (d.storeOwner flow)
  let fields := if f.interlaced then [0, 1] else [0]
  let gone := fields.filter (fun fld => !st.decided.any (fun kv => inField f id fld kv.1 && kv.2 == 2))
  (gone.length * (f.words / fields.length) + 203) / 204

/-- Frames of a packet home as its positions are decided: the frame before is complete, holes or not (R220), RF_PLAYOUT takes effect, seen
as a discontinuity (R210), and the frame has its phase and enters the frame sync (R161, R215). DESIGN CHOICE (log 43): the home is back at
the frame start at which the frame, or the one before, has a position present or filled. -/
def Dev.homeFrame (d : Dev) (flow id : Nat) (present : Bool) : Dev :=
  let home := d.reg Obj.RF_HOME flow
  let x := d.inp home
  match fmtOf (d.reg Obj.RF_FORMAT flow) with
  | none => d
  | some f =>
    if x.decFrame = id + 1 then d.setInp home { x with decAny := x.decAny || present }
    else
      let first := decide (x.decFrame = 0)
      let holes := if first ∨ x.decAny then 0 else x.holeFrames + 1
      let d := if first then d else
        match d.holeBaskets flow f (x.decFrame - 1) with
        | 0 => d
        | n => d.count Obj.IN_HOLES home n
      let up := present || x.decAny || (d.store (d.storeOwner flow)).legs.any (fun kv => kv.1 / 2 ^ 32 == id)
      let d := if x.playout = d.reg Obj.RF_PLAYOUT flow then d else d.cutStream home
      let d := d.setInp home { x with
        decFrame := id + 1, decAny := present, holeFrames := holes, playout := d.reg Obj.RF_PLAYOUT flow }
      let d := if up then d.rfState flow 1 else if 2 ≤ holes then d.rfState flow 2 else d
      let start := d.presentStart flow f id
      (d.recordPhase home (id % 256) (f.phaseNs start)).fsFrameStart home (d.reg Obj.RF_FORMAT flow) f start

/-- The frames of an ancillary flow whose home has no video: RF_PLAYOUT takes effect with the next (R210). -/
def Dev.ancFrame (d : Dev) (flow id : Nat) : Dev :=
  let o := d.storeOwner flow
  let x := d.store o
  if x.frame = id + 1 then d else d.setStore o { x with frame := id + 1, playout := d.reg Obj.RF_PLAYOUT flow }

/-- A position is decided, with what that counts (R219, R225). -/
def Dev.decidePosition (d : Dev) (flow key : Nat) (present : Bool) : Dev :=
  let o := d.storeOwner flow
  let x := d.store o
  let d := d.setStore o { x with decided := smSet x.decided key (if present then 2 else 1) 0 }
  let legs := smGet x.legs key 0
  let d := if present then
      (if legs = 1 ∧ (d.legsOf flow).length = 2 then d.count Obj.RF_RECOVERED o
        else if legs = 2 ∧ (d.legsOf flow).length = 2 then d.count Obj.RF_RECOVERED (d.reg Obj.RF_PARTNER o)
        else d)
    else ((d.legsOf flow).foldl (fun d g => d.count Obj.RF_ABSENT g) d).pulse Flt.RF_ABSENT
  match d.reg Obj.RF_ESSENCE flow with
  | 0 => d.homeFrame flow (key / 2 ^ 32) present
  | 1 => d
  | _ => d.ancFrame flow (key / 2 ^ 32)

/-- FRAME and POS of a presence entry (Table 10.4): frame and row with pixel, or the sample number. -/
def presenceEntry (flow key : Nat) : Nat × Nat × Nat :=
  (flow, key / 2 ^ 32 % 256, (key / 2 ^ 16 % 65536 * 4096 + key % 65536 % 4096) % 2 ^ 24)

/-- Positions of flow `f` that are presented by now without the holder's record: a standby decides them itself, a mirror miss (R195, R227). -/
def Dev.positionSettle (d : Dev) (f : Nat) : Dev :=
  let o := d.storeOwner f
  let late := (d.store o).due.filter (fun key => decide (d.positionTime f key ≤ d.now))
  let d := late.foldl (fun d key =>
    ((d.decidePosition f key (smGet (d.store o).legs key 0 != 0)).mirrorMiss Obj.PKT_MIRROR_MISS).pulse Flt.PKT_MIRROR) d
  if late = [] then d else d.setStore o { d.store o with due := (d.store o).due.filter (fun key => !late.contains key) }

/-- POSITION_DEADLINE: the position of `key` of flow `f` is decided at its deadline (R219, R227). -/
def Dev.positionDeadline (d : Dev) (f key : Nat) : Dev :=
  if !d.flag Obj.RF_ENABLE f then d
  else
    let o := d.storeOwner f
    let x := d.store o
    if smGet x.decided key 0 ≠ 0 ∨ d.now < d.deadline f key then d
    else
      let filled := smGet x.legs key 0 != 0
      if d.follows then
        match d.tw.winV.find? (fun w => w.1 == d.deadline f key / usMt 10 % 2 ^ 32 && w.2.1) with
        | some w =>
          if w.2.2.contains (presenceEntry o key) then d.decidePosition f key false
          else if filled then d.decidePosition f key true
          else ((d.decidePosition f key false).count Obj.RF_MIRROR_GAP f).pulse Flt.PKT_MIRROR
        | none => Dev.positionSettle (d.setStore o { x with due := key :: x.due.filter (· != key) }) f
      else
        let d := d.decidePosition f key filled
        if d.acts && d.hotPeer && !filled then { d with tw := { d.tw with presV := d.tw.presV ++ [presenceEntry o key] } } else d

/-- VIDEO_PRESENCE at a standby: the record covers its window, and decides what is filled (R227). -/
def Dev.videoPresence (d : Dev) (window : Nat) (final : Bool) (entries : List (Nat × Nat × Nat)) : Dev :=
  let old := match d.tw.winV.find? (fun w => w.1 == window) with | some w => w.2.2 | none => []
  let es := old ++ entries
  let d := { d with tw := { d.tw with
    winV := ((window, final, es) :: d.tw.winV.filter (fun w => w.1 != window)).take 256 } }
  if !d.follows || !final then d
  else
    (d.trueOf Obj.RF_ENABLE).foldl (fun d f =>
      let o := d.storeOwner f
      if d.reg Obj.RF_LEG f = 2 && d.partnerOn f then d
      else
        let x := d.store o
        let mine := fun key => decide (d.deadline f key / usMt 10 % 2 ^ 32 = window)
        let d := x.due.foldl (fun d key =>
          if smGet (d.store o).decided key 0 ≠ 0 ∨ !mine key then d
          else if es.contains (presenceEntry o key) then d.decidePosition f key false
          else if smGet x.legs key 0 ≠ 0 then d.decidePosition f key true
          else ((d.decidePosition f key false).count Obj.RF_MIRROR_GAP f).pulse Flt.PKT_MIRROR) d
        d.setStore o { d.store o with due := x.due.filter (fun key => !mine key) }) d

/-- The frame buffers of a packet home fill from its presented raster (R30, R189). -/
def Dev.packetSegs (d : Dev) (p : Nat) (k : Look) (start : Int) : List Seg :=
  let t0 := start + k.f.pass false
  (List.range ((k.g.words + 203) / 204)).map (fun m =>
    let ws := (List.range 204).map (fun j => d.packetWord p k (204 * m + j) (t0 + (204 * m + j) * k.tw))
    if ws.all (fun w => match w with | some (some _) => true | _ => false) then
      { idx := 204 * m, hole := false, words := ws.map (fun w => match w with | some (some v) => v | _ => 0) }
    else { idx := 204 * m, hole := true, words := [] })

/-- FS_FRAME_COMPLETE: the last word of a frame is in frame memory (R189). -/
def Dev.frameComplete (d : Dev) (p : Nat) : Dev :=
  let x := d.inp p
  let d := if d.reg Obj.IN_TRANSPORT p ≠ 1 then d
    else match lookOf x.costFmt false 0 (p / 64) with
      | none => d
      | some k =>
        let whole (fr : Frame) : Frame := { fr with segs := d.packetSegs p k fr.start }
        if x.filled.isSome then d.setInp p { x with filled := x.filled.map whole } else d.setInp p { x with writing := x.writing.map whole }
  d.fsComplete p

end Sys2Proof.Machine
end

