-- ==== Sys2Proof/Machine/Audio.lean ====
section
/-! DEFINITION. Audio channels: consumers and their alignment, the shuffle, per-channel delay (R275 to R289). A sample number k
stands for the stamp k / 48,000 s; block n holds samples 16 n to 16 n + 15. -/

namespace Sys2Proof.Machine

def Dev.ao (d : Dev) (a : Nat) : AoX := smGet d.aos a {}
def Dev.setAo (d : Dev) (a : Nat) (x : AoX) : Dev := { d with aos := smSet d.aos a x {} }
def Dev.ap (d : Dev) (n : Nat) : ApX := smGet d.aps n {}
def Dev.setAp (d : Dev) (n : Nat) (x : ApX) : Dev := { d with aps := smSet d.aps n x {} }

def aiSilence : Nat := 65535

/-- Stamps of samples and sample numbers: k / 48,000 s (R66). -/
def sampleTime (k : Nat) : Nat := k * subSec / 48000
def sampleAtOrAfter (t : Nat) : Nat := (t * 48000 + subSec - 1) / subSec
def sampleNear (t : Nat) : Nat := (t * 96000 + subSec) / (2 * subSec)

/-- An offset in ns as samples, rounded up: a sample off the grid goes to the next frame instant. -/
def offsetSamples (ns : Nat) : Nat := (ns * 48000 + 999999999) / 1000000000

/-! ### Consumers (Table 8.4, R279) -/

/-- The audio flow that carries AO `a`. -/
def Dev.audioTf (d : Dev) (a : Nat) : Option Nat :=
  (d.trueOf Obj.TF_ENABLE).find? (fun t => d.reg Obj.TF_ESSENCE t == 1 && decide (d.reg Obj.TF_SOURCE t ≤ a) &&
    decide (a < d.reg Obj.TF_SOURCE t + d.reg Obj.TF_CHANNELS t))

/-- The offset D of the consumer of AO `a`, ns; none without a consumer. -/
def Dev.aoOffset (d : Dev) (a : Nat) : Option Nat :=
  if a < 32768 then
    let p := a / 32
    if d.reg Obj.OUT_TRANSPORT p = 0 ∧ d.reg Obj.GW_EMBED p = 1 ∧ a % 32 < d.reg Obj.GW_EMBED_CHANNELS p then
      some (d.reg Obj.GW_EMBED_OFFSET p)
    else (d.audioTf a).map (d.reg Obj.TF_AUDIO_OFFSET ·)
  else if a < 33280 then some (d.reg Obj.AP_OUT_OFFSET ((a - 32768) / 16))
  else some (d.reg Obj.MIX_IN_OFFSET)

/-! ### Sources (Table 8.1) -/

/-- Samples as a block: absent ones are 0. -/
def blockOf (xs : List (Option Int)) : Block :=
  { present := (List.range 16).foldl (fun m i => if (xs.getD i none).isSome then m + 2 ^ i else m) 0,
    samples := (List.range 16).map (fun i => (xs.getD i none).getD 0) }

/-- The audio flow whose home holds AI `ai`, and the channel. -/
def Dev.audioRf (d : Dev) (ai : Nat) : Option (Nat × Nat) :=
  ((d.trueOf Obj.RF_ENABLE).find? (fun f => d.reg Obj.RF_ESSENCE f == 1 && decide (d.reg Obj.RF_HOME f ≤ ai) &&
    decide (ai < d.reg Obj.RF_HOME f + d.reg Obj.RF_CHANNELS f))).map (fun f => (f, ai - d.reg Obj.RF_HOME f))

/-- A source that supplies silence now: AI 65535, and the channels of a TDM port that is in LEAD, muted or retired (Tables 8.11
and 8.12, R309). -/
def Dev.aiSilent (d : Dev) (ai : Nat) : Bool :=
  ai == aiSilence ||
  (decide (32768 ≤ ai) && decide (ai < 33280) && [1, 4, 5, 6, 7, 8].contains (d.reg Obj.AP_STATE ((ai - 32768) / 16)))

/-- Samples of a block as a source has them; none where it has none of them (R276). -/
def partBlock (xs : List (Option Int)) : Option Block := if xs.all (·.isNone) then none else some (blockOf xs)

/-- Block `n` of AI `ai` as its source in the device holds it (R276, Table 8.1). -/
def Dev.aiBlock (d : Dev) (ai n : Nat) : Option Block :=
  let each (v : Nat → Option Int) : Option Block := partBlock ((List.range 16).map (fun i => v (16 * n + i)))
  if 33280 ≤ ai then
    if ai < 37376 then (d.mix.made.find? (fun m => m.1 == n)).map (fun m =>
      let b := smGet m.2 (ai - 33280) {}
      { b with present := 0xFFFF })
    else none
  else if 32768 ≤ ai then
    let r := (d.ap ((ai - 32768) / 16)).ring
    each (fun k => (r.find? (fun e => e.1 == (k : Int))).map (fun e => e.2.getD (ai % 16) 0))
  else match d.audioRf ai with
    | some (f, c) =>
      let x := d.store (d.storeOwner f)
      each (fun k => if smGet x.decided k 0 = 1 ∨ smGet x.legs k 0 = 0 then none else some (toInt 24 ((smGet x.fill k []).getD c 0)))
    | none =>
      let x := (d.inp (ai / 32)).pcm
      each (fun k => match smGet x (32 * k + ai % 32) 0 with
        | 0 => none
        | v + 1 => some (toInt 24 v))

/-! ### Mesh audio Baskets (R277, R278, Tables 8.2 and 8.3) -/

/-- A channel-block record: AI, PRESENT, 16 samples, 0 where absent. -/
def blockRecord (ai : Nat) (b : Block) : Bytes :=
  beBytes 2 ai ++ beBytes 2 b.present ++
    (List.range 16).flatMap (fun i => beBytes 3 (if bitOf b.present i then ofInt 24 (b.samples.getD i 0) else 0))

/-- The record that 52 bytes spell. -/
def recordBlock (r : Bytes) : Nat × Block :=
  let samples := (List.range 16).map (fun i => toInt 24 (beNat ((r.drop (4 + 3 * i)).take 3)))
  (beNat (r.take 2), { present := beNat ((r.drop 2).take 2), samples })

/-- The mesh audio Basket of block `n` with up to four records. -/
def meshAudio (n : Nat) (rs : List (Nat × Block)) : Basket :=
  let body := beBytes 8 n ++ rs.flatMap (fun r => blockRecord r.1 r.2)
  { type := tyInternal, valid := true, seq := n % 256, count := rs.length, time := timeField (blockTime n),
    payload := body ++ List.replicate (256 - body.length) 0 }

/-- The block number and the records of a mesh audio Basket. -/
def meshRecords (b : Basket) : Nat × List (Nat × Block) :=
  (beNat (b.payload.take 8), (List.range b.count).map (fun i => recordBlock ((b.payload.drop (8 + 52 * i)).take 52)))

/-- Where AO `a` is aligned: the group node of its port or TDM port, or 16, the mixer's audio links. -/
def aoNode (a : Nat) : Nat := if a < 32768 then a / 2048 else if a < 33280 then (a - 32768) / 32 else 16

/-! ### The aligner (R280, R285 to R289) -/

/-- The entries of a history, newest first, down to the one in force at `c`. -/
def keepSince {α : Type} (from_ : α → Nat) (c : Nat) : List α → List α
  | [] => []
  | e :: r => if from_ e ≤ c then [e] else e :: keepSince from_ c r

/-- The source of block `n`, and the source before it where `n` is a crossfade block (R286). -/
def AoX.srcAt (x : AoX) (n : Nat) : Nat × Option Nat :=
  match x.srcs.dropWhile (fun e => decide (n < e.1)) with
  | [] => (aiSilence, none)
  | e :: r => (e.2, if e.1 = n then some (match r with | o :: _ => o.2 | [] => aiSilence) else none)

def AoX.sources (x : AoX) (n : Nat) : List Nat :=
  match x.srcAt n with
  | (s, some o) => [s, o]
  | (s, none) => [s]

/-- The delay of delayed block `m`: its entry, and the entry before it where `m` is a crossfade block (R289). -/
def AoX.delayAt (x : AoX) (m : Nat) : (Nat × Int) × Option (Nat × Int) :=
  match x.delays.dropWhile (fun e => decide (m < e.1)) with
  | [] => ((0, 0), none)
  | e :: r => (e.2, if e.1 = m then some (match r with | o :: _ => o.2 | [] => (0, 0)) else none)

/-- The crossfade of R286, at sample `i` of its block. -/
def crossfade (old new : Int) (i : Nat) : Int := (old * (15 - (i : Int)) + new * ((i : Int) + 1)).tdiv 16

/-- Sample `k` of a source, as the aligner holds it: 0 where absent. -/
def AoX.held (x : AoX) (ai k : Nat) : Int :=
  if ai = aiSilence then 0 else (smGet x.got (k / 16 * 65536 + ai) {}).samples.getD (k % 16) 0

/-- Source sample `k` of the AO after the shuffle: silence in an absent block (R280, R286). -/
def AoX.source (x : AoX) (k : Nat) : Int :=
  if smGet x.decided (k / 16) 0 = 1 then 0
  else match x.srcAt (k / 16) with
    | (s, none) => x.held s k
    | (s, some o) => crossfade (x.held o k) (x.held s k) (k % 16)

/-- A sample under one delay: 0 before the first sample that the allocation holds. -/
def AoX.under (x : AoX) (dl : Nat × Int) (k : Nat) : Int :=
  if k < dl.1 ∨ ((k : Int) - dl.1 < dl.2) then 0 else x.source (k - dl.1)

/-- Delayed sample `k` of the AO: the consumer presents it at k / 48,000 s + D (R280, R289). -/
def AoX.sample (x : AoX) (k : Nat) : Int :=
  match x.delayAt (k / 16) with
  | (e, none) => x.under e k
  | (e, some o) => crossfade (x.under o k) (x.under e k) (k % 16)

/-- The delay of source block `n`. -/
def AoX.delayOf (x : AoX) (n : Nat) : Nat :=
  match x.delays.find? (fun e => decide (e.1 ≤ (16 * n + e.2.1) / 16)) with
  | some e => e.2.1
  | none => 0

/-- When source block `n` is presented, and its deadline (R280). -/
def Dev.blockPresent (d : Dev) (a n off : Nat) : Nat :=
  blockTime n + (d.ao a).delayOf n * subSec / 48000 + off * subNs
def Dev.blockDeadline (d : Dev) (a n off : Nat) : Nat := d.blockPresent a n off - usMt 50

/-- Forget what no consumer can present any more. -/
def Dev.aoPrune (d : Dev) (a off : Nat) : Dev :=
  let x := d.ao a
  let now := d.now * 3000 / subSec
  let dl := x.delays.foldl (fun m e => max m e.2.1) 0
  let cut := now - (dl / 16 + off * 3000 / 1000000000 + 64)
  d.setAo a { x with
    got := x.got.filter (fun e => decide (cut ≤ e.1 / 65536)),
    decided := x.decided.filter (fun e => decide (cut ≤ e.1)),
    srcs := keepSince (·.1) cut x.srcs,
    delays := keepSince (·.1) (now - 64) x.delays }

/-- The subscription of node `g` to AI `ai`: an AO with a consumer there takes it (R19, R279). -/
def Dev.audioSub (d : Dev) (ai g : Nat) : Bool :=
  (smKeys d.aos).any (fun a => aoNode a == g && (d.aoOffset a).isSome && (d.ao a).srcs.any (fun s => s.2 == ai))

/-- A record of block `n` at the aligner of AO `a`: it is a source's, in time, or it is late and discarded (R280). -/
def Dev.alignBlock (d : Dev) (a n off : Nat) (r : Nat × Block) : Dev :=
  let x := d.ao a
  if !(x.sources n).contains r.1 || r.1 == aiSilence then d
  else if d.blockDeadline a n off < d.now ∨ smGet x.decided n 0 ≠ 0 then (d.count Obj.AO_LATE_DROP a).pulse Flt.AO_LATE
  else (d.setAo a { x with got := smSet x.got (n * 65536 + r.1) r.2 {} }).aoPrune a off

/-- AUDIO_BLOCK_ARRIVAL: the mesh audio Basket of block `n` with the channels `ais`, as their sources hold them, comes to the node of AO
`a` and to its aligner (R19, R278, R280). -/
def Dev.audioArrival (d : Dev) (a n : Nat) (ais : List Nat) : Dev :=
  match d.aoOffset a with
  | none => d
  | some off =>
    let g := aoNode a
    let rs := ((ais.take 4).filter (d.audioSub · g)).filterMap (fun ai => (d.aiBlock ai n).map (fun b => (ai, b)))
    if rs = [] then d
    else
      let b := meshAudio n rs
      let (m, recs) := meshRecords b
      recs.foldl (fun d r => d.alignBlock a m off r) { d with audioMesh := smSet d.audioMesh g (some b) none }

/-! ### Edge buffers (R12, R282) -/

/-- The depth of an audio edge buffer (Table 1.2). -/
def edgeDepth : Nat := 4

/-- Block `m` is placed after its decision, once; a fifth discards the oldest, and overflows. -/
def EdgeX.place (x : EdgeX) (m : Nat) : EdgeX × Bool :=
  if x.blocks.contains m ∨ x.taken.any (fun t => decide (m ≤ t)) then (x, false)
  else ({ x with blocks := (x.blocks ++ [m]).drop (x.blocks.length + 1 - edgeDepth) }, decide (edgeDepth ≤ x.blocks.length))

/-- Block `m` is taken: silence in its place where the buffer does not hold it. -/
def EdgeX.take (x : EdgeX) (m : Nat) : EdgeX :=
  if x.taken = some m then x
  else { blocks := x.blocks.filter (fun b => decide (m < b)), taken := some m, silent := !x.blocks.contains m }

/-- Delayed block `m` of AO `a` goes into the edge buffer of its TDM port while that has a clock, or of the direction into the mixer. -/
def Dev.edgePlace (d : Dev) (a m : Nat) : Dev :=
  let p := (a - 32768) / 16
  if a < 32768 ∨ (a < 33280 ∧ [0, 7, 8].contains (d.reg Obj.AP_STATE p)) then d
  else
    let (x, over_) := (if a < 33280 then (d.ap p).edge else d.mix.edge).place m
    let d := if a < 33280 then d.setAp p { d.ap p with edge := x } else { d with mix := { d.mix with edge := x } }
    if over_ then d.pulse Flt.EDGE_AUDIO else d

/-- A source block of `a` has reached the aligner, or needs not (R280, R286). -/
def Dev.blockHere (d : Dev) (a n : Nat) : Bool :=
  let x := d.ao a
  (x.sources n).any (fun s => d.aiSilent s || x.got.any (fun e => e.1 == n * 65536 + s))

/-- A block is decided, with what that counts and AO_STATE (R280, Table 8.15); the delayed block that it completes goes to its edge buffer
(R282). -/
def Dev.decideBlock (d : Dev) (a n : Nat) (present : Bool) : Dev :=
  let x := d.ao a
  let heard := x.heard || present
  let st := if (x.srcAt n).1 = aiSilence then 0 else if present then 1 else if heard then 3 else 2
  let d := (d.setAo a { x with
    decided := smSet x.decided n (if present then 2 else 1) 0, heard, due := x.due.filter (· != n) }).setReg Obj.AO_STATE a st
  let d := if present then d else (d.count Obj.AO_ABSENT a).pulse Flt.AO_ABSENT
  d.edgePlace a ((16 * n + x.delayOf n + 15) / 16)

/-- A presence record's decision on block `n` (R283, R284): `listed` absent; else present, where the block is here. -/
def Dev.followBlock (d : Dev) (a n : Nat) (listed : Bool) : Dev :=
  if listed then d.decideBlock a n false
  else if d.blockHere a n then d.decideBlock a n true
  else ((d.decideBlock a n false).count Obj.AUD_MIRROR_GAP).pulse Flt.AUD_MIRROR

/-- The presence window of a deadline (Table 10.4): 50 µs of Media Time. -/
def audioWindow (t : Nat) : Nat := t / usMt 50 % 2 ^ 32

/-- Blocks of AO `a` that are presented by now without the holder's record: a standby decides them itself, a mirror miss (R284). -/
def Dev.audioSettle (d : Dev) (a : Nat) : Dev :=
  match d.aoOffset a with
  | none => d
  | some off => (d.ao a).due.foldl (fun d n =>
      if d.blockPresent a n off ≤ d.now then ((d.decideBlock a n (d.blockHere a n)).mirrorMiss Obj.AUD_MIRROR_MISS).pulse Flt.AUD_MIRROR
      else d) d

/-- AUDIO_BLOCK_DEADLINE: the consumer of AO `a` decides block `n` (R280, R283, R284). -/
def Dev.audioDeadline (d : Dev) (a n : Nat) : Dev :=
  match d.aoOffset a with
  | none => d
  | some off =>
    if smGet (d.ao a).decided n 0 ≠ 0 ∨ d.now < d.blockDeadline a n off then d
    else if d.follows then
      match d.tw.winA.find? (fun w => w.1 == audioWindow (d.blockDeadline a n off) && w.2.1) with
      | some w => d.followBlock a n (w.2.2.contains (a, n % 65536))
      | none => Dev.audioSettle (d.setAo a { d.ao a with due := n :: (d.ao a).due.filter (· != n) }) a
    else
      let here := d.blockHere a n
      let d := (d.decideBlock a n here).aoPrune a off
      if d.acts && d.hotPeer && !here then { d with tw := { d.tw with presA := d.tw.presA ++ [(a, n % 65536)] } } else d

/-- AUDIO_PRESENCE at a standby: the record covers its window, and decides the blocks that wait for it (R283). -/
def Dev.audioPresence (d : Dev) (window : Nat) (final : Bool) (entries : List (Nat × Nat)) : Dev :=
  let old := match d.tw.winA.find? (fun w => w.1 == window) with | some w => w.2.2 | none => []
  let es := old ++ entries
  let d := { d with tw := { d.tw with
    winA := ((window, final, es) :: d.tw.winA.filter (fun w => w.1 != window)).take 256 } }
  if !d.follows || !final then d
  else
    (smKeys d.aos).foldl (fun d a =>
      match d.aoOffset a with
      | none => d
      | some off => (d.ao a).due.foldl (fun d n =>
          if audioWindow (d.blockDeadline a n off) = window then d.followBlock a n (es.contains (a, n % 65536)) else d) d) d

/-! ### Settings (R285 to R289) -/

/-- SHUF_SRC at its E: from the block with the first stamp at or after E (R286). -/
def Dev.shufSet (d : Dev) (a src e : Nat) : Dev :=
  let x := d.ao a
  let n := blockAtOrAfter e
  let d := d.setReg Obj.SHUF_SRC a src
  if (match x.srcs with | s :: _ => s.2 | [] => aiSilence) = src then d
  else d.setAo a { x with srcs := (n, src) :: x.srcs.filter (fun s => s.1 != n), heard := false }

/-- AO_DELAY at its E: from the delayed block with the first stamp at or after E (R289). -/
def Dev.aoDelaySet (d : Dev) (a v e : Nat) : Dev :=
  let x := d.ao a
  let m := blockAtOrAfter e
  let (old, floor) := match x.delays with | s :: _ => s.2 | [] => (0, 0)
  let d := d.setReg Obj.AO_DELAY a v
  if old = v then d
  else d.setAo a { x with
    delays := (m, v, if old < v then max floor ((16 * m : Nat) - (old : Int)) else floor) ::
      x.delays.filter (fun s => s.1 != m) }

/-- Bytes of the audio delay region that a delay takes (R287). -/
def delayBytes (v : Nat) : Nat := (4 * v + 65535) / 65536 * 65536
def Dev.delayUsed (d : Dev) : Nat :=
  d.regs.foldl (fun n kv => if kv.1 / 65536 = Obj.AO_DELAY then n + delayBytes kv.2 else n) 0
def Dev.aoDelayStatus (d : Dev) (a v : Nat) : Nat :=
  if d.reg Obj.AUD_DELAY_MEM_REGION < d.delayUsed - delayBytes (d.reg Obj.AO_DELAY a) + delayBytes v then stNoCapacity else stOk

/-- AO_STATE as it reads (Table 8.15). -/
def Dev.aoState (d : Dev) (a : Nat) : Nat := if (d.aoOffset a).isNone then 4 else d.reg Obj.AO_STATE a

end Sys2Proof.Machine
end

