-- ==== Sys2Proof/Machine/Fm.lean ====
section
/-! DEFINITION. The frame memory: its address map, requests and classes, pages, refresh, row hammer, errors and poison, scrub,
training and the retirement of a pseudo-channel ("Frame memory", R311 to R339). -/

namespace Sys2Proof.Machine

/-! ### Address map (R312, R313, R316) -/

/-- The parity of a number below 2^16. -/
def parity16 (v : Nat) : Nat := popCount 16 v % 2

/-- DRAM coordinates of a unit. -/
structure Coord where
  pc : Nat
  sid : Nat
  bank : Nat
  row : Nat
  col : Nat
deriving DecidableEq, Repr

/-- Bit k of a hashed number: the raw bit, XOR the parity of ROW under mask `m k` (R313). -/
def hashBits (w raw row : Nat) (m : Nat → Nat) : Nat :=
  (List.range w).foldl (fun v k => v + (raw / 2 ^ k + parity16 (row &&& m k)) % 2 * 2 ^ k) 0

/-- The coordinates of an offset under masks `m` (R312, R313). -/
def coordOf (m : Nat → Nat) (off : Nat) : Coord :=
  let u := off / 2 ^ 20
  let row := u / 3
  { row, sid := u % 3, bank := hashBits 4 (fld off 19 16) row (fun j => m (6 + j)), pc := hashBits 6 (fld off 15 10) row m,
    col := fld off 9 5 }

/-- The map closed over a retired pseudo-channel `x` (R316); rows from 16,128 up move nowhere. -/
def closeOver (x : Nat) (c : Coord) : Coord :=
  if c.pc = x ∧ c.row < 16128 then
    let n := c.row % 63
    { c with pc := if n < x then n else n + 1, row := 16128 + c.row / 63 }
  else c

/-- The offset is in the reserve (R314). -/
def inReserve (off : Nat) : Bool := decide (0xBD0000000 ≤ off)

/-- The row that a retirement's copy has reached. DESIGN CHOICE (log 124): its rows take 3.72 µs each, so that it ends within the 60 ms of
R317. -/
def Dev.copyRow (d : Dev) : Nat := (d.clock - d.fm.copyAt) / 3720

/-- The coordinates where a unit lies now: behind a copy's pointer, in its new place (R316, R317). -/
def Dev.fmCoord (d : Dev) (off : Nat) : Coord :=
  let c := coordOf (fun k => d.reg Obj.FM_HASH_LIVE k) off
  if d.reg Obj.FM_RETIRED_PC < 64 then closeOver (d.reg Obj.FM_RETIRED_PC) c
  else if d.fm.copying ≠ 0 ∧ c.row < d.copyRow then closeOver (d.fm.copying - 1) c
  else c

/-- The region of a class (Table 9.4): first offset and size. -/
def classRegion (cls : Nat) : Nat × Nat :=
  match cls with
  | 0 => (0, 0x800000000)
  | 1 => (0x800000000, 0x200000000)
  | 2 => (0xA00000000, 0x140000000)
  | 3 => (0xB40000000, 0x80000000)
  | _ => (0, 0xC00000000)

/-- A request lies in one granule and in its class's region (R314, R320). -/
def fmInRegion (q : FmReq) : Bool :=
  let (b, n) := classRegion q.cls.val
  decide (b ≤ q.offset.toNat) && decide (q.offset.toNat + q.len ≤ b + n)

def Dev.bank (d : Dev) (k : Nat) : BankX := smGet d.fm.banks k {}
def Dev.setBank (d : Dev) (k : Nat) (x : BankX) : Dev := { d with fm := { d.fm with banks := smSet d.fm.banks k x {} } }
def Dev.modFm (d : Dev) (f : FmX → FmX) : Dev := { d with fm := f d.fm }
def Coord.bankKey (c : Coord) : Nat := 48 * c.pc + 16 * c.sid + c.bank

def pcChan (pc : Nat) : Channel := .pc (Fin.ofNat 64 pc)

/-! ### States -/

def pcOff : Nat := 0
def pcTraining : Nat := 1
def pcActive : Nat := 2
def pcRetiring : Nat := 3
def pcRetired : Nat := 4
def pcDegraded : Nat := 5

def Dev.pcState (d : Dev) (pc : Nat) : Nat := d.reg Obj.FM_PC_STATE pc

/-- A pseudo-channel answers requests. -/
def Dev.pcServes (d : Dev) (pc : Nat) : Bool :=
  d.pcState pc == pcActive || d.pcState pc == pcRetiring || d.pcState pc == pcDegraded

/-- A pseudo-channel is retired, or retiring. -/
def Dev.fmHasRetired (d : Dev) : Bool := d.reg Obj.FM_RETIRED_PC != 255 || d.fm.copying != 0

/-- A pseudo-channel meets R315: it retires, or reads DEGRADED where one is retired (R317, R318). The reserve's contents are
abandoned. -/
def Dev.fmRetire (d : Dev) (pc : Nat) : Dev :=
  if d.pcState pc = pcRetiring ∨ d.pcState pc = pcRetired then d
  else if d.fmHasRetired then (d.setReg Obj.FM_PC_STATE pc pcDegraded).setLine Flt.FM_SECOND true (some (pcChan pc))
  else
    let d := d.modFm (fun x => { x with
      copying := pc + 1, copyAt := d.clock, cells := x.cells.filter (fun kv => !inReserve (32 * kv.1)),
      poison := x.poison.filter (fun u => !inReserve (32 * u)), retrain := if x.retrain = pc + 1 then 0 else x.retrain })
    (d.setReg Obj.FM_PC_STATE pc pcRetiring).setLine Flt.FM_RETIRED true (some (pcChan pc))

/-- Indexes of the regions of Table 9.4 that hold poisoned units. -/
def Dev.poisonedRegions (d : Dev) : List Nat :=
  let bounds := [0, 0x800000000, 0xA00000000, 0xAE0000000, 0xB40000000, 0xBC0000000, 0xBD0000000, 0xC00000000]
  (List.range 7).filter (fun k => (d.fm.gone != 0 && k != 6) || d.fm.poison.any (fun u =>
    decide (bounds.getD k 0 ≤ 32 * u) && decide (32 * u < bounds.getD (k + 1) 0)))

/-! ### Pages and activations (R323, R328, R329) -/

/-- An activation count of a row in a bank's table of 96 (R328). -/
def countAct (t : SMap (List Nat)) (row : Nat) : SMap (List Nat) :=
  match smGet t row [] with
  | n :: r => smSet t row ((n + 1) :: r) []
  | [] =>
    if t.length < 96 then smSet t row [1] []
    else
      let sum := fun (kv : Nat × List Nat) => kv.2.foldl (· + ·) 0
      match t with
      | [] => smSet t row [1] []
      | e :: r =>
        let m := r.foldl (fun m kv => if sum kv < sum m then kv else m) e
        smSet (smSet t m.1 [] []) row [sum m + 1] []

/-- The end of the throttle that an activation now starts: 8 ms from the end of the current sub-window. -/
def Dev.throttleEnd (d : Dev) : Nat :=
  let left := (msMt 1 - d.now % msMt 1) / subNs
  d.clock + left + 8000000

/-- A row is activated for requester (`cls`, `inst`); the background class is no requester that a throttle holds (R329). -/
def Dev.activate (d : Dev) (c : Coord) (cls inst : Nat) : Dev :=
  let k := c.bankKey
  let x := d.bank k
  let pred := if x.last = c.row + 1 then x.pred - 1 else min 3 (x.pred + 1)
  let acts := countAct x.acts c.row
  let n := (smGet acts c.row []).foldl (· + ·) 0
  let hit := decide (d.reg Obj.FM_RH_THRESHOLD ≤ n)
  let d := d.setBank k { x with
    open_ := c.row + 1, last := c.row + 1, pred, usedAt := d.clock, acts := if hit then smSet acts c.row [] [] else acts }
  let d := d.modFm (fun x => { x with throttles := x.throttles.map (fun t =>
    if t.cls = cls ∧ t.inst = inst ∧ t.bank = k ∧ t.row = c.row then ({ t with lastAct := d.clock } : ThrottleX) else t) })
  if !hit then d
  else
    let mine : ThrottleX := ⟨cls, inst, k, c.row, d.throttleEnd, d.clock⟩
    let rest := d.fm.throttles.filter (fun t => !(t.cls == cls && t.inst == inst && t.bank == k && t.row == c.row))
    let d := if cls < 5 then d.modFm (fun x => { x with throttles := mine :: rest }) else d
    let last := c.pc * 2 ^ 58 + c.sid * 2 ^ 56 + c.bank * 2 ^ 52 + c.row * 2 ^ 38 + cls * 2 ^ 35 + inst % 65536 * 2 ^ 19
    (((d.count Obj.FM_RH_EVENTS c.pc).setReg Obj.FM_RH_LAST 0 last).pulse Flt.FM_ROW_HAMMER (some (pcChan c.pc)))

/-- A requester is held off a row: throttled, the row closed, and within FM_RH_GAP of its last activation (R329). -/
def Dev.rowHeld (d : Dev) (c : Coord) (cls inst : Nat) : Bool :=
  (d.bank c.bankKey).open_ != c.row + 1 &&
  d.fm.throttles.any (fun t => t.cls == cls && t.inst == inst && t.bank == c.bankKey && t.row == c.row &&
    decide (d.clock < t.endAt) && decide (d.clock < t.lastAct + d.reg Obj.FM_RH_GAP))

/-- The bank of a request, and a row of it that is open (R321). -/
def Dev.fmBank (d : Dev) (q : FmReq) : Nat := (d.fmCoord q.offset.toNat).bankKey
def Dev.rowHit (d : Dev) (q : FmReq) : Bool := (d.bank (d.fmBank q)).open_ == (d.fmCoord q.offset.toNat).row + 1

/-- The requests queued in pseudo-channel `pc`: reads, or writes. -/
def Dev.fmQueue (d : Dev) (pc : Nat) (write : Bool) : List FmQ := smGet d.fm.queues (2 * pc + boolNat write) []
def Dev.setFmQueue (d : Dev) (pc : Nat) (write : Bool) (l : List FmQ) : Dev :=
  d.modFm (fun x => { x with queues := smSet x.queues (2 * pc + boolNat write) l [] })

/-- A queued request targets bank `k`; one hits its open row. -/
def Dev.bankTargeted (d : Dev) (k : Nat) : Bool :=
  (d.fmQueue (k / 48) false ++ d.fmQueue (k / 48) true).any (fun e => d.fmBank e.req == k)
def Dev.bankHit (d : Dev) (k : Nat) : Bool :=
  (d.fmQueue (k / 48) false ++ d.fmQueue (k / 48) true).any (fun e => d.fmBank e.req == k && d.rowHit e.req)

/-- After an access the row stays open if another queued request hits it; else auto-precharge when the predictor reads 2 or 3 (R323). -/
def Dev.closePage (d : Dev) (k : Nat) : Dev :=
  let x := d.bank k
  d.setBank k { x with usedAt := d.clock, open_ := if !d.bankHit k && decide (2 ≤ x.pred) then 0 else x.open_ }

/-! ### Classes (R319, R320) -/

/-- What is left unfilled of a class's bucket, in thousandths of a bit: it fills at the budget and holds 2 µs of it. -/
def Dev.bucketSpent (d : Dev) (cls : Nat) : Nat :=
  let (n, t) := smGet d.fm.spent cls (0, 0)
  n - (d.clock - t) * d.reg Obj.FM_CLASS_BUDGET cls

/-- Class `c` finds its tokens for `len` bytes: the bucket with them taken; none otherwise. -/
def Dev.takeTokens (d : Dev) (c len : Nat) : Option Dev :=
  let n := d.bucketSpent c + 8000 * len
  if n ≤ 2000 * d.reg Obj.FM_CLASS_BUDGET c then
    some (d.modFm (fun x => { x with spent := smSet x.spent c (n, d.clock) (0, 0) }))
  else none

/-! ### Units, errors and poison (R330 to R332) -/

def Dev.fmUnit (d : Dev) (u : Nat) : Bytes :=
  match smGet d.fm.cells u 0 with
  | 0 => (List.range 32).map (fun i => Config.memByte (32 * u + i))
  | v + 1 => beBytes 32 v

def Dev.setFmUnit (d : Dev) (u : Nat) (b : Bytes) : Dev :=
  d.modFm (fun x => { x with cells := smSet x.cells u (beNat b + 1) 0 })

/-- Unit `u` is poisoned: on its own, or with every unit of a pseudo-channel that answered no more (R317, R332). -/
def Dev.fmPoisoned (d : Dev) (u : Nat) : Bool :=
  d.fm.poison.contains u ||
  (d.fm.gone != 0 && (let c := coordOf (fun k => d.reg Obj.FM_HASH_LIVE k) (32 * u)
    c.pc + 1 == d.fm.gone && decide (c.row < 16128)) && !d.fm.rewritten.contains u)

/-- A unit has an uncorrectable error: it is poisoned and counted; FM_UE_LIMIT in an hour retires its pseudo-channel (R315,
R332). -/
def Dev.poisonUnit (d : Dev) (u : Nat) : Dev :=
  let pc := (d.fmCoord (32 * u)).pc
  let d := d.modFm (fun x => { x with poison := if x.poison.contains u then x.poison else x.poison ++ [u] })
  let d := (d.count Obj.FM_UE pc).pulse (Flt.FM_UE + pc / 8) (some (pcChan pc))
  let ts := (d.clock :: smGet d.fm.ueTimes pc []).filter (fun t => decide (d.clock < t + 3600000000000))
  let d := d.modFm (fun x => { x with ueTimes := smSet x.ueTimes pc ts [] })
  if d.reg Obj.FM_UE_LIMIT ≤ ts.length then (d.setLine Flt.FM_UE_LIMIT true (some (pcChan pc))).fmRetire pc else d

/-- A unit is corrected: delivered so, counted, and written back (R331). -/
def Dev.correctUnit (d : Dev) (u : Nat) : Dev :=
  let pc := (d.fmCoord (32 * u)).pc
  ((d.modFm (fun x => { x with writeback := if x.writeback.contains u then x.writeback else x.writeback ++ [u] })).count
    Obj.FM_CE pc).pulse Flt.FM_CE (some (pcChan pc))

/-- What a read's check bytes showed, on the first unit of the request. -/
def Dev.eccSeen (d : Dev) (u odecc : Nat) (o : EccOutcome) : Dev :=
  let pc := (d.fmCoord (32 * u)).pc
  let d := if odecc = 0 then d else (d.count Obj.FM_ODECC pc odecc).pulse Flt.FM_ODECC (some (pcChan pc))
  if d.fmPoisoned u then d
  else match o with
    | .clean => d
    | .corrected => d.correctUnit u
    | .uncorrectable => d.poisonUnit u

/-- Units that a request touches. -/
def fmUnits (q : FmReq) : List Nat :=
  let a := q.offset.toNat
  if q.len = 0 then [] else (List.range ((a + q.len - 1) / 32 - a / 32 + 1)).map (fun i => a / 32 + i)

/-- A write covers unit `u` whole. -/
def fmCovers (q : FmReq) (u : Nat) : Bool :=
  decide (q.offset.toNat ≤ 32 * u) && decide (32 * u + 32 ≤ q.offset.toNat + q.len)

/-- Write one unit: whole, or merged into what it holds; poison clears when the whole unit is written (R320, R332). -/
def Dev.writeUnit (d : Dev) (q : FmReq) (u : Nat) : Dev :=
  let old := d.fmUnit u
  let a := q.offset.toNat
  let new := (List.range 32).map (fun i =>
    let x := 32 * u + i
    if a ≤ x ∧ x < a + q.len then q.data.getD (x - a) 0 else old.getD i 0)
  if fmCovers q u then (d.setFmUnit u new).modFm (fun x => { x with
      poison := x.poison.filter (· != u), rewritten := if x.gone = 0 ∨ x.rewritten.contains u then x.rewritten else x.rewritten ++ [u] })
  else if d.fmPoisoned u then d
  else d.setFmUnit u new

/-- The response of a control bus access of master `m`: code and data (Table 15.4); BUS_ERRORS counts those other than OK. -/
def Dev.busAnswer (d : Dev) (m resp : Nat) (data : Bytes) : Dev :=
  let d := if resp = 0 then d else d.count Obj.BUS_ERRORS m
  { d with bus := { d.bus with resp, data } }

/-- The RD or WR command of a request: data, check bytes, poison, and the answer to the control bus; then its page. `fwd` holds the units of a
read that a queued write gave (R322, R330 to R332). A control bus write that ends in DATA changes nothing (R513). -/
def Dev.fmTransfer (d : Dev) (q : FmReq) (fwd : SMap Bytes) : Dev :=
  let k := d.fmBank q
  let pc := k / 48
  let cls := q.cls.val
  let bus := decide (4 ≤ cls)
  let us := fmUnits q
  let d := d.modFm (fun x => { x with served := smSet x.served cls (smGet x.served cls 0 + q.len) 0 })
  let rmw := q.write && us.any (fun u => !(fmCovers q u))
  let d := if q.write && !rmw then d else match us.filter (fun u => smGet fwd u [] == []) with
    | u :: _ => d.eccSeen u q.odecc q.ecc
    | [] => d
  let d := if q.write then
      let bad := us.any (fun u => !(fmCovers q u) && d.fmPoisoned u)
      let d := if bad && bus then d else us.foldl (fun d u => d.writeUnit q u) d
      if bus then d.busAnswer q.inst (if bad then 3 else 0) [] else d
    else
      let bad := (us.filter (fun u => smGet fwd u [] == [] && d.fmPoisoned u)).length
      let d := if bad = 0 then d else (d.count Obj.FM_POISON_READ pc bad).pulse Flt.FM_POISON_READ (some (pcChan pc))
      let d := if bad ≠ 0 ∧ cls = 3 then d.pulse Flt.AUD_DELAY_POISON else d
      let d := if bad ≠ 0 ∧ cls = 2 ∧ q.offset.toNat < 0xAE0000000 then d.pulse Flt.STILL_POISON else d
      let bytes := us.flatMap (fun u => match smGet fwd u [] with | [] => d.fmUnit u | b => b)
      let data := (bytes.drop (q.offset.toNat % 32)).take q.len
      if bus then (if bad = 0 then d.busAnswer q.inst 0 data else d.busAnswer q.inst 3 (List.replicate q.len 0)) else d
  d.closePage k

/-! ### The queues (R12, R320 to R322) -/

/-- The priority of a class (Table 9.5), and the depth of the queues and of a class's request buffer. -/
def classPriority (cls : Nat) : Nat := [2, 1, 3, 0, 4, 5].getD cls 5
def fmDepth : Nat := 64

/-- Two requests share a unit. -/
def fmShare (a b : FmReq) : Bool := (fmUnits a).any (fun u => (fmUnits b).contains u)

/-- A write that covers a unit only in part: a read, a merge and a write (R320). -/
def fmPartial (q : FmReq) : Bool := q.write && (fmUnits q).any (fun u => !(fmCovers q u))

/-- The bytes that write `q` gives unit `u`, which it covers. -/
def fmGiven (q : FmReq) (u : Nat) : Bytes := (q.data.drop (32 * u - q.offset.toNat)).take 32

/-- The units of read `q` that the newest queued writes hold (R322). -/
def fmForward (writes : List FmQ) (q : FmReq) : SMap Bytes :=
  (fmUnits q).foldl (fun m u =>
    match writes.reverse.find? (fun w => (fmUnits w.req).contains u) with
    | some w => if fmCovers w.req u then smSet m u (fmGiven w.req u) [] else m
    | none => m) []

/-- A request enters its pseudo-channel's queue, with its tokens taken or over budget; none where it waits: a pseudo-channel that does not
answer, a full queue, class 5 without tokens. A read that queued writes give whole completes without a command (R320, R322). -/
def Dev.fmAdmit (d : Dev) (q : FmReq) : Option Dev :=
  let pc := (d.fmCoord q.offset.toNat).pc
  let enter (d : Dev) (inBudget : Bool) : Dev :=
    let fwd := if q.write then [] else fmForward (d.fmQueue pc true) q
    if !q.write && (fmUnits q).all (fun u => smGet fwd u [] != []) then d.fmTransfer q fwd
    else
      (d.setFmQueue pc q.write (d.fmQueue pc q.write ++ [⟨q, d.fm.accepted, d.clock, inBudget, fwd⟩])).modFm (fun x => { x with
        accepted := x.accepted + 1 })
  if !d.pcServes pc ∨ fmDepth ≤ (d.fmQueue pc q.write).length then none
  else match d.takeTokens q.cls.val q.len with
    | some d => some (enter d true)
    | none =>
      if q.cls.val = 5 then none else some (enter ((d.count Obj.FM_CLASS_OVER q.cls.val).pulse Flt.FM_CLASS_OVER) false)

/-- Requests go from their requesters into the request buffers while these have room: the rest is held (R12). -/
def Dev.fmFill (d : Dev) : Dev :=
  let (buffer, held) := d.fm.held.foldl (fun (r : List FmReq × List FmReq) q =>
    if (r.1.filter (fun b => b.cls == q.cls)).length < fmDepth then (r.1 ++ [q], r.2) else (r.1, r.2 ++ [q])) (d.fm.buffer, [])
  d.modFm (fun x => { x with buffer, held })

/-- Requests go from the request buffers into the queues that can take them. -/
def Dev.fmSettle (d : Dev) : Dev :=
  let d := d.fmFill
  let qs := d.fm.buffer
  (qs.foldl (fun d q => match d.fmAdmit q with
    | some e => e
    | none => d.modFm (fun x => { x with buffer := x.buffer ++ [q] })) (d.modFm (fun x => { x with buffer := [] }))).fmFill

/-! ### Scheduling (R321, R322) -/

/-- DRAM timing and a throttle allow a command for request `q` now: its bank is not among `busy` (R321, R329). -/
def Dev.fmFree (d : Dev) (busy : List Nat) (q : FmReq) : Bool :=
  !busy.contains (d.fmBank q) && (d.rowHit q || !d.rowHeld (d.fmCoord q.offset.toNat) q.cls.val q.inst)

/-- Before queued request `e` goes what shares a unit with it and is older: for a write, older writes and reads; for a read, an older write
that covers a unit in part (R320, R322). -/
def fmBefore (reads writes : List FmQ) (e : FmQ) : List FmQ :=
  (if e.req.write then reads ++ writes else writes.filter (fun w => fmPartial w.req)).filter (fun o =>
    decide (o.no < e.no) && fmShare o.req e.req)

/-- The order of choice: waiting longest past FM_AGE_LIMIT; in budget; priority; row hit; oldest (R321). -/
def Dev.fmRank (d : Dev) (e : FmQ) : List Nat :=
  if e.at_ + d.reg Obj.FM_AGE_LIMIT < d.clock then [0, e.no]
  else [1, boolNat !e.inBudget, classPriority e.req.cls.val, boolNat !(d.rowHit e.req), e.no]

/-- One list of numbers comes before another. -/
def rankLt : List Nat → List Nat → Bool
  | a :: r, b :: s => decide (a < b) || (a == b && rankLt r s)
  | _, _ => false

/-- The mode of a pseudo-channel at a controller clock (R321). -/
def Dev.fmMode (d : Dev) (pc : Nat) : Nat :=
  let n := (d.fmQueue pc true).length
  let m := if d.reg Obj.FM_WR_HIGH ≤ n then 1 else smGet d.fm.modes pc 0
  if m = 1 ∧ n ≤ d.reg Obj.FM_WR_LOW then 0 else m

/-- The request for which pseudo-channel `pc` issues a command: the best of its mode's queue; what has to go before it is chosen first. -/
def Dev.fmChoose (d : Dev) (pc mode : Nat) (busy : List Nat) : Option FmQ :=
  let reads := d.fmQueue pc false
  let writes := d.fmQueue pc true
  let first (e : FmQ) : Option FmQ :=
    match fmBefore reads writes e with
    | [] => some e
    | o :: r =>
      let o := r.foldl (fun o p => if p.no < o.no then p else o) o
      if fmBefore reads writes o = [] then some o else none
  let cands := ((if mode = 1 ∨ reads = [] then writes else reads).filterMap first).filter (fun e => d.fmFree busy e.req)
  cands.foldl (fun (b : Option FmQ) e => match b with
    | some x => if rankLt (d.fmRank e) (d.fmRank x) then some e else b
    | none => some e) none

/-- The next command of a chosen request: PRE where another row is open, ACT where none is, RD or WR where its own is. -/
def Dev.fmIssue (d : Dev) (pc : Nat) (e : FmQ) : Dev :=
  let k := d.fmBank e.req
  if d.rowHit e.req then
    (d.setFmQueue pc e.req.write ((d.fmQueue pc e.req.write).filter (fun x => x.no != e.no))).fmTransfer e.req e.fwd
  else if (d.bank k).open_ = 0 then d.activate (d.fmCoord e.req.offset.toNat) e.req.cls.val e.req.inst
  else d.setBank k { d.bank k with open_ := 0 }

def Dev.fmHot (d : Dev) (pc : Nat) : Bool := d.flag Obj.FM_HOT (pc / 32)

/-- Banks that owe a refresh and that no queued request targets are refreshed, while their stack is not hot (R325). -/
def Dev.fmRefreshFree (d : Dev) : Dev :=
  (d.fm.banks.filter (fun kv => kv.2.debt != 0 && d.pcServes (kv.1 / 48) && !d.fmHot (kv.1 / 48) && !d.bankTargeted kv.1)).foldl
    (fun d kv => d.setBank kv.1 { kv.2 with debt := 0, open_ := 0 }) d

/-- A controller clock of pseudo-channel `pc`. -/
def Dev.fmClock (d : Dev) (busy : List Nat) (pc : Nat) : Dev :=
  if d.fmQueue pc false = [] ∧ d.fmQueue pc true = [] then d
  else
    let m := d.fmMode pc
    let d := d.modFm (fun x => { x with modes := smSet x.modes pc m 0 })
    match d.fmChoose pc m busy with
    | some e => d.fmIssue pc e
    | none => d

/-- Controller clocks pass: at each, every pseudo-channel chooses a command; `busy` are the banks that DRAM timing allows none. -/
def Dev.fmRun (d : Dev) : List (List Nat) → Dev
  | [] => d
  | busy :: r =>
    if d.fm.queues = [] then d
    else (((d.fm.queues.map (fun kv => kv.1 / 2)).eraseDups.foldl (fun d pc => d.fmClock busy pc) d).fmSettle).fmRefreshFree.fmRun r

/-- A request comes to the controller: refused, or into its class's buffer and queue (R12, R314, R319, R320). -/
def Dev.fmRequest (d : Dev) (q : FmReq) : Dev :=
  if q.cls.val < 4 ∧ !(fmInRegion q) then d.pulse Flt.FM_REGION
  else if 4 ≤ q.cls.val ∧ inReserve q.offset.toNat ∧ q.inst ≠ 7 then d.busAnswer q.inst 2 (List.replicate q.len 0)
  else if 0xC00000000 < q.offset.toNat + q.len then d.busAnswer q.inst 1 (List.replicate q.len 0)
  else (d.modFm (fun x => { x with held := x.held ++ [q] })).fmSettle

/-- Controller clocks without a busy bank: enough for full queues, which need three commands a request. -/
def freeClocks (n : Nat) : List (List Nat) := List.replicate n []

/-- `len` bytes of class 5 are served, where the class has tokens; else they wait (R320). -/
def Dev.fmBackground (d : Dev) (len : Nat) (f : Dev → Dev) : Dev :=
  match d.takeTokens 5 len with
  | some d => f (d.modFm (fun x => { x with served := smSet x.served 5 (smGet x.served 5 0 + len) 0 }))
  | none => d

/-- FM_CE_WRITEBACK: a corrected unit is written back through class 5 (R331). -/
def Dev.fmWriteback (d : Dev) (u : Nat) : Dev :=
  if d.fm.writeback.contains u then
    d.fmBackground 32 (fun d => d.modFm (fun x => { x with writeback := x.writeback.filter (· != u) }))
  else d

/-- FM_RETIRE_COPY_DONE: the copy has reached the last row. What it could not read is an open value (Config.copyRead). Units that read with an uncorrectable error, and every unit of a pseudo-channel
that answered no more, are poisoned in their new place (R316, R317). -/
def Dev.fmCopyDone (d : Dev) : Dev :=
  if d.fm.copying = 0 then d
  else
    let pc := d.fm.copying - 1
    let (answers, bad) := Config.copyRead d.freeN
    let d := { d with freeN := d.freeN + 1 }
    let d := d.modFm (fun x => { x with
      copying := 0, gone := if answers then x.gone else pc + 1, rewritten := if answers then x.rewritten else [],
      poison := x.poison ++ bad.filter (fun u => (coordOf (fun k => d.reg Obj.FM_HASH_LIVE k) (32 * u)).pc == pc && !x.poison.contains u) })
    let d := (((d.setReg Obj.FM_PC_STATE pc pcRetired).setReg Obj.FM_RETIRED_PC 0 pc).setReg Obj.FM_CAPACITY 0
      50734301184).setReg Obj.FM_PEAK 0 12902400
    let d := d.setReg Obj.FM_CLASS_BUDGET 5 258048
    let d := { d with nv := { d.nv with fmRetired := pc } }
    d.event 0x4141 (refOf Obj.FM_PC_STATE pc) (d.poisonedRegions.map (BitVec.ofNat 8))

/-! ### Refresh (R324 to R327) -/

/-- tREFI, ns (Table 9.1, R326). -/
def Dev.fmRefi (d : Dev) (pc : Nat) : Nat := if d.fmHot pc then 1950 else 3900

/-- FM_REFRESH_TICK: a bank's tREFI tick has come: it owes one more refresh, forced beyond the allowed postponement, and paid where no
queued request targets the bank (R324, R325). -/
def Dev.refreshTick (d : Dev) (pc bank : Nat) : Dev :=
  if !d.pcServes pc then d
  else
    let k := 48 * pc + bank
    let d := d.passTo (d.bank k).tickAt
    let x := d.bank k
    let x := { x with debt := x.debt + 1, tickAt := (if x.tickAt = 0 then d.clock else x.tickAt) + d.fmRefi pc }
    let d := if d.reg Obj.FM_REF_DEBT_MAX pc < x.debt then d.setReg Obj.FM_REF_DEBT_MAX pc (min 9 x.debt) else d
    let allowed := if d.fmHot pc then 0 else d.reg Obj.FM_REF_POSTPONE
    let d := if allowed < x.debt then (d.count Obj.FM_REF_FORCED pc).setBank k { x with debt := x.debt - 1, open_ := 0 }
      else (d.setBank k x).fmRefreshFree
    if 9 < (d.bank k).debt then d.setLine Flt.FM_REFRESH true else d

/-- Every bank of a stack pays its debt back at once, and its ticks count from here (R326). -/
def Dev.payback (d : Dev) (st : Nat) : Dev :=
  (d.fm.banks.filter (fun kv => kv.1 / 48 / 32 == st)).foldl (fun d kv =>
    let x : BankX := { kv.2 with debt := 0, open_ := if kv.2.debt = 0 then kv.2.open_ else 0, tickAt := d.clock + 1950 }
    (if kv.2.debt = 0 then d else d.count Obj.FM_REF_FORCED (kv.1 / 48) kv.2.debt).setBank kv.1 x) d

/-- FM_TEMP_SAMPLE: a stack's temperature; none is an unreadable sample, which counts as above 85 °C. -/
def Dev.fmTemp (d : Dev) (st : Nat) (temp : Option Int) : Dev :=
  let d := match temp with | some t => d.setSreg 8 Obj.FM_TEMP st t | none => d
  let above := match temp with | some t => decide (85 < t) | none => true
  let cool := match temp with | some t => decide (t ≤ 82) | none => false
  let d := match temp with
    | some t => d.setLine (Flt.HBM_OVERTEMP + st) (decide (100 ≤ t))
    | none => d
  if d.flag Obj.FM_HOT st then (if cool then (d.setReg Obj.FM_HOT st 0).setLine (Flt.HBM_HOT + st) false else d)
  else if above then
    (((d.setReg Obj.FM_HOT st 1).count Obj.FM_HOT_ENTRIES st).setLine (Flt.HBM_HOT + st) true).payback st
  else d

/-! ### Row hammer windows, idle pages (R323, R328, R329) -/

/-- FM_RH_SUBWINDOW: a 1 ms sub-window ends; counts keep the latest eight. -/
def Dev.rhSubwindow (d : Dev) : Dev :=
  (d.fm.banks.filter (fun kv => kv.2.acts != [])).foldl (fun d kv =>
    let acts := (kv.2.acts.map (fun e => (e.1, (0 :: e.2).take 8))).filter (fun e => e.2.any (· != 0))
    d.setBank kv.1 { kv.2 with acts }) d

/-- FM_RH_THROTTLE_END: throttles of a requester that have run out. -/
def Dev.throttleOver (d : Dev) (cls inst : Nat) : Dev :=
  (d.modFm (fun x => { x with throttles := x.throttles.filter (fun t =>
    !(t.cls == cls && t.inst == inst && decide (t.endAt ≤ d.clock))) })).fmSettle

/-- FM_PAGE_IDLE_CLOSE: an open row has seen no access for FM_PAGE_IDLE; 0 is never. -/
def Dev.pageIdle (d : Dev) (pc bank : Nat) : Dev :=
  let k := 48 * pc + bank
  let x := d.bank k
  if d.reg Obj.FM_PAGE_IDLE = 0 ∨ x.open_ = 0 then d
  else (d.passTo (x.usedAt + d.reg Obj.FM_PAGE_IDLE)).setBank k { x with open_ := 0 }

/-! ### Scrub (R333) -/

/-- FM_SCRUB: the Rambler reads the unit at FM_SCRUB_POS, through class 5 (Table 9.5). -/
def Dev.fmScrub (d : Dev) (o : EccOutcome) : Dev := d.fmBackground 32 fun d =>
  let off := d.reg Obj.FM_SCRUB_POS
  let d := if d.pcServes (d.fmCoord off).pc then d.eccSeen (off / 32) 0 o else d
  if off + 32 < 51539607552 then d.setReg Obj.FM_SCRUB_POS 0 (off + 32)
  else ((d.setReg Obj.FM_SCRUB_POS 0 0).count Obj.FM_SCRUB_PASSES).modFm (fun x => { x with passAt := d.clock })

/-! ### Training (R334 to R336) -/

/-- HBM training starts at step 6 of Table 14.1: every pseudo-channel but the retired one; the masks take effect (R313,
R318). -/
def Dev.fmStart (d : Dev) : Dev :=
  let x := d.nv.fmRetired
  let d := d.modFm (fun x => { x with passAt := d.clock })
  let d := (List.range 10).foldl (fun d k => d.setReg Obj.FM_HASH_LIVE k (d.reg Obj.FM_HASH_MASK k)) d
  let d := (List.range 64).foldl (fun d pc => d.setReg Obj.FM_PC_STATE pc (if pc = x then pcRetired else pcTraining)) d
  if x < 64 then
    (((d.setReg Obj.FM_RETIRED_PC 0 x).setReg Obj.FM_CAPACITY 0 50734301184).setReg Obj.FM_PEAK 0 12902400).setReg
      Obj.FM_CLASS_BUDGET 5 258048
  else d

/-- FM_TRAINING_STEP_DONE: an attempt of a pseudo-channel's training ends (R334, R335). The eye width it leaves is open. -/
def Dev.fmTrained (d : Dev) (pc : Nat) (o : TrainOutcome) : Dev :=
  if d.pcState pc ≠ pcTraining then d
  else match o with
    | .failed =>
      let n := smGet d.fm.attempts pc 0 + 1
      let d := d.modFm (fun x => { x with attempts := smSet x.attempts pc n 0 })
      if n < 3 then d
      else if d.fmHasRetired then
        (d.modFm (fun x => { x with trainFatal := true })).setLine Flt.FM_TRAIN_FAIL true (some (pcChan pc))
      else d.fmRetire pc
    | .beyondRepair => d.fmRetire pc
    | .identity => (d.modFm (fun x => { x with trainFatal := true })).setLine (Flt.HBM_IDENTITY + pc / 32) true
    | _ =>
      let d := if o = .repaired then d.setLine Flt.FM_REPAIR true (some (pcChan pc)) else d
      let (w, d) := d.draw (65536 - d.reg Obj.FM_EYE_MIN)
      (((d.setReg Obj.FM_PC_STATE pc pcActive).setReg Obj.FM_EYE_WIDTH pc (d.reg Obj.FM_EYE_MIN + w))).fmSettle

/-- The next pseudo-channel in service after `last`, in index order. -/
def Dev.nextRetrain (d : Dev) : Option Nat :=
  ((List.range 64).map (fun k => (d.fm.retrainLast + 1 + k) % 64)).find? (fun pc => d.pcState pc == pcActive || d.pcState pc == pcDegraded)

/-- FM_RETRAIN_START: FM_RETRAIN_GAP after the previous retrain ended (R336). -/
def Dev.retrainStart (d : Dev) : Dev :=
  if d.fm.retrain ≠ 0 ∨ d.clock < d.fm.retrainAt + d.reg Obj.FM_RETRAIN_GAP * 1000000000 then d
  else match d.nextRetrain with
    | some pc => d.modFm (fun x => { x with retrain := pc + 1, retrainStep := 0 })
    | none => d

/-- Bytes that a step of at most 500 ns keeps a pseudo-channel of 25.6 GB/s from serving (R336). -/
def retrainBytes : Nat := 12800

/-- FM_RETRAIN_STEP: one of the 256 steps, unless a bank's debt, the payback, the read queue or class 5's budget keeps it from starting. -/
def Dev.retrainStep (d : Dev) (pc : Nat) (centred : Bool) (width : Nat) : Dev :=
  let deep := d.fm.banks.any (fun kv => kv.1 / 48 == pc && decide (6 ≤ kv.2.debt))
  if d.fm.retrain ≠ pc + 1 ∨ deep ∨ 48 ≤ (d.fmQueue pc false).length ∨ d.clock < d.fm.stepAt + 10000 then d
  else d.fmBackground retrainBytes fun d =>
    let d := d.modFm (fun x => { x with retrainStep := x.retrainStep + 1, stepAt := d.clock })
    if d.fm.retrainStep < 256 then d
    else
      let d := d.modFm (fun x => { x with retrain := 0, retrainStep := 0, retrainLast := pc, retrainAt := d.clock })
      let d := (d.setReg Obj.FM_EYE_WIDTH pc (width % 65536)).count Obj.FM_RETRAINS pc
      if centred && decide (d.reg Obj.FM_EYE_MIN ≤ width) then d
      else (d.pulse Flt.FM_RETRAIN_FAIL (some (pcChan pc))).fmRetire pc

/-! ### Commands (Table 9.9) -/

/-- FM_PC_RETIRE is refused with CONFLICT while one is retired. -/
def Dev.pcRetireStatus (d : Dev) : Nat := if d.fmHasRetired then stConflict else stOk

/-- FM_RETIRE_CLEAR, only in LAY_BY: the pseudo-channel returns at the next start (R318). -/
def Dev.retireClear (d : Dev) : Dev := { d with nv := { d.nv with fmRetired := 255 } }

end Sys2Proof.Machine
end

