-- ==== Sys2Proof/Machine/Reply.lean ====
section
/-! DEFINITION. Responses: their payloads, their counting, and the copies kept for repeats (R411, R418, R422, R423, R426,
R440). -/

namespace Sys2Proof.Machine

def Dev.modCh (d : Dev) (f : ChanX → ChanX) : Dev := { d with ch := f d.ch }

/-- KIND values (Table 12.5). -/
def kRead : Nat := 1
def kWrite : Nat := 2
def kSet : Nat := 3
def kCommand : Nat := 4
def kTake : Nat := 5
def kSubscribe : Nat := 6
def kEvent : Nat := 7
def kBulkRead : Nat := 8
def kBulkWrite : Nat := 9

/-- A kind whose response payload is E and FAIL_ITEM (R426 to R428, R431). -/
def writeKind (k : Nat) : Bool := k == kWrite || k == kSet || k == kCommand || k == kBulkWrite

/-- E and FAIL_ITEM (R426); E is zero in a refusal. -/
def ePayload (e fail : Nat) : Bytes := beBytes 12 (mtEncode e) ++ beBytes 2 fail

/-- FAIL_ITEM of a request without a failing item. -/
def noFail : Nat := 0xFFFF

/-- A refusal: the status, with E zero and the failing item where the kind's response has them. -/
def refusal (kind : Nat) (r : Req) (st fail : Nat) (urgent : Bool) : Resp :=
  { kind, req := r, status := st, late := false, count := r.count.toNat,
    payload := if writeKind kind then ePayload 0 (if kind = kSet then fail else noFail) else [], urgent }

/-- An accepted write. -/
def accepted (kind : Nat) (r : Req) (e : Nat) (late urgent : Bool) : Resp :=
  { kind, req := r, status := stOk, late, count := r.count.toNat, payload := ePayload e noFail, urgent }

/-- The largest response payload of a port (R423). -/
def respLimit (p : Port) : Nat := if p = .cn then 1008 else 65536

/-- A response under the limit of its port; a longer one is not sent: TOO_LARGE (R423). -/
def Resp.limited (r : Resp) : Resp :=
  if r.payload.length ≤ respLimit r.req.port then r
  else { r with status := stTooLarge, payload := if writeKind r.kind then ePayload 0 noFail else [] }

/-- On CN and DB the source address is taken as zero (R422). -/
def keyMac (r : Req) : BitVec 48 := match r.port with | .mgA => r.src | .mgB => r.src | _ => 0

/-- Keep a response among the last 64 of its port (R422). -/
def Dev.keep (d : Dev) (r : Resp) : Dev :=
  let same := d.ch.kept.filter (fun k => k.resp.req.port = r.req.port)
  let others := d.ch.kept.filter (fun k => !decide (k.resp.req.port = r.req.port))
  d.modCh (fun c => { c with kept := others ++ (same ++ [({ at_ := d.clock, resp := r } : Kept)]).drop (same.length + 1 - 64) })

/-- The kept response to a repeat of a request (R422). -/
def Dev.keptFor (d : Dev) (r : Req) : Option Resp :=
  (d.ch.kept.reverse.find? (fun k => decide (k.resp.req.port = r.port) && keyMac k.resp.req == keyMac r &&
    k.resp.req.reqId == r.reqId && decide (d.clock < k.at_ + 2000000000))).map (·.resp)

/-- Count a request, keep its response and send it (R422, R423, R440). -/
def Dev.answer (d : Dev) (r : Resp) : Dev :=
  let r := r.limited
  let i := portIdx r.req.port
  let d := if r.status = stOk || r.status = stPartial then d.count Obj.CH_REQUESTS i else d.count Obj.CH_REFUSED i
  let d := if r.status = stMalformed then d.count Obj.CH_MALFORMED i else d
  (d.keep r).send r

/-- The number of the response last sent on a management port; 0 elsewhere. -/
def Dev.lastResp (d : Dev) (p : Port) : Nat := match p with | .mgA => d.ch.respNo | .mgB => d.ch.respNo | _ => 0

/-- Hold writes, or a reset, until the response just sent has left (R375, Table 12.14). -/
def Dev.defer (d : Dev) (p : Port) (ws : List Wr) (reset : Option Nat) : Dev :=
  d.modCh (fun c => { c with deferred := c.deferred ++ [⟨p, d.lastResp p, ws, reset⟩] })

end Sys2Proof.Machine
end

