-- ==== Sys2Proof/Machine/Clocks.lean ====
section
/-! DEFINITION. The edge clock gate tree (R75 to R79, R558, R559, Tables 2.8 to 2.10), the core voltage loop (R13 to R15, R547,
R562, R563), and which control bus target an address names (R508 to R510). -/

namespace Sys2Proof.Machine

def Dev.modClk (d : Dev) (f : ClockX → ClockX) : Dev := { d with clk := f d.clk }

/-! ### Bus targets -/

/-- The target that decodes an address (Table 15.2); frame memory is 10 or 11 by its pseudo-channel (R509). -/
def Dev.busTarget (d : Dev) (a : Nat) : Option Nat :=
  if a < 0x40000 then some 0
  else if 0x10000000 ≤ a ∧ a < 0x10400000 then some 1
  else if 0x10400000 ≤ a ∧ a < 0x10800000 then some 2
  else if 0x20000000 ≤ a ∧ a < 0x30000000 then some 3
  else if 0x40000000 ≤ a ∧ a < 0x80000000 then some (a / 0x10000000)
  else if 0x80000000 ≤ a ∧ a < 0x81000000 then some 8
  else if 0x81000000 ≤ a ∧ a < 0x82000000 then some 9
  else if 0x1000000000 ≤ a ∧ a < 0x1C00000000 then some (10 + (d.fmCoord (a - 0x1000000000)).pc / 32)
  else none

/-- The unit window of an address (R510). -/
def unitWindow (a : Nat) : Nat := (a - 0x40000000) / 0x1000000

/-- The lowest closable gate that an address lies behind (R559); 0 where none ever holds a close. -/
def Dev.gateOfAddr (d : Dev) (a : Nat) : Nat :=
  match d.busTarget a with
  | some 3 => 33
  | some 7 => if unitWindow a = 62 then 34 else 0
  | some 10 => 20
  | some 11 => 21
  | _ => 0

/-- The gate that an access is in flight behind (R559): for an undocumented unit window, that of the unit it serves, which the spec
leaves open. -/
def Dev.gateBehind (d : Dev) (a : Nat) : Nat :=
  match d.busTarget a with
  | some t => if 4 ≤ t ∧ t ≤ 7 ∧ (unitWindow a < 59 ∨ unitWindow a = 63) then Config.windowGate (unitWindow a) % 37 else d.gateOfAddr a
  | none => 0

/-! ### Gates -/

/-- The parent of a gate (Table 2.8); EDGE_ROOT has 255. -/
def gateParent (g : Nat) : Nat :=
  if g = 0 then 255
  else if g = 1 ∨ g = 19 ∨ g = 22 ∨ g = 29 then 0
  else if g ≤ 18 then 1
  else if g ≤ 21 then 19
  else if g ≤ 28 then 22
  else 29

/-- A gate clocks what lies behind gate `c`: it is `c`, or a gate above it; EDGE_ROOT and gates marked No never hold an access
(R559). -/
def gateAbove (g c : Nat) : Bool := g != 0 && c != 0 && (g == c || g == gateParent c || g == gateParent (gateParent c))

/-- A gate marked No (Table 2.8). -/
def gateFixed (g : Nat) : Bool := g == 0 || g == 22 || g == 23 || g == 35 || g == 36

/-- The gates that lead to a port: its own, and IO above it (R76). -/
def portGates : Port → List Nat
  | .mgA => [30, 29]
  | .mgB => [31, 29]
  | .cn => [35, 29]
  | .db => [34, 29]

/-- GATE_STATE values. -/
def gsOff : Nat := 0
def gsOn : Nat := 1
def gsWaiting : Nat := 2

/-- AUDIO_MCLK and the CLKOUT gates stay closed until service (R474); CLKOUT stops in LOCKOUT (R455). The media units of a
referee stay behind closed gates (R371). -/
def Dev.gateHeld (d : Dev) (g : Nat) : Bool :=
  let early := match d.life.phase with
    | .booting => true
    | .selfTest => true
    | .starting => true
    | .layBy => true
    | _ => false
  (decide (24 ≤ g) && decide (g ≤ 28) && early) ||
  (decide (25 ≤ g) && decide (g ≤ 28) && decide (d.life.phase = .lockout)) ||
  (d.nv.refereeDuty && (g == 24 || g == 32))

/-- GATE_STATE: a held gate is closed whatever GATE_EN says. -/
def Dev.gateState (d : Dev) (g : Nat) : Nat := if d.gateHeld g then gsOff else d.reg Obj.GATE_STATE g

/-- The clock passes the gate. -/
def Dev.gateOn (d : Dev) (g : Nat) : Bool := d.gateState g != gsOff

/-- The debug session: a core is halted, or a memory access is open (Table 15.8). -/
def Dev.session (d : Dev) : Bool := d.dbg.memOp.isSome || d.dbg.cores.any (·.halted)

/-- A record that R298, R409, R463, R488 or R492 calls for is pending, or a program or erase waits (R558). In this model a program or
erase that is not held back is over with its command. -/
def Dev.recordPending (d : Dev) : Bool :=
  decide (d.life.unrecorded ≠ []) || decide (d.life.gainDirty ≠ []) || decide (d.trailRam ≠ []) || d.life.calPending ||
  decide (d.life.flashJobs ≠ [])

/-- STORE_PENDING: applied values not yet recorded under R409, or any record that waits for a closed FLASH (R558). -/
def Dev.storePending (d : Dev) : Bool := decide (d.life.unrecorded ≠ []) || (!d.gateOn 33 && d.recordPending)

/-- A gate has an enabled child: a gate that is on, or one of the units of R558. -/
def Dev.gateChild (d : Dev) (g : Nat) : Bool :=
  (List.range 37).any (fun c => gateParent c == g && d.gateOn c) ||
  (decide (2 ≤ g) && decide (g ≤ 18) &&
    (List.range (if g = 18 then 2 else 17)).any (fun k =>
      let st := d.laneState (17 * (g - 2) + k)
      st != lnOff && st != lnFail)) ||
  ((g == 20 || g == 21) && (List.range 32).any (fun k =>
    let st := d.pcState (32 * (g - 20) + k)
    st != pcOff && st != pcRetired)) ||
  ((g == 24 || g == 32) && (List.range 32).any (fun a =>
    d.flag Obj.AP_ENABLE a && d.reg Obj.AP_STATE a != 8 && (g == 32 || d.reg Obj.AP_MODE a == 0))) ||
  (g == 33 && d.recordPending) || (g == 34 && d.session)

/-- Accesses are in flight at the gate's block (R77, R559): a debug access, or a transaction at a target's port, to a unit that the
gate, or a gate below it, clocks. -/
def Dev.gateBusy (d : Dev) (g : Nat) : Bool :=
  (match d.dbg.memOp with | some o => !o.held && gateAbove g (d.gateBehind o.addr) | none => false) ||
  d.bus.waiting.any (fun kv => kv.2.any (fun w => gateAbove g w.gate))

/-- A close request waits at a gate. -/
def Dev.gateWaits (d : Dev) (g : Nat) : Bool := smGet d.clk.waiting g 0 != 0

/-- A waiting gate holds new accesses to address `a` (R77). -/
def Dev.gateHolds (d : Dev) (a : Nat) : Bool :=
  d.clk.waiting.any (fun kv => gateAbove kv.1 (d.gateBehind a))

/-- A close request's result (R76, R79): a status. `own` are the gates that lead to the port it came by. -/
def Dev.gateCloseStatus (d : Dev) (g : Nat) (own : List Nat) : Nat :=
  if d.gateWaits g then stBusy
  else if gateFixed g || own.contains g then stRefusedFixed
  else if d.gateChild g then stRefusedChild
  else stOk

/-- An open request's result (R78, R79). -/
def Dev.gateOpenStatus (d : Dev) (g : Nat) : Nat :=
  if d.gateWaits g then stBusy
  else if gateParent g != 255 && d.reg Obj.GATE_STATE (gateParent g) == gsOff then stRefusedParent
  else stOk

/-- RESULT of Table 2.10 for a status. -/
def gateResult (st : Nat) : Nat :=
  if st = stBusy then 1 else if st = stRefusedChild then 2 else if st = stRefusedParent then 3
  else if st = stRefusedFixed then 4 else 0

/-- Note a request's RESULT; one that ends BUSY latches GATE_BUSY (Table 13.11). -/
def Dev.gateNote (d : Dev) (g st : Nat) : Dev :=
  let d := d.modClk (fun x => { x with result := smSet x.result g (gateResult st) 0 })
  if st = stBusy then d.pulse Flt.GATE_BUSY else d

/-- The gate takes a state, and GATE_EN shows the request as done. -/
def Dev.gateSet (d : Dev) (g : Nat) (on : Bool) : Dev :=
  (d.setReg Obj.GATE_EN g (boolNat on)).setReg Obj.GATE_STATE g (boolNat on)

/-- An accepted close: at once, or it waits up to 100 µs for the accesses in flight (R77); GATE_EN reads the request meanwhile. -/
def Dev.gateClose (d : Dev) (g : Nat) : Dev :=
  if d.gateBusy g then
    ((d.setReg Obj.GATE_EN g 0).setReg Obj.GATE_STATE g gsWaiting).modClk (fun x => { x with
      waiting := smSet x.waiting g (d.clock + 100000) 0 })
  else (d.gateSet g false).gateNote g stOk

/-- An accepted open. -/
def Dev.gateOpen (d : Dev) (g : Nat) : Dev := (d.gateSet g true).gateNote g stOk

/-- A write that waits for gates, once gate `g` has ended with a status. -/
def GateReply.end_ (x : GateReply) (g st : Nat) : GateReply :=
  match x.left.find? (fun y => y.1 == g) with
  | none => x
  | some y => { x with left := x.left.filter (fun z => z.1 != g), busy := if st = stOk ∨ x.busy.isSome then x.busy else some y.2 }

/-- Its reply once no gate is left. -/
def GateReply.resp (x : GateReply) : Resp :=
  match x.busy with
  | none => accepted x.kind x.req x.e false false
  | some k => refusal x.kind x.req stBusy k false

/-- Answer the writes that gate `g` was the last to keep waiting. -/
def Dev.gateReply (d : Dev) (g st : Nat) : Dev :=
  let rs := d.clk.replies.map (fun x => x.end_ g st)
  let d := d.modClk (fun x => { x with replies := rs.filter (fun y => decide (y.left ≠ [])) })
  (rs.filter (fun y => decide (y.left = []))).foldl (fun d y => d.answer y.resp) d

/-! ### The core voltage -/

def vHigh : Nat := 800
def vLow : Nat := 600
def vStep : Nat := 5

/-- One of the three sources of R562 is latched. -/
def Dev.avsLatched (d : Dev) : Bool :=
  d.fltLatched Flt.AVS_MARGIN || d.fltLatched Flt.AVS_BUS || d.fltLatched Flt.SPEED_MONITOR

/-- A voltage is requested; nothing before step 5 of Table 14.1 (R547). -/
def Dev.avsRequest (d : Dev) (v : Nat) : Dev :=
  if d.life.phase = .booting then d else d.setReg Obj.AVS_VREQ 0 v

/-- 0.80 V is requested and held while R562 or AVS_ENABLE FALSE asks for it. -/
def Dev.avsHold (d : Dev) : Dev :=
  if d.avsLatched || !d.flag Obj.AVS_ENABLE then
    (d.avsRequest vHigh).modClk (fun x => { x with above := 0 })
  else d

/-- AVS_EVALUATION: the margin in percent (R13 to R15). The voltage that restores the target is open: one of the steps above
the present one. -/
def Dev.avsEvaluate (d : Dev) (margin : Int) : Dev :=
  let d := (d.setReg Obj.AVS_MARGIN 0 (clampInt 0 255 margin).toNat).setLine Flt.AVS_MARGIN (decide (margin < 4))
  if margin < 4 || d.avsLatched || !d.flag Obj.AVS_ENABLE then
    if margin < 4 then d.avsRequest vHigh else d.avsHold
  else
    let v := d.reg Obj.AVS_VREQ
    let target : Int := d.reg Obj.AVS_MARGIN_TARGET
    if margin < target then
      let d := d.modClk (fun x => { x with above := 0 })
      if v < vHigh then
        let (k, d) := d.draw ((vHigh - v) / vStep)
        d.avsRequest (v + vStep * (k + 1))
      else d
    else if target + 4 < margin then
      let n := d.clk.above + 1
      if n < 100 then d.modClk (fun x => { x with above := n })
      else
        let d := d.modClk (fun x => { x with above := 0 })
        if vLow < v then d.avsRequest (v - vStep) else d
    else d.modClk (fun x => { x with above := 0 })

/-- AVSBUS_TRANSACTION: a transaction to the regulator ends (R547, Table 13.14). -/
def Dev.avsTransaction (d : Dev) (cmd : AvsCmd) (ok : Bool) (val : BitVec 16) : Dev :=
  if d.life.phase = .booting then d
  else
    let n := if ok then 0 else d.clk.busFails + 1
    let d := (d.modClk (fun x => { x with busFails := n })).setLine Flt.AVS_BUS (decide (3 ≤ n))
    if !ok then d
    else match cmd with
      | .writeVoltage => d
      | .readVoltage => d.setReg Obj.TEL_VCORE 0 val.toNat
      | .readCurrent => d.setReg Obj.TEL_ICORE 0 val.toNat
      | .readStatus => d.modClk (fun x => { x with avsStatus := val.toNat })

end Sys2Proof.Machine
end

