-- ==== Sys2Proof/Machine/Sha.lean ====
section
/-! DEFINITION. SHA-256 (FIPS 180-4, Table 0.2), which the manifest, its pieces and components, and the attestation evidence use
(R490, R491, R502). A constant of the standard is the fraction of a root of a prime, so the constants are computed here from the
primes; the eight working words are kept as the last four of the two sequences that a round extends. -/

namespace Sys2Proof.Machine

/-- The largest `r` below `2 ^ bits` with `r ^ e ≤ n`, bit by bit from the top, given the bits `r` found so far. -/
def rootBits (e n : Nat) : Nat → Nat → Nat
  | 0, r => r
  | bits + 1, r =>
    let up := r + 2 ^ bits
    rootBits e n bits (if up ^ e ≤ n then up else r)

/-- The first 32 fraction bits of the `e`-th root of `p`. -/
def rootFraction (e p : Nat) : Nat := rootBits e (p * 2 ^ (32 * e)) 40 0 % 2 ^ 32

/-- The primes below 312, of which there are 64. -/
def shaPrimes : List Nat :=
  (List.range 312).filter (fun p => decide (2 ≤ p) && (List.range 16).all (fun q => decide (q + 2 ≥ p) || p % (q + 2) != 0))

/-- One constant per round: cube roots. -/
def roundConstants : List Nat := shaPrimes.map (rootFraction 3)

/-- `x` turned right by `n` of its 32 bits. -/
def turn (x n : Nat) : Nat := x / 2 ^ n + x % 2 ^ n * 2 ^ (32 - n)

/-- Three turns of one word, or two turns and a shift, added without carry. -/
def mixTurns (x i j k : Nat) : Nat := turn x i ^^^ turn x j ^^^ turn x k
def mixShift (x i j s : Nat) : Nat := turn x i ^^^ turn x j ^^^ x / 2 ^ s

/-- The words of a block from its first 16, newest first; each later one comes from the words 2, 7, 15 and 16 before it. -/
def blockWords : Nat → List Nat → List Nat
  | 0, ws => ws
  | more + 1, ws =>
    let back (n : Nat) : Nat := ws.getD (n - 1) 0
    blockWords more ((mixShift (back 2) 17 19 10 + back 7 + mixShift (back 15) 7 18 3 + back 16) % 2 ^ 32 :: ws)

/-- The two sequences of the rounds, newest first. -/
structure Rounds where
  fast : List Nat
  slow : List Nat

/-- A round extends both sequences; `kw` is its constant plus its word. -/
def Rounds.extend (x : Rounds) (kw : Nat) : Rounds :=
  match x.fast, x.slow with
  | a :: b :: c :: d :: _, e :: f :: g :: h :: _ =>
    let pick := g ^^^ (e &&& (f ^^^ g))
    let most := (a &&& b) ||| (c &&& (a ||| b))
    let t := h + mixTurns e 6 11 25 + pick + kw
    ⟨(t + mixTurns a 2 13 22 + most) % 2 ^ 32 :: x.fast, (d + t) % 2 ^ 32 :: x.slow⟩
  | _, _ => x

/-- The eight words of the sequences as they stand. -/
def Rounds.words (x : Rounds) : List Nat := x.fast.take 4 ++ x.slow.take 4

/-- The digest of the blocks so far carried over one more block. -/
def absorb (digest : List Nat) (block : Bytes) : List Nat :=
  let ws := (blockWords 48 ((chunksOf 4 16 block).map beNat).reverse).reverse
  let start : Rounds := ⟨digest.take 4, digest.drop 4⟩
  let last := ((roundConstants.zip ws).foldl (fun x kw => x.extend (kw.1 + kw.2)) start).words
  (digest.zip last).map (fun xy => (xy.1 + xy.2) % 2 ^ 32)

/-- A message closed by one set bit, zeros, and its length in bits, in whole blocks of 64 bytes. -/
def shaBlocks (b : Bytes) : List Bytes :=
  let zeros := List.replicate ((119 - b.length % 64) % 64) 0
  let m := b ++ 0x80 :: zeros ++ beBytes 8 (8 * b.length)
  chunksOf 64 (m.length / 64) m

/-- SHA-256 of a byte string; the digest starts from the square roots of the first eight primes. -/
def sha256 (b : Bytes) : Bytes :=
  ((shaBlocks b).foldl absorb ((shaPrimes.take 8).map (rootFraction 2))).flatMap (beBytes 4)

end Sys2Proof.Machine
end

