-- ==== Sys2Proof/Machine/Tdm.lean ====
section
/-! DEFINITION. The TDM ports: frames, start and stop of a MASTER port, the states of a SLAVE port, slips, retirement, and the
decisions that a standby follows (R283, R284, R300 to R309). -/

namespace Sys2Proof.Machine

/-! ### States (Table 8.17) -/

def apOff : Nat := 0
def apLead : Nat := 1
def apRunning : Nat := 2
def apStopping : Nat := 3
def apQualifying : Nat := 4
def apGlitch : Nat := 5
def apRate : Nat := 6
def apLost : Nat := 7
def apRetired : Nat := 8

/-- KIND values of TDM_EVENT (Table 10.4). -/
def tkAnchor : Nat := 0
def tkReplace : Nat := 1
def tkGlitch : Nat := 2
def tkRate : Nat := 3
def tkLost : Nat := 4
def tkQualify : Nat := 5
def tkRun : Nat := 6
def tkUnmute : Nat := 7

def Dev.apState (d : Dev) (a : Nat) : Nat := d.reg Obj.AP_STATE a
def Dev.apMaster (d : Dev) (a : Nat) : Bool := d.reg Obj.AP_MODE a == 0
def Dev.modAp (d : Dev) (a : Nat) (f : ApX → ApX) : Dev := d.setAp a (f (d.ap a))

/-- The balls of port `a` are driven (R304). -/
def Dev.apDriving (d : Dev) (a : Nat) : Bool := d.acts && d.apState a != apOff && d.apState a != apRetired

/-- The level of a sample in a ramp, 48 at full level (R307). -/
def level48 (x : Int) (n : Nat) : Int := (x * (n : Int)).tdiv 48

/-! ### Starting and stopping (R306, Table 8.11) -/

/-- The stages of a MASTER port that Media Time has reached. -/
def Dev.apSettle (d : Dev) (a : Nat) : Dev :=
  let x := d.ap a
  if d.apState a = apRetired then d
  else
    let reached := fun k => decide (sampleTime k ≤ d.now)
    match x.off with
    | some k =>
      if reached (k + 65) then (d.setReg Obj.AP_STATE a apOff).setAp a { x with on := none, off := none, ring := [], edge := {} }
      else if reached k then d.setReg Obj.AP_STATE a apStopping else d
    | none =>
      match x.on with
      | some k =>
        if reached (k + 1024) then d.setReg Obj.AP_STATE a apRunning
        else if reached k then d.setReg Obj.AP_STATE a apLead else d
      | none => d

/-- AP_ENABLE at its E (R306, Table 8.12). -/
def Dev.apEnable (d : Dev) (a : Nat) (on : Bool) (e : Nat) : Dev :=
  let d := d.setReg Obj.AP_ENABLE a (boolNat on)
  let x := d.ap a
  if d.apState a = apRetired then d
  else if d.apMaster a then
    let k := sampleAtOrAfter e
    if on then
      if x.on.isSome ∧ x.off.isNone then d
      else (d.setAp a { x with on := some k, off := none, level := 0 }).apSettle a
    else match x.on with
      | none => d
      | some k0 =>
        if k ≤ k0 then (d.setReg Obj.AP_STATE a apOff).setAp a { x with on := none, off := none }
        else if x.off.isSome then d
        else (d.setAp a { x with off := some k }).apSettle a
  else if on then
    if d.apState a = apOff then
      (d.setReg Obj.AP_STATE a apQualifying).setAp a { x with det := apQualifying, clean := 0, dirty := 0, periods := [], own := [] }
    else d
  else (d.setReg Obj.AP_STATE a apOff).setAp a
    { x with det := apOff, clean := 0, dirty := 0, periods := [], own := [], ring := [], edge := {}, anchorDue := false }

/-- TDM_LEAD_END and TDM_STOP_STEP: a stage of Table 8.11 is reached. -/
def Dev.apLeadEnd (d : Dev) (a : Nat) : Dev := if d.apState a = apLead then d.apSettle a else d
def Dev.apStopStep (d : Dev) (a : Nat) : Dev := if (d.ap a).off.isSome then d.apSettle a else d

/-- How much of full level frame `k` of a MASTER port has, in 48ths (R307, Table 8.11). -/
def ApX.masterLevel (x : ApX) (k : Nat) : Nat :=
  let up := match x.on with
    | some s => if k < s + 1024 then 0 else min 48 (k - (s + 1024) + 1)
    | none => 0
  match x.off with
  | some f => if k < f then up else if k < f + 48 then (47 - (k - f)) * up / 48 else 0
  | none => up

/-! ### Frames (R300 to R302) -/

/-- The SDIN samples of a frame (Table 8.10). -/
def sdinSamples (ws : List (BitVec 32)) : List Int :=
  (List.range 16).map (fun j => toInt 24 ((ws.getD j 0).toNat / 256))

/-- SDOUT of a frame whose samples stand at `k`: the AO samples with stamp k less AP_OUT_OFFSET, at a level (R301, R302). -/
def Dev.sdoutAt (d : Dev) (a : Nat) (k : Int) (lv : Nat) : List Int :=
  let i := k - (offsetSamples (d.reg Obj.AP_OUT_OFFSET a) : Nat)
  (List.range 16).map (fun c => if i < 0 then 0 else level48 ((d.ao (32768 + 16 * a + c)).sample i.toNat) lv)

/-- The port takes the block of the frame whose samples stand at `k` from its edge buffer: silence where it is not there (R282). -/
def Dev.apTake (d : Dev) (a : Nat) (k : Int) (lv : Nat) : Dev :=
  let i := k - (offsetSamples (d.reg Obj.AP_OUT_OFFSET a) : Nat)
  let old := (d.ap a).edge
  let x := old.take (i / 16).toNat
  let d := d.modAp a (fun y => { y with edge := x })
  if x.silent ∧ old.taken ≠ x.taken ∧ lv ≠ 0 then d.pulse Flt.EDGE_AUDIO else d

/-- Record a frame's stamped SDIN samples and its SDOUT. -/
def Dev.frameOut (d : Dev) (a : Nat) (stamp out : Int) (lv : Nat) (sdin : List Int) : Dev :=
  let d := d.apTake a out lv
  let x := d.ap a
  d.setAp a { x with
    k := stamp,
    ring := ((stamp, sdin.map (level48 · lv)) :: x.ring.filter (fun e => e.1 != stamp)).take 96,
    sdout := if x.edge.silent then List.replicate 16 0 else d.sdoutAt a out lv }

/-- The frame of a MASTER port that ends now (R301). -/
def Dev.masterFrame (d : Dev) (a : Nat) (f : TdmFrame) : Dev :=
  let d := d.apSettle a
  let k := sampleNear d.now - 1
  let x := d.ap a
  let lv := x.masterLevel k
  match x.on with
  | none => d
  | some s =>
    if k < s ∨ d.apState a = apRetired then d
    else d.frameOut a ((k : Int) - (d.reg Obj.AP_IN_DELAY a : Nat)) k lv (sdinSamples f.sdin)

/-! ### The states of a SLAVE port (R302, R308) -/

/-- A clean frame (R308). -/
def frameClean (f : TdmFrame) : Bool :=
  f.edges == 512 && f.fsync == 1 && decide (20729000 ≤ f.period) && decide (f.period ≤ 20937000)

/-- Three frames, none clean, show another rate: 512 edges each, and periods within 104 ns of each other (Table 8.12). -/
def otherRate (ps : List (Nat × Nat)) : Bool :=
  ps.all (fun p => p.2 == 512) &&
  ps.all (fun p => ps.all (fun q => decide (p.1 ≤ q.1 + 104000)))

/-- A mute from sample `k` on: silence at once, also in frames already stamped. -/
def ApX.muteFrom (x : ApX) (k : Int) : ApX :=
  { x with ring := x.ring.map (fun e => if k ≤ e.1 then (e.1, List.replicate 16 0) else e), sdout := List.replicate 16 0 }

/-- Apply a decision of a SLAVE port (Table 8.12, Table 10.4): `k` is the sample number that its record names. -/
def Dev.applyKind (d : Dev) (a kind : Nat) (k : Int) : Dev :=
  let x := d.ap a
  if d.apState a = apOff ∨ d.apState a = apRetired then d
  else if kind = tkAnchor then
    d.setAp a { x with k, anchorDue := false, level := if x.rampDue then 0 else x.level, rampDue := false }
  else if kind = tkReplace then
    d.setAp a { x with ring := x.ring.map (fun e => if e.1 = k then (e.1, x.lastGood.map (level48 · x.level)) else e) }
  else if kind = tkGlitch then (d.setReg Obj.AP_STATE a apGlitch).setAp a (x.muteFrom k)
  else if kind = tkRate then (d.setReg Obj.AP_STATE a apRate).setAp a (x.muteFrom k)
  else if kind = tkLost then (d.setReg Obj.AP_STATE a apLost).setAp a (x.muteFrom k)
  else if kind = tkQualify then d.setReg Obj.AP_STATE a apQualifying
  else if kind = tkRun then (d.setReg Obj.AP_STATE a apRunning).setAp a { x with anchorDue := true, rampDue := true }
  else d

/-- What a decision counts in its own port's counters, wherever it was detected (R284, R308). -/
def Dev.countKind (d : Dev) (a kind : Nat) : Dev :=
  if kind = tkReplace then d.count Obj.AP_REPLACED a
  else if kind = tkGlitch ∨ kind = tkRate ∨ kind = tkLost then d.count Obj.AP_MUTES a
  else d

/-- The event of a move into a muted state (R308). -/
def Dev.clockEvent (d : Dev) (a kind : Nat) : Dev :=
  if kind = tkGlitch ∨ kind = tkRate ∨ kind = tkLost then d.event 0x2A01 (refOf Obj.AP_STATE a) else d

/-- The body of a TDM_EVENT (Table 10.4). -/
def tdmBody (a kind : Nat) (k : Int) : Bytes :=
  [BitVec.ofNat 8 a, BitVec.ofNat 8 kind] ++ beBytes 12 (mtEncode (sampleTime k.toNat))

/-- A detection on a SLAVE port: taken and sent by the device that acts, or by one alone; a standby counts it and waits for the
record (R283, R284). -/
def Dev.detect (d : Dev) (a kind : Nat) (k : Int) : Dev :=
  let d := d.countKind a kind
  if d.follows then d.modAp a (fun x => { x with own := x.own ++ [(kind, k, d.now)] })
  else ((d.applyKind a kind k).clockEvent a kind).mirror 0x07 (tdmBody a kind k)

/-- The latest moment of a record: a standby that has none by then decides itself (R284). -/
def Dev.overdue (d : Dev) (a : Nat) : Dev :=
  let x := d.ap a
  let late := x.own.filter (fun o => decide (o.2.2 + usMt 84 ≤ d.now))
  let d := d.setAp a { x with own := x.own.filter (fun o => !decide (o.2.2 + usMt 84 ≤ d.now)) }
  late.foldl (fun d o =>
    (((d.applyKind a o.1 o.2.1).clockEvent a o.1).mirrorMiss Obj.AUD_MIRROR_MISS).pulse Flt.AUD_MIRROR) d

/-- TDM_EVENT at a standby (R283). -/
def Dev.tdmEvent (d : Dev) (a kind stamp : Nat) : Dev :=
  if !d.follows || d.apMaster a then d
  else
    let k : Int := (sampleNear (mtDecode stamp) : Nat)
    let x := d.ap a
    let mine := x.own.find? (fun o => o.1 == kind)
    let own := match mine with | some o => x.own.erase o | none => x.own
    let k := if kind = tkAnchor then (match mine with | some o => k + (x.k - o.2.1) | none => k) else k
    ((d.setAp a { x with own }).applyKind a kind k).clockEvent a kind

/-- One frame's judgement (Table 8.12): the state the detection reaches, its counters, and the decision. -/
def judge (x : ApX) (f : TdmFrame) : ApX × Option Nat :=
  let clean := frameClean f
  let bad := (f.period, f.edges) :: x.periods
  if x.det = apQualifying then ({ x with clean := if clean then x.clean + 1 else 0, dirty := 0, periods := [] }, none)
  else if x.det = apRunning then
    if clean then ({ x with dirty := 0, periods := [] }, none)
    else if x.dirty < 2 then ({ x with dirty := x.dirty + 1, periods := bad }, some tkReplace)
    else if otherRate (bad.take 3) then ({ x with det := apRate, dirty := 0, clean := 0, periods := [] }, some tkRate)
    else ({ x with det := apGlitch, dirty := 0, clean := 0, periods := [] }, some tkGlitch)
  else if x.det = apGlitch ∨ x.det = apRate ∨ x.det = apLost then
    if clean then ({ x with det := apQualifying, clean := 1, dirty := 0, periods := [] }, some tkQualify) else (x, none)
  else (x, none)

/-- The frame of a SLAVE port that ends now (R302, R308). -/
def Dev.slaveFrame (d : Dev) (a : Nat) (f : TdmFrame) : Dev :=
  let d := d.overdue a
  if d.apState a = apOff ∨ d.apState a = apRetired then d
  else
    let delay : Int := (d.reg Obj.AP_IN_DELAY a : Nat)
    let start := d.now - f.period * subNs / 1000
    let x0 := d.ap a
    let anchor : Int := (sampleNear start : Nat) - delay
    let d := if x0.anchorDue ∧ !d.follows then d.detect a tkAnchor anchor
      else if x0.anchorDue then d.modAp a (fun x => { x with k := anchor, own := x.own ++ [(tkAnchor, anchor, d.now)] })
      else d.modAp a (fun x => { x with k := x.k + 1 })
    let (x, kind) := judge (d.ap a) f
    let d := d.setAp a x
    let good := sdinSamples f.sdin
    let on := d.apState a = apRunning
    let lv := if on then min 48 ((d.ap a).level + 1) else 0
    let d := d.modAp a (fun x => { x with level := lv, lastGood := if frameClean f then good else x.lastGood })
    let d := d.frameOut a (d.ap a).k (d.ap a).k lv good
    match kind with
    | some t => d.detect a t (d.ap a).k
    | none => d

/-- TDM_FRAME: a frame ends on a port (R300). AP_FRAME_PERIOD takes its period. -/
def Dev.tdmFrame (d : Dev) (a : Nat) (f : TdmFrame) : Dev :=
  let d := d.setReg Obj.AP_FRAME_PERIOD a (f.period % 2 ^ 32)
  if d.apMaster a then d.masterFrame a f else d.slaveFrame a f

/-- TDM_QUALIFIED: 4800 consecutive clean frames (R308). -/
def Dev.tdmQualified (d : Dev) (a : Nat) : Dev :=
  let x := d.ap a
  if d.apMaster a ∨ x.det ≠ apQualifying ∨ x.clean < 4800 then d
  else (d.setAp a { x with det := apRunning, clean := 0 }).detect a tkRun x.k

/-- TDM_CLOCK_LOSS: no BCLK edge for 200 ns, or no FSYNC for two frame periods (R308). -/
def Dev.tdmLoss (d : Dev) (a : Nat) : Dev :=
  let x := d.ap a
  if d.apMaster a ∨ x.det = apOff ∨ x.det = apLost then d
  else (d.setAp a { x with det := apLost, clean := 0, dirty := 0, periods := [] }).detect a tkLost (x.k + 1)

/-- TDM_SLIP_CHECK: the latest frame instant, less the delay, against its stamp (R303). -/
def Dev.tdmSlip (d : Dev) (a instantAt : Nat) : Dev :=
  let x := d.ap a
  if d.apMaster a ∨ d.apState a ≠ apRunning ∨ x.anchorDue then d
  else
    let want : Int := (sampleTime (x.k + (d.reg Obj.AP_IN_DELAY a : Nat)).toNat : Nat)
    if (((instantAt : Nat) : Int) - want).natAbs ≤ usMt 5 then d
    else
      let d := (d.count Obj.AP_SLIPS a).pulse Flt.AP_SLIP
      if d.follows then d else d.setAp a { d.ap a with anchorDue := true }

/-! ### Retirement (R309) -/

/-- A permanent fault retires a port. -/
def Dev.retireTdm (d : Dev) (a : Nat) : Dev :=
  if d.apState a = apRetired then d
  else
    let lo := 32768 + 16 * a
    let aos := (d.regs.filter (fun kv => kv.1 / 65536 == Obj.SHUF_SRC && decide (lo ≤ kv.2) && decide (kv.2 < lo + 16))).map
      (fun kv => kv.1 % 65536)
    let d := (d.setReg Obj.AP_STATE a apRetired).modAp a (fun x => { x with
      on := none, off := none, det := apOff, own := [], ring := [], edge := {}, anchorDue := false, sdout := List.replicate 16 0 })
    d.event 0x4141 (refOf Obj.AP_STATE a) ((aos.map (beBytes 2)).flatten)

end Sys2Proof.Machine
end

