-- ==== Sys2Proof/Machine/Nodes.lean ====
section
/-! DEFINITION. The group nodes: who subscribes to a source, what crosses the mesh, and what enters a node ("The fabric and its
namespaces", R17 to R22, R30; "Composition", R254, R262). -/

namespace Sys2Proof.Machine

/-! ### Subscribers (R17 to R20) -/

/-- Subscribers of source `s` in node `g`: outputs without an engine, layer inputs of assigned engines, the Canopy tap. -/
def Dev.subscribersIn (d : Dev) (s g : Nat) : Nat :=
  let outs := (List.range 64).foldl (fun n k =>
    let p := 64 * g + k
    if d.reg Obj.XP_SOURCE p == s && (d.engineOf p).isNone then n + 1 else n) 0
  let layers := (List.range 4).foldl (fun n k =>
    let e := 4 * g + k
    if (d.engine e).out < 1024 then
      (List.range 8).foldl (fun n l => if d.layerSource e l == s then n + 1 else n) n
    else n) 0
  outs + layers + (if d.tapOn g && d.reg Obj.CANOPY_SOURCE g == s then 1 else 0)

/-- The next switch point of output `p` at or after `e` on its cadence, exact; at once where the output has no format. -/
def Dev.nextSwitch (d : Dev) (p e : Nat) : Option (Fmt × Int × Nat) :=
  let x := d.out p
  let c := d.outFormat p
  (fmtOf c).bind (fun f =>
    let ats := [false, true].filterMap (fun second => (d.switchLine p c second).map (fun line =>
      let t0 := f.exactStart x.ph x.start + d.lineWord p c line * d.outTw p f
      (t0 + (if f.ex e ≤ t0 then 0 else ((f.ex e - t0 + f.exP - 1) / f.exP) * f.exP), line)))
    (ats.foldl (fun m a => match m with | some b => if a.1 < b.1 then some a else some b | none => some a) none).map
      (fun a => (f, a.1, a.2)))

/-- Output `p` needs words of source `s` for its pending take: from PASS_LATENCY and a Basket before the switch point, or before what it
becomes on the new cadence, on (R22). -/
def Dev.takeNeeds (d : Dev) (p s : Nat) : Bool :=
  match (d.out p).pend with
  | none => false
  | some t =>
    t.src == s &&
    match d.nextSwitch p t.e with
    | none => decide (t.e ≤ d.now + usMt 8)
    | some (f, at_, line) =>
      let lead := f.pass (d.flag Obj.OUT_GANG p) + 204 * d.outTw p f
      let near := decide (at_ - lead ≤ f.ex d.now)
      match d.switchPlan p s line f at_ with
      | some k => near || decide ((k.at_ - (k.f.pass (d.flag Obj.OUT_GANG p) + 204 * d.outTw p k.f)) ≤ k.f.ex d.now)
      | none => near

/-- Output `p` still emits words of the source that its last take left (R22). -/
def Dev.takeLeaves (d : Dev) (p s : Nat) : Bool :=
  let x := d.out p
  x.oldSrc == s && decide (x.word < x.oldUntil) && !x.ahead

/-- A subscriber that is to come, or one that is leaving, needs source `s` in node `g`: an output's take, a layer's take, the layers of
an engine that waits for its output's frame start (R22). -/
def Dev.awaited (d : Dev) (s g : Nat) : Bool :=
  (List.range 64).any (fun k => d.takeNeeds (64 * g + k) s || d.takeLeaves (64 * g + k) s) ||
  (List.range 4).any (fun k =>
    let n := 4 * g + k
    (List.range 8).any (fun l => match smGet (d.engine n).takes l none with | some t => t.src == s | none => false) ||
    (decide (d.reg Obj.CE_OUTPUT n < 1024 ∧ 1024 ≤ (d.engine n).out) &&
      (d.reg Obj.XP_SOURCE (d.reg Obj.CE_OUTPUT n) == s || (List.range 7).any (fun l => d.reg Obj.CE_LAYER_SOURCE (8 * n + l + 1) == s))))

/-- Bit g of a source's subscription mask (R19, R22). -/
def Dev.subBit (d : Dev) (s g : Nat) : Bool :=
  (decide (0 < d.subscribersIn s g) || d.awaited s g) && !d.isBroken .subscription s

def Dev.subMask (d : Dev) (s : Nat) : Nat :=
  (List.range 16).foldl (fun m g => if d.subBit s g then m + 2 ^ g else m) 0

def Dev.fanout (d : Dev) (s : Nat) : Nat := (List.range 16).foldl (fun n g => n + d.subscribersIn s g) 0

/-- Streams on the mesh link from node `a` to node `b` (R18). -/
def Dev.meshLoad (d : Dev) (a b : Nat) : Nat :=
  (List.range 1128).foldl (fun n s => if srcNode s == a && d.subBit s b then n + 1 else n) 0

/-! ### Ingress (R19, R20, R254, R262) -/

/-- Three lines of Baskets: what a subscriber's node keeps of a source. -/
def keepParts : Nat := 160

/-- The Canopy sync of node `g` takes a part of its source (R262): a frame begins at the part of the first link that holds word
0. -/
def Dev.canopyTake (d : Dev) (g c w : Nat) (s : Seg) : Dev :=
  let x := d.canopy g
  let begins := s.link = 0 ∧ (s.idx = 0 ∨ w < s.idx + 204)
  let x := if begins then
      match d.canopyFree g with
      | some bufs =>
        let fr : Frame := { no := d.canopyNo g (d.reg Obj.CANOPY_SOURCE g) c, start := 0, fmt := c, segs := [s] }
        { x with writing := some fr, bufs }
      | none => { x with writing := none }
    else match x.writing with
      | some fr => { x with writing := some { fr with segs := fr.segs ++ [s] } }
      | none => x
  d.setCanopy g x

/-- A source that reaches the node from frame memory, a packet store, an engine or a still player brings the Canopy tap of node `g` its
next Basket, at the source's own cadence (R20, R30). -/
def Dev.canopyDraw (d : Dev) (g s : Nat) : Dev :=
  match if d.generated s then .own else d.srcFormat s with
  | .code c =>
    let ganged := d.srcGanged s
    match lookOf c ganged 0 g with
    | none => d
    | some k0 =>
      let x := d.canopy g
      let i := x.word
      let start := if i = 0 then k0.f.nearAt (d.srcPhase k0.f s 0) (k0.f.ex d.now) else x.start
      let n := min 204 (k0.g.words - i)
      let d := d.setCanopy g { x with start, word := if i + n < k0.g.words then i + n else 0 }
      (List.range (if ganged then 4 else 1)).foldl (fun d l =>
        let k := { k0 with link := l }
        let ws := (List.range n).map (fun j => d.srcWord 65 s k (i + j) (start + ((i + j : Nat) : Int) * k.tw))
        let hole := ws.any (fun w => match w with | some (some _) => false | _ => true)
        let words := if hole then [] else ws.map (fun w => match w with | some (some v) => v | _ => 0)
        d.canopyTake g c k.g.words { idx := i, hole, words, link := l }) d
  | _ => d

/-- GROUP_NODE_INGRESS: one Basket of source `s` enters its node and goes where its mask bits are set. -/
def Dev.nodeIngress (d : Dev) (s : Nat) : Dev :=
  let base := d.inBase s
  let drawn := decide (1024 ≤ s) || (d.inp base).mode != 0 || d.reg Obj.IN_TRANSPORT base == 1
  let tapped (g : Nat) : Bool := d.tapOn g && d.reg Obj.CANOPY_SOURCE g == base
  if drawn then
    (List.range 16).foldl (fun d g => if tapped g && d.subBit base g then d.canopyDraw g s else d) d
  else
    let x := d.inp s
    match x.q with
    | [] => d
    | part :: rest =>
      let mask := d.subMask base
      let c := x.fmt
      let w := match fmtOf (linkCode c (d.flag Obj.IN_GANG base)) with | some f => f.words | none => 204
      let d := d.setInp s { x with q := rest }
      (List.range 16).foldl (fun d g =>
        if bitOf mask g then
          let d := { d with mesh := smSet d.mesh (2048 * g + s) ((part :: smGet d.mesh (2048 * g + s) []).take keepParts) [] }
          if tapped g then d.canopyTake g c w part else d
        else if smGet d.mesh (2048 * g + s) [] = [] then d
        else { d with mesh := smSet d.mesh (2048 * g + s) [] [] }) d

end Sys2Proof.Machine
end

