-- ==== Sys2Proof/Machine/Transmit.lean ====
section
/-! DEFINITION. The transmitters: the words that leave an output, egress Baskets and their launch, service messages, twin-link
records, and what a lane pair sends in its next position (R106, R121 to R151, R166, R170, R239 to R241, R346, R355, R356, R361 to
R363). -/

namespace Sys2Proof.Machine

/-! ### The output path (R239 to R241) -/

/-- The look of output `p` on link `j` of its stream. -/
def Dev.outLook (d : Dev) (p j : Nat) : Option Look :=
  (lookOf (d.outFormat p) (d.flag Obj.OUT_GANG p) j (p / 64)).map (fun k => { k with still := (d.out p).still })

/-- The words of output `p` at word `i` come from a source of another format: black stands in for them (R175). -/
def Dev.outBlack (d : Dev) (p i : Nat) : Bool :=
  let x := d.out p
  (if x.swDone.isNone && decide (i < x.oldUntil) then x.oldMismatch else x.mismatch) ||
  d.mismatched p (d.outFormat p) (d.outSource p i)

/-- Word `i` of output `p` at instant `t` before embedding: crosspoint, composition, inserter (R241). None missing, `some none` a hole. -/
def Dev.outWord (d : Dev) (p : Nat) (k : Look) (i : Nat) (t : Int) : Option (Option Nat) :=
  let w := match d.engineOf p with
    | some n => some (some (d.composite 65 n k i t))
    | none => if d.outBlack p i then some (some (k.black i)) else d.srcWord 65 (d.outSource p i) k i t
  match w with
  | some (some v) => if (k.g.pixelOf i).isSome then some (some (d.insertBand p k i t v)) else w
  | r => r

/-- The picture of output `p` at word `i` is made or changed in the device, so that its line CRC is made here (R129, R203). -/
def Dev.ownCrc (d : Dev) (p i : Nat) : Bool :=
  let s := d.outSource p i
  (d.engineOf p).isSome || (d.inserterOf p).isSome || d.outBlack p i || decide (1024 ≤ s) || d.reg Obj.IN_TRANSPORT s == 1 ||
  (d.inp s).mode != 0

/-- Word `v` at word `i` of link `l` enters the line CRC of its stream, or gives way to it (R129). -/
def Dev.crcWord (d : Dev) (p l i : Nat) (g : Fmt) (c v : Nat) : Nat × Dev :=
  if streamsOf c = 1 then (v, d)
  else
    let q := g.posOf i
    let first := g.lineWords - 2 * g.width
    let k := 2 * l + i % 2
    let r := smGet (d.out p).crc k 0
    if 12 ≤ q ∧ q < 16 then (if d.ownCrc p i then nineWord (if q < 14 then r % 512 else r / 512) else v, d)
    else if q < 12 ∨ first ≤ q then
      (v, d.modOut p (fun x => { x with crc := smSet x.crc k (crc18 (if q < first + 2 ∧ first ≤ q then 0 else r) v) 0 }))
    else (v, d)

/-! ### Embedding and the payload identifier (R239, R240) -/

/-- Packets in order while they fit in `room` words, and whether all did. -/
def fitPackets : Nat → List (List Nat) → List Nat × Bool
  | _, [] => ([], true)
  | room, w :: r =>
    if w.length ≤ room then let (ws, ok) := fitPackets (room - w.length) r; (w ++ ws, ok) else ((fitPackets room r).1, false)

/-- The first AO sample whose stamp and GW_EMBED_OFFSET lie after instant `t` (Media Time). -/
def Dev.embedBound (d : Dev) (p t : Nat) : Nat :=
  let off := d.reg Obj.GW_EMBED_OFFSET p * subNs
  if t < off then 0 else (t - off) * 48000 / subSec + 1

/-- The audio control packets' line of a field: two lines after its switch line. -/
def controlLines (c : Nat) : List Nat := (switchLines c).map (· + 2)

/-- The audio packets that REPLACE embeds on the line whose EAV leaves at `t`: those of the C stream, of the Y stream, and the block
numbers (R239). PRESUMED (log 120): a block number counts the packets of its group, a control packet stands two lines after each switch
line, and a sample's clock phase counts from the EAV before. -/
def Dev.embedPackets (d : Dev) (p c : Nat) (f : Fmt) (line : Nat) (t : Int) (ks : List Nat) : List (List Nat) × List (List Nat) × SMap Nat :=
  let groups := min (audioGroups c) (d.reg Obj.GW_EMBED_CHANNELS p / 4)
  let sample (gr i k : Nat) : Nat := ofInt 24 ((d.ao (32 * p + 4 * gr + i)).sample k)
  let vals (gr k : Nat) : List Nat := (List.range 4).map (fun i => sample gr i k)
  let off := d.reg Obj.GW_EMBED_OFFSET p
  let clk (k : Nat) : Nat := ((f.ex (sampleTime k) + f.exNs off - (t - f.exTl)) / (2 * f.exTw)).toNat % 8192
  let n := ((2 * (f.ex (d.out p).start - d.refPhase p f) + f.exP) / (2 * f.exP)).toNat
  let frame := if 48000 * f.period.num % f.period.den = 0 then 0 else n % 5 + 1
  let control := if line ∈ controlLines c then (List.range groups).map (fun gr => controlPacket c gr frame 15) else []
  let block (m : SMap Nat) (gr j : Nat) : Nat := 1 + (smGet m gr 0 + j) % 255
  let dbn := (d.out p).dbn
  if streamsOf c = 1 then
    let data := if ks = [] then [] else (List.range groups).map (fun gr =>
      audioPacketSd gr (block dbn gr 0) (ks.map (fun k => (k % 192 == 0, vals gr k))))
    (control ++ data, [], if ks = [] then dbn else (List.range groups).foldl (fun m gr => smSet m gr ((smGet m gr 0 + 1) % 255) 0) dbn)
  else
    let data := (List.range ks.length).flatMap (fun j => let k := ks.getD j 0
      (List.range groups).map (fun gr => audioPacket c gr (block dbn gr j) (clk k) (k % 192 == 0) (vals gr k)))
    (data, control, (List.range groups).foldl (fun m gr => smSet m gr ((smGet m gr 0 + ks.length) % 255) 0) dbn)

/-- A stream's HANC of `room` words, `y` in the Y stream: packets, then blanking. -/
def hancStream (room : Nat) (fill : Nat → Nat) (ps : List (List Nat)) : List Nat × Bool :=
  let (ws, ok) := fitPackets room ps
  (ws ++ (List.range (room - ws.length)).map (fun j => fill (ws.length + j)), ok)

/-- As a line begins at word `i`, the HANC of link `l` is made up: the payload identifier of the output's own format and interface in
place of any carried; the source's packets, without audio where GW_EMBED is REPLACE or REMOVE; embedded audio (R239, R240). -/
def Dev.lineHanc (d : Dev) (p : Nat) (f : Fmt) (k : Look) (i : Nat) (t : Int) : Dev :=
  let c := k.gc
  let g := k.g
  let line := g.lineOf i
  let h0 := hancStart c
  let n := g.savAt c - h0
  let src := (List.range n).map (fun j => d.outWord p k (i + h0 + j) (t + ((h0 + j : Nat) : Int) * k.tw))
  let embed := d.reg Obj.GW_EMBED p
  let words := if src.all (fun w => match w with | some (some _) => true | _ => false)
    then src.map (fun w => match w with | some (some v) => v | _ => 0) else (List.range n).map (fun j => blankWord (i + h0 + j))
  let keep (a : AncFound) : Bool := !(a.did == 0x41 && a.sdid == 0x01) && (embed == 0 || !audioDids a.did)
  let carried := (hancStreams c words).map (fun st => (ancFind st.length st).filter keep |>.map (·.all))
  let id := if line ∈ payloadIdLines c then [payloadIdWords k.c k.ganged k.link] else []
  let upTo := d.embedBound p (f.toMt t)
  let from_ := match (d.out p).embedNext with | some q => if q ≤ upTo ∧ upTo ≤ q + 64 then q else upTo | none => upTo
  let ks := if embed = 1 ∧ k.link = 0 then (List.range (upTo - from_)).map (from_ + ·) else []
  let (a0, a1, dbn) := if embed = 1 ∧ k.link = 0 then d.embedPackets p c f line t ks else ([], [], (d.out p).dbn)
  let (ws, ok) := if streamsOf c = 1 then
      hancStream n (fun j => blankWord (h0 + j)) (id ++ a0 ++ carried.getD 0 [])
    else
      let (cs, ok0) := hancStream (n / 2) (fun _ => 0x200) (a0 ++ carried.getD 0 [])
      let (ys, ok1) := hancStream (n / 2) (fun _ => 0x040) (id ++ a1 ++ carried.getD 1 [])
      (interleave cs ys, ok0 && ok1)
  let d := d.modOut p (fun x => { x with
    hanc := smSet x.hanc k.link ws [], dbn, embedNext := if k.link = 0 then (if embed = 1 then some upTo else none) else x.embedNext })
  if ok || ks == [] then d else d.pulse Flt.GW_EMBED_OVERFLOW

/-- Word `i` of link `k.link` as it leaves: the line's HANC stands where it was made up. -/
def Dev.leaveWord (d : Dev) (p : Nat) (k : Look) (i : Nat) (w : Option (Option Nat)) : Option (Option Nat) :=
  let q := k.g.posOf i
  match w with
  | some (some v) =>
    if hancStart k.gc ≤ q ∧ q < k.g.savAt k.gc then some (some ((smGet (d.out p).hanc k.link []).getD (q - hancStart k.gc) v)) else w
  | _ => w

/-! ### Raster emission (R127, R130, R135 to R137, R166, R170) -/

/-- The word that emission is at, and where emission goes from there. -/
structure Cursor where
  word : Nat
  t : Int
  fill : Nat
  resume : Int
  ahead : Bool
deriving DecidableEq, Repr

def OutX.cursor (x : OutX) : Cursor := ⟨x.word, x.t, x.fill, x.resume, x.ahead⟩
def OutX.withCursor (x : OutX) (c : Cursor) : OutX :=
  { x with word := c.word, t := c.t, fill := c.fill, resume := c.resume, ahead := c.ahead }

/-- One word further: blanking to fill, the next word of the frame, or the next frame (R166). -/
def Dev.advance (d : Dev) (p : Nat) (f g : Fmt) : Dev :=
  let x := d.out p
  let tw := d.outTw p f
  if 0 < x.fill then
    d.setOut p { x with fill := x.fill - 1, t := if x.fill = 1 then x.resume else x.t + tw }
  else if x.word + 1 < d.frameLen p f g then d.setOut p { x with word := x.word + 1, t := x.t + tw }
  else
    let gap := d.frameGap p f
    let next := f.ex x.next
    d.setOut p { x with
      ahead := true, word := 0, fill := gap, t := if gap = 0 then next else x.t + tw, resume := next,
      mismatch := if x.swDone.isSome then x.mismatch else d.mismatched p (d.outFormat p) (d.reg Obj.XP_SOURCE p) }

/-- The switch of a pending take at the word that emission stands at: the line, the source, the instant of its switch point on the
running cadence. A new cadence that puts its first word earlier begins at a word of the ending line (R166, R170, R176). -/
def Dev.switchHere (d : Dev) (p : Nat) : Option (Nat × Nat × Fmt × Int) :=
  let x := d.out p
  let c := d.outFormat p
  match x.pend, fmtOf c, fmtOf (linkCode c (d.flag Obj.OUT_GANG p)) with
  | some t, some f, some g =>
    if x.swDone.isSome ∨ 0 < x.fill ∨ d.reg Obj.OUT_TRANSPORT p = 1 ∨ t.src = d.reg Obj.XP_SOURCE p ∨ !d.takeReady t then none
    else
      ([false, true].filterMap (d.switchLine p c)).findSome? (fun line =>
        let w := d.lineWord p c line
        let at_ := x.t + ((w : Int) - x.word) * d.outTw p f
        if w < x.word ∨ x.word + g.lineWords ≤ w ∨ at_ < f.ex t.e then none
        else if w = x.word then some (line, t.src, f, at_)
        else match d.switchPlan p t.src line f at_ with
          | some k => if k.at_ * f.scale ≤ x.t * k.f.scale then some (line, t.src, f, at_) else none
          | none => none)
  | _, _, _ => none

/-- What happens at the word that emission has reached: the switch of a pending take, or an AUTO output that follows its source (R170,
R175). -/
def Dev.switchNow (d : Dev) (p : Nat) : Dev :=
  match d.switchHere p with
  | some (line, s, f, at_) => d.streamSwitch p s line f at_
  | none =>
    let x := d.out p
    match fmtOf (d.outFormat p) with
    | some f =>
      if 0 < x.fill ∨ x.swDone.isSome then d
      else match d.followStart p f x.t (fun g => d.outTw p g) with
        | some (e, g, at_) => d.followFormat p e g at_
        | none => d
    | none => d

/-- The words of the next Basket: for each link, the words (none missing, `some none` a hole), the index of the first word that
begins a line, and its mark. Fill words take C and Y positions so that the word after them stands in its own (DESIGN CHOICE, log 121). -/
def Dev.gather (d : Dev) (p : Nat) : Nat → List (List (Option (Option Nat))) → Option (Nat × Nat) → Nat →
    List (List (Option (Option Nat))) × Option (Nat × Nat) × Dev
  | 0, ws, mark, _ => (ws, mark, d)
  | n + 1, ws, mark, j =>
    let d := d.switchNow p
    let c := d.outFormat p
    match fmtOf c, d.outLook p 0 with
    | some f, some k0 =>
      let x := d.out p
      let links := if d.flag Obj.OUT_GANG p then 4 else 1
      let blank := decide (0 < x.fill)
      let looks := (List.range links).filterMap (d.outLook p)
      let d := if blank ∨ k0.g.posOf x.word ≠ 0 then d else looks.foldl (fun d k => d.lineHanc p f k x.word x.t) d
      let (out, d) := looks.foldl (fun (r : List (Option (Option Nat)) × Dev) k =>
        if blank then (r.1 ++ [some (some (blankWord x.fill))], r.2)
        else match r.2.leaveWord p k x.word (r.2.outWord p k x.word x.t) with
          | some (some v) => let (v, d) := r.2.crcWord p k.link x.word k.g k.gc v; (r.1 ++ [some (some v)], d)
          | w => (r.1 ++ [w], r.2)) ([], d)
      let ws := (List.range links).map (fun l => ws.getD l [] ++ [out.getD l none])
      let mark := if blank ∨ k0.g.posOf x.word ≠ 0 ∨ mark.isSome then mark
        else some ((k0.g.markAt k0.gc x.word).1, j)
      let d := match d.engineOf p with
        | some e => if blank then d else d.countUnderrun e k0 x.word x.t
        | none => d
      (d.advance p f k0.g).gather p n ws mark (j + 1)
    | _, _ => (ws, mark, d)

/-- Emission that fell behind Media Time, after time out of service, takes up the word that is due (R136). -/
def Dev.catchUp (d : Dev) (p : Nat) (f g : Fmt) : Dev :=
  let x := d.out p
  let tw := d.outTw p f
  let now := f.ex d.now
  if now ≤ x.t then d
  else
    let n := ((now - x.t) / tw + 1).toNat
    if x.word + n < g.words then d.setOut p { x with word := x.word + n, t := x.t + n * tw, fill := 0 } else d

/-- The rotated Basket hash of R356. -/
def rotl64 (v n : Nat) : Nat := (v * 2 ^ (n % 64) + v / 2 ^ (64 - n % 64)) % 2 ^ 64
def basketHash (b : Basket) : Nat := crc64 (beBytes 6 (b.head false) ++ b.payload)

/-- A data Basket of output `p` whose TIME is `t` (Media Time) enters the digest of its window (R356). -/
def Dev.digestBasket (d : Dev) (p : Nat) (b : Basket) (t : Nat) : Dev :=
  let w := t / usMt 3
  { d with tw := { d.tw with digests := smSet d.tw.digests w (smGet d.tw.digests w 0 ^^^ rotl64 (basketHash b) p) 0 } }

/-- The Basket of one link's words. -/
def rasterBasket (p seq time : Nat) (mark : Option (Nat × Nat)) (ws : List (Option (Option Nat))) : Basket :=
  let ok := ws.all (fun w => match w with | some (some _) => true | _ => false)
  { type := tyRaster, valid := ok, mark := (mark.getD (0, 0)).1, seq := seq % 256, count := 204, offset := (mark.getD (0, 0)).2, time,
    payload := if ok then packWords (ws.map (fun w => match w with | some (some v) => v | _ => 0))
      else (List.range 256).map (Config.holeByte p) }

/-- A Basket of output `p` at Media Time `t` during a join: it counts from TS on, so that SEQ can follow the holder's (R138, R366). -/
def Dev.noteSince (d : Dev) (p t : Nat) : Dev :=
  if (decide (d.tw.join = .acked) || decide (d.tw.join = .loading)) && decide (d.tw.joinTs ≤ t) then
    d.modOut p (fun x => { x with sinceTs := x.sinceTs + 1 })
  else d

/-- Emit the next Basket of the stream at output `p`: the port's own, the other links' queued for their slots (R127, R132, R178,
R12). -/
def Dev.emitRaster (d : Dev) (p : Nat) : Option Basket × Dev :=
  match fmtOf (d.outFormat p), d.outLook p 0 with
  | some f, some k0 =>
    if !(d.out p).started then (none, d)
    else
      let d := d.catchUp p f k0.g
      let x := d.out p
      if f.ex d.now < x.t - f.exNs 2000 ∨ x.t + f.exP < f.ex d.now then (none, d)
      else
        let src := d.reg Obj.XP_SOURCE p
        let d := (d.fsSettle src (f.toMt (x.t + 204 * d.outTw p f))).switchNow p
        let x := d.out p
        let f := (fmtOf (d.outFormat p)).getD f
        let (ws, mark, d) := d.gather p 204 [] none 0
        let time := f.toTime x.t
        let bs := (List.range ws.length).map (fun l => rasterBasket (p + l) x.seq time mark (ws.getD l []))
        let d := (d.modOut p (fun y => { y with seq := (y.seq + 1) % 256 })).noteSince p (f.toMt x.t)
        let under := (List.range ws.length).filter (fun l => (ws.getD l []).any (fun w => w.isNone))
        let d := under.foldl (fun d l => d.count Obj.OUT_UNDERFLOW (p + l)) d
        let d := if under.isEmpty then d else d.pulse (Flt.EDGE_GN + p / 64)
        let d := (List.range bs.length).foldl (fun d l => d.digestBasket (p + l) (bs.getD l {}) (f.toMt x.t)) d
        let d := (List.range bs.length).foldl (fun d l =>
          if l = 0 then d else d.modOut (p + l) (fun y => { y with pkts := y.pkts ++ [(f.toMt x.t, bs.getD l {})] })) d
        (bs[0]?, d)
  | _, _ => (none, d)

/-- The Basket queued for a port's slot, once it is due: a frame's later Baskets follow its first (R127, R137). -/
def Dev.emitQueued (d : Dev) (p : Nat) : Option Basket × Dev :=
  let x := d.out p
  match x.pkts with
  | [] => (none, d)
  | (t, b) :: r =>
    if b.type == tyPacket && b.offset != 0 || decide (t ≤ d.now + usMt 2) then
      let b := if b.type = tyPacket then { b with seq := x.seq } else b
      let d := d.setOut p { x with pkts := r, seq := if b.type = tyPacket then (x.seq + 1) % 256 else x.seq }
      (some b, if b.type = tyPacket then (d.digestBasket p b t).noteSince p t else d)
    else (none, d)

/-- A port's stream positions carry IDLE Baskets (R151, Table 10.5). -/
def Dev.portIdle (d : Dev) (p : Nat) : Bool :=
  d.streamsIdle && !(decide (d.tw.join = .switching) && (d.out (d.outBase p)).live)

/-- The egress pipelines run: in service, or toward it (R356). -/
def Dev.pipeRuns (d : Dev) : Bool := decide (d.life.phase = .starting) || decide (d.life.phase = .running)

/-- What port `p` has for its slot's next position; none an IDLE Basket. -/
def Dev.emit (d : Dev) (p : Nat) : Option Basket × Dev :=
  if !d.pipeRuns || !d.outService p then (none, d)
  else
    let d := if (d.out p).serving then d else d.modOut p (fun x => { x with serving := true, seq := 0, ancSeq := [] })
    let (b, d) := if d.outGangMember p || d.reg Obj.OUT_TRANSPORT p == 1 then d.emitQueued p else d.emitRaster p
    (if d.portIdle p then none else b, d)

/-! ### Service messages (R142 to R149, R346) -/

/-- Our CAP body (Table 4.10, R144). -/
def Dev.capBody (d : Dev) (l : Nat) : Bytes :=
  let kind := if d.nv.refereeDuty then 2 else 0
  beBytes 20 (2 ^ 152 + kind * 2 ^ 144 + d.laneIdentity l * 2 ^ 128 + 9216 * 2 ^ 112 +
    (if l < 272 then 0x7F else 0) * 2 ^ 80 + d.reg Obj.DEV_VENDOR * 2 ^ 48 + Config.modelCode % 65536 * 2 ^ 32 +
    d.reg Obj.FW_VERSION % 2 ^ 32)

/-- The 32 bits of one output in our SLOT_STATUS (Table 4.14): TRANSPORT is none for a raster output without a format. -/
def Dev.slotWord (d : Dev) (p : Nat) : Nat :=
  let b := d.outBase p
  let packet := d.reg Obj.OUT_TRANSPORT p == 1
  let gang := d.flag Obj.OUT_GANG b
  let c := linkCode (d.outFormat b) gang
  let carries := match d.srcFormat (d.reg Obj.XP_SOURCE b) with | .nothing => false | _ => true
  let rate := if packet then 0 else rateCode c
  (if packet then 2 else if rate = 0 then 0 else 1) * 2 ^ 24 + rate * 2 ^ 16 + boolNat (p != b) * 2048 +
  boolNat (gang && p == b) * 1024 + boolNat (d.outService p) * 512 + boolNat carries * 256

/-- Our SLOT_STATUS body for lane pair `l` (R149). -/
def Dev.slotStatusBody (d : Dev) (l : Nat) : Bytes :=
  ((List.range 4).map (fun s => beBytes 4 (match d.portOf l s with | some p => d.slotWord p | none => 0))).flatten

/-- Our HEALTH body (Table 4.13): the counts are those of the last whole millisecond. -/
def Dev.healthBody (d : Dev) (l : Nat) : Bytes :=
  let x := d.lane l
  let w := d.now / msMt 1
  let (bad, sync, overT) := if x.winIndex = w then (x.prevBad, x.prevSync, x.prevOver)
    else if x.winIndex + 1 = w then (x.winBad, x.winSync, x.winOver) else (0, 0, false)
  beBytes 10 (min bad 65535 * 2 ^ 64 + min sync 65535 * 2 ^ 48 + d.reg Obj.LANE_EYE_HEIGHT l % 65536 * 2 ^ 32 +
    d.reg Obj.LANE_EYE_WIDTH l % 65536 * 2 ^ 16 + d.reg Obj.TEL_TEMP 0 % 256 * 256 + boolNat overT)

/-- A message that is urgent on a twin link (Table 10.1); 0x149 is a VERDICT within 1 µs of a change. -/
def urgentCode (c : Nat) : Bool := [0x40, 0x41, 0x42, 0x43, 0x149].contains c

/-- The first one-shot message of a code. -/
def LaneTx.oneShot (x : LaneTx) (c : Nat) : List (Nat × Bytes) :=
  (x.svc.find? (fun m => m.1 == c)).toList

/-- Each code once: the first message of it; the others wait (R143). -/
def oncePerCode (ms : List (Nat × Bytes)) : List (Nat × Bytes) :=
  ms.foldl (fun q m => if q.any (fun n => n.1 % 256 == m.1 % 256) then q else q ++ [m]) []

/-- Messages due in the next service Basket, in the order of Table 4.9. -/
def Dev.svcDue (d : Dev) (l : Nat) : List (Nat × Bytes) :=
  let x := d.tx l
  let st := d.laneState l
  let g := laneGroup l
  let gx := d.group g
  let move := if isTwin l ∨ gx.acked then []
    else match d.moveLane g with
      | some (a, k) => if a = l then
          [(match gx.move with | .release _ => 0x11 | _ => 0x10, [BitVec.ofNat 8 k, (0 : Byte)])] else []
      | none => []
  let go := if ¬ isTwin l ∧ 0 < gx.goLeft ∧ gx.goOn.1 = l then [(0x13, [BitVec.ofNat 8 gx.goOn.2, (0 : Byte)])] else []
  let cap := if st = lnExchange ∧ ¬ (d.lane l).ourAcked then [(0x01, d.capBody l)] else []
  let slot := if st = lnActive ∧ ¬ isTwin l ∧ (d.slotStatusBody l ≠ x.sentStatus ∨ x.statusAt + 10000000 ≤ d.clock) then
      [(0x21, d.slotStatusBody l)] else []
  let health := if st = lnActive ∧ x.healthAt + 1000000 ≤ d.clock then [(0x20, d.healthBody l)] else []
  move ++ go ++ x.oneShot 0x15 ++ cap ++ x.oneShot 0x02 ++ slot ++ health ++
  oncePerCode (x.svc.filter (fun m => decide (0x40 ≤ m.1)))

/-- Messages that fit in 255 bytes, in order (R142, R143). -/
def fitMsgs : Nat → List (Nat × Bytes) → List (Nat × Bytes)
  | _, [] => []
  | room, m :: r => if m.2.length + 2 ≤ room then m :: fitMsgs (room - (m.2.length + 2)) r else fitMsgs room r

/-- A message's bytes. ROLL_CALL takes MT_TICKS as block 0 leaves (Table 10.3). -/
def Dev.msgBytes (d : Dev) (m : Nat × Bytes) : Bytes :=
  let body := if m.1 = 0x48 then beBytes 32 (beNat m.2 / 2 ^ 40 * 2 ^ 40 + fourNs d.now % 2 ^ 32 * 256) else m.2
  [BitVec.ofNat 8 (m.1 % 256), BitVec.ofNat 8 body.length] ++ body

def padTo (n : Nat) (b : Bytes) : Bytes := b ++ List.replicate (n - b.length) 0

/-- The service Basket of lane pair `l` with messages `ms`, and the sender's books. As the first SPARE_GO leaves, the transmit direction
switches from the next cycle (R111); as a CAP_ACK with RESULT other than 0 leaves, the pair fails (R145). -/
def Dev.serviceBasket (d : Dev) (l : Nat) (ms : List (Nat × Bytes)) : Basket × Dev :=
  let bytes := (ms.map d.msgBytes).flatten
  let x := d.tx l
  let has := fun c => ms.any (fun m => m.1 == c)
  let x := { x with
    svc := ms.foldl (fun q m => q.erase m) x.svc,
    statusAt := if has 0x21 then d.clock else x.statusAt, sentStatus := if has 0x21 then d.slotStatusBody l else x.sentStatus,
    healthAt := if has 0x20 then d.clock else x.healthAt }
  let g := laneGroup l
  let d := d.setTx l x
  let d := if d.nv.refereeDuty && has 0x40 && decide (d.rf.holder = l - 272) then
      { d with rf := { d.rf with leaseEnd := d.clock + 12000 } } else d
  let d := if !isTwin l && has 0x13 then
      (d.setGroup g { d.group g with goLeft := (d.group g).goLeft - 1, goSent := true }).finishMove g else d
  let d := if ms.any (fun m => m.1 == 0x02 && m.2.headD 0 != 0) then d.failLane l 4 else d
  ({ type := tyService, valid := true, seq := x.cycle % 256, count := bytes.length, payload := padTo 256 bytes }, d)

/-! ### Twin-link records (R361 to R363) -/

/-- A record's bytes. -/
def TwRec.bytes (r : TwRec) : Bytes :=
  [BitVec.ofNat 8 r.code, BitVec.ofNat 8 r.body.length] ++ beBytes 2 r.rseq ++ r.body

/-- Records that fit in one Basket, and those that stay; a record with copies left stays (R363). -/
def packRecs : Nat → List TwRec → Bytes × List TwRec
  | _, [] => ([], [])
  | room, r :: rs =>
    if r.bytes.length ≤ room then
      let (b, left) := packRecs (room - r.bytes.length) rs
      (r.bytes ++ b, if 1 < r.copies then { r with copies := r.copies - 1 } :: left else left)
    else
      let (b, left) := packRecs room rs
      (b, r :: left)

/-- Records 0x01 to 0x07 go ahead of all others, SNAPSHOT records last (R363). -/
def recOrder (rs : List TwRec) : List TwRec :=
  rs.filter (fun r => decide (r.code ≤ 7)) ++ rs.filter (fun r => decide (7 < r.code) && r.code != 0x12) ++
  rs.filter (fun r => r.code == 0x12)

/-- The next INTERNAL Basket of TW_0, where a record waits. -/
def Dev.internalBasket (d : Dev) : Option Basket × Dev :=
  if d.tw.recs = [] then (none, d)
  else
    let (bytes, left) := packRecs 256 (recOrder d.tw.recs)
    (some { type := tyInternal, valid := true, seq := d.tw.txSeq, count := bytes.length % 256, time := timeField d.now,
            payload := padTo 256 bytes },
     { d with tw := { d.tw with recs := left, txSeq := (d.tw.txSeq + 1) % 256 } })

/-! ### The next position (R95, R103, R104, R124 to R127, R150) -/

/-- An IDLE Basket with the next PRBS31 bits (R106). -/
def Dev.idleBasket (d : Dev) (l : Nat) : Basket × Dev :=
  let x := d.tx l
  let (bits, reg) := prbsRun 2048 x.prbs
  ({ payload := beBytes 256 bits }, d.setTx l { x with prbs := reg })

/-- What lane pair `l` has to send in position `k`; none where nothing is due and the position is filled. -/
def Dev.duePosition (d : Dev) (l k : Nat) : Option Basket × Dev :=
  let st := d.laneState l
  let some_ (r : Basket × Dev) : Option Basket × Dev := (some r.1, r.2)
  if isTwin l then
    let urgent := oncePerCode ((d.tx l).svc.filter (fun m => urgentCode m.1))
    if k = 3 then some_ (d.serviceBasket l (fitMsgs 255 (d.svcDue l)))
    else if st = lnActive ∧ urgent ≠ [] then some_ (d.serviceBasket l (fitMsgs 255 urgent))
    else if st = lnActive ∧ l = 272 then d.internalBasket
    else (none, d)
  else if k = 16 then some_ (d.serviceBasket l (fitMsgs 255 (d.svcDue l)))
  else if st = lnActive then
    match d.portOf l (k % 4) with
    | none => (none, d)
    | some p => d.emit p
  else (none, d)

/-- The transmit buffer of lane pair `l` had no Basket in the position due: it is counted and latched (R12, Table 1.2). -/
def Dev.txUnderflow (d : Dev) (l : Nat) : Dev :=
  (d.count Obj.LANE_TX_UNDERFLOW l).pulse (if isTwin l then Flt.EDGE_TWIN else Flt.EDGE_GN + laneGroup l)

/-- What lane pair `l` sends in position `k`. Where the fabric has not brought the Basket due to the transmit buffer (`late`), IDLE goes
in its place, and the Basket waits for the next position (R12). -/
def Dev.positionBasket (d : Dev) (l k : Nat) (late : Bool) : Basket × Dev :=
  match d.duePosition l k with
  | (none, d) => d.idleBasket l
  | (some b, d1) => if late then (d.txUnderflow l).idleBasket l else (b, d1)

/-- Blocks leave on the line of lane pair `l`, scrambled but for training frames and test patterns (R87 to R89, R95). -/
def Dev.sendBlocks (d : Dev) (l : Nat) (scrambled : Bool) (blocks : List Nat) : Dev :=
  if scrambled then
    let (out, s) := scramble (d.tx l).scram blocks
    d.modTx l (fun x => { x with scram := s, line := withSync out })
  else d.modTx l (fun x => { x with line := withSync blocks })

/-- A training frame: the training word and the next 2048 bits of its own PRBS31 (R95, R98, R99). -/
def Dev.sendTraining (d : Dev) (l : Nat) : Dev :=
  let x := d.lane l
  let w := trainingEncode (x.rxReady || x.neg.phase == .done) (negRequest x.neg) x.status (d.laneIdentity l)
  let (bits, reg) := prbsRun 2048 (d.tx l).train
  let payload := beBytes 256 bits
  (d.modTx l (fun t => { t with pos := 0, cycle := 0, train := reg, last := some (BitVec.ofNat 64 w, payload) })).sendBlocks l false
    (blocksOf w payload)

/-- 33 times 66 raw bits of the pattern in LANE_TEST_MODE (R104). -/
def Dev.sendPattern (d : Dev) (l : Nat) : Dev :=
  let (bits, reg) := patternRun (patternTaps (d.reg Obj.LANE_TEST_MODE l)) 2178 (d.tx l).test 0
  let word (i : Nat) : Nat := bits / 2 ^ (66 * (32 - i)) % 2 ^ 66
  d.modTx l (fun t => { t with
    pos := 0, cycle := 0, test := reg, last := none,
    line := (List.range 33).map (fun i => (BitVec.ofNat 2 (word i / 2 ^ 64), BitVec.ofNat 64 (word i))) })

/-- A Basket leaves lane pair `l`; ROLE is written as block 0 is serialised, on slot-group lanes (R89, R150). -/
def Dev.sendBasket (d : Dev) (l : Nat) (b : Basket) : Dev :=
  let h := b.encode (d.acts && !isTwin l)
  (d.modTx l (fun x => { x with last := some (BitVec.ofNat 64 h, b.payload) })).sendBlocks l true (blocksOf h b.payload)

/-- SLOT_POSITION: lane pair `l` sends the training frame, the pattern or the Basket of its next position. A cycle that begins in ACTIVE
puts the ports in service (R95, R103, R104, R124, R127). -/
def Dev.slotPosition (d : Dev) (l : Nat) (late : Bool) : Dev :=
  let st := d.laneState l
  if st = lnTrain then d.sendTraining l
  else if st = lnTest then d.sendPattern l
  else if st = lnLock then
    let (b, d) := d.idleBasket l
    (d.modTx l (fun x => { x with pos := 0, cycle := 0 })).sendBasket l b
  else if st ≠ lnExchange ∧ st ≠ lnActive then d.modTx l (fun x => { x with pos := 0, cycle := 0, last := none, line := [] })
  else
    let k := (d.tx l).pos
    let top := if isTwin l then 3 else 16
    let d := if st = lnActive ∧ k = 0 then d.modTx l (fun x => { x with live := true }) else d
    let (b, d) := d.positionBasket l k late
    (d.modTx l (fun x => { x with
      pos := if k < top then k + 1 else 0, cycle := if k < top then x.cycle else x.cycle + 1 })).sendBasket l b

end Sys2Proof.Machine
end

