-- ==== Sys2Proof/Machine/Twin.lean ====
section
/-! DEFINITION. Twin operation of a member of a pair: the lease, twin states, Roll Calls and digests, mirror records, and the
states of a join ("Twin operation", R340 to R370, R373). Sealing and snapshots follow the protocol engine (Seal.lean). -/

namespace Sys2Proof.Machine

def Dev.modTw (d : Dev) (f : TwinX → TwinX) : Dev := { d with tw := f d.tw }
def Dev.setPhase (d : Dev) (p : Phase) : Dev := { d with life := { d.life with phase := p } }
def Dev.setTwin (d : Dev) (st : Nat) : Dev := d.setReg Obj.TWIN_STATE 0 st

/-- TW_0 and TW_1. -/
def tw0 : Nat := 272
def tw1 : Nat := 273

/-- The device heeds its twin links (R341, R371). -/
def Dev.heeds (d : Dev) : Bool := !d.tw.solo && d.twinState != twReferee

/-- A body of Table 10.2. -/
def leaseBody (no code flags : Nat) : Bytes := beBytes 2 no ++ [BitVec.ofNat 8 code, BitVec.ofNat 8 flags]
def lbNo (b : Nat) : Nat := fld b 31 16
def lbCode (b : Nat) : Nat := fld b 15 8
def lbFlags (b : Nat) : Nat := fld b 7 0

/-! ### Entering states (Table 10.11, R359) -/

/-- A join begins: JOIN_REQ (Table 10.5, step 1). A device with a halted core begins none (R525). -/
def Dev.beginJoin (d : Dev) : Dev :=
  if d.dbg.cores.any (·.halted) then d
  else
  let d := (d.setTwin twJoining).modTw (fun x => { x with
    join := .requested, rejoinAt := none, stuck := false, seals := [], nextPart := 0, snapItems := [], snapRun := [], snapValid := false,
    prevSnapValid := false, verified := 0, snapMatched := false })
  d.sendRec 0x10 (beBytes 2 (d.reg Obj.STORE_FORMAT) ++ beBytes 4 (d.reg Obj.FW_VERSION)) 1

/-- Entry to SUSPECT: a rejoin after TWIN_REJOIN_HOLDOFF, but not at the TWIN_REJOIN_LIMIT-th entry within an hour (R359). -/
def Dev.enterSuspect (d : Dev) : Dev :=
  if d.twinState = twSuspect then d
  else
    let ts := (d.clock :: d.tw.suspects).filter (fun t => decide (d.clock < t + 3600000000000))
    let stuck := decide (d.reg Obj.TWIN_REJOIN_LIMIT ≤ ts.length)
    let d := (d.setTwin twSuspect).modTw (fun x => { x with
      suspects := ts, stuck, join := .none, serving := none,
      rejoinAt := if stuck then none else some (d.clock + d.reg Obj.TWIN_REJOIN_HOLDOFF * 1000000) })
    d.event 0x0302 (refOf Obj.TWIN_STATE 0)

/-- Entry to HOT (R352, R486). -/
def Dev.enterHot (d : Dev) : Dev :=
  ((d.setTwin twHot).modTw (fun x => { x with join := .none })).setPhase
    (match d.life.phase with | .starting => .running | p => p)

/-- The device gives up twin operation: entry to LAY_BY, FAIL or LOCKOUT, or a reset (Table 10.11). -/
def Dev.detach (d : Dev) : Dev :=
  if d.twinState = twReferee then d
  else (d.setTwin twDetached).modTw (fun x => { x with
    leaseEnd := none, join := .none, serving := none, rejoinAt := none, stuck := false, solo := false })

/-! ### The lease (R347 to R352) -/

/-- The lease ends: HOT after a handover or a release, else SUSPECT (R352). -/
def Dev.leaseOver (d : Dev) (hot : Bool) : Dev :=
  let d := d.modTw (fun x => { x with leaseEnd := none, serving := none })
  if d.twinState ≠ twActive then d else if hot then d.enterHot else d.enterSuspect

/-- DP_RELEASE with a cause, and the lease ends at once (R349). -/
def Dev.releasePass (d : Dev) (cause : Nat) : Dev :=
  if !d.holds then d
  else (d.sendSvc tw1 0x43 (leaseBody (d.reg Obj.DP_LEASE_NO) cause 0)).leaseOver (cause != 1)

/-- The lease hardware's part of a DP_GRANT with CODE GRANT: whether it is taken, and the state that follows (R348). The lease
timer ends 11.75 µs after 260 ns before the check. -/
def Dev.leaseGrant (d : Dev) (body : Nat) : Bool × Dev :=
  let st := d.twinState
  let fresh := !d.holds || lbNo body != d.reg Obj.DP_LEASE_NO
  if !d.heeds || lbCode body != 0 || !fresh || !(st == twAlone || st == twHot || st == twActive) then (false, d)
  else
    let gained := st != twActive
    let d := (d.modTw (fun x => { x with leaseEnd := some (d.clock + 11490), join := .none })).setReg Obj.DP_LEASE_NO 0 (lbNo body)
    let d := (d.count Obj.DP_GRANTS).setTwin twActive
    (gained, d.setPhase (match d.life.phase with | .starting => .running | p => p))

/-- DP_GRANT with CODE RENEW: only ever moves the end later (R348). -/
def Dev.leaseRenew (d : Dev) (body : Nat) : Dev :=
  match d.tw.leaseEnd with
  | some e =>
    if d.heeds && d.holds && lbCode body == 1 && lbNo body == d.reg Obj.DP_LEASE_NO then
      d.modTw (fun x => { x with leaseEnd := some (max e (d.clock + 11490)) })
    else d
  | none => d

/-- DP_REVOKE that names the lease: it ends at once, and DP_ACK follows (R349). -/
def Dev.leaseRevoke (d : Dev) (body : Nat) : Dev :=
  if d.heeds && d.holds && lbNo body == d.reg Obj.DP_LEASE_NO && decide (lbCode body ≤ 2) then
    (d.sendSvc tw1 0x42 (leaseBody (lbNo body) 0 0)).leaseOver (lbCode body == 0)
  else d

/-- LEASE_EXPIRY: the timer runs to its end and alone ends the lease. -/
def Dev.leaseExpire (d : Dev) : Dev :=
  match d.tw.leaseEnd with
  | some e => ((d.passTo e).count Obj.DP_EXPIRIES).leaseOver false
  | none => d

/-- LEASE_CLOCK_DEVIATION: a deviation beyond ±0.2 % ends the lease at once (R348). -/
def Dev.leaseClock (d : Dev) : Dev :=
  let d := if d.holds then d.leaseOver false else d
  d.setLine Flt.LEASE_CLOCK true

/-- VERDICT (R352, R353, R358, R359). -/
def Dev.verdict (d : Dev) (body : Nat) : Dev :=
  let h := lbCode body
  if !d.heeds || !(h == 0 || h == 1 || h == 255) then d
  else
    let me := boolNat d.nv.sideB
    let d := d.setReg Obj.TWIN_HOLDER 0 h
    if bitOf (lbFlags body) me && (d.twinState == twHot || d.twinState == twJoining) then d.enterSuspect
    else if d.twinState == twAlone && h == 1 - me then
      (d.setPhase (match d.life.phase with | .starting => .running | p => p)).beginJoin
    else d

/-! ### Roll Call (R355 to R360) -/

/-- Own digest of window `w` is valid: the outputs ran on the holder's configuration throughout (R356). -/
def Dev.windowValid (d : Dev) (w : Nat) : Bool :=
  d.pipeRuns && decide (d.tw.validFrom ≤ w) &&
  (d.acts || d.twinState == twHot || (d.twinState == twJoining && (decide (d.tw.join = .verifying) || decide (d.tw.join = .switching))))

/-- The snapshot that Roll Calls carry now: index, digest, and whether the device ran on the holder's settings (R357). -/
def Dev.snapNow (d : Dev) : Nat × Nat × Bool :=
  if d.now < d.tw.snapAt + msMt 50 then (d.tw.prevSnapIndex, d.tw.prevSnapDigest, d.tw.prevSnapValid)
  else (d.tw.snapIndex, d.tw.snapDigest, d.tw.snapValid)

/-- The ROLL_CALL body of tick `k` (Table 10.3); MT_TICKS is written as block 0 leaves. -/
def Dev.rollBody (d : Dev) (k : Nat) : Bytes :=
  let w := k - 1
  let (si, sd, sv) := d.snapNow
  beBytes 32 (boolNat d.nv.sideB * 2 ^ 248 + d.twinState * 2 ^ 240 + boolNat d.alarmLow * 2 ^ 239 + boolNat d.holds * 2 ^ 238 +
    boolNat d.tw.digestBad * 2 ^ 237 + boolNat d.tw.objBad * 2 ^ 236 + boolNat (d.windowValid w) * 2 ^ 235 +
    boolNat sv * 2 ^ 234 + d.reg Obj.DP_LEASE_NO * 2 ^ 216 + w % 2 ^ 32 * 2 ^ 184 +
    smGet d.tw.digests w 0 * 2 ^ 120 + si % 65536 * 2 ^ 104 + sd * 2 ^ 40)

/-- ROLL_CALL_TICK: a Roll Call is due on both links, in place of one unsent (R355). -/
def Dev.rollTick (d : Dev) : Dev :=
  if d.twinState = twReferee then d
  else
    let d := d.passToMt (d.nextTick (usMt 3) d.tw.rollK)
    let k := d.now / usMt 3
    let put := fun (d : Dev) l => let x := d.tx l
      d.setTx l { x with svc := x.svc.filter (fun m => m.1 != 0x48) ++ [(0x48, d.rollBody k)] }
    (put (put d tw0) tw1).modTw (fun x => { x with rollK := k, digests := x.digests.filter (fun e => decide (k ≤ e.1 + 16)) })

/-- A comparison of the sender's own failed (R358). -/
def Dev.ownMismatch (d : Dev) (bad : Bool) : Dev := if bad then d.count Obj.TWIN_DIGEST_MISMATCH else d

/-- A join ends with RESULT `r`, not 0: it is told, counted, and SUSPECT follows (R367). -/
def Dev.joinFail (d : Dev) (r : Nat) (tell : Bool) : Dev :=
  if d.twinState ≠ twJoining then d
  else
    let d := if tell then d.sendRec 0x13 [BitVec.ofNat 8 r] 1 else d
    ((d.count Obj.TWIN_JOIN_FAILS).modTw (fun x => { x with joinFailed := true })).enterSuspect

/-- An output that has still to switch to its data (Table 10.5, step 7). -/
def Dev.toSwitch (d : Dev) (p : Nat) : Bool :=
  !d.outGangMember p && d.outService p && (fmtOf (d.outFormat p)).isSome && !(d.out p).live

/-- The last switch is done: JOIN_DONE with RESULT 0, and TWIN_STATE reads HOT. -/
def Dev.joinHot (d : Dev) : Dev :=
  if d.tw.join = .switching ∧ !((List.range 1024).any d.toSwitch) then
    ((d.sendRec 0x13 [0] 1).count Obj.TWIN_JOINS).enterHot.modTw (fun x => { x with joinFailed := false })
  else d

/-- Output `p` began a frame while the join switches. -/
def Dev.joinSwitch (d : Dev) (p : Nat) : Dev :=
  if d.tw.join = .switching then (d.modOut p (fun x => { x with live := true })).joinHot else d

/-- Verification: window `w` matched, one more in a row or the first of a new run; or the object snapshot did (Table 10.5, step 6). -/
def Dev.verifyStep (d : Dev) (win obj : Bool) (w : Nat) : Dev :=
  let d := d.modTw (fun x => { x with
    verified := if !win then x.verified else if x.lastWin + 1 = w then x.verified + 1 else 1,
    lastWin := if win then w else x.lastWin, snapMatched := x.snapMatched || obj })
  if d.reg Obj.TWIN_VERIFY_WINDOWS ≤ d.tw.verified && d.tw.snapMatched then
    (d.modTw (fun x => { x with join := .switching })).joinHot
  else d

/-- The peer's digests against the device's own. -/
def Dev.comparePeer (d : Dev) (b : Nat) : Dev :=
  let cur := d.now / usMt 3
  let w := cur - (cur + 2 ^ 32 - fld b 215 184 % 2 ^ 32) % 2 ^ 32
  let both := bitOf b 235 && d.windowValid w && decide (w < cur)
  let winBad := both && smGet d.tw.digests w 0 != fld b 183 120
  let own := if fld b 119 104 = d.tw.snapIndex % 65536 then (if d.tw.snapValid then some d.tw.snapDigest else none)
    else if fld b 119 104 = d.tw.prevSnapIndex % 65536 ∧ d.tw.prevSnapValid then some d.tw.prevSnapDigest else none
  let objBoth := bitOf b 234 && own.isSome
  let objBad := objBoth && own != some (fld b 103 40)
  let d := ((d.ownMismatch winBad).ownMismatch objBad).modTw (fun x => { x with
    digestBad := if both then winBad else x.digestBad, objBad := if objBoth then objBad else x.objBad })
  if d.tw.join ≠ .verifying then d
  else if winBad ∨ objBad then d.joinFail 2 true
  else d.verifyStep both (objBoth && fld b 119 104 == d.tw.snapIndex % 65536 && decide (d.tw.joinTs < d.tw.snapAt)) w

/-- ROLL_CALL of the peer on TW_0 (R353, R354, R358, R360). -/
def Dev.rollIn (d : Dev) (link : Nat) (body : BitVec 256) : Dev :=
  if !d.heeds || link ≠ 0 || d.laneState tw0 ≠ lnActive then d
  else
    let b := body.toNat
    let d := (d.modTw (fun x => { x with roll := some (d.clock, body) })).setReg Obj.PEER_STATE 0 (fld b 247 240)
    let diff : Int := 4 * toInt 32 ((fld b 39 8 + 2 ^ 32 - fourNs d.now % 2 ^ 32) % 2 ^ 32) + 250
    let d := d.setSreg 32 Obj.TWIN_MT_DIFF 0 diff
    let skew := decide (d.reg Obj.TWIN_MT_LIMIT < diff.natAbs)
    let was := bitOf (smGet d.flt.lines (Flt.TWIN_SKEW / 32) 0) (Flt.TWIN_SKEW % 32)
    let d := if skew && !was then d.event 0x0303 (refOf Obj.TWIN_MT_DIFF 0) else d
    (d.setLine Flt.TWIN_SKEW skew).comparePeer b

/-! ### Mirror records (R361 to R363) -/

/-- A record of TW_0: its second copy is discarded by its RSEQ. -/
def Dev.recIn (d : Dev) (rseq : Nat) (go : Dev → Dev) : Dev :=
  if !d.heeds || d.laneState tw0 ≠ lnActive || d.tw.rseqSeen.contains rseq then d
  else go (d.modTw (fun x => { x with rseqSeen := (rseq :: x.rseqSeen).take 256 }))

/-- PHASE at a standby (R194). -/
def Dev.phaseIn (d : Dev) (p fseq ticks : Nat) : Dev := if d.follows then d.recordPhase p fseq (4 * ticks) else d

/-- Presence records of one window: 41 video or 61 audio entries a record, FINAL in the last (Table 10.4). -/
def presenceBodies (w cap : Nat) (es : List Bytes) : List Bytes :=
  let parts := if es = [] then [[]] else chunksOf cap (es.length + 1) es
  (List.range parts.length).map (fun i =>
    let p := parts.getD i []
    beBytes 4 w ++ beBytes 2 ((if i + 1 = parts.length then 32768 else 0) + p.length) ++ p.flatten)

/-- PRESENCE_WINDOW_END: the holder sends the record of the window that ends (R227, R283, R363). -/
def Dev.presenceEnd (d : Dev) (audio : Bool) : Dev :=
  if audio then
    let d := d.passToMt (d.nextTick (usMt 50) d.tw.windowA)
    let w := (d.now / usMt 50 - 1) % 2 ^ 32
    let d := d.modTw (fun x => { x with windowA := d.now / usMt 50 })
    let bodies := presenceBodies w 61 (d.tw.presA.map (fun e => beBytes 2 e.1 ++ beBytes 2 e.2))
    bodies.foldl (fun d b => d.mirror 0x05 b) (d.modTw (fun x => { x with presA := [] }))
  else
    let d := d.passToMt (d.nextTick (usMt 10) d.tw.windowV)
    let w := (d.now / usMt 10 - 1) % 2 ^ 32
    let d := d.modTw (fun x => { x with windowV := d.now / usMt 10 })
    let bodies := presenceBodies w 41 (d.tw.presV.map (fun e => beBytes 2 e.1 ++ beBytes 1 e.2.1 ++ beBytes 3 e.2.2))
    bodies.foldl (fun d b => d.mirror 0x04 b) (d.modTw (fun x => { x with presV := [] }))

/-! ### Join messages (Table 10.5, R367) -/

/-- JOIN_ACK at the joiner. -/
def Dev.joinAck (d : Dev) (result ts : Nat) : Dev :=
  if !d.heeds || d.tw.join ≠ .requested then d
  else if result = 0 then
    let d := { d with outs := d.outs.map (fun (kv : Nat × OutX) => (kv.1, { kv.2 with sinceTs := 0 })) }
    d.modTw (fun x => { x with join := .acked, joinTs := mtDecode ts, nextPart := 0 })
  else d.enterSuspect

/-- JOIN_REQ at the holder: RESULT 1 for an older format, 2 while a join or a Hamper fire is in progress, 3 beyond
TWIN_MT_LIMIT. -/
def Dev.joinReq (d : Dev) (format : Nat) : Dev :=
  if !d.heeds || !d.acts then d
  else
    let firing := (List.range 256).any (fun h => d.reg Obj.HAMPER_STATE h == hsArmed || d.reg Obj.HAMPER_STATE h == hsInProgress)
    let r := if format < d.reg Obj.STORE_FORMAT then 1
      else if d.tw.serving.isSome ∨ firing then 2
      else if d.reg Obj.TWIN_MT_LIMIT < (d.sreg 32 Obj.TWIN_MT_DIFF).natAbs then 3
      else 0
    let ts := d.now + msMt 2
    let d := d.sendRec 0x11 (beBytes 1 r ++ beBytes 12 (if r = 0 then mtEncode ts else 0)) 1
    if r = 0 then d.modTw (fun x => { x with serving := some ts }) else d

/-- JOIN_DONE: the holder's service ends; a joiner's join fails. -/
def Dev.joinDone (d : Dev) (result : Nat) : Dev :=
  if !d.heeds then d
  else if d.acts then d.modTw (fun x => { x with serving := none })
  else if result = 0 then d else d.joinFail result false

/-- JOIN_FILL_COMPLETE: every buffer holds its full history (step 5). -/
def Dev.joinFilled (d : Dev) : Dev :=
  if d.tw.join = .filling then
    d.modTw (fun x => { x with join := .verifying, verified := 0, snapMatched := false, validFrom := d.now / usMt 3 + 1 })
  else d

/-- A SUSPECT device whose TWIN_REJOIN_HOLDOFF is over begins a join while TW_0 is ACTIVE (R359). -/
def Dev.rejoin (d : Dev) : Dev :=
  match d.tw.rejoinAt with
  | some t => if d.twinState = twSuspect ∧ t ≤ d.clock ∧ d.laneState tw0 = lnActive then d.beginJoin else d
  | none => d

/-- REJOIN_HOLDOFF_EXPIRY: the holdoff runs to its end. -/
def Dev.holdoffEnd (d : Dev) : Dev :=
  match d.tw.rejoinAt with
  | some t => (d.passTo t).rejoin
  | none => d

/-- TW_0 left ACTIVE (R368, Table 10.6). -/
def Dev.tw0Lost (d : Dev) : Dev :=
  if !d.heeds then d
  else
    let d := d.modTw (fun x => { x with recs := [], rxSeq := none, serving := none })
    if d.twinState = twHot then d.enterSuspect
    else if d.twinState = twJoining then d.joinFail 3 false
    else d

/-! ### Commands and settings (Table 10.10) -/

def Dev.twinJoinStatus (d : Dev) : Nat :=
  if d.twinState = twSuspect then stOk
  else if d.twinState = twDetached then (if d.life.phase = .starting then stOk else stWrongState)
  else stBusy

def Dev.dpReleaseStatus (d : Dev) : Nat := if d.holds && d.peerIsHot then stOk else stConflict

/-- DP_LEASE_LEFT (Table 10.10). -/
def Dev.leaseLeft (d : Dev) : Nat := match d.tw.leaseEnd with | some e => e - d.clock | none => 0

end Sys2Proof.Machine
end

