-- ==== Sys2Proof/Machine/Store.lean ====
section
/-! DEFINITION. What is in flash: image slots and manifests, the boot pointer log, the store and gain logs, the Trail Log and the
CALIBRATION area (R462, R463, R475 to R483, R487 to R490, R496, R499). -/

namespace Sys2Proof.Machine

def Dev.modNv (d : Dev) (f : NvX → NvX) : Dev := { d with nv := f d.nv }
def Dev.modLife (d : Dev) (f : LifeX → LifeX) : Dev := { d with life := f d.life }

/-- Big-endian field of `n` bytes at `off`; zeros beyond the end. -/
def fieldAt (b : Bytes) (off n : Nat) : Nat := beNat (((b.drop off).take n ++ List.replicate n 0).take n)

/-- A byte string of exactly `n` bytes. -/
def fitBytes (n : Nat) (b : Bytes) : Bytes := (b ++ List.replicate n 0).take n

/-- DEV_SERIAL. -/
def Dev.serial (d : Dev) : Bytes := fitBytes 16 d.nv.serial

/-! ### Manifests and slots (Table 14.8) -/

def manVersion (m : Bytes) : Nat := fieldAt m 4 4
def manFormat (m : Bytes) : Nat := fieldAt m 8 2
def manKey (m : Bytes) : Nat := fieldAt m 10 1
def manBytes (m : Bytes) : Nat := fieldAt m 12 4
def manPieces (m : Bytes) : Nat := (manBytes m + 4095) / 4096
def compOffset (m : Bytes) (k : Nat) : Nat := fieldAt m (40 + 48 * k) 4
def compLength (m : Bytes) (k : Nat) : Nat := fieldAt m (44 + 48 * k) 4
def compHash (m : Bytes) (k : Nat) : Bytes := (m.drop (48 + 48 * k)).take 32
def pieceHash (m : Bytes) (n : Nat) : Bytes := (m.drop (320 + 32 * n)).take 32

def Dev.slot (d : Dev) (k : Nat) : ImageSlot := d.nv.slots.getD k {}
def Dev.setSlot (d : Dev) (k : Nat) (x : ImageSlot) : Dev := d.modNv (fun v => { v with slots := v.slots.set k x })

/-- The manifest of the running image. -/
def Dev.manifest (d : Dev) : Bytes := (d.slot d.life.slot).manifest

/-- The store format of the running image. -/
def Dev.imageFormat (d : Dev) : Nat := manFormat d.manifest

/-- Bytes `lo` to `lo + n − 1` of a slot's image. -/
def imageBytes (x : ImageSlot) (lo n : Nat) : Bytes :=
  let first := lo / 4096
  let ps := (List.range ((lo + n) / 4096 + 1 - first)).flatMap (fun k => fitBytes 4096 (smGet x.pieces (first + k) []))
  (ps.drop (lo - 4096 * first)).take n

/-- Component `k` of a slot hashes to what its manifest says. -/
def compGood (x : ImageSlot) (k : Nat) : Bool :=
  let m := x.manifest
  sha256 (imageBytes x (compOffset m k) (compLength m k)) == compHash m k

/-! ### Logs of the flash (R477 to R479) -/

def Dev.storeLog (d : Dev) (k : Nat) : List StoreRec := d.nv.stores.getD k []
def Dev.setLog (d : Dev) (k : Nat) (rs : List StoreRec) : Dev :=
  d.modNv (fun v => { v with stores := v.stores.set k rs })
def Dev.addLog (d : Dev) (rs : List StoreRec) : Dev :=
  d.setLog d.life.storeArea (d.storeLog d.life.storeArea ++ rs)

/-- Program a boot pointer record after the newest one; a full log loses its oldest sector. -/
def Dev.bootWrite (d : Dev) (b : BootRec) : Dev :=
  let seq := match d.nv.boot with | r :: _ => (r.seq + 1) % 2 ^ 32 | [] => 0
  d.modNv (fun v => { v with boot := { b with seq } :: (if 1024 ≤ v.boot.length then v.boot.take 960 else v.boot) })

/-! ### What waits for the FLASH gate (R558) -/

/-- The slot that is not running. -/
def Dev.otherSlot (d : Dev) : Nat := 1 - d.life.slot

/-- A change of the flash is made: a record, the erasure of a store, a new manifest with its slot and bitmap, a piece programmed, read
back and marked (R492), the staged manifest forgotten. -/
def Dev.flashWrite (d : Dev) (j : FlashJob) : Dev :=
  match j with
  | .boot b => d.bootWrite b
  | .marker kind time => d.addLog [{ kind, set := 0, body := beBytes 12 (mtEncode time) }]
  | .eraseStore k => d.setLog k []
  | .manifest m => (d.setSlot d.otherSlot { manifest := m }).modNv (fun v => { v with staged := m, stagedPieces := [] })
  | .piece n b =>
    let x := d.slot d.otherSlot
    (d.setSlot d.otherSlot { x with pieces := smSet x.pieces n b [] }).modNv (fun v => { v with
      stagedPieces := if v.stagedPieces.contains n then v.stagedPieces else v.stagedPieces ++ [n] })
  | .unstage => d.modNv (fun v => { v with staged := [], stagedPieces := [] })

/-- A change of the flash: at once, or once FLASH opens. -/
def Dev.flashDo (d : Dev) (j : FlashJob) : Dev :=
  if d.gateOn 33 then d.flashWrite j else d.modLife (fun x => { x with flashJobs := x.flashJobs ++ [j] })

/-- FLASH is open: what waited for it is done. -/
def Dev.flashRun (d : Dev) : Dev :=
  d.life.flashJobs.foldl Dev.flashWrite (d.modLife (fun x => { x with flashJobs := [] }))

/-- A gate opens; behind FLASH, what waited is done. -/
def Dev.flashGate (d : Dev) (g : Nat) : Dev := if g = 33 then (d.gateOpen g).flashRun else d.gateOpen g

/-- A reset that the device starts itself opens FLASH, and so does a lockout. -/
def Dev.flashOpen (d : Dev) : Dev := if d.gateOn 33 then d else (d.gateSet 33 true).flashRun

/-- Program a boot pointer record. -/
def Dev.pushBoot (d : Dev) (b : BootRec) : Dev := d.flashDo (.boot b)

/-- The record in force. -/
def Dev.bootRec (d : Dev) : Option BootRec := d.nv.boot.head?

/-- The FALLBACK record of a record: the previous slot and store (R499). -/
def fallbackOf (b : BootRec) (v : Nat) : BootRec :=
  { b with slot := b.prevSlot, prevSlot := b.slot, version := v,
           storeArea := if b.prevStoreArea = 255 then b.storeArea else b.prevStoreArea,
           prevStoreArea := if b.prevStoreArea = 255 then 255 else b.storeArea, state := 2, boots := 0 }

/-- Write the FALLBACK record of the record in force. -/
def Dev.pushFallback (d : Dev) : Dev :=
  match d.bootRec with
  | some b => d.pushBoot (fallbackOf b (manVersion (d.slot b.prevSlot).manifest))
  | none => d

/-- The trial image falls back: a FALLBACK record, then a reset (R499). -/
def Dev.fallBack (d : Dev) : Dev := d.pushFallback.ask (.reset 6)

/-- What the ROM writes when it takes up the newest record: a TRIAL record counts its boots, and the fourth boot falls back
(R496). -/
def Dev.bootTrial (d : Dev) : Dev :=
  match d.bootRec with
  | some b =>
    if b.state ≠ 1 then d
    else if 3 ≤ b.boots then d.pushFallback
    else d.pushBoot { b with boots := b.boots + 1 }
  | none => d

/-! ### The Trail Log in flash (R462, R463) -/

/-- Entries move from control RAM to the ring of 65,536, while FLASH is open; one that overwrites an entry newer than TRAIL_MARK
latches TRAIL_WRAP. -/
def Dev.flushTrail (d : Dev) : Dev :=
  if d.trailRam = [] ∨ !d.gateOn 33 then d
  else
    let all := d.nv.trail ++ d.trailRam
    let lost := all.take (all.length - 65536)
    let wrap := lost.any (fun e => decide ((e.seq - d.reg Obj.TRAIL_MARK + 2 ^ 32) % 2 ^ 32 < 2 ^ 31) && e.seq != d.reg Obj.TRAIL_MARK)
    let d := { d with trailRam := [] }
    let d := d.modNv (fun v => { v with trail := all.drop (all.length - 65536), trailSeq := d.reg Obj.TRAIL_NEXT_SEQ })
    if wrap then d.pulse Flt.TRAIL_WRAP else d

/-- The 32 bytes of an entry (Table 13.15). -/
def trailBytes (e : TrailEntry) : Bytes :=
  beBytes 4 e.seq ++ beBytes 12 (mtEncode e.time) ++ beBytes 2 e.code ++ beBytes 1 e.sev ++ beBytes 1 e.flags ++
  beBytes 8 e.ref ++ beBytes 4 e.value

/-- TRAIL_LOG: the entries, oldest first. -/
def Dev.trailLog (d : Dev) : Bytes :=
  let all := d.nv.trail ++ d.trailRam
  (all.drop (all.length - 65536)).flatMap trailBytes

/-! ### The store and gain logs (R478 to R483) -/

/-- The wire encoding of an element that the register file holds (R407). -/
def Dev.wireOf (d : Dev) (num i : Nat) : Bytes :=
  match objDesc num with
  | some o => match o.ty.size with
    | some n => beBytes n (d.reg num i)
    | none => d.blob num i
  | none => []

/-- The FORMAT record that opens a log. -/
def Dev.formatRec (d : Dev) (fmt : Nat) : StoreRec :=
  { kind := 1, set := 0, body := beBytes 2 fmt ++ d.serial ++ beBytes 4 (d.reg Obj.FW_VERSION) }

def closeRec (set n : Nat) : StoreRec := { kind := 3, set, body := beBytes 4 n }

/-- Record one write set: its VALUE records and a SET_CLOSE (R479). -/
def Dev.recordSet (d : Dev) (keys : List Nat) : Dev :=
  let n := d.life.setNo + 1
  let vs := keys.map (fun k =>
    ({ kind := 2, set := n, body := beBytes 8 (refBits (refOf (k / 65536) (k % 65536))) ++ d.wireOf (k / 65536) (k % 65536) } : StoreRec))
  (d.addLog (vs ++ [closeRec n vs.length])).modLife (fun x => { x with setNo := n })

/-- STORE_RECORD: every applied value not yet recorded is recorded, while FLASH is open (R409, R558). -/
def Dev.storeRecord (d : Dev) : Dev :=
  if !d.gateOn 33 then d
  else
    let sets := d.life.unrecorded
    (sets.foldl Dev.recordSet d).modLife (fun x => { x with unrecorded := [] })

/-- The gains of a row in MI order (Table 14.5); a zero row is the MO number alone. -/
def gainRowBody (gain : SMap Nat) (o : Nat) : Bytes :=
  let row := gain.filter (fun kv => decide (4096 * o ≤ kv.1) && decide (kv.1 < 4096 * (o + 1)))
  beBytes 2 o ++ (if row = [] then [] else
    (List.range 4096).flatMap (fun i => beBytes 2 (smGet row (4096 * o + i) 0)))

/-- GAIN_STORE_RECORD: the rows changed since the last recording, as one set (R298, R480). -/
def Dev.gainRecord (d : Dev) : Dev :=
  if !d.gateOn 33 || decide (d.life.gainDirty = []) then d
  else
    let n := d.life.setNo + 1
    let rs := d.life.gainDirty.map (fun o => ({ kind := 6, set := n, body := gainRowBody d.mix.gain o } : StoreRec))
    (d.modNv (fun v => { v with gainLog := v.gainLog ++ rs ++ [closeRec n rs.length] })).modLife
      (fun x => { x with gainDirty := [], setNo := n })

/-- A START or LAYBY record of the store. -/
def Dev.addMarker (d : Dev) (kind : Nat) : Dev := d.flashDo (.marker kind d.now)

/-- A set is closed: its SET_CLOSE is there, checks, and counts its records (R479). -/
def setClosed (rs : List StoreRec) (n : Nat) : Bool :=
  let c := (rs.filter (fun r => r.set == n && (r.kind == 2 || r.kind == 6))).length
  rs.any (fun r => r.set == n && r.kind == 3 && r.good && beNat r.body == c)

/-- The records of closed sets, in order. -/
def closedRecs (rs : List StoreRec) : List StoreRec :=
  rs.filter (fun r => (r.kind == 2 || r.kind == 6) && setClosed rs r.set)

/-- A log begins with a FORMAT record that checks. -/
def startsFormat (rs : List StoreRec) : Bool := match rs with | r :: _ => r.kind == 1 && r.good | [] => false

/-- The format of a log. -/
def logFormat (rs : List StoreRec) : Nat := match rs with | r :: _ => fieldAt r.body 0 2 | [] => 0

/-- The last marker of a store is START. -/
def lastIsStart (rs : List StoreRec) : Bool :=
  match (rs.filter (fun r => r.kind == 4 || r.kind == 5)).getLast? with
  | some r => r.kind == 4
  | none => false

/-- The checks of Table 14.6: LAYBY_REASON, or 0 (R481). -/
def Dev.storeCheck (d : Dev) : Nat :=
  let rs := d.storeLog d.life.storeArea
  let gs := d.nv.gainLog
  if !startsFormat rs || !startsFormat gs then 1
  else if (rs.headD { kind := 0, set := 0, body := [] }).body.drop 2 |>.take 16 |> (· != d.serial) then 4
  else if d.imageFormat < logFormat rs then 4
  else if !(rs.all (fun r => r.good && decide (1 ≤ r.kind) && decide (r.kind ≤ 6))) ||
      !(gs.all (fun r => r.good && decide (1 ≤ r.kind) && decide (r.kind ≤ 6))) then 2
  else if !(rs.all (fun r => !(r.kind == 2 || r.kind == 6) || setClosed rs r.set)) ||
      !(gs.all (fun r => !(r.kind == 2 || r.kind == 6) || setClosed gs r.set)) then 3
  else if !lastIsStart rs then 5
  else 0

/-- The newest closed value of each element, by `objKey` (R482). -/
def storeValues (rs : List StoreRec) : SMap Bytes :=
  (closedRecs rs).foldl (fun m r =>
    if r.kind = 2 then smSet m (objKey (fieldAt r.body 0 3) (fieldAt r.body 4 2)) (r.body.drop 8) [] else m) []

/-- The matrix that the gain log holds: the newest closed GAIN_ROW of each row (R482). -/
def gainValues (rs : List StoreRec) : SMap Nat :=
  let rows : SMap (Option Bytes) := (closedRecs rs).foldl (fun m r =>
    if r.kind = 6 then smSet m (fieldAt r.body 0 2) (some (r.body.drop 2)) none else m) []
  rows.foldl (fun g kv => match kv.2 with
    | some b => (List.range (b.length / 2)).foldl (fun g i => smSet g (4096 * kv.1 + i) (fieldAt b (2 * i) 2) 0) g
    | none => g) []

/-- A compacted log: whole sets that hold the newest value of some element, the markers and the FORMAT record, in order. -/
def compactLog (rs : List StoreRec) : List StoreRec :=
  let key := fun (r : StoreRec) => if r.kind = 2 then fieldAt r.body 0 8 else fieldAt r.body 0 2
  let newest := (closedRecs rs).foldl (fun (m : SMap Nat) r => smSet m (key r) r.set 0) []
  let live := (newest.map (·.2)).eraseDups
  rs.filter (fun r => !(r.kind == 2 || r.kind == 3 || r.kind == 6) || live.contains r.set)

/-- A fresh store in the other area and a fresh gain area, named by a new boot pointer record (R483). -/
def Dev.freshStore (d : Dev) (reason : Nat) : Dev :=
  let k := 1 - d.life.storeArea
  let f := d.formatRec d.imageFormat
  let d := ((d.setLog k [f]).modNv (fun v => { v with gainLog := [f] })).modLife (fun x => { x with storeArea := k })
  let d := match d.bootRec with | some b => d.pushBoot { b with storeArea := k } | none => d
  d.addTrail 0 0 0 (refOf Obj.LAYBY_REASON 0) (beBytes 1 reason)

/-- The first boot of a trial image with a newer store format: the converted store goes to the other area (R497). -/
def Dev.migrate (d : Dev) : Dev :=
  let rs := d.storeLog d.life.storeArea
  if !d.life.trial || d.imageFormat ≤ logFormat rs || !startsFormat rs then d
  else
    let k := 1 - d.life.storeArea
    let d := (d.setLog k (d.formatRec d.imageFormat :: (compactLog rs).drop 1)).modLife (fun x => { x with storeArea := k })
    match d.bootRec with
    | some b => d.pushBoot { b with storeArea := k }
    | none => d

/-! ### The bytes of the logs (Tables 14.3 and 14.4) -/

/-- A boot pointer record as programmed. -/
def bootBytes (b : BootRec) : Bytes :=
  let h := beBytes 2 0x4250 ++ beBytes 2 0 ++ beBytes 4 b.seq ++ [b.slot, b.prevSlot, b.storeArea, b.prevStoreArea, b.state, b.boots].flatMap
    (beBytes 1) ++ beBytes 2 0 ++ beBytes 4 b.version ++ List.replicate 40 0
  h ++ beBytes 4 (crc32c h)

/-- A record of the store or gain log as programmed: its header, then its body. -/
def storeRecBytes (r : StoreRec) : Bytes :=
  let h := beBytes 2 0x5354 ++ beBytes 1 r.kind ++ beBytes 1 0 ++ beBytes 4 r.set ++ beBytes 4 r.body.length
  h ++ beBytes 4 (crc32c (h ++ r.body)) ++ r.body

/-- Byte `o` of a log: its records stand one after another. -/
def logByte : List StoreRec → Nat → Option Byte
  | [], _ => none
  | r :: rs, o =>
    if o < 16 + r.body.length then (if r.good then (storeRecBytes r)[o]? else none) else logByte rs (o - (16 + r.body.length))

/-! ### Calibration (R487 to R489) -/

/-- The calibration objects in the order of CAL_SET: object, elements, bytes of an element. -/
def calLayout : List (Nat × Nat × Nat) :=
  [(Obj.CAL_LANE_PRESET, 274, 1), (Obj.CAL_TEMP_TRIM, 8, 2), (Obj.CAL_LOSC_PPT, 1, 4), (Obj.CAL_AP_IN_DELAY, 32, 1),
   (Obj.CAL_HBM_SEED, 64, 64)]

/-- CAL_SET as the calibration objects stand (R487). -/
def Dev.calSet (d : Dev) : Bytes :=
  let b := beBytes 2 1 ++ d.serial ++ calLayout.flatMap (fun o => (List.range o.2.1).flatMap (fun i => beBytes o.2.2 (d.reg o.1 i)))
  b ++ beBytes 4 (crc32c b)

/-- A CAL_SET checks: size, CRC, DEV_SERIAL (R488). -/
def Dev.calGood (d : Dev) (b : Bytes) : Bool :=
  b.length == 4440 && fieldAt b 4436 4 == crc32c (b.take 4436) && (b.drop 2).take 16 == d.serial

/-- The calibration objects take the values of a CAL_SET. -/
def Dev.calLoad (d : Dev) (b : Bytes) : Dev :=
  (calLayout.foldl (fun (s : Dev × Nat) o =>
    ((List.range o.2.1).foldl (fun d i => d.setReg o.1 i (fieldAt b (s.2 + o.2.2 * i) o.2.2)) s.1, s.2 + o.2.1 * o.2.2))
    (d, 18)).1

/-- LANE_CAL is live while the set is not VALID and a pair stands on the fallback preset (R489). -/
def Dev.calLine (d : Dev) : Dev :=
  d.setLine Flt.LANE_CAL (d.reg Obj.CAL_STATE != 0 && decide (d.life.presetFallback ≠ []))

/-- A lane's preset has been loaded or written (R489). -/
def Dev.presetKnown (d : Dev) (l : Nat) : Dev :=
  (d.modLife (fun x => { x with presetFallback := x.presetFallback.filter (· != l) })).calLine

/-- The calibration set is read at start, and gives its defaults (R487, R489). -/
def Dev.calStart (d : Dev) : Dev :=
  let b := d.nv.calibration
  let st := if b = [] then 1 else if d.calGood b then 0 else 2
  let d := (d.setReg Obj.CAL_STATE 0 st).setReg Obj.CAL_ORIGIN 0 (boolNat d.nv.calUser)
  if st = 0 then
    let d := (d.calLoad b).setReg Obj.CAL_CRC 0 (fieldAt b 4436 4)
    let d := (List.range 274).foldl (fun d l => d.setReg Obj.LANE_TX_PRESET l (d.reg Obj.CAL_LANE_PRESET l)) d
    let d := (List.range 32).foldl (fun d a => d.setReg Obj.AP_IN_DELAY a (d.reg Obj.CAL_AP_IN_DELAY a)) d
    d.setReg Obj.LOSC_TRIM 0 (d.reg Obj.CAL_LOSC_PPT)
  else
    let d := (List.range 274).foldl (fun d l => d.setReg Obj.LANE_TX_PRESET l 3) d
    (d.modLife (fun x => { x with presetFallback := List.range 274 })).calLine

/-- A calibration object or CAL_SET is written: the area is rewritten within 1 s (R488). -/
def Dev.calChanged (d : Dev) : Dev := d.modLife (fun x => { x with calPending := true })

/-- CALIBRATION_RECORD: the rewrite is complete. -/
def Dev.calRecord (d : Dev) : Dev :=
  if !d.life.calPending || !d.gateOn 33 then d
  else
    let b := d.calSet
    (((d.modNv (fun v => { v with calibration := b, calUser := true })).modLife (fun x => { x with calPending := false })).setReg
      Obj.CAL_ORIGIN 0 1).setReg Obj.CAL_CRC 0 (fieldAt b 4436 4)

end Sys2Proof.Machine
end

