-- ==== Sys2Proof/Machine/Boot.lean ====
section
/-! DEFINITION. Resets, the start-up steps 1 to 6, entry to STARTING, LAY_BY, FAIL and LOCKOUT, and the trial of an image (R452,
R453, R455, R472 to R474, R483 to R486, R496 to R501, R521, R546). -/

namespace Sys2Proof.Machine

/-- RESET_CAUSE values (Table 12.14). -/
def rcPowerOn : Nat := 0
def rcBall : Nat := 1
def rcRootClock : Nat := 2
def rcWatchdog : Nat := 3
def rcCommand : Nat := 4
def rcUpdate : Nat := 5
def rcFallback : Nat := 6

/-- EXTEST, CLAMP or HIGHZ is in force (R520, R521). -/
def Dev.ballsTaken (d : Dev) : Bool :=
  !d.dbg.replaced && (decide (d.dbg.tap = .extest) || decide (d.dbg.tap = .clamp) || decide (d.dbg.tap = .highz))

/-- A reset (R472, R526, R546): what outlives it stays, every other field takes its reset value. LIFECYCLE takes the move that
waits (R500), and LOCKOUT stays where it is latched (R455). The reset enters the Trail Log with its cause (R462). -/
def Dev.resetDevice (d : Dev) (cause : Nat) : Dev :=
  let nv := { d.nv with lifecycle := max d.nv.lifecycle d.nv.lifecycleNext, lifecycleNext := 0 }
  let n : Dev := {
    nv, freeN := d.freeN, ref := { active := d.ref.active },
    life := { phase := if nv.lockout then .lockout else .booting, held := true, resetCause := cause },
    dbg := { tap := d.dbg.tap, replaced := d.dbg.replaced, boundary := d.dbg.boundary } }
  let n := n.setReg Obj.TRAIL_NEXT_SEQ 0 nv.trailSeq
  let n := if nv.refereeDuty then n.setReg Obj.TWIN_STATE 0 twReferee else n
  n.addTrail 0 0 128 (refOf Obj.RESET_CAUSE 0) [BitVec.ofNat 8 cause]

/-- A reset that the device starts itself: every Trail Log entry is in flash first (R463), behind an open gate (R558). -/
def Dev.selfReset (d : Dev) (cause : Nat) : Dev := d.flashOpen.flushTrail.resetDevice cause

/-- POWER_ON: the power-on threshold is met, which alone leaves LOCKOUT (R455, R546). -/
def Dev.powerOn (d : Dev) : Dev :=
  { (d.modNv (fun v => { v with lockout := false })).resetDevice rcPowerOn with dbg := {} }

/-! ### FAIL, LOCKOUT, LAY_BY -/

/-- The Day Pass is dropped: DP_RELEASE with cause FAULT (R448). -/
def Dev.dropPass (d : Dev) : Dev :=
  if d.holds then (d.releasePass 1).event 0x4142 (refOf Obj.DP_HELD 0) else d

/-- Start-up stops: FAIL (R452, R453). -/
def Dev.failStop (d : Dev) : Dev :=
  if d.life.phase = .fail ∨ d.life.phase = .lockout then d
  else ((d.dropPass.detach).setPhase .fail).addTrail 0 6 0 (refOf Obj.DEV_STATE 0) [6]

/-- Lockout (R455): its cause is in flash, and only a power cycle leaves it. -/
def Dev.lockOut (d : Dev) : Dev :=
  if d.life.phase = .lockout then d
  else
    let d := (d.dropPass.event 0x4143 (refOf Obj.DEV_STATE 0)).flashOpen.flushTrail
    let d := (d.modNv (fun v => { v with lockout := true })).detach.setPhase .lockout
    { d with synth := { d.synth with stopped := true } }

/-- Entry to LAY_BY with a reason (R474, R483, R485). -/
def Dev.enterLayBy (d : Dev) (reason : Nat) : Dev :=
  ((d.detach).setReg Obj.LAYBY_REASON 0 reason).setPhase .layBy

/-- DEV_LAYBY: the lease ends, and a LAYBY record is written (R349, R485). -/
def Dev.devLayBy (d : Dev) : Dev := (((d.releasePass 0).addMarker 5).modLife (fun x => { x with startDue := false })).enterLayBy 5

/-- DEV_LAYBY is refused with CONFLICT while the device holds the Day Pass and its peer is HOT, and elsewhere than in STARTING,
STANDBY and ACTIVE (Tables 12.14, 14.7). -/
def Dev.layByStatus (d : Dev) : Nat :=
  if d.holds && d.peerIsHot then stConflict
  else if decide (d.life.phase = .starting) || decide (d.life.phase = .running) then stOk else stWrongState

/-! ### STARTING -/

/-- XP_SOURCE and the layer sources take the values of the store at START (R197, R274). -/
def Dev.restoreSources (d : Dev) : Dev :=
  (storeValues (d.storeLog d.life.storeArea)).foldl (fun d kv =>
    let n := kv.1 / 65536
    if n = Obj.XP_SOURCE ∨ n = Obj.CE_LAYER_SOURCE then d.setReg n (kv.1 % 65536) (beNat kv.2) else d) d

/-- Every inserter is OFF after each start, and CANOPY_EPOCH has risen (R274). -/
def Dev.canopyStart (d : Dev) : Dev :=
  let e := (d.nv.canopyEpoch + 1) % 2 ^ 32
  let d := (d.modNv (fun v => { v with canopyEpoch := e })).setReg Obj.CANOPY_EPOCH 0 e
  (List.range 128).foldl (fun d c => (d.setReg Obj.CI_ON c 0).ciSet c) d

/-- Entry to STARTING (R484 steps 3 to 6, R353): SOLO acts at once; beside an acting peer a join begins; otherwise the device
waits for a GRANT. -/
def Dev.enterStarting (d : Dev) : Dev :=
  let d := (d.restoreSources.canopyStart.setReg Obj.LAYBY_REASON 0 0).modLife (fun x => { x with started := true, startDue := false })
  let d := d.setPhase .starting
  if d.twinState = twReferee then d
  else if d.reg Obj.TWIN_MODE = 1 then
    ((d.setTwin twSolo).modTw (fun x => { x with solo := true })).setPhase .running
  else
    let d := d.modTw (fun x => { x with solo := false })
    if d.peerFresh && d.peerHolds then d.beginJoin else d.setTwin twAlone

/-- START is refused outside LAY_BY, while a core is halted, and while the TAP drives the balls (R484, R521, R525). -/
def Dev.startStatus (d : Dev) : Nat :=
  if d.life.phase ≠ .layBy then stWrongState
  else if d.dbg.cores.any (·.halted) || d.ballsTaken then stBusy else stOk

/-- STARTING_ENTRY: STORE_PENDING reads FALSE; the START record is written (R479, R484). -/
def Dev.startingEntry (d : Dev) : Dev :=
  if !d.life.startDue || decide (d.life.phase ≠ .layBy) || d.storePending then d
  else
    let d := (d.addMarker 4).setReg Obj.START_TIME 0 (mtEncode d.now)
    (d.addTrail 0 0 0 (refOf Obj.START 0) []).enterStarting

/-! ### Start-up, steps 1 to 6 -/

/-- A slot passes steps 3 and 4. -/
def Dev.slotBoots (d : Dev) (k : Nat) : Bool := decide (k < 2) && (d.slot k).manifestGood && (d.slot k).firstStageGood

/-- After a fall-back the old image erases the trial store and confirms itself (R499). -/
def Dev.afterFallback (d : Dev) (b : BootRec) : Dev :=
  let d := d.modLife (fun x => { x with resetCause := rcFallback })
  let d := if b.prevStoreArea < 2 ∧ b.prevStoreArea ≠ b.storeArea then d.setLog b.prevStoreArea [] else d
  let d := d.modNv (fun v => { v with fallbacks := min 0xFFFFFFFF (v.fallbacks + 1) })
  (d.pushBoot { b with prevSlot := 255, prevStoreArea := 255, state := 0 }).setLine Flt.IMAGE_FALLBACK true

/-- Step 6: the calibration set is read, reference qualification starts, lane pairs go to DETECT, HBM training starts; a referee
trains no frame memory (R371). -/
def Dev.stepSix (d : Dev) : Dev :=
  let d := (d.calStart.setReg Obj.SYNTH_LOCK 0 1).laneRefUpdate.raiseLanes
  if d.nv.refereeDuty then d else d.fmStart

/-- Steps 5 and 6 on a slot and its store: a component that fails its hash falls back (R473). -/
def Dev.firstStage (d : Dev) (b : BootRec) (k area : Nat) : Dev :=
  let d := d.modLife (fun x => { x with slot := k, storeArea := area, trial := b.state == 1 && b.slot == k, trialEnd := d.clock + 600000000000 })
  let d := if b.state = 2 then d.afterFallback b else d
  if !(d.slot k).componentsGood then d.fallBack
  else
    let d := (d.setReg Obj.FW_VERSION 0 (manVersion d.manifest)).setReg Obj.STORE_FORMAT 0 d.imageFormat
    (d.setPhase .selfTest).stepSix

/-- At its first start in FACTORY the device makes its identity key (R501): its value is open. -/
def Dev.makeIdentity (d : Dev) : Dev :=
  if d.nv.lifecycle = 0 ∧ d.nv.idPub = [] then
    let (v, d) := d.draw (2 ^ 256)
    d.modNv (fun x => { x with idPub := beBytes 32 v })
  else d

/-- Steps 1 to 6 of Table 14.1. Where no slot boots, the device stays in BOOTING (R473). -/
def Dev.startUp (d : Dev) : Dev :=
  let d := d.modLife (fun x => { x with held := false })
  if d.life.phase = .lockout then d
  else
    let d := if 2 < d.nv.lifecycle then d.setLine Flt.LIFECYCLE true else d
    let d := (d.latch Flt.RESET_SEEN).makeIdentity.bootTrial
    match d.bootRec with
    | none => d.modLife (fun x => { x with bootFailed := true })
    | some b =>
      if d.slotBoots b.slot then d.firstStage b b.slot b.storeArea
      else if d.slotBoots b.prevSlot then
        d.firstStage b b.prevSlot (if b.prevStoreArea < 2 then b.prevStoreArea else b.storeArea)
      else d.modLife (fun x => { x with bootFailed := true })

/-- RESET_N_RELEASE: held inside the device while the TAP drives the balls (R521). -/
def Dev.releaseReset (d : Dev) : Dev :=
  if !d.life.held then d
  else if d.ballsTaken then { d with dbg := { d.dbg with releaseHeld := true } }
  else d.startUp

/-! ### The trial of an image -/

/-- The conditions under which a trial image confirms itself (R498). -/
def Dev.trialMet (d : Dev) : Bool :=
  d.life.trial && decide (d.clock < d.life.trialEnd) && !d.life.fatalSeen && d.life.coreRestarts == 0 &&
  ((d.devState == 4 && d.twinState == twHot) ||
   (match d.life.activeSince with | some t => d.devState == 5 && decide (t + 60000000000 ≤ d.clock) | none => false) ||
   (d.nv.fromLayby && d.devState == 2 && d.reg Obj.LAYBY_REASON == 5))

/-- TRIAL_CONFIRM: a CONFIRMED record, and the old store is erased; UPD_STATE reads IDLE (R498). -/
def Dev.trialConfirm (d : Dev) : Dev :=
  if !d.trialMet then d
  else match d.bootRec with
    | some b =>
      let d := if b.prevStoreArea < 2 ∧ b.prevStoreArea ≠ d.life.storeArea then d.flashDo (.eraseStore b.prevStoreArea) else d
      let d := d.pushBoot { b with state := 0, boots := 0, storeArea := d.life.storeArea, prevStoreArea := 255 }
      ((d.flashDo .unstage).modNv (fun v => { v with fromLayby := false })).modLife (fun x => { x with trial := false })
    | none => d

/-- TRIAL_TIMEOUT: 600 s have passed without confirmation (R499). -/
def Dev.trialTimeout (d : Dev) : Dev := if d.life.trial && decide (d.life.trialEnd ≤ d.clock) then d.fallBack else d

/-- CC_WATCHDOG_EXPIRY: the core restarts; a fourth within an hour exceeds the bound and resets the device (R459, Table 13.14). A halted
core's watchdog is paused (R525). -/
def Dev.watchdog (d : Dev) (c : Nat) : Dev :=
  if (d.dbg.cores.getD c {}).halted then d
  else
    let ts := (d.clock :: smGet d.life.restarts c []).filter (fun t => decide (d.clock < t + 3600000000000))
    let d := (d.pulse (Flt.CC_WDOG + c)).modLife (fun x => { x with
      restarts := smSet x.restarts c ts [], coreRestarts := x.coreRestarts + 1 })
    if 3 < ts.length then d.ask (.reset rcWatchdog) else d

end Sys2Proof.Machine
end

