-- ==== Sys2Proof/Machine/Mixer.lean ====
section
/-! DEFINITION. The mixer: the gain matrix, its journal and its commits (R290 to R299). Cell 4096 o + i of the matrix is g[o][i]. -/

namespace Sys2Proof.Machine

/-- g[o][i] as the mixer uses it: 0 in a cell with an uncorrectable error (R299). -/
def MixX.gainOf (x : MixX) (c : Nat) : Int := if x.bad.contains c then 0 else toInt 16 (smGet x.gain c 0)

/-- The gain of sample `s` in a block that takes it from `old` to `new` (R293). -/
def rampGain (old new : Int) (s : Nat) : Int := old + ((new - old) * ((s : Int) + 1)).tdiv 16

/-- One term of the sum: the S40 product shifted right by 4 (R291). -/
def mixTerm (mi g : Int) : Int := mi * g / 16

/-- An output sample of a sum, before and after its clamp (R291). -/
def mixRound (acc : Int) : Int := (acc + 256) / 512
def mixClamp (v : Int) : Int := clampInt (-8388608) 8388607 v

/-- MI_i at sample `s` of delayed block `n`: silence where the edge buffer did not hold the block (R282). -/
def Dev.miSample (d : Dev) (i n s : Nat) : Int := if d.mix.edge.silent then 0 else (d.ao (33280 + i)).sample (16 * n + s)

/-- The mixer takes MI block `n` from its edge buffer. -/
def Dev.mixTake (d : Dev) (n : Nat) : Dev :=
  let x := d.mix.edge.take n
  let d := { d with mix := { d.mix with edge := x } }
  if x.silent then d.pulse Flt.EDGE_AUDIO else d

/-- The sums of block `n`, by output that has a gain: 16 accumulators each. -/
def Dev.mixSums (d : Dev) (n : Nat) (cells : List (Nat × Int × Int)) : SMap (List Int) :=
  cells.foldl (fun m c =>
    let o := c.1 / 4096
    let i := c.1 % 4096
    let acc := smGet m o (List.replicate 16 0)
    smSet m o ((List.range 16).map (fun s =>
      acc.getD s 0 + mixTerm (d.miSample i n s) (rampGain c.2.1 c.2.2 s))) []) []

/-- The block at which the armed commit applies (R297). -/
def MixX.boundary (x : MixX) : Option Nat := x.armedE.map blockAtOrAfter

/-- The armed commit has been read: its entries are in G (R297, R298). -/
def Dev.commitApply (d : Dev) (n : Nat) : Dev :=
  let x := d.mix
  let gain := x.armed.foldl (fun g kv => smSet g kv.1 (kv.2.getD 0) 0) x.gain
  let rows := (x.armed.map (fun kv => kv.1 / 4096)).eraseDups
  let d := { d with
    mix := { x with gain, armed := [], armedE := none, bad := x.bad.filter (fun c => (smGet x.armed c none).isNone) },
    life := { d.life with gainDirty := d.life.gainDirty ++ rows.filter (fun r => !d.life.gainDirty.contains r) } }
  let d := (d.setReg Obj.MIX_COMMIT_LAST 0 (mtEncode (blockTime n))).count Obj.MIX_COMMITS
  d.event 0x2901 (refOf Obj.MIX_COMMIT_LAST 0) (beBytes 12 (mtEncode (blockTime n)))

/-- MIXER_BLOCK: the mixer reads the MI blocks of number `n` and makes MO block n + 2 (R291 to R293, R297). -/
def Dev.mixerBlock (d : Dev) (n : Nat) : Dev :=
  if d.now < blockTime n + d.reg Obj.MIX_IN_OFFSET * subNs ∨ d.mix.made.any (fun m => m.1 == n + 2) then d
  else
    let d := d.mixTake n
    let x := d.mix
    let due := match x.boundary with | some b => decide (b ≤ n) | none => false
    let kept := x.gain.map (fun kv => (kv.1, x.gainOf kv.1,
      if due then (match smGet x.armed kv.1 none with | some g => toInt 16 g | none => x.gainOf kv.1) else x.gainOf kv.1))
    let fresh := if due then
        (x.armed.filter (fun kv => smGet x.gain kv.1 0 == 0)).map (fun kv => (kv.1, (0 : Int), toInt 16 (kv.2.getD 0)))
      else []
    let sums := d.mixSums n (kept ++ fresh)
    let out : SMap Block := sums.foldl (fun m kv =>
      smSet m kv.1 { present := 0xFFFF, samples := kv.2.map (fun a => mixClamp (mixRound a)) } {}) []
    let sat := sums.map (fun kv =>
      (kv.1, (kv.2.filter (fun a => mixClamp (mixRound a) != mixRound a)).length))
    let d := sat.foldl (fun d s => if s.2 = 0 then d else (d.count Obj.MIX_OUT_SAT s.1 s.2).pulse Flt.MIX_SAT) d
    let d := { d with mix := { d.mix with made := ((n + 2, out) :: d.mix.made).take 256 } }
    if due then d.commitApply n else d

/-! ### The journal (R294 to R296) -/

/-- Journal entries of a message: cell and gain; none where the bytes are no entries (Table 8.7). -/
def journalEntries (b : Bytes) : Option (List (Nat × Nat)) :=
  if b.length % 8 ≠ 0 ∨ b = [] ∨ 8 * 65536 < b.length then none
  else
    let es := (chunksOf 8 (b.length + 1) b).map beNat
    if es.any (fun e => fld e 39 16 != 0) then none
    else some (es.map (fun e => (4096 * fld e 63 52 + fld e 51 40, fld e 15 0)))

/-- The entries of a row write: 4096 gains, MI order. -/
def rowEntries (o : Nat) (b : Bytes) : Option (List (Nat × Nat)) :=
  if b.length ≠ 8192 then none
  else
    let gs := (chunksOf 2 8193 b).map beNat
    some ((List.range 4096).map (fun i => (4096 * o + i, gs.getD i 0)))

/-- Entries of a message that the open journal does not hold, counted once each. -/
def MixX.added (x : MixX) (es : List (Nat × Nat)) : Nat :=
  ((es.map (·.1)).eraseDups.filter (fun c => (smGet x.opened c none).isNone)).length

/-- A message of entries fits (R295). `held` counts entries of accepted messages whose E has not come. -/
def Dev.journalStatus (d : Dev) (held : Nat) (es : Option (List (Nat × Nat))) : Nat :=
  match es with
  | none => stInvalid
  | some l =>
    if 65536 < d.mix.opened.length + d.mix.armed.length + held + d.mix.added l then stNoCapacity else stOk

/-- Append entries to the open journal (R294). -/
def Dev.journalAdd (d : Dev) (es : Option (List (Nat × Nat))) : Dev :=
  { d with mix := { d.mix with opened := (es.getD []).foldl (fun m e => smSet m e.1 (some e.2) none) d.mix.opened } }

def Dev.journalDiscard (d : Dev) : Dev := { d with mix := { d.mix with opened := [] } }

/-- A MIX_COMMIT is refused while one is armed or the open journal is empty (R296). -/
def Dev.commitStatus (d : Dev) : Nat := if d.mix.armedE.isSome ∨ d.mix.opened = [] then stBusy else stOk

/-- A MIX_COMMIT is accepted, with its E (R296). -/
def Dev.commitArm (d : Dev) (e : Nat) : Dev :=
  { d with mix := { d.mix with armed := d.mix.opened, opened := [], armedE := some e } }

/-- MIX_GAIN_ROW as it reads: the row after the last applied commit (R297). -/
def Dev.gainRow (d : Dev) (o : Nat) : Bytes :=
  ((List.range 4096).map (fun i => beBytes 2 (smGet d.mix.gain (4096 * o + i) 0))).flatten

end Sys2Proof.Machine
end

