-- ==== Sys2Proof/Machine/PacketTx.lean ====
section
/-! DEFINITION. Transmit flows: their checks and load, the packets they send and when (R228 to R236). -/

namespace Sys2Proof.Machine

/-! ### Load and admission (R228, R229, R146) -/

/-- The format of a flow's source output. -/
def Dev.tfFmt (d : Dev) (t : Nat) : Option Fmt := fmtOf (d.outFormat (d.reg Obj.TF_SOURCE t))

/-- Samples of an audio packet (TF_PTIME: 1 ms or 125 µs). -/
def Dev.tfSamples (d : Dev) (t : Nat) : Nat := if d.reg Obj.TF_PTIME t = 0 then 48 else 6

def Dev.tfSampleBytes (d : Dev) (t : Nat) : Nat := if d.reg Obj.TF_SAMPLE t = 0 then 3 else 2

/-- A leg's header bytes before RTP: Ethernet with its tag, IPv4, UDP. -/
def hdrBytes (hdr : Nat) : Nat := (if bitOf hdr 159 then 18 else 14) + 28

/-- The longest frame of a flow's leg, DA to FCS. -/
def Dev.tfMaxFrame (d : Dev) (t hdr : Nat) : Nat :=
  let base := hdrBytes hdr + 12 + 4
  match d.reg Obj.TF_ESSENCE t with
  | 0 => match d.tfFmt t with
    | some f => base + 8 + (f.width / 2 + f.perRow - 1) / f.perRow * 5
    | none => base + 8
  | 1 => base + d.tfSamples t * d.reg Obj.TF_CHANNELS t * d.tfSampleBytes t
  | _ => base + 1400

/-- Baskets a second of one leg (R229). Video and ancillary rates at a /1.001 frame rate round up. -/
def Dev.tfLoad (d : Dev) (t : Nat) : Nat :=
  match d.reg Obj.TF_ESSENCE t with
  | 0 => match d.tfFmt t with
    | some f => (f.packets * 5 * f.perSecond + f.period.num - 1) / f.period.num
    | none => 0
  | 1 => 48000 / d.tfSamples t * ((d.tfMaxFrame t (d.reg Obj.TF_RED_HDR t) + 255) / 256)
  | _ => match d.tfFmt t with
    | some f => (64 * f.perSecond + f.period.num - 1) / f.period.num
    | none => 0

/-- The ports of a flow's legs. -/
def Dev.tfPorts (d : Dev) (t : Nat) : List Nat :=
  d.reg Obj.TF_RED_PORT t :: (if d.reg Obj.TF_BLUE_PORT t = 0xFFFF then [] else [d.reg Obj.TF_BLUE_PORT t])

/-- PKT_TX_LOAD: Baskets a second that enabled flows take of port `p`. -/
def Dev.txLoad (d : Dev) (p : Nat) : Nat :=
  (d.trueOf Obj.TF_ENABLE).foldl (fun n t => n + ((d.tfPorts t).filter (· == p)).length * d.tfLoad t) 0

/-- The frames of transmit flow `t` fit the MAX_PACKET that the far ends of its ports declared; unknown capabilities pass (R146). -/
def Dev.tfFits (d : Dev) (t : Nat) : Bool :=
  (d.tfPorts t).all (fun p => match d.farMaxPacket p with
    | some m => d.tfMaxFrame t (d.reg Obj.TF_RED_HDR t) ≤ m && d.tfMaxFrame t (d.reg Obj.TF_BLUE_HDR t) ≤ m
    | none => true)

/-- Status of TF_ENABLE TRUE (R146, R228, R229). -/
def Dev.tfStatus (d : Dev) (t : Nat) : Nat :=
  let ess := d.reg Obj.TF_ESSENCE t
  let src := d.reg Obj.TF_SOURCE t
  let ports := d.tfPorts t
  let others := (d.trueOf Obj.TF_ENABLE).filter (· != t)
  let srcOk := if ess = 1 then decide (src + d.reg Obj.TF_CHANNELS t ≤ 32768)
    else decide (src < 1024) && d.reg Obj.OUT_TRANSPORT src == 1 && !d.flag Obj.OUT_GANG src
  let node := if ess = 1 then d.reg Obj.TF_RED_PORT t / 64 else src / 64
  let portsOk := ports.all (fun p => decide (p < 1024) && d.reg Obj.OUT_TRANSPORT p == 1 && (ess == 1 || p / 64 == node))
  if !srcOk || !portsOk || !d.tfFits t then stInvalid
  else if ess ≠ 1 && others.any (fun o => d.reg Obj.TF_ESSENCE o == ess && d.reg Obj.TF_SOURCE o == src) then stConflict
  else if ports.any (fun p =>
      5900000 < d.txLoad p + (if d.flag Obj.TF_ENABLE t then 0 else (ports.filter (· == p)).length * d.tfLoad t)) then stNoCapacity
  else stOk

/-- The port withdrew what the flow needs, or the flow's source output is not in service (R146, R236). -/
def Dev.tfWaiting (d : Dev) (t : Nat) : Bool :=
  (d.reg Obj.TF_ESSENCE t != 1 && !(d.outService (d.reg Obj.TF_SOURCE t) && (d.tfFmt t).isSome)) ||
  (d.tfPorts t).any (fun p => !d.outService p) || !d.tfFits t

/-- TF_STATE (R236): 0 DISABLED, 1 RUNNING, 2 WAITING. -/
def Dev.tfState (d : Dev) (t : Nat) : Nat := if !d.flag Obj.TF_ENABLE t then 0 else if d.tfWaiting t then 2 else 1

/-! ### Headers (R230, Table 6.5) -/

/-- Ethernet, IPv4 and UDP headers of a leg around `len` bytes of RTP. -/
def legHeader (hdr len : Nat) : Bytes :=
  let eth := beBytes 6 (fld hdr 255 208) ++ beBytes 6 (fld hdr 207 160) ++
    (if bitOf hdr 159 then [0x81, 0x00] ++ beBytes 2 (fld hdr 155 140) else []) ++ [0x08, 0x00]
  let ip0 : Bytes := [0x45, BitVec.ofNat 8 (4 * fld hdr 139 134)] ++ beBytes 2 (28 + len) ++ [0, 0, 0x40, 0] ++
    [BitVec.ofNat 8 (fld hdr 133 126), 17]
  let ip1 := beBytes 4 (fld hdr 125 94) ++ beBytes 4 (fld hdr 93 62)
  let sum := ipChecksum (ip0 ++ [0, 0] ++ ip1)
  let udp := beBytes 2 (fld hdr 61 46) ++ beBytes 2 (fld hdr 45 30) ++ beBytes 2 (8 + len) ++ [0, 0]
  eth ++ ip0 ++ beBytes 2 sum ++ ip1 ++ udp

/-- The RTP header: V 2, P 0, X 0, CC 0. -/
def rtpHeader (marker : Bool) (pt seq ts ssrc : Nat) : Bytes :=
  [0x80, BitVec.ofNat 8 (boolNat marker * 128 + pt % 128)] ++ beBytes 2 seq ++ beBytes 4 ts ++ beBytes 4 ssrc

/-- The Baskets of a frame (R133); TIME is the send time. -/
def packetBaskets (frame : Bytes) (time : Nat) : List Basket :=
  let parts := chunksOf 256 37 frame
  let n := parts.length
  (List.range n).map (fun i =>
    let b := parts.getD i []
    { type := tyPacket, valid := true, mark := if i + 1 = n then 5 else if i = 0 then 4 else 0, count := b.length % 256,
      offset := i, time, payload := padTo 256 b })

/-- Queue a frame on a leg: its FCS, its Baskets, the counters per leg. -/
def Dev.sendLeg (d : Dev) (t p hdr at_ : Nat) (rtp : Bytes) : Dev :=
  let body := legHeader hdr rtp.length ++ rtp
  let body := padTo 60 body
  let frame := body ++ leBytes 4 (crc32 body)
  let bs := packetBaskets frame (timeField at_)
  let d := d.modOut p (fun x => { x with pkts := x.pkts ++ bs.map (fun b => (at_, b)) })
  (d.countWrap Obj.TF_PKTS t 1).countWrap Obj.TF_BYTES t frame.length

/-- Both legs send the same RTP packet at the same time (R230, R233). -/
def Dev.sendFlow (d : Dev) (t at_ : Nat) (rtp : Bytes) : Dev :=
  let d := d.sendLeg t (d.reg Obj.TF_RED_PORT t) (d.reg Obj.TF_RED_HDR t) at_ rtp
  if d.reg Obj.TF_BLUE_PORT t = 0xFFFF then d
  else d.sendLeg t (d.reg Obj.TF_BLUE_PORT t) (d.reg Obj.TF_BLUE_HDR t) at_ rtp

/-! ### Video (R231 to R233) -/

/-- Pixel groups before packet `m` of a row, of `w/2` groups in `k` packets; earlier packets take one more. -/
def groupsBefore (w k m : Nat) : Nat := m * (w / 2 / k) + min m (w / 2 % k)

/-- The ten-bit words of a row as bytes (general packing mode, four words to five bytes). -/
def tenPack (ws : List Nat) : Bytes :=
  beBytes (ws.length * 10 / 8) (ws.foldl (fun a w => a * 1024 + w % 1024) 0)

/-- I of R232 as an exact number of seconds × 90,000, floored: the cadence start less OUT_OFFSET, plus P/2 for field 2. -/
def Dev.rtpTime (d : Dev) (p : Nat) (f : Fmt) (field : Nat) : Nat :=
  let x := d.out p
  let i := f.exactStart x.ph x.start - f.exNs (d.reg Obj.OUT_OFFSET p) + (if field = 1 then f.exP / 2 else 0)
  (i * 90000 / (f.scale * subSec)).toNat % 2 ^ 32

/-- The frame number of R232: the nearest integer of (cadence start − OUT_OFFSET) / P. -/
def Dev.rtpFrame (d : Dev) (p : Nat) (f : Fmt) : Nat :=
  let x := d.out p
  ((2 * (f.exactStart x.ph x.start - f.exNs (d.reg Obj.OUT_OFFSET p)) + f.exP) / (2 * f.exP)).toNat

/-- A send time rounded up to the next 4 ns tick (R233). -/
def Fmt.sendTick (f : Fmt) (x : Int) : Nat := f.tick x

/-- The line after a field's first active line. -/
def Fmt.packLine (f : Fmt) (field : Nat) : Nat := (if field = 0 then f.a1 else f.a2) + 1

/-- Packet `j` of the frame in course (R231 to R233). -/
def Dev.sendVideo (d : Dev) (t j : Nat) : Dev :=
  let p := d.reg Obj.TF_SOURCE t
  match d.tfFmt t, d.outLook p 0 with
  | some f, some k =>
    let N := f.packets
    let total := if f.interlaced then 2 * N else N
    if total ≤ j ∨ !(d.out p).started then d
    else
      let x := d.out p
      let field := j / N
      let jf := j % N
      let kk := f.perRow
      let row := jf / kk
      let m := jf % kk
      let g0 := groupsBefore f.width kk m
      let g1 := groupsBefore f.width kk (m + 1)
      let line := (if field = 0 then f.a1 else f.a2) + row
      let first := (line - 1) * f.lineWords + (f.lineWords - 2 * f.width)
      let F := f.exactStart x.ph x.start
      let ws := (List.range (4 * (g1 - g0))).map (fun i =>
        let w := first + 4 * g0 + i
        d.outWord p k w (F + w * f.exTw))
      let under := ws.any (·.isNone)
      let ws := (List.range ws.length).map (fun i => match ws[i]? with
        | some (some (some v)) => v
        | _ => Config.holeWord t (first + 4 * g0 + i) % 1024)
      let d := if under then (d.count Obj.OUT_UNDERFLOW p 5).pulse (Flt.EDGE_GN + p / 64) else d
      let e1 := F + ((f.packLine field - 1 : Nat) : Int) * f.exTl
      let at_ := f.sendTick (e1 + f.exNs (4000 + d.reg Obj.TF_TRO_EXTRA t) + jf * f.exTl / kk)
      let n := d.rtpFrame p f
      let ext := (n * (if f.interlaced then 2 * N else N) + j) % 2 ^ 32
      let srd := beBytes 2 (5 * (g1 - g0)) ++ beBytes 2 (field * 32768 + row) ++ beBytes 2 (2 * g0)
      let rtp := rtpHeader (decide (jf + 1 = N)) (d.reg Obj.TF_PT t) (ext % 65536) (d.rtpTime p f field) (d.reg Obj.TF_SSRC t) ++
        beBytes 2 (ext / 65536) ++ srd ++ tenPack ws
      d.sendFlow t at_ rtp
  | _, _ => d

/-! ### Audio (R232, R233) -/

/-- A sample as the flow encodes it: L24, or the upper 16 bits. -/
def Dev.tfEncode (d : Dev) (t : Nat) (v : Int) : Bytes :=
  if d.reg Obj.TF_SAMPLE t = 0 then beBytes 3 (ofInt 24 v) else beBytes 2 (ofInt 24 v / 256)

/-- The packet whose first sample is `k0`; an AO sample whose block has not been decided counts in TF_LATE_DATA. -/
def Dev.sendAudio (d : Dev) (t k0 : Nat) : Dev :=
  let s := d.tfSamples t
  let b := d.reg Obj.TF_SOURCE t
  let chans := d.reg Obj.TF_CHANNELS t
  let at_ := (sampleTime (k0 + s) + d.reg Obj.TF_AUDIO_OFFSET t * subNs + 262143) / 262144 * 262144
  let payload := (List.range s).flatMap (fun i => (List.range chans).flatMap (fun c => d.tfEncode t ((d.ao (b + c)).sample (k0 + i))))
  let late := (List.range s).foldl (fun n i => (List.range chans).foldl (fun n c =>
    let x := d.ao (b + c)
    let k := k0 + i
    let m := (k - (x.delayAt (k / 16)).1.1) / 16
    if smGet x.decided m 0 = 0 ∧ !d.blockHere (b + c) m then n + 1 else n) n) 0
  let d := if late = 0 then d else (d.count Obj.TF_LATE_DATA t late).pulse Flt.TF_LATE_DATA
  d.sendFlow t at_ (rtpHeader false (d.reg Obj.TF_PT t) (k0 / s % 65536) (k0 % 2 ^ 32) (d.reg Obj.TF_SSRC t) ++ payload)

/-! ### Ancillary data (R232, R233) -/

/-- An ANC packet that is no transport of the interface itself: not audio, ST 352 or EDH (R233). -/
def ancCarried (a : AncFound) : Bool := !audioDids a.did && !(a.did == 0x41 && a.sdid == 0x01) && a.did != 0xF4

/-- An ANC packet as an ST 2110-40 payload holds it: C bit, line, horizontal offset, words, aligned to 32 bits. -/
def ancBytes (c line offset : Nat) (a : AncFound) : Bytes :=
  let ws := a.all.drop 3
  let words := (10 * ws.length + 31) / 32
  beBytes 4 ((c * 2 ^ 11 + line) * 2 ^ 20 + offset * 2 ^ 8) ++
    beBytes (4 * words) ((ws.foldl (fun v w => v * 1024 + w % 1024) 0) * 2 ^ (32 * words - 10 * ws.length))

/-- The ANC packets in a stream's words with their places, at most `fuel` words looked at. -/
def ancPlaces (ws : List Nat) : List (Nat × AncFound) :=
  (List.range ws.length).filterMap (fun i =>
    match ancFind 1 (ws.drop i) with
    | a :: _ => some (i, a)
    | [] => none)

/-- The ANC packets that output `p` carries on line `l`, as an ST 2110-40 payload holds them: those of the horizontal space without a
place, then those of a line outside the picture, by stream. -/
def Dev.ancOnLine (d : Dev) (p : Nat) (k : Look) (l : Nat) : List Bytes :=
  let x := d.out p
  let g := k.g
  let streams := streamsOf k.gc
  let base := (l - 1) * g.lineWords
  let word (i : Nat) : Nat :=
    match d.outWord p k (base + i) (k.f.exactStart x.ph x.start + ((base + i : Nat) : Int) * k.tw) with
    | some (some v) => v
    | _ => k.black i
  let part (first n : Nat) (hanc : Bool) : List Bytes :=
    (List.range streams).flatMap (fun s =>
      let ws := (List.range (n / streams)).map (fun j => word (first + streams * j + s))
      let c := if streams = 2 ∧ s = 0 then 1 else 0
      ((ancPlaces ws).filter (fun q => ancCarried q.2)).map (fun q => ancBytes c l (if hanc then 0xFFE else q.1) q.2))
  part (hancStart k.gc) (g.savAt k.gc - hancStart k.gc) true ++
    (if (g.rowOf l).isSome then [] else part (g.lineWords - 2 * g.width) (2 * g.width) false)

/-- The lines of field `n` of a format. -/
def fieldLines (c : Nat) (f : Fmt) (n : Nat) : List Nat :=
  ((List.range f.lines).map (· + 1)).filter (fun l => fieldOfLine c l == n)

/-- ANC packets into payloads of at most 1,400 bytes, 8 of them the payload header, in order. -/
def fillPayloads (ps : List Bytes) : List (List Bytes) :=
  (ps.foldl (fun (r : List (List Bytes)) b =>
    match r with
    | cur :: done =>
      if (cur.map List.length).sum + b.length ≤ 1392 ∧ cur.length < 255 then (cur ++ [b]) :: done else [b] :: cur :: done
    | [] => [[b]]) []).reverse

/-- The last line of field `n`. -/
def lastLine (c : Nat) (f : Fmt) (n : Nat) : Nat := if f.interlaced ∧ n = 0 then fieldLine c - 1 else f.lines

/-- Packet `j` of field `n` (0 or 1) of the frame in course: the ANC packets of the field, cut into payloads (R232, R233). PRESUMED (log
120): the marker bit is on the last packet of the field, and a field without ANC packets sends none. -/
def Dev.sendAnc (d : Dev) (t n j : Nat) : Dev :=
  let p := d.reg Obj.TF_SOURCE t
  match d.tfFmt t, d.outLook p 0 with
  | some f, some k =>
    let packets := fillPayloads ((fieldLines k.c f n).flatMap (d.ancOnLine p k))
    match packets[j]? with
    | none => d
    | some ps =>
      if !(d.out p).started ∨ (n ≠ 0 ∧ !f.interlaced) then d
      else
        let x := d.out p
        let e := f.exactStart x.ph x.start + ((lastLine k.c f n - 1 : Nat) : Int) * f.exTl
        let at_ := f.sendTick (e + f.exNs (4000 + 2000 * j))
        let seq := smGet x.ancSeq t 0
        let fbits := if !f.interlaced then 0 else if n = 0 then 2 else 3
        let body := ps.flatten
        let anc := beBytes 2 (seq / 65536) ++ beBytes 2 body.length ++ beBytes 1 ps.length ++ beBytes 3 (fbits * 2 ^ 22) ++ body
        let rtp := rtpHeader (decide (j + 1 = packets.length)) (d.reg Obj.TF_PT t) (seq % 65536) (d.rtpTime p f n) (d.reg Obj.TF_SSRC t) ++ anc
        (d.sendFlow t at_ rtp).modOut p (fun y => { y with ancSeq := smSet y.ancSeq t (seq + 1) 0 })
  | _, _ => d

/-- PACKET_SEND: a running flow sends a packet: `j` of the frame or of field `n`, or that of first sample `n` (R233, R236). -/
def Dev.packetSend (d : Dev) (t n j : Nat) : Dev :=
  if d.tfState t ≠ 1 ∨ !d.pipeRuns then d
  else match d.reg Obj.TF_ESSENCE t with
    | 0 => d.sendVideo t j
    | 1 => d.sendAudio t n
    | _ => d.sendAnc t n j

end Sys2Proof.Machine
end

