-- ==== Sys2Proof/Machine/Update.lean ====
section
/-! DEFINITION. Firmware update, identity and attestation, vendor keys and the life-cycle command (R490 to R495, R499 to R504). -/

namespace Sys2Proof.Machine

def upIdle : Nat := 0
def upReceiving : Nat := 1
def upStaged : Nat := 2
def upTrial : Nat := 3

/-- Pieces of the staged manifest still missing: UPD_PIECES_LEFT. -/
def Dev.piecesLeft (d : Dev) : Nat :=
  if d.nv.staged = [] then 0
  else ((List.range (manPieces d.nv.staged)).filter (fun n => !(d.nv.stagedPieces.contains n))).length

/-- UPD_STATE. -/
def Dev.updState (d : Dev) : Nat :=
  if d.life.trial then upTrial else if d.nv.staged = [] then upIdle
  else if d.piecesLeft = 0 then upStaged else upReceiving

/-- UPD_BITMAP: bit n mod 8 of byte n div 8. -/
def Dev.updBitmap (d : Dev) : Bytes :=
  (List.range 252).map (fun b => BitVec.ofNat 8 ((List.range 8).foldl (fun v k =>
    if d.nv.stagedPieces.contains (8 * b + k) then v + 2 ^ k else v) 0))

/-! ### The manifest (R491) -/

/-- Bytes of a SLH-DSA-SHA2-128s signature. -/
def sigBytes : Nat := 7856

/-- The manifest entry that carries component `id`. -/
def compEntry (m : Bytes) (id : Nat) : Option Nat := (List.range 6).find? (fun k => fieldAt m (32 + 48 * k) 1 == id)

/-- IDs 0 to 5 once each, within IMAGE_BYTES, without overlap, component 0 at most 1 MiB. -/
def compsOk (m : Bytes) : Bool :=
  let lo := compOffset m
  let hi := fun k => compOffset m k + compLength m k
  (List.range 6).all (fun id => (compEntry m id).isSome) &&
  (List.range 6).all (fun k => decide (hi k ≤ manBytes m)) &&
  (List.range 6).all (fun j => (List.range 6).all (fun k => j == k || decide (hi j ≤ lo k) || decide (hi k ≤ lo j))) &&
  (match compEntry m 0 with | some k => decide (compLength m k ≤ 1048576) | none => false)

/-- A manifest is valid (R491). -/
def Dev.manifestOk (d : Dev) (m : Bytes) : Bool :=
  let n := m.length - sigBytes
  fieldAt m 0 2 == 0x4D46 && fieldAt m 2 2 == 1 && fieldAt m 11 1 == 6 &&
  decide (1 ≤ manBytes m) && decide (manBytes m ≤ 8257536) && fieldAt m 16 16 == 0 &&
  m.length == 320 + 32 * manPieces m + sigBytes &&
  decide (manKey m < 4) && d.nv.keyState.getD (manKey m) 0 == 1 &&
  Config.slhVerify (d.nv.keyPub.getD (manKey m) []) (sha256 (m.take n)) (m.drop n) &&
  compsOk m && decide (d.reg Obj.STORE_FORMAT ≤ manFormat m)

/-- UPD_MANIFEST written: its status. -/
def Dev.manifestStatus (d : Dev) (m : Bytes) : Nat :=
  if d.life.trial then stConflict else if d.manifestOk m then stOk else stInvalid

/-- An accepted manifest: the staged one again keeps the bitmap; another clears it and the slot that is not running. -/
def Dev.manifestSet (d : Dev) (m : Bytes) : Dev :=
  if d.nv.staged = m then d else d.flashDo (.manifest m)

/-! ### Pieces (R492, R493) -/

/-- The bucket's tokens now, in sixty-thousandths of a token, and the time to which they are reckoned (R493). -/
def Dev.updTokens (d : Dev) : Nat × Nat :=
  let ms := (d.clock - d.sec.filledAt) / 1000000
  (min 240000 (d.sec.tokens + ms * d.reg Obj.UPD_RATE_MAX), d.sec.filledAt + ms * 1000000)

/-- UPD_PIECE[n] written: its status. -/
def Dev.pieceStatus (d : Dev) (n : Nat) (b : Bytes) : Nat :=
  let m := d.nv.staged
  if m = [] then stWrongState
  else
    let size := if n + 1 = manPieces m then manBytes m - 4096 * n else 4096
    if manPieces m ≤ n ∨ b.length ≠ size ∨ sha256 b ≠ pieceHash m n then stInvalid
    else if d.nv.stagedPieces.contains n then stOk
    else if d.updTokens.1 < 60000 then stBusy
    else stOk

/-- An accepted piece is programmed, read back and marked. -/
def Dev.pieceSet (d : Dev) (n : Nat) (b : Bytes) : Dev :=
  if d.nv.stagedPieces.contains n then d
  else
    let (t, at_) := d.updTokens
    let d := d.flashDo (.piece n b)
    { d with sec := { d.sec with tokens := t - 60000, filledAt := at_ } }

/-! ### Activation (R494, R495) -/

/-- The first failing check of Table 14.9, and its status; 0 where none fails. -/
def Dev.activateCheck (d : Dev) : Nat × Nat :=
  let layBy := decide (d.life.phase = .layBy)
  let recent := match d.life.holderAt with | some t => decide (d.clock < t + 1000000000) | none => false
  let warm := (List.range 8).any (fun k => decide (95 ≤ d.sreg 8 Obj.TEL_TEMP k))
  if d.updState ≠ upStaged then (1, stWrongState)
  else if d.holds then (2, stConflict)
  else if !layBy && !(d.reg Obj.TWIN_MODE == 0 && d.peerHolds && !d.peerFault) then (3, stConflict)
  else if !layBy && (d.twinState == twJoining || d.reg Obj.PEER_STATE == twJoining || recent) then (4, stBusy)
  else if d.flag Obj.UPD_OWNER_LOCK then (5, stLocked)
  else if !layBy && d.reg Obj.HAMPERS_IN_PROGRESS != 0 then (6, stBusy)
  else if d.storePending then (7, stBusy)
  else if d.reg Obj.AVS_MARGIN < d.reg Obj.AVS_MARGIN_TARGET || warm || d.flag Obj.FM_HOT 0 || d.flag Obj.FM_HOT 1 then
    (8, stWrongState)
  else (0, stOk)

/-- An accepted UPD_ACTIVATE: the staged slot is read back; good, it is named by a TRIAL record and the device resets; else the
pieces concerned are missing again (R495). Answers whether it resets. -/
def Dev.activateSlot (d : Dev) : Bool × Dev :=
  let k := d.otherSlot
  let x := d.slot k
  let m := d.nv.staged
  let bad := (List.range 6).filter (fun c => !(compGood x c))
  if bad = [] then
    let d := d.setSlot k { x with manifestGood := true, firstStageGood := true, componentsGood := true }
    let d := d.modNv (fun v => { v with fromLayby := decide (d.life.phase = .layBy) })
    (true, d.pushBoot { seq := 0, slot := k, prevSlot := d.life.slot, storeArea := d.life.storeArea, prevStoreArea := d.life.storeArea,
                        state := 1, boots := 0, version := manVersion m })
  else
    let hit := fun n => bad.any (fun c =>
      decide (4096 * n < compOffset m c + compLength m c) && decide (compOffset m c < 4096 * (n + 1)))
    (false, (d.modNv (fun v => { v with stagedPieces := v.stagedPieces.filter (fun n => !(hit n)) })).pulse Flt.UPDATE_FAIL)

/-- UPD_REVERT and UPD_DISCARD are tied to TRIAL (R499, Table 14.12). -/
def Dev.revertStatus (d : Dev) : Nat := if d.life.trial then stOk else stWrongState
def Dev.discardStatus (d : Dev) : Nat := if d.life.trial then stWrongState else stOk
def Dev.discardUpdate (d : Dev) : Dev := d.flashDo .unstage

/-- SLOT_STATE (Table 14.12). -/
def Dev.slotState (d : Dev) (k : Nat) : Nat :=
  let prev := match d.bootRec with | some b => b.prevSlot | none => 255
  if k = d.life.slot ∧ (d.slot k).manifestGood then 1
  else if d.nv.staged ≠ [] then 3
  else if k = prev then 2
  else 0

/-- UPD_TRIAL_LEFT in seconds. -/
def Dev.trialLeft (d : Dev) : Nat := if d.life.trial then (d.life.trialEnd - d.clock + 999999999) / 1000000000 else 0

/-! ### Digests of configuration -/

/-- Every object, in object order. -/
def allObjs : List ObjDesc :=
  [0x01, 0x02, 0x03, 0x10, 0x11, 0x14, 0x15, 0x18, 0x1C, 0x20, 0x21, 0x28, 0x29, 0x2A, 0x30, 0x34, 0x38, 0x3C, 0x40, 0x44, 0x48,
   0x50, 0x54, 0x58, 0x60].flatMap areaObjs

/-- The wire encodings of the objects that satisfy `p`, in object and element order; a TABLE gives its CRC-64 where `tables` says
so (R357). -/
def Dev.objBytes (d : Dev) (p : ObjDesc → Bool) (tables : Bool) : Bytes :=
  (allObjs.filter p).flatMap (fun o => (List.range (o.elems.getD 1)).flatMap (fun i =>
    if tables && decide (o.ty = .table) then beBytes 8 (crc64 (d.blob o.num i)) else d.wireOf o.num i))

/-- The LOCAL_DIGEST of Table 14.11: the persisted local objects. -/
def Dev.localDigest (d : Dev) : Nat := crc64 (d.objBytes (fun o => o.persisted && !o.shared) false)

/-! ### Attestation, keys, life-cycle (R500 to R503) -/

/-- The evidence of Table 14.11 up to its signature. -/
def Dev.evidenceHead (d : Dev) : Bytes :=
  beBytes 2 0x4556 ++ beBytes 2 1 ++ d.serial ++ beBytes 1 d.nv.lifecycle ++ beBytes 1 d.life.slot ++
  beBytes 2 (d.reg Obj.STORE_FORMAT) ++ beBytes 4 (d.reg Obj.FW_VERSION) ++
  (List.range 6).flatMap (fun id => match compEntry d.manifest id with
    | some k => fitBytes 32 (compHash d.manifest k)
    | none => List.replicate 32 0) ++
  beBytes 8 (d.reg Obj.CONFIG_DIGEST) ++ beBytes 8 d.localDigest ++ beBytes 12 (mtEncode d.now) ++ fitBytes 32 d.sec.nonce

/-- SEC_ATTEST starts signing (R502). -/
def Dev.attestStatus (d : Dev) : Nat := if d.reg Obj.SEC_ATTEST_STATE = 1 then stBusy else stOk
def Dev.attest (d : Dev) (nonce : Bytes) : Dev :=
  { d.setReg Obj.SEC_ATTEST_STATE 0 1 with sec := { d.sec with nonce } }

/-- SEC_ATTEST_DONE: the evidence is held, READY. -/
def Dev.attestDone (d : Dev) : Dev :=
  if d.reg Obj.SEC_ATTEST_STATE ≠ 1 then d
  else
    let h := d.evidenceHead
    let ev := h ++ fitBytes sigBytes (Config.identitySign (sha256 h))
    { d.setReg Obj.SEC_ATTEST_STATE 0 2 with sec := { d.sec with evidence := ev } }

/-- SEC_KEY_REVOKE[k] is refused while slot k signed the running image or the staged manifest, or is the last VALID one (R503). -/
def Dev.revokeStatus (d : Dev) (k : Nat) : Nat :=
  let signed := fun (m : Bytes) => decide (m ≠ []) && manKey m == k
  let others := (List.range 4).any (fun j => j != k && d.nv.keyState.getD j 0 == 1)
  if signed d.manifest || signed d.nv.staged || !others then stConflict else stOk
def Dev.revokeKey (d : Dev) (k : Nat) : Dev := d.modNv (fun v => { v with keyState := v.keyState.set k 2 })

/-- SEC_LIFECYCLE_SET moves forward only; it applies at the next reset (R500). -/
def Dev.lifecycleStatus (d : Dev) (v : Nat) : Nat := if d.nv.lifecycle < v then stOk else stInvalid
def Dev.lifecycleSet (d : Dev) (v : Nat) : Dev := d.modNv (fun x => { x with lifecycleNext := v })

end Sys2Proof.Machine
end

