-- ==== Sys2Proof/Machine/Reads.lean ====
section
/-! DEFINITION. What each object reads as: the objects whose value follows from the state, and the register file for all
others (R407, R408, R412, R425). -/

namespace Sys2Proof.Machine

/-- `a / b` rounded up. -/
def ceilDiv (a b : Nat) : Nat := (a + b - 1) / b

/-- Mbit/s, rounded up, of a rate in bit/s times 1001. -/
def mbit1001 (v : Nat) : Nat := ceilDiv v (1001 * 1000000)

/-! ### Addresses (R377, R378) -/

/-- The bin of a group address. -/
def hashBin (da : Nat) : Nat := crc32 (beBytes 6 da) % 512

/-- The group bit of an address. -/
def isGroup (da : Nat) : Bool := bitOf da 40

/-- The group addresses that the device listens to. -/
def Dev.groupAddrs (d : Dev) : List Nat :=
  d.reg Obj.MG_PAIR_ADDR :: ((List.range 16).map (d.reg Obj.MG_GROUP_ADDR ·)).filter (· != 0)

/-- Bin `b` is set. -/
def Dev.binSet (d : Dev) (b : Nat) : Bool := d.groupAddrs.any (fun a => hashBin a == b)

/-- MG_MAC of a port (R375). -/
def Dev.mgMac (d : Dev) (m : Nat) : Nat := (d.nv.mac0.toNat + m) % 2 ^ 48

/-! ### The collector (Table 13.18) -/

def Dev.fltSummary (d : Dev) : Nat :=
  boolNat (decide (d.life.phase = .lockout)) * 2 ^ 26 + boolNat (decide (d.life.phase = .fail)) * 2 ^ 25 +
  boolNat d.fixedScheme * 2 ^ 24 + boolNat d.alarmLow * 2 ^ 16 +
  (List.range 9).foldl (fun v g => if (d.reg Obj.FLT_LATCHED g &&& d.reg Obj.FLT_ENABLE g) != 0 then v + 2 ^ g else v) 0

/-- The live bits of a group. -/
def Dev.fltLiveWord (d : Dev) (g : Nat) : Nat :=
  (List.range 32).foldl (fun v k => if d.fltLive (32 * g + k) then v + 2 ^ k else v) 0

/-- What is left of a group's escalation timer, in µs. -/
def Dev.escLeft (d : Dev) (g : Nat) : Nat := ceilDiv (smGet d.flt.escEnd g 0 - d.clock) 1000

/-! ### Telemetry sets (R467) -/

/-- The references of set 0, which is fixed. -/
def telSetZero : List Ref := [
  refOf Obj.FLT_SUMMARY 0, refOf Obj.DEV_STATE 0, refOf Obj.TWIN_STATE 0, { refOf Obj.TEL_TEMP 0 with elements := 8 },
  refOf Obj.TEL_VCORE 0, refOf Obj.TEL_ICORE 0, refOf Obj.AVS_MARGIN 0, refOf Obj.SEL_MODE 0,
  { refOf Obj.FM_TEMP 0 with elements := 2 }]

/-- A reference of 64 bits. -/
def refOfBits (v : Nat) : Ref :=
  ⟨BitVec.ofNat 24 (v / 2 ^ 40), BitVec.ofNat 7 (v / 2 ^ 33), bitOf v 32, BitVec.ofNat 16 (v / 2 ^ 16), BitVec.ofNat 16 v⟩

/-- The references of a stored set's bytes. -/
def telRefs (b : Bytes) : List Ref := (chunksOf 8 (b.length / 8 + 1) b).map (fun c => refOfBits (beNat c))

/-- The elements that a reference names. -/
def refCount (r : Ref) : Nat := if r.indexed then r.elements.toNat else 1

/-- The bytes of the values that a reference names, where its type has a fixed length. -/
def refSize (r : Ref) : Nat :=
  match objDesc r.object.toNat with
  | some o => (match o.ty.size with | some n => n * refCount r | none => match o.ty with | .text n => n | _ => 0)
  | none => 0

def telBytes (rs : List Ref) : Nat := rs.foldl (fun n r => n + refSize r) 0

/-- The references of telemetry set `k`. -/
def Dev.telSet (d : Dev) (k : Nat) : List Ref := if k = 0 then telSetZero else telRefs (d.blob Obj.TEL_SET k)

/-! ### Computed values by area -/

/-- Bits b of a mask over the cores. -/
def Dev.haltedMask (d : Dev) : Nat :=
  (List.range 4).foldl (fun v c => if (d.dbg.cores.getD c {}).halted then v + 2 ^ c else v) 0

/-- The Canopy syncs' writes and the inserters' reads of their bands (R262). -/
def Dev.canopyBw (d : Dev) : Nat :=
  mbit1001 ((List.range 16).foldl (fun t g =>
    if d.syncRuns g then
      match fmtOf (d.canopyFormat g) with
      | some f => t + f.stillCost1001 + (List.range 8).foldl (fun u k =>
          let c := 8 * g + k
          if (d.inserter c).on then u + f.stillCost1001 * d.reg Obj.CI_BAND_ROWS c / (f.rows * (if f.interlaced then 2 else 1)) else u) 0
      | none => t
    else t) 0)

/-- The readers of still player `n`: outputs and layers that carry it, and Canopy taps (R259). -/
def Dev.spSubscribers (d : Dev) (n : Nat) : Nat :=
  let s := 1088 + n
  ((List.range 16).map (d.subscribersIn s)).foldl (· + ·) 0

/-- OUT_PASS_LATENCY: PASS_LATENCY, and Tl where an engine is assigned (R163, R246). -/
def Dev.passLatency (d : Dev) (p : Nat) : Nat :=
  match fmtOf (d.outFormat p) with
  | some f => f.toNs (f.pass (d.flag Obj.OUT_GANG p) + (if (d.engineOf p).isSome then f.exTl else 0))
  | none => 0

/-- Links of XP_MESH_LOAD: from node i / 15 to each of the others in order. -/
def Dev.meshLink (d : Dev) (i : Nat) : Nat :=
  let a := i / 15
  let b := i % 15
  d.meshLoad a (if a ≤ b then b + 1 else b)

/-- GAIN_ROWS_MAX (R480): rows that fit in the gain area of the flash fitted. -/
def Dev.gainRowsMax (d : Dev) : Nat := if d.nv.density < 134217728 then 1792 else 4096

/-- What an RO object of fixed length reads as where its value follows from the state; none for the register file. -/
def Dev.liveVal (d : Dev) (num i : Nat) : Option Nat :=
  match num with
  | 0x010003 => some d.nv.stepping
  | 0x010004 => some (beNat d.serial)
  | 0x010005 => some d.nv.romVersion
  | 0x010010 => some d.nv.lifecycle
  | 0x010020 => some (boolNat d.nv.sideB + 2 * boolNat d.nv.refereeDuty)
  | 0x020001 => some d.devState
  | 0x020003 => some d.life.resetCause
  | 0x020004 => some (min 0xFFFFFFFF (d.clock / 1000000000))
  | 0x020021 => some (boolNat d.storePending)
  | 0x030002 => some (boolNat d.nv.sideB)
  | 0x030004 => some (boolNat d.holds)
  | 0x030006 => some d.leaseLeft
  | 0x100004 => some (d.subMask i)
  | 0x100005 => some (d.fanout i)
  | 0x100020 => some (d.meshLink i)
  | 0x140003 => some (d.inFormat i)
  | 0x140004 => some (d.inStatus i)
  | 0x150010 => some (if !d.outService i then 0 else if (fmtOf (d.outFormat i)).isNone then 4
      else if d.reg num i = 0 ∨ d.reg num i = 4 then d.outState i else d.reg num i)
  | 0x150011 => some (d.passLatency i)
  | 0x180120 => some (d.tfState i)
  | 0x180121 => some (if d.flag Obj.TF_ENABLE i then d.tfLoad i else 0)
  | 0x180220 => some (d.txLoad i)
  | 0x180301 => some (mbit1001 d.storeBw)
  | 0x180303 => some d.storeMem
  | 0x180305 => some (512 - d.poolUsed i)
  | 0x1C0020 => some (mbit1001 (d.fsTotals 1024).1)
  | 0x1C0022 => some (d.fsTotals 1024).2
  | 0x200011 => some (if i % 8 = 0 then (let o := (d.engine (i / 8)).out; if o < 1024 then d.reg Obj.XP_SOURCE o else srcBlack)
      else d.reg num i)
  | 0x200021 => some (d.engineFormat i)
  | 0x200022 => some (match fmtOf (d.engineFormat i) with | some f => f.toNs f.exTl | none => 0)
  | 0x200102 => some (stillRegion (d.blob Obj.STILL_DATA i).length)
  | 0x200111 => some (d.spSubscribers i)
  | 0x200120 => some d.stillUsed
  | 0x200122 => some (mbit1001 (d.stillLoad [] (d.reg Obj.SP_STILL ·)))
  | 0x210002 => some (d.canopyState i)
  | 0x210003 => some (d.canopyFormat i)
  | 0x210020 => some (if d.reg num i ≠ ciRetired ∧ (d.inserter i).on ∧ (d.inserter i).out < 1024 ∧ !d.outService (d.inserter i).out then ciDown
      else d.reg num i)
  | 0x210031 => some (if d.nv.sideB then 2 else 1)
  | 0x210036 => some d.canopyBw
  | 0x280003 => some (d.aoState i)
  | 0x280020 => some d.delayUsed
  | 0x290005 => some d.mix.opened.length
  | 0x290006 => some d.mix.armed.length
  | 0x290007 => some (boolNat d.mix.armedE.isSome)
  | 0x290008 => some (mtEncode (d.mix.armedE.getD 0))
  | 0x2A0011 => some (boolNat (d.apDriving i))
  | 0x380022 => some (ceilDiv (smGet d.ref.wtrEnd i 0 - d.clock) 1000000000)
  | 0x380043 => some (if d.selMode = smHoldover then min 0xFFFFFFFF ((d.clock - d.ref.holdSince) / 1000000000) else 0)
  | 0x380051 => some d.cleanCount
  | 0x380060 => some (mtEncode d.now)
  | 0x3C0011 => some (boolNat d.shadowDirty)
  | 0x3C0012 => some (boolNat d.synthLocked)
  | 0x3C0021 => some (d.gateState i)
  | 0x400001 => some d.fltSummary
  | 0x400002 => some (boolNat !d.fixedScheme)
  | 0x400010 => some (d.fltLiveWord i)
  | 0x400016 => some (d.escLeft i)
  | 0x440002 => some (telBytes (d.telSet i))
  | 0x440020 => some (d.lane i).health
  | 0x440034 => some d.nv.flashFree
  | 0x440035 => some d.nv.eraseMax
  | 0x480001 => some (d.mgMac i)
  | 0x480004 => some ((List.range 32).foldl (fun v k => if d.binSet (32 * i + k) then v + 2 ^ k else v) 0)
  | 0x480023 => some ((List.range 8).foldl (fun n k => n + fld (d.reg Obj.MG_GATE_LIST (8 * i + k)) 29 0) 0)
  | 0x500003 => some (beNat d.updBitmap)
  | 0x500004 => some d.piecesLeft
  | 0x500005 => some d.updState
  | 0x50000B => some d.trialLeft
  | 0x500010 => some (manVersion (d.slot i).manifest)
  | 0x500011 => some (d.slotState i)
  | 0x500012 => some d.nv.fallbacks
  | 0x500013 => some d.gainRowsMax
  | 0x540001 => some (beNat (fitBytes 32 d.nv.idPub))
  | 0x540010 => some (d.nv.keyState.getD i 0)
  | 0x540011 => some (beNat (fitBytes 32 (d.nv.keyPub.getD i [])))
  | 0x600001 => some (boolNat d.session)
  | 0x600002 => some d.haltedMask
  | _ => none

/-- What a TEXT or TABLE object reads as where its value follows from the state. -/
def Dev.liveBlob (d : Dev) (num i : Nat) : Option Bytes :=
  match num with
  | 0x010002 => some [0x42, 0x58, 0x31, 0x30, 0x32, 0x34]
  | 0x290001 => some (d.gainRow i)
  | 0x400030 => some d.trailLog
  | 0x400040 => some (d.flt.sat.flatMap (beBytes 8))
  | 0x440001 => some ((d.telSet i).flatMap (fun r => beBytes 8 (refBits r)))
  | 0x500001 => some d.nv.staged
  | 0x540002 => some d.nv.idCert
  | 0x540005 => some d.sec.evidence
  | 0x580010 => some d.calSet
  | _ => none

/-- The wire encoding of element `i` of an object as a READ returns it. -/
def Dev.readObj (d : Dev) (num i : Nat) : Bytes :=
  match objDesc num with
  | some o => match o.ty.size with
    | some n => beBytes n ((d.liveVal num i).getD (d.reg num i))
    | none => (d.liveBlob num i).getD (d.blob num i)
  | none => []

/-- The wire encodings of the elements that a reference names, back to back. -/
def Dev.readRef (d : Dev) (r : Ref) : Bytes :=
  if r.indexed then (List.range r.elements.toNat).flatMap (fun k => d.readObj r.object.toNat (r.index.toNat + k))
  else d.readObj r.object.toNat 0

end Sys2Proof.Machine
end

