-- ==== Sys2Proof/Machine/Collector.lean ====
section
/-! DEFINITION. The fault collector's objects, the escalation timers, the Rambler's tasks and telemetry (R442 to R454, R459,
R464 to R471). -/

namespace Sys2Proof.Machine

/-! ### Acknowledgement and clearing -/

/-- A group's timer stops when every joined source is acknowledged or no longer latched (R449). -/
def Dev.settleTimer (d : Dev) (g : Nat) : Dev :=
  let open_ := smGet d.flt.joined g 0 &&& d.reg Obj.FLT_LATCHED g &&& (0xFFFFFFFF - d.reg Obj.FLT_ACK g)
  if open_ = 0 then
    { d with flt := { d.flt with joined := smSet d.flt.joined g 0 0, escEnd := smSet d.flt.escEnd g 0 0 } }
  else d

/-- Bit `b` of group `g` in a collector word. -/
def Dev.setFltBit (d : Dev) (n s : Nat) (b : Bool) : Dev := d.setReg n (s / 32) (setBit (d.reg n (s / 32)) (s % 32) b)

/-- One latched source is cleared: its acknowledgement, escalation and ALARM_N reaction go with it (R442, R449, R456); the clear
enters the Trail Log (R462). -/
def Dev.clearSource (d : Dev) (s : Nat) : Dev :=
  let g := s / 32
  let d := ((d.setFltBit Obj.FLT_LATCHED s false).setFltBit Obj.FLT_ACK s false).setFltBit Obj.FLT_ESCALATED s false
  let d := { d with flt := { d.flt with
      alarmed := smSet d.flt.alarmed g (setBit (smGet d.flt.alarmed g 0) (s % 32) false) 0,
      joined := smSet d.flt.joined g (setBit (smGet d.flt.joined g 0) (s % 32) false) 0 } }
  d.addTrail (0x4000 + s) (d.reg Obj.FLT_SEVERITY s) 4 (d.fltRef s) [0]

/-- FLT_LATCHED[g] written: 1 bits clear latched sources whose live bit is 0 (R442). -/
def Dev.latchedWrite (d : Dev) (g v : Nat) : Dev :=
  let d := (setBits 32 v).foldl (fun d k =>
    let s := 32 * g + k
    if d.fltLatched s && !d.fltLive s then d.clearSource s else d) d
  d.settleTimer g

/-- FLT_ACK[g] written: 1 bits acknowledge latched sources (R449). -/
def Dev.ackWrite (d : Dev) (g v : Nat) : Dev :=
  (d.setReg Obj.FLT_ACK g (d.reg Obj.FLT_ACK g ||| (v &&& d.reg Obj.FLT_LATCHED g))).settleTimer g

/-! ### Forcing, enabling, severities -/

/-- Status of a FLT_FORCE value: the bits that it adds are judged (R443). -/
def Dev.forceStatus (d : Dev) (g v : Nat) : Nat :=
  let new := (setBits 32 v).filter (fun k => !bitOf (d.reg Obj.FLT_FORCE g) k)
  let sev (k : Nat) : Nat := d.reg Obj.FLT_SEVERITY (32 * g + k)
  if new.any (fun k => sev k == 7) && d.nv.lifecycle == 2 then stNoAccess
  else if new.any (fun k => decide (4 ≤ sev k)) && d.holds && !d.peerIsHot then stConflict
  else stOk

/-- FLT_FORCE[g] written: a forced source acts as if its unit had raised it. -/
def Dev.forceWrite (d : Dev) (g v : Nat) : Dev :=
  let old := d.reg Obj.FLT_FORCE g
  let d := d.setReg Obj.FLT_FORCE g v
  (setBits 32 v).foldl (fun d k =>
    if bitOf old k || d.fltLatched (32 * g + k) then d else d.latch (32 * g + k)) d

/-- Status of a FLT_ENABLE value: a source of class FATAL stays enabled (R444). -/
def Dev.enableStatus (d : Dev) (g v : Nat) : Nat :=
  if (List.range 32).any (fun k => d.reg Obj.FLT_CLASS (32 * g + k) == 2 && !bitOf v k) then stLocked else stOk

/-- Status of a FLT_SEVERITY value (R451). -/
def severityStatus (s v : Nat) : Nat := if fltSeverityDefaults.getD s 0 = 7 ∧ v < 7 then stLocked else stOk

/-- FLT_SEVERITY[s] written: a latched source takes what it has not yet taken (R451); an ALARM it then takes enters the Trail Log
(R462). -/
def Dev.severityWrite (d : Dev) (s v : Nat) : Dev :=
  let d := d.setReg Obj.FLT_SEVERITY s v
  if d.fltLatched s && d.fltEnabled s && !d.fixedScheme then
    let was := bitOf (smGet d.flt.alarmed (s / 32) 0) (s % 32)
    let d := d.reactService s
    if !was && bitOf (smGet d.flt.alarmed (s / 32) 0) (s % 32) then
      d.addTrail (0x4000 + s) v (boolNat (bitOf (d.reg Obj.FLT_FORCE (s / 32)) (s % 32))) (d.fltRef s) [BitVec.ofNat 8 (boolNat (d.fltLive s))]
    else d
  else d

/-! ### Escalation -/

/-- One source escalates (R449): its retirement and the drop of the Day Pass are taken when the command ends. -/
def Dev.escalate (d : Dev) (s : Nat) : Dev :=
  let sev := d.actSeverity s
  if sev < 3 ∨ 5 < sev then d
  else
    let d := (d.setFltBit Obj.FLT_ESCALATED s true).event 0x4140 (d.fltRef s) [] (boolNat (bitOf (d.reg Obj.FLT_FORCE (s / 32)) (s % 32)))
    let d := match d.fltChan s with
      | some c => if sev = 3 ∨ sev = 5 then d.ask (.retire c) else d
      | none => d
    if sev = 4 ∨ sev = 5 then d.ask .dropPass else d

/-- ESCALATION_TIMER_EXPIRY: the timer runs to its end, and every joined source that is still unacknowledged takes its reactions (R449). -/
def Dev.escalationExpiry (d : Dev) (g : Nat) : Dev :=
  if smGet d.flt.escEnd g 0 = 0 then d
  else
    let d := d.passTo (smGet d.flt.escEnd g 0)
    let due := smGet d.flt.joined g 0 &&& d.reg Obj.FLT_LATCHED g &&& d.reg Obj.FLT_ENABLE g &&& (0xFFFFFFFF - d.reg Obj.FLT_ACK g)
    let d := { d with flt := { d.flt with joined := smSet d.flt.joined g 0 0, escEnd := smSet d.flt.escEnd g 0 0 } }
    (setBits 32 due).foldl (fun d k => d.escalate (32 * g + k)) d

/-- The scheme changed (R449, R454): in the service scheme latched, unacknowledged sources of severity 3 to 5 join their timers; in
the fixed scheme no timer runs. -/
def Dev.schemeChanged (d : Dev) : Dev :=
  if d.fixedScheme then { d with flt := { d.flt with joined := [], escEnd := [] } }
  else
    (List.range 288).foldl (fun d s =>
      let sev := d.actSeverity s
      if d.fltLatched s && d.fltEnabled s && !d.fltAcked s && !bitOf (d.reg Obj.FLT_ESCALATED (s / 32)) (s % 32) &&
          decide (3 ≤ sev) && decide (sev ≤ 5) then d.joinTimer s
      else d) d

/-! ### The Rambler -/

/-- Task `k` of Table 13.16 completes. -/
def Dev.rmbDone (d : Dev) (k : Nat) : Dev := (d.setReg Obj.RMB_LAST k (mtEncode d.now)).count Obj.RMB_RUNS k

/-- The source that a table's uncorrectable errors hold; none where group 5 lists none. -/
def scrubSource : ScrubTable → Option Nat
  | .subscription => some Flt.SUBSCRIPTION_ECC
  | .crosspoint => some Flt.XP_TABLE_ECC
  | .shuffle => some Flt.SHUF_ECC
  | .rxFlow => some Flt.RF_TABLE_ECC
  | .txFlow => some Flt.TF_TABLE_ECC
  | .layer => none
  | .canopy => none
  | .journal => some Flt.JOURNAL_ECC
  | .gain => some Flt.GAIN_ECC

/-- The objects that one entry of a table holds. Canopy entries 0 to 127 are inserters, 128 to 143 the nodes' sources. -/
def scrubKeys (t : ScrubTable) (e : Nat) : List Nat :=
  match t with
  | .crosspoint => [objKey Obj.XP_SOURCE e]
  | .shuffle => [objKey Obj.SHUF_SRC e, objKey Obj.AO_DELAY e]
  | .rxFlow => [objKey Obj.RF_ENABLE e]
  | .txFlow => [objKey Obj.TF_ENABLE e]
  | .layer => [objKey Obj.CE_LAYER e, objKey Obj.CE_LAYER_SOURCE e]
  | .canopy =>
    if e < 128 then [Obj.CI_OUTPUT, Obj.CI_ON, Obj.CI_MODE, Obj.CI_BAND_TOP, Obj.CI_BAND_ROWS, Obj.CI_CLIP, Obj.CI_GAIN].map (objKey · e)
    else [objKey Obj.CANOPY_SOURCE (e - 128)]
  | _ => []

/-- A scrubbed object takes a value in its unit. -/
def Dev.putEntry (d : Dev) (key v : Nat) : Dev :=
  let n := key / 65536
  let i := key % 65536
  if n = Obj.SHUF_SRC then d.shufSet i v d.now
  else if n = Obj.AO_DELAY then d.aoDelaySet i v d.now
  else if n = Obj.RF_ENABLE then d.rfEnable i (v != 0)
  else
    if n = Obj.CANOPY_SOURCE then d.canopySourceSet i v
    else
      let d := d.setReg n i v
      if n = Obj.CE_LAYER then d.setEngine (i / 8) { d.engine (i / 8) with live := smSet (d.engine (i / 8)).live (i % 8) v lyDefault }
      else if n / 65536 = 0x21 then (d.ciSet i).ciLoad i
      else d

/-- An entry with an uncorrectable error is used at its reset default until it is restored (R466). -/
def Dev.breakEntry (d : Dev) (t : ScrubTable) (e : Nat) : Dev :=
  if d.isBroken t e then d
  else
    let saved := (scrubKeys t e).map (fun k => (k, smGet d.regs k (keyDefault k)))
    let d := { d with broken := d.broken ++ [⟨t, e, saved⟩] }
    let d := (scrubKeys t e).foldl (fun d k => d.putEntry k (keyDefault k)) d
    match scrubSource t with
    | some s => d.setLine s true
    | none => d

/-- TABLE_SCRUB: the Rambler scrubs an entry (R299, R465, R466). A corrected entry that a write has reached since keeps the write. -/
def Dev.tableScrub (d : Dev) (t : ScrubTable) (e : Nat) (o : EccOutcome) : Dev :=
  let d := match o with
    | .clean => d
    | .corrected =>
      let d := d.count Obj.RMB_TABLE_CE
      match t with
      | .crosspoint => d.pulse Flt.XP_TABLE_CE
      | .gain => d.pulse Flt.GAIN_CE
      | _ => d
    | .uncorrectable =>
      match t with
      | .gain => ({ d with mix := { d.mix with bad := if d.mix.bad.contains e then d.mix.bad else d.mix.bad ++ [e] } }).count
          Obj.MIX_ECC_ERR
      | .journal => ({ d with mix := { d.mix with opened := [], armed := [], armedE := none } }).pulse Flt.JOURNAL_ECC
      | _ => d.breakEntry t e
  d.rmbDone 0

/-- TABLE_ENTRY_RESTORE: the entry takes its value from the firmware copy (R466). -/
def Dev.restoreEntry (d : Dev) (t : ScrubTable) (e : Nat) : Dev :=
  match d.broken.find? (fun b => b.table == t && b.entry == e) with
  | none => d
  | some b =>
    let d := { d with broken := d.broken.filter (fun x => !(x.table == t && x.entry == e)) }
    let d := (b.saved.foldl (fun d kv => d.putEntry kv.1 kv.2) d).count Obj.RMB_TABLE_UE
    match scrubSource t with
    | some s => if d.broken.any (fun x => x.table == t) then d else d.setLine s false
    | none => d

/-- A write reached objects of broken entries: the write stands, and the firmware copy follows it (R465). -/
def Dev.copyFollows (d : Dev) (key : Nat) : Dev :=
  if d.broken = [] then d
  else { d with broken := d.broken.map (fun b => { b with saved := b.saved.filter (fun kv => kv.1 != key) }) }

/-- TEMPERATURE_SAMPLE: the die sensors are read; none is an unreadable one (Table 13.6). -/
def Dev.temperature (d : Dev) (ts : List (Option Int)) : Dev :=
  let vs := ts.filterMap id
  let first := !d.life.sampled
  let d := d.modLife (fun x => { x with sampled := x.sampled || !vs.isEmpty })
  let hi := vs.foldl max (if first then vs.headD 0 else d.sreg 8 Obj.TEL_TEMP_MAX)
  let d := (List.range 8).foldl (fun d k =>
    match ts.getD k none with | some v => d.setSreg 8 Obj.TEL_TEMP k v | none => d) d
  let d := d.setSreg 8 Obj.TEL_TEMP_MAX 0 hi
  let d := d.setLine Flt.TEMP_HIGH (vs.any (fun v => decide (105 ≤ v)))
  let d := d.setLine Flt.TEMP_CRIT (vs.any (fun v => decide (115 ≤ v)))
  let apart := vs.any (fun a => vs.any (fun b => decide (10 < a - b)))
  (d.setLine Flt.TEMP_SENSOR (apart || (List.range 8).any (fun k => (ts.getD k none).isNone))).rmbDone 2

/-- FLASH_COMPACTION: the logs keep what they mean; what it frees and wears is open (Table 13.16, R476). -/
def Dev.flashCompaction (d : Dev) : Dev :=
  let d := d.modNv (fun v => { v with stores := v.stores.map compactLog, gainLog := compactLog v.gainLog })
  let (f, d) := d.draw 76
  let (w, d) := d.draw 2
  (d.modNv (fun v => { v with flashFree := 25 + f, eraseMax := min 0xFFFFFFFF (v.eraseMax + w) })).rmbDone 6

/-! ### Internal check errors (R459, Table 13.14) -/

/-- UNIT_CHECK_ERROR: the third error within a second is permanent. -/
def Dev.unitCheck (d : Dev) (u : CheckedUnit) : Dev :=
  match u with
  | .engine n =>
    let (ts, bad) := d.checkErrors (d.engine n).errors
    let d := d.setEngine n { d.engine n with errors := ts }
    if bad then d.retireEngine n else d
  | .inserter n =>
    let (ts, bad) := d.checkErrors (d.inserter n).errors
    let d := d.setInserter n { d.inserter n with errors := ts }
    if bad then d.retireInserter n else d
  | .tdm n =>
    let (ts, bad) := d.checkErrors (d.ap n).errors
    let d := d.setAp n { d.ap n with errors := ts }
    if bad then d.retireTdm n else d

/-! ### Telemetry (R467, R468) -/

/-- Status of a TEL_SET[k] value. -/
def telStatus (k : Nat) (b : Bytes) : Nat :=
  let rs := telRefs b
  let ok (r : Ref) : Bool :=
    match objDesc r.object.toNat with
    | none => false
    | some o => r.resv == 0 && o.ty != .table && o.ty != .void && (o.mg == .ro || o.mg == .rw) &&
      (match o.elems with
        | none => !r.indexed && r.index == 0 && r.elements == 0
        | some n => r.indexed && decide (1 ≤ r.elements.toNat) && decide (r.index.toNat + r.elements.toNat ≤ n))
  if k = 0 then stNoAccess
  else if b.length % 8 ≠ 0 ∨ 64 < rs.length ∨ !rs.all ok then stInvalid
  else if 4096 < telBytes rs then stNoCapacity
  else stOk

/-- One subscription takes a snapshot's record; a record still unsent is replaced by an OVERFLOW record and the new one. Answers
whether one was replaced. -/
def telGather (clock : Nat) (x : SubX) (e : EvRec) : SubX × Bool :=
  let late := x.recs.any (fun r => r.code == 2)
  let x := if late then { x with recs := x.recs.filter (fun r => r.code != 2), dropped := x.dropped + 1 } else x
  ((gather clock x e).1, late)

/-- The snapshot record of set `k`. -/
def Dev.telRecord (d : Dev) (k at_ snap : Nat) : EvRec :=
  { code := 2, sev := 0, time := at_, ref := refOf Obj.TEL_SET k,
    data := beBytes 4 snap ++ beBytes 1 k ++ [0, 0, 0] ++ (d.telSet k).flatMap d.readRef }

/-- One list of subscriptions takes the records of its sets. -/
def Dev.telList (d : Dev) (obj : Nat) (subs : SMap SubX) (at_ snap : Nat) : SMap SubX × Bool :=
  (List.range 16).foldl (fun (m, late) s =>
    let rec_ := d.reg obj s
    if subLive rec_ 2 then
      let (x, l) := telGather d.clock (smGet m s {}) (d.telRecord (fld rec_ 55 48) at_ snap)
      (smSet m s x {}, late || l)
    else (m, late)) (subs, false)

/-- TELEMETRY_SNAPSHOT: at the next multiple of 100 ms every set is read (R468). The frame memory's traffic of the 100 ms becomes
FM_CLASS_USED. -/
def Dev.telemetry (d : Dev) : Dev :=
  let d := d.passToMt (if d.now / msMt 100 % 2 ^ 32 = d.reg Obj.TEL_SNAP then (d.now / msMt 100 + 1) * msMt 100 else d.now)
  let n := d.now / msMt 100
  let d := (List.range 6).foldl (fun d c => d.setReg Obj.FM_CLASS_USED c (smGet d.fm.served c 0 * 80 / 1000000)) d
  let d := d.modFm (fun f => { f with served := [] })
  let snap := n % 2 ^ 32
  let d := d.setReg Obj.TEL_SNAP 0 snap
  let at_ := n * msMt 100
  let (own, l1) := d.telList Obj.SUB_OWN d.ch.subOwn at_ snap
  let (pair, l2) := if d.acts then d.telList Obj.SUB_PAIR d.ch.subPair at_ snap else (d.ch.subPair, false)
  let d := d.modCh (fun c => { c with subOwn := own, subPair := pair })
  if l1 || l2 then d.pulse Flt.TEL_LATE else d

end Sys2Proof.Machine
end

