-- ==== Sys2Proof/Machine/Mac.lean ====
section
/-! DEFINITION. The management ports: receive filter and ring, medium access, gate list, transmit rings (R374 to R403). What a frame
asks is carried out by the protocol engine (Chawyn.lean). -/

namespace Sys2Proof.Machine

def Dev.modMac (d : Dev) (m : Nat) (f : MacX → MacX) : Dev := d.setMac m (f (d.mac m))

/-- The port's gate passes its clock: GATE 30 for MG_A, 31 for MG_B (R374). -/
def Dev.mgOpen (d : Dev) (m : Nat) : Bool := d.gateOn (30 + m)

/-! ### Receiving (R376 to R401) -/

/-- A received frame's parts: `len` counts DA to FCS, `body` stands between the EtherType and the FCS. -/
structure RxFrame where
  da : BitVec 48
  sa : BitVec 48
  tag : Option (BitVec 16)
  etherType : BitVec 16
  len : Nat
  fcsErr : Bool
  body : Bytes
deriving DecidableEq, Repr

/-- The FCS of a frame's bytes, as it stands after them: the CRC-32, least significant byte first (PRESUMED, log 131). -/
def fcsOf (b : Bytes) : Bytes := leBytes 4 (crc32 b)

/-- The parts of a frame (Table 11.1): 0x8100 at bytes 12–13 is an 802.1Q tag. -/
def rxParts (b : Bytes) : RxFrame :=
  let n := b.length
  let data := b.take (n - 4)
  let tagged := (b.drop 12).take 2 == [0x81, 0x00]
  let at_ := if tagged then 16 else 12
  { da := BitVec.ofNat 48 (beNat (b.take 6)), sa := BitVec.ofNat 48 (beNat ((b.drop 6).take 6)),
    tag := if tagged then some (BitVec.ofNat 16 (beNat ((b.drop 14).take 2))) else none,
    etherType := BitVec.ofNat 16 (beNat ((b.drop at_).take 2)),
    len := n, fcsErr := b.drop (n - 4) != fcsOf data, body := data.drop (at_ + 2) }

/-- Table 11.1: the counter of the first failing check; none where the frame passes. -/
def Dev.rxFilter (d : Dev) (m : Nat) (collision : Bool) (f : RxFrame) : Option Nat :=
  let da := f.da.toNat
  if collision || decide (f.len < 18) then some Obj.MG_RX_FRAGMENTS
  else if !(da == d.mgMac m || (da == 0xFFFFFFFFFFFF && d.flag Obj.MG_ACCEPT_BROADCAST) || (isGroup da && d.binSet (hashBin da))) then
    some Obj.MG_RX_FILTERED
  else if f.etherType.toNat != d.reg Obj.MG_ETHERTYPE then some Obj.MG_RX_OTHER_TYPE
  else none

/-- A frame beyond 1,522 bytes is cut, in compatibility mode (R399). -/
def Dev.rxTruncated (d : Dev) (f : RxFrame) : Bool := d.reg Obj.MG_OVERSIZE_MODE == 1 && decide (1522 < f.len)

/-- The error flags of a frame, as bits 60:56 of its descriptors (Table 11.4). -/
def Dev.rxFlags (d : Dev) (symbolErr : Bool) (f : RxFrame) : Nat :=
  let cut := d.rxTruncated f
  boolNat (f.fcsErr && !cut) * 2 ^ 60 + boolNat symbolErr * 2 ^ 59 + boolNat (decide (f.len < 64)) * 2 ^ 58 +
  boolNat (decide (1522 < f.len) && !cut) * 2 ^ 57 + boolNat cut * 2 ^ 56

/-- The counters of the flags that apply (R398, R399). -/
def Dev.countRxFlags (d : Dev) (m flags : Nat) : Dev :=
  let d := if bitOf flags 60 then d.count Obj.MG_RX_FCS_ERR m else d
  let d := if bitOf flags 59 then d.count Obj.MG_RX_SYMBOL_ERR m else d
  let d := if bitOf flags 58 then d.count Obj.MG_RX_RUNT m else d
  if bitOf flags 57 || bitOf flags 56 then d.count Obj.MG_RX_OVERSIZE m else d

/-- Bytes of a frame that the ring stores. -/
def Dev.rxStored (d : Dev) (f : RxFrame) : Nat := if d.rxTruncated f then 1522 else min f.len 1536

/-- Complete the descriptors of a frame: `n` buffers that hold `stored` bytes; FRAME_LEN on the last (R397, R400). -/
def Dev.completeRx (d : Dev) (m n stored frameLen flags : Nat) : Dev :=
  d.modMac m (fun x => (List.range n).foldl (fun x k =>
    let last := k + 1 == n
    let old := (smGet x.rxDesc x.rxNext 0).toNat
    let v := fld old 103 64 * 2 ^ 64 + boolNat (k == 0) * 2 ^ 62 + boolNat last * 2 ^ 61 + flags +
      (if last then min frameLen 65535 * 2 ^ 32 else 0) + (if last then stored - 512 * k else 512)
    { x with rxDesc := smSet x.rxDesc x.rxNext (BitVec.ofNat 128 v) 0, rxNext := (x.rxNext + 1) % 256 }) x)

/-- What becomes of a frame: no message, a message of firmware's to carry out, or the header of a cut one. -/
inductive RxResult where
  | nothing
  | message (toPair : Bool) (bytes : Bytes)
  | cut (toPair : Bool) (bytes : Bytes)
deriving DecidableEq, Repr

/-- A frame reaches the receive ring or not, and firmware's first look at it (R376 to R378, R396 to R401). -/
def Dev.rxFrame (d : Dev) (m : Nat) (g : MgFrame) : RxResult × Dev :=
  let f := rxParts g.bytes
  if !d.mgOpen m then (.nothing, d)
  else
    match d.rxFilter m g.collision f with
    | some n => (.nothing, d.count n m)
    | none =>
      let flags := d.rxFlags g.symbolErr f
      let cut := bitOf flags 56
      if g.avail = 0 then
        (.nothing, ((d.countRxFlags m flags).count Obj.MG_RX_NO_DESC m).pulse (Flt.MG_RX_LOSS_A + m))
      else if flags != 0 && !cut && !d.flag Obj.MG_DELIVER_ERRORED then (.nothing, d.countRxFlags m flags)
      else
        let stored := d.rxStored f
        let n := ceilDiv stored 512
        let base := boolNat (isGroup f.da.toNat) * 2 ^ 54 + boolNat f.tag.isSome * 2 ^ 53
        let note (d : Dev) (len : Nat) : Dev := d.setReg Obj.MG_LAST_ERRORED m (beNat (fitBytes 64 (g.bytes.take len)))
        if g.avail < n then
          let d := ((d.completeRx m g.avail (512 * g.avail) (512 * g.avail) (base + 2 ^ 55)).count Obj.MG_RX_ABANDONED m).pulse
            (Flt.MG_RX_LOSS_A + m)
          (.nothing, note d (512 * g.avail))
        else
          let d := (d.completeRx m n stored f.len (base + flags)).countRxFlags m flags
          let toPair := f.da.toNat == d.reg Obj.MG_PAIR_ADDR
          if flags != 0 then (if cut && !bitOf flags 59 then .cut toPair f.body else .nothing, note d stored)
          else
            let d := (d.countWrap Obj.MG_RX_FRAMES m 1).countWrap Obj.MG_RX_BYTES m f.len
            let da := f.da.toNat
            if isGroup da && da != 0xFFFFFFFFFFFF && !d.groupAddrs.contains da then (.nothing, d.count Obj.MG_RX_FILTERED m)
            else (.message toPair f.body, d)

/-! ### The gate list (R390 to R392) -/

/-- An entry of the list: its classes and its length in ns. -/
def geUrgent (e : Nat) : Bool := bitOf e 31
def geNormal (e : Nat) : Bool := bitOf e 30
def geTime (e : Nat) : Nat := fld e 29 0

/-- How long a class stays open from `at_` ns into the cycle, over `fuel` entries; none where it is closed at once. -/
def openFor (isOpen : Nat → Bool) : Nat → List Nat → Nat → Nat
  | 0, _, acc => acc
  | _, [], acc => acc
  | fuel + 1, e :: r, acc => if isOpen e then openFor isOpen fuel (r ++ [e]) (acc + geTime e) else acc

/-- The entries from the one in force at `t` on, and the time already spent in it. -/
def entriesFrom : Nat → List Nat → Nat → List Nat × Nat
  | 0, es, _ => (es, 0)
  | _, [], _ => ([], 0)
  | fuel + 1, e :: r, t => if t < geTime e then (e :: r, t) else entriesFrom fuel (r ++ [e]) (t - geTime e)

/-- The entries that are not skipped. -/
def gateEntries (l : List Nat) : List Nat := l.filter (fun e => geTime e != 0)

/-- A port's gate settings: enable, base and entries. -/
abbrev GateSet := Bool × Nat × List Nat

/-- The settings in force, and those that take effect at the next cycle start (R392). -/
def Dev.gateForce (d : Dev) (m : Nat) : GateSet := ((d.mac m).gateEn, (d.mac m).gateBase, (d.mac m).gateList)
def Dev.gateWritten (d : Dev) (m : Nat) : GateSet :=
  (d.flag Obj.MG_GATE_EN m, mtDecode (d.reg Obj.MG_GATE_BASE m), (List.range 8).map (fun k => d.reg Obj.MG_GATE_LIST (8 * m + k)))

/-- The sum of the durations, in ns. -/
def cycleTime (l : List Nat) : Nat := (gateEntries l).foldl (fun n e => n + geTime e) 0

/-- ns from the start of the cycle to Media Time `t`. -/
def cyclePlace (base : Nat) (l : List Nat) (t : Nat) : Nat :=
  let cycle := cycleTime l
  if base ≤ t then (t - base) / subNs % cycle else (cycle - ceilDiv (base - t) subNs % cycle) % cycle

/-- How long, in ns, a class stays open from Media Time `t` under settings; a class that is always open never closes: `none`. -/
def openFrom (g : GateSet) (urgent : Bool) (t : Nat) : Option Nat :=
  let (en, base, l) := g
  let es := gateEntries l
  let isOpen := if urgent then geUrgent else geNormal
  if !en then none
  else if es = [] then some 0
  else if es.all isOpen then none
  else
    let (es, spent) := entriesFrom 16 es (cyclePlace base l t)
    some (openFor isOpen 8 es 0 - spent)

/-- The first cycle start at or after now (R390). -/
def Dev.cycleStart (d : Dev) (m : Nat) : Nat :=
  let x := d.mac m
  let cycle := cycleTime x.gateList * subNs
  if cycle = 0 then d.now
  else
    let r := if x.gateBase ≤ d.now then (d.now - x.gateBase) % cycle else (cycle - (x.gateBase - d.now) % cycle) % cycle
    if r = 0 then d.now else d.now + cycle - r

/-- How long, in ns, a class stays open from now; settings written take over at the next cycle start. -/
def Dev.openTime (d : Dev) (m : Nat) (urgent : Bool) : Option Nat :=
  let old := openFrom (d.gateForce m) urgent d.now
  if d.gateForce m = d.gateWritten m then old
  else
    let left := (d.cycleStart m - d.now) / subNs
    if (match old with | none => true | some n => decide (left ≤ n)) then
      (openFrom (d.gateWritten m) urgent (d.cycleStart m)).map (fun n => left + n)
    else old

/-- A frame's bytes from DA to FCS. -/
def TxFrame.len (f : TxFrame) : Nat := frameLen f.tag f.msg

/-- A frame's time on the medium with preamble and SFD, in ns. -/
def TxFrame.time (f : TxFrame) : Nat := (f.len + 8) * 800

/-- A frame may begin its preamble now (R391). -/
def Dev.fits (d : Dev) (m : Nat) (f : TxFrame) : Bool :=
  match d.openTime m f.urgent with
  | none => true
  | some t => decide (f.time ≤ t)

/-- Every open interval of a class is long enough for its largest frame (R392). -/
def classFits (l : List Nat) (isOpen : Nat → Bool) (need : Nat) : Bool :=
  let es := gateEntries l
  es.all isOpen ||
  (List.range es.length).all (fun k =>
    let r := es.drop k ++ es.take k
    let before := if k = 0 then es.getLastD 0 else es.getD (k - 1) 0
    match r with
    | e :: _ => !isOpen e || isOpen before || decide (need ≤ openFor isOpen es.length r 0)
    | [] => true)

/-- Status of a port's gate settings as a write leaves them (R392). -/
def gateListStatus (en : Bool) (l : List Nat) : Nat :=
  if !en || (classFits l geUrgent 211200 && classFits l geNormal 1224000) then stOk else stInvalid

/-- MG_GATE_CYCLE_START: a cycle starts, and accepted writes take effect. -/
def Dev.gateCycle (d : Dev) (m : Nat) : Dev :=
  let d := d.passToMt (d.cycleStart m)
  let (en, base, l) := d.gateWritten m
  d.modMac m (fun x => { x with gateEn := en, gateBase := base, gateList := l })

/-! ### Sending (R382, R383, R389 to R395) -/

/-- Frames that firmware holds go to a ring that has room, in order. -/
def MacX.refill (x : MacX) : MacX := x.waiting.foldl (fun x f => x.enqueue f) { x with waiting := [] }

/-- The access method changes, between frames (R381); a coordinator that leaves PLCA sends no BEACON (R387). -/
def Dev.takeMethod (d : Dev) (m : Nat) : Dev :=
  match (d.mac m).method with
  | some v =>
    if (d.mac m).flight.isSome then d
    else
      let d := (d.setReg Obj.MG_ACCESS_STATE m v).modMac m (fun x => { x with method := none })
      if v = 0 ∧ d.reg Obj.MG_PLCA_ID m = 0 then d.setReg Obj.MG_PLCA_STATUS m 0 else d
  | none => d

def Dev.setMethod (d : Dev) (m v : Nat) : Dev := (d.modMac m (fun x => { x with method := some v })).takeMethod m

/-- The frame on the wire has left: counters, and the number of the response whose last frame it was. -/
def Dev.txDone (d : Dev) (m : Nat) : Option Nat × Dev :=
  let x := d.mac m
  match x.flight with
  | some f =>
    if x.endAt = 0 then (none, d)
    else
      let d := (d.setMac m { x with flight := none, tries := 0, endAt := 0 }.refill).takeMethod m
      let d := (d.countWrap Obj.MG_TX_FRAMES m 1).countWrap Obj.MG_TX_BYTES m f.len
      (if f.last && f.resp != 0 then some f.resp else none, d)
  | none => (none, d)

/-- The frame to send next: one that a collision kept, else the head of a ring, URGENT first (R389, R391). -/
def Dev.txNext (d : Dev) (m : Nat) : Option (TxFrame × MacX) :=
  let x := d.mac m
  match x.flight with
  | some f => if x.backoff.isNone && d.fits m f then some (f, x) else none
  | none =>
    let normal : Option (TxFrame × MacX) := match x.normal with
      | f :: r => if d.fits m f then some (f, { x with normal := r }) else none
      | [] => none
    match x.urgent with
    | f :: r => if d.fits m f then some (f, { x with urgent := r }) else normal
    | [] => normal

/-- The bytes of a frame from DA to FCS, padded to 60 before the FCS (R380, R395). -/
def Dev.txBytes (d : Dev) (m : Nat) (f : TxFrame) : Bytes :=
  let b := beBytes 6 f.da.toNat ++ beBytes 6 (d.mgMac m) ++
    (match f.tag with | some t => [0x81, 0x00] ++ beBytes 2 t.toNat | none => []) ++ beBytes 2 (d.reg Obj.MG_ETHERTYPE) ++ f.msg
  let b := b ++ List.replicate (60 - b.length) 0
  b ++ fcsOf b

/-- MG_FRAME_TRANSMIT: the frame before has left, the medium has been idle for 96 bit times, and the next begins its preamble (R382,
R391). -/
def Dev.txStart (d : Dev) (m : Nat) : Option Nat × Dev :=
  if !d.mgOpen m then (none, d)
  else
    let end_ := (d.mac m).endAt
    let (left, d) := (if end_ = 0 then d else d.passTo (end_ + 9600)).txDone m
    match d.txNext m with
    | some (f, x) => (left, d.setMac m { x with flight := some f, wire := d.txBytes m f, endAt := d.clock + f.time })
    | none => (left, d)

/-- A frame is given up (R382, R383, R394): a segment is sent once more at its place, then the rest of its response is abandoned.
Answers the response that will not be heard of any more. -/
def Dev.giveUp (d : Dev) (m : Nat) (f : TxFrame) : Option Nat × Dev :=
  let x := { d.mac m with flight := none, tries := 0, endAt := 0, backoff := none }
  if f.segmented && !f.again then
    (none, (d.setMac m { x with normal := { f with again := true } :: x.normal }).takeMethod m)
  else if f.segmented then
    let keep := fun (g : TxFrame) => g.resp != f.resp || !g.segmented || g.urgent
    let x := { x with normal := x.normal.filter keep, waiting := x.waiting.filter keep }
    (if f.resp != 0 then some f.resp else none, ((d.setMac m x.refill).takeMethod m).count Obj.MG_TX_BULK_ABORTS m)
  else (if f.last && f.resp != 0 then some f.resp else none, (d.setMac m x.refill).takeMethod m)

/-- MG_COLLISION: the frame on the wire collides in bit `bit` of its preamble and data; from bit 512 on it is late (R382, R383). The
backoff follows the 32-bit jam. -/
def Dev.collide (d : Dev) (m bit : Nat) : Option Nat × Dev :=
  let x := d.mac m
  match x.flight with
  | none => (none, d)
  | some f =>
    if x.endAt = 0 ∨ f.time ≤ bit * 100 then (none, d)
    else
      let d := (d.passTo (x.endAt - f.time + bit * 100)).count Obj.MG_TX_COLLISIONS m
      let x := { x with winColl := x.winColl + 1, endAt := 0, tries := x.tries + 1 }
      if 512 ≤ bit then ((d.setMac m x).count Obj.MG_TX_LATE_COLL m).giveUp m f
      else if 16 ≤ x.tries then ((d.setMac m x).count Obj.MG_TX_EXCESS m).giveUp m f
      else
        let (r, d) := d.draw (2 ^ min x.tries 10)
        (none, d.setMac m { x with backoff := some (d.clock + 3200 + r * 51200) })

/-- MG_BACKOFF_EXPIRY: the slot times are over, and the MAC defers again. -/
def Dev.backoffOver (d : Dev) (m : Nat) : Dev :=
  match (d.mac m).backoff with
  | some t => (d.passTo t).modMac m (fun x => { x with backoff := none })
  | none => d

/-! ### Medium access (R381, R384 to R388) -/

/-- MG_ACCESS_MODE applied: AUTO starts from CSMA/CD, and the window counts restart (R388). -/
def Dev.accessMode (d : Dev) (m v : Nat) : Dev :=
  let was := d.reg Obj.MG_ACCESS_MODE m
  let d := (d.setReg Obj.MG_ACCESS_MODE m v)
  if was = v then d
  else (d.setMethod m (if v = 2 then 1 else 0)).modMac m (fun x => { x with
    winColl := 0, winBusy := 0, winBeacon := d.flag Obj.MG_PLCA_STATUS m, enterRun := 0, exitRun := 0 })

/-- Status of an MG_ACCESS_MODE value beside MG_PLCA_ID (R385). -/
def accessStatus (mode id : Nat) : Nat := if mode = 2 ∧ id = 255 then stInvalid else stOk

/-- MG_PLCA_STATUS falls once no BEACON has come for the 130,090 bit times of Clause 148's plca_status timer (R384; PRESUMED, log 132). -/
def Dev.beaconWatch (d : Dev) (m : Nat) : Dev :=
  if d.flag Obj.MG_PLCA_STATUS m && decide ((d.mac m).beaconAt + 13009000 < d.clock) then d.setReg Obj.MG_PLCA_STATUS m 0 else d

/-- MG_ACCESS_WINDOW: a 100 ms window ends (R386, R387). -/
def Dev.accessWindow (d : Dev) (m : Nat) : Dev :=
  let d := d.passToMt (d.nextTick (msMt 100) (d.mac m).winK)
  let x := d.mac m
  let d := d.beaconWatch m
  let fresh := { x with winColl := 0, winBusy := 0, winBeacon := d.flag Obj.MG_PLCA_STATUS m, winK := d.now / msMt 100 }
  if d.reg Obj.MG_ACCESS_MODE m ≠ 0 then d.setMac m fresh
  else if d.reg Obj.MG_ACCESS_STATE m = 0 then
    let run := if d.reg Obj.MG_PLCA_ENTER_RATE < x.winColl * 10 then x.enterRun + 1 else 0
    if run * 100 < d.reg Obj.MG_PLCA_ENTER_TIME then d.setMac m { fresh with enterRun := run, exitRun := 0 }
    else
      let d := d.setMac m { fresh with enterRun := 0, exitRun := 0 }
      if d.reg Obj.MG_PLCA_ID m = 255 then d.event 0x4803 (refOf Obj.MG_ACCESS_STATE m)
      else ((d.setMethod m 1).count Obj.MG_PLCA_ENTRIES m).event 0x4801 (refOf Obj.MG_ACCESS_STATE m)
  else
    let rate := if x.winBeacon then x.winBusy * 10 else 0
    let run := if rate < d.reg Obj.MG_PLCA_EXIT_RATE then x.exitRun + 1 else 0
    if run < d.reg Obj.MG_PLCA_EXIT_TIME * 10 then d.setMac m { fresh with exitRun := run, enterRun := 0 }
    else ((d.setMac m { fresh with enterRun := 0, exitRun := 0 }).setMethod m 0).event 0x4802 (refOf Obj.MG_ACCESS_STATE m)

/-- MG_PLCA_BEACON: a BEACON on the port; `busy` that two or more nodes sent in the cycle (R384, R387). -/
def Dev.plcaBeacon (d : Dev) (m : Nat) (busy : Bool) : Dev :=
  if !d.mgOpen m then d
  else (d.setReg Obj.MG_PLCA_STATUS m 1).modMac m (fun x => { x with
    beaconAt := d.clock, winBeacon := true, winBusy := x.winBusy + boolNat (busy && d.reg Obj.MG_ACCESS_STATE m == 1) })

/-- The counters of a management port (R402). -/
def mgCounters : List Nat := [
  Obj.MG_RX_FRAMES, Obj.MG_RX_BYTES, Obj.MG_TX_FRAMES, Obj.MG_TX_BYTES, Obj.MG_RX_FCS_ERR, Obj.MG_RX_SYMBOL_ERR, Obj.MG_RX_RUNT,
  Obj.MG_RX_OVERSIZE, Obj.MG_RX_FRAGMENTS, Obj.MG_RX_FILTERED, Obj.MG_RX_OTHER_TYPE, Obj.MG_RX_NO_DESC, Obj.MG_RX_ABANDONED,
  Obj.MG_TX_COLLISIONS, Obj.MG_TX_EXCESS, Obj.MG_TX_LATE_COLL, Obj.MG_TX_BULK_ABORTS, Obj.MG_PLCA_ENTRIES]

/-! ### EVENT messages (R437 to R439) -/

/-- A record's bytes (R437). -/
def EvRec.bytes (e : EvRec) : Bytes :=
  beBytes 2 e.code ++ beBytes 1 e.sev ++ beBytes 1 e.flags ++ beBytes 12 (mtEncode e.time) ++ beBytes 8 (refBits e.ref) ++
  beBytes 2 e.data.length ++ e.data

/-- An OBJECT_CHANGED record carries the value current when it is sent (R438). -/
def Dev.currentRecord (d : Dev) (e : EvRec) : EvRec :=
  if e.code = 1 then
    let b := d.readRef e.ref
    { e with data := b.take 64, flags := if 64 < b.length then 1 else 0 }
  else e

/-- EVENT_SEND: the gathered records of an entry go out in one EVENT, an OVERFLOW record first where records were dropped. -/
def Dev.eventSend (d : Dev) (pair : Bool) (slot : Nat) : Dev :=
  let obj := if pair then Obj.SUB_PAIR else Obj.SUB_OWN
  let rec_ := d.reg obj slot
  let subs := if pair then d.ch.subPair else d.ch.subOwn
  let x := smGet subs slot {}
  let target := refOfBits (fld rec_ 111 48)
  let due := x.changed && decide (x.noticeAt ≤ d.clock)
  let x := if due then { x with
      changed := false, noticeAt := d.clock + fld rec_ 207 192 * 1000000,
      recs := x.recs ++ [{ code := 1, sev := 0, time := d.now, ref := target }] } else x
  if (decide (x.recs = []) && x.dropped == 0) || (pair && !d.acts) || fld rec_ 191 144 == 0 then d
  else
    let lost : List EvRec := if x.dropped = 0 then []
      else [{ code := 0, sev := 0, time := d.now, ref := refOf obj slot, data := beBytes 4 x.dropped }]
    let n := 255 - lost.length
    let out := lost ++ (x.recs.take n).map d.currentRecord
    let rest := x.recs.drop n
    let seq := (fld rec_ 31 0 + 1) % 2 ^ 32
    let x := { x with recs := rest, dropped := 0, firstAt := d.clock }
    let subs := smSet subs slot x {}
    let d := d.modCh (fun c => if pair then { c with subPair := subs } else { c with subOwn := subs })
    let live := bitOf rec_ 32
    let d := d.setReg obj slot (if live then rec_ / 2 ^ 32 * 2 ^ 32 + seq else 0)
    let payload := out.flatMap EvRec.bytes
    let tci := d.reg Obj.MG_EVENT_TCI
    d.sendFrames (fld rec_ 47 40 % 2) (BitVec.ofNat 48 (fld rec_ 191 144)) (if tci = 0 then none else some (BitVec.ofNat 16 tci))
      (out.any (fun e => collectorCode e.code)) 0
      (segments kEvent false false d.nv.sideB 0 out.length seq payload (d.reg Obj.MG_SEG_SIZE))

/-- SUBSCRIPTION_EXPIRY: the entry is freed, and SUB_EXPIRED is sent once (R435, Table 12.10): the freed entry keeps its destination,
port and sequence until that EVENT has left. -/
def Dev.subscriptionExpiry (d : Dev) (pair : Bool) (slot : Nat) : Dev :=
  let obj := if pair then Obj.SUB_PAIR else Obj.SUB_OWN
  let rec_ := d.reg obj slot
  if !bitOf rec_ 32 then d
  else
    let subs := if pair then d.ch.subPair else d.ch.subOwn
    let x := smGet subs slot {}
    let d := d.passTo x.endAt
    let x := { x with recs := x.recs ++ [{ code := 3, sev := 0, time := d.now, ref := refOf obj slot }], changed := false }
    let subs := smSet subs slot x {}
    (d.modCh (fun c => if pair then { c with subPair := subs } else { c with subOwn := subs })).setReg obj slot (rec_ - 2 ^ 32)

end Sys2Proof.Machine
end

