-- ==== Sys2Proof/Machine/Referee.lean ====
section
/-! DEFINITION. Referee duty: health and eligibility, the procedure that grants, renews and revokes the Day Pass, digest
comparison and its verdicts (R347, R350, R351, R358, R371, R372). Device 0 is A on TW_0, device 1 is B on TW_1. -/

namespace Sys2Proof.Machine

def Dev.modRf (d : Dev) (f : RefereeX → RefereeX) : Dev := { d with rf := f d.rf }
def RefereeX.dev (x : RefereeX) (i : Nat) : RefDev := if i = 0 then x.devA else x.devB
def RefereeX.setDev (x : RefereeX) (i : Nat) (v : RefDev) : RefereeX := if i = 0 then { x with devA := v } else { x with devB := v }

/-- Healthy (R351). -/
def Dev.refHealthy (d : Dev) (i : Nat) : Bool :=
  let v := d.rf.dev i
  (match v.heard with | some t => decide (d.clock ≤ t + 4000) | none => false) && !v.fault && !v.marked

/-- Eligible: healthy, and HOT or ALONE_READY (R351). -/
def Dev.refEligible (d : Dev) (i : Nat) : Bool :=
  d.refHealthy i && ((d.rf.dev i).state == twHot || (d.rf.dev i).state == twAlone)

/-- The marks of REF_SUSPECT and of VERDICT. -/
def Dev.refMarks (d : Dev) : Nat := boolNat d.rf.devA.marked + 2 * boolNat d.rf.devB.marked

/-- Queue VERDICT on both links; urgent after a change (Table 10.1). -/
def Dev.sendVerdict (d : Dev) (urgent : Bool) : Dev :=
  let body := leaseBody d.rf.leaseNo d.rf.holder d.refMarks
  let put := fun (d : Dev) l => let x := d.tx l
    d.setTx l { x with svc := x.svc.filter (fun m => m.1 != 0x49 && m.1 != 0x149) ++
      [(if urgent then 0x149 else 0x49, body)] }
  put (put d tw0) tw1

/-- The device that gets the Day Pass where none holds it (R350): HOT before ALONE_READY, TWIN_PREFER among two. -/
def Dev.refChoice (d : Dev) : Option Nat :=
  let pick := fun st =>
    match [0, 1].filter (fun i => d.refEligible i && (d.rf.dev i).state == st) with
    | [] => none
    | [i] => some i
    | _ => some (d.reg Obj.TWIN_PREFER)
  match pick twHot with
  | some i => some i
  | none => pick twAlone

/-- H = none: grant to an eligible device (R350). -/
def Dev.refGrant (d : Dev) : Dev :=
  if d.rf.phase ≠ .idle then d
  else match d.refChoice with
    | none => d
    | some i =>
      let no := (d.rf.leaseNo + 1) % 65536
      let d := d.modRf (fun x => { x with phase := .granted, holder := i, leaseNo := no, leaseEnd := d.clock + 12000 })
      ((d.sendSvc (272 + i) 0x40 (leaseBody no 0 0)).count Obj.REF_GRANTS).sendVerdict true

/-- The holder's lease is over (R350). -/
def Dev.refFree (d : Dev) : Dev :=
  ((d.modRf (fun x => { x with phase := .idle, holder := 255 })).sendVerdict true).refGrant

/-- Stop renewing and send DP_REVOKE with a reason (R350). -/
def Dev.refRevoke (d : Dev) (reason : Nat) : Dev :=
  if d.rf.phase ≠ .granted then d
  else
    let l := 272 + d.rf.holder
    let x := d.tx l
    let d := d.setTx l { x with svc := x.svc.filter (fun m => m.1 != 0x40) }
    (d.modRf (fun x => { x with phase := .waiting })).sendSvc l 0x41 (leaseBody d.rf.leaseNo reason 0)

/-- What the referee does whenever something it watches has changed. -/
def Dev.refEvaluate (d : Dev) : Dev :=
  match d.rf.phase with
  | .granted => if d.refHealthy d.rf.holder then d else d.refRevoke 1
  | .idle => d.refGrant
  | .waiting => d

/-- Mark a device suspect; a holder is revoked with reason SUSPECT (R358). -/
def Dev.refMark (d : Dev) (i : Nat) : Dev :=
  if (d.rf.dev i).marked then d
  else
    let d := d.modRf (fun x => x.setDev i { x.dev i with marked := true, joined := false })
    let d := (d.setReg Obj.REF_SUSPECT 0 d.refMarks).sendVerdict true
    if d.rf.phase = .granted ∧ d.rf.holder = i then d.refRevoke 2 else d

/-- The ruling on a mismatch of window `k` (R358). With no holder there is no device to mark where the faults are equal. -/
def Dev.refRule (d : Dev) (k : Nat) : Dev :=
  let saw := fun i => (d.rf.dev i).faults.any (fun w => decide ((w + 1 + 2 ^ 32 - k) % 2 ^ 32 ≤ 2))
  if saw 0 == saw 1 then (if d.rf.holder < 2 then d.refMark (1 - d.rf.holder) else d)
  else d.refMark (if saw 0 then 0 else 1)

/-- Mismatches whose windows are past are ruled on: the Roll Calls of window k + 1 are in, or their sender has fallen silent. -/
def Dev.refSettle (d : Dev) : Dev :=
  let done := fun k => [0, 1].all (fun i =>
    let v := d.rf.dev i
    decide (0 < (v.window + 2 ^ 32 - k) % 2 ^ 32 ∧ (v.window + 2 ^ 32 - k) % 2 ^ 32 < 2 ^ 31) || !(match v.heard with | some t => decide (d.clock ≤ t + 4000) | none => false))
  let ready := d.rf.pending.filter done
  ready.foldl (fun d k => d.refRule k) (d.modRf (fun x => { x with pending := x.pending.filter (fun k => !done k) }))

/-- A mismatch is seen for window `k`. -/
def Dev.refMismatch (d : Dev) (k : Nat) : Dev :=
  d.modRf (fun x => { x with pending := if x.pending.contains k then x.pending else x.pending ++ [k] })

/-- ROLL_CALL of device `i` (R351, R358). -/
def Dev.refRoll (d : Dev) (i : Nat) (body : BitVec 256) : Dev :=
  let b := body.toNat
  let st := fld b 247 240
  let w := fld b 215 184
  let old := d.rf.dev i
  let fault := bitOf b 239
  let clear := old.marked && old.joined && st == twHot
  let v : RefDev := { old with
    heard := some d.clock, fault, state := st, window := w,
    egress := if bitOf b 235 then ((w, fld b 183 120) :: old.egress).take 8 else old.egress,
    objs := if bitOf b 234 then ((fld b 119 104, fld b 103 40) :: old.objs.filter (fun o => o.1 != fld b 119 104)).take 4 else old.objs,
    faults := if fault then (w :: old.faults).take 8 else old.faults,
    marked := old.marked && !clear, joined := (old.joined || (old.marked && st == twJoining)) && !clear }
  let d := d.modRf (fun x => x.setDev i v)
  let d := if clear then (d.setReg Obj.REF_SUSPECT 0 d.refMarks).sendVerdict true else d
  let other := d.rf.dev (1 - i)
  let eg := bitOf b 235 && (match other.egress.find? (fun e => e.1 == w) with | some e => e.2 != fld b 183 120 | none => false)
  let ob := bitOf b 234 &&
    (match other.objs.find? (fun e => e.1 == fld b 119 104) with | some e => e.2 != fld b 103 40 | none => false)
  let d := if eg || ob || bitOf b 237 || bitOf b 236 then d.refMismatch w else d
  d.refSettle.refEvaluate

/-- ROLL_CALL_TIMEOUT: device `i` has fallen silent for 4 µs (R351). -/
def Dev.refSilent (d : Dev) (i : Nat) : Dev :=
  match (d.rf.dev i).heard with
  | none => d
  | some t => (((d.passTo (t + 4000)).modRf (fun x => x.setDev i { x.dev i with heard := none })).refSettle).refEvaluate

/-- REFEREE_RENEW_TICK: every 3 µs a RENEW to a healthy holder, and VERDICT (R350, Table 10.1). -/
def Dev.refTick (d : Dev) : Dev :=
  let d := (d.passTo d.rf.tickAt).modRf (fun x => { x with tickAt := max d.clock d.rf.tickAt + 3000 })
  let d := d.refSettle.refEvaluate
  let d := if d.rf.phase = .granted then d.sendSvc (272 + d.rf.holder) 0x40 (leaseBody d.rf.leaseNo 1 0) else d
  if [tw0, tw1].any (fun l => (d.tx l).svc.any (fun m => m.1 == 0x149)) then d else d.sendVerdict false

/-- DP_ACK or DP_RELEASE of device `i` with the lease number of the holder (R349, R350). -/
def Dev.refAck (d : Dev) (i body : Nat) : Dev :=
  if d.rf.phase = .waiting ∧ d.rf.holder = i ∧ lbNo body = d.rf.leaseNo then d.refFree else d

def Dev.refRelease (d : Dev) (i body : Nat) : Dev :=
  if (d.rf.phase = .waiting ∨ d.rf.phase = .granted) ∧ d.rf.holder = i ∧ lbNo body = d.rf.leaseNo ∧ lbCode body ≤ 2 then d.refFree
  else d

/-- REFEREE_GUARD_EXPIRY: lease end plus 0.5 µs without an acknowledgement (R350). -/
def Dev.refGuard (d : Dev) : Dev :=
  if d.rf.phase = .waiting then (d.passTo (d.rf.leaseEnd + 500)).refFree else d

/-- REF_HANDOVER is refused with CONFLICT unless the other device is eligible (Table 10.10). -/
def Dev.handoverStatus (d : Dev) : Nat :=
  if d.rf.phase = .granted ∧ d.refEligible (1 - d.rf.holder) then stOk else stConflict

end Sys2Proof.Machine
end

