-- ==== Sys2Proof/Machine/Rules.lean ====
section
/-! DEFINITION. The rules of the objects: when a value is allowed (R407 and each chapter), and what its application does. The
checks of a write are made on `v`, the state that the whole write leaves (R427), beside `d`, the state before it. -/

namespace Sys2Proof.Machine

/-! ### Types and ranges (R407, Table 12.2) -/

def utf8Tail (b : Byte) : Bool := decide (0x80 ≤ b.toNat) && decide (b.toNat ≤ 0xBF)

/-- Well-formed UTF-8: no overlong form, no surrogate, nothing beyond U+10FFFF. -/
def utf8Ok : Bytes → Bool
  | [] => true
  | a :: r =>
    let x := a.toNat
    if x < 0x80 then utf8Ok r
    else match r with
      | [] => false
      | b :: r =>
        let y := b.toNat
        if x < 0xC2 then false
        else if x < 0xE0 then utf8Tail b && utf8Ok r
        else match r with
          | [] => false
          | c :: r =>
            if x < 0xF0 then
              utf8Tail b && utf8Tail c && !(x == 0xE0 && decide (y < 0xA0)) && !(x == 0xED && decide (0xA0 ≤ y)) && utf8Ok r
            else match r with
              | [] => false
              | e :: r =>
                decide (x < 0xF5) && utf8Tail b && utf8Tail c && utf8Tail e && !(x == 0xF0 && decide (y < 0x90)) &&
                  !(x == 0xF4 && decide (0x90 ≤ y)) && utf8Ok r

/-- The bytes are a value of the type. -/
def typeOk (t : Ty) (b : Bytes) : Bool :=
  match t with
  | .bool => b.length == 1 && decide (beNat b ≤ 1)
  | .u n => b.length == n
  | .s n => b.length == n
  | .enum8 => b.length == 1
  | .bits32 => b.length == 4
  | .mtime => b.length == 12 && mtValid (beNat b)
  | .octets n => b.length == n
  | .text n => decide (b.length ≤ n) && utf8Ok b
  | .table => true
  | .void => b == []

/-- The value lies in the object's range. -/
def rangeOk (o : ObjDesc) (b : Bytes) : Bool :=
  let x : Int := match o.ty with
    | .s n => toInt (8 * n) (beNat b)
    | _ => (beNat b : Int)
  o.rng.isEmpty || o.rng.any (fun p => decide (p.1 ≤ x) && decide (x ≤ p.2))

/-- The elements that a value writes, where its bytes fit the reference. -/
def elemWrs (o : ObjDesc) (r : Ref) (b : Bytes) : Option (List Wr) :=
  let num := r.object.toNat
  let i0 := r.index.toNat
  match o.ty.size with
  | none => some [⟨num, i0, b⟩]
  | some n =>
    let k := refCount r
    if b.length ≠ n * k then none
    else some ((List.range k).map (fun i => ⟨num, i0 + i, (b.drop (n * i)).take n⟩))

/-! ### The state that a write leaves -/

/-- A store into an object without its consequences. -/
def Dev.put (d : Dev) (w : Wr) : Dev :=
  match objDesc w.num with
  | none => d
  | some o => if o.ty.size.isSome then d.setReg w.num w.idx (beNat w.val) else d.setBlob w.num w.idx w.val

/-- An element in its view: stores in frame memory and gates follow too. -/
def Dev.stage (d : Dev) (w : Wr) : Dev :=
  if w.num = Obj.RF_ENABLE then d
  else if w.num = Obj.GATE_EN then d.gateSet w.idx (beNat w.val == 1)
  else if w.num = Obj.TAKE then d
  else if w.num = Obj.FS_MODE then (d.put w).modInp w.idx (fun x => { x with costFmt := d.costFormat w.idx })
  else d.put w

/-- The state that the writes leave: the settings first, then the flows that they enable or disable. -/
def Dev.viewOf (d : Dev) (ws : List Wr) : Dev :=
  let rf := ws.filter (fun w => w.num == Obj.RF_ENABLE)
  let off := rf.filter (fun w => beNat w.val == 0)
  let on := rf.filter (fun w => beNat w.val == 1)
  let d := off.foldl (fun d w => d.rfEnable w.idx false) d
  let d := ws.foldl Dev.stage d
  on.foldl (fun d w => d.rfEnable w.idx true) d

/-! ### Rules of the values, area by area: statuses -/

/-- The first status that is not OK. -/
def firstBad : List (Bool × Nat) → Nat
  | [] => stOk
  | (bad, st) :: r => if bad then st else firstBad r

/-- Area 0x03 (R341, R373): in referee duty only TWIN_MODE and its own objects are writable, which elsewhere hold no value. -/
def Dev.twinRule (d : Dev) (num : Nat) : Nat :=
  let refereeObj := decide (0x030040 ≤ num)
  firstBad [(num == Obj.TWIN_MODE && decide (d.life.phase ≠ .layBy), stBusy),
    (num != Obj.TWIN_MODE && refereeObj != d.nv.refereeDuty, stWrongState)]

/-- Settings of a port: those of ports p+1 to p+3 of a ganged stream are refused (R28). -/
def inputSettings : List Nat := [Obj.IN_TRANSPORT, Obj.IN_GANG, Obj.GW_DEEMBED, Obj.FS_MODE, Obj.FS_OFFSET, Obj.FS_DELAY_FRAMES,
  Obj.FS_LOSS_HOLD, Obj.FS_LOSS_ACTION, Obj.FS_FORMAT_PLAN]
def outputSettings : List Nat := [Obj.XP_PROTECT, Obj.OUT_TRANSPORT, Obj.OUT_GANG, Obj.OUT_FORMAT, Obj.OUT_OFFSET,
  Obj.OUT_TIMING_WINDOW, Obj.OUT_FIELD_SWITCH, Obj.GW_EMBED, Obj.GW_EMBED_CHANNELS, Obj.GW_EMBED_OFFSET]

/-- The frame sync class holds input `p` as the view sets it (R193). -/
def Dev.fsRule (d v : Dev) (p : Nat) : Nat :=
  let mode := v.reg Obj.FS_MODE p
  let known := fmtKnown (v.inFormat p) || fmtKnown (v.reg Obj.FS_FORMAT_PLAN p)
  firstBad [(d.reg Obj.FS_MODE p == 0 && mode != 0 && !known, stWrongState),
    (!v.fsFitsWith p mode (v.reg Obj.FS_DELAY_FRAMES p) (v.costFormat p) (v.flag Obj.IN_GANG p), stNoCapacity)]

/-- A standard definition format: 486 or 576 rows. -/
def fmtSd (c : Nat) : Bool := match fmtOf c with | some f => decide (f.rows ≤ 576) | none => false

/-- Port settings (R28, R146, R193, R200, R201, R211, R239, R261). DESIGN CHOICE (log 122): IN_GANG or OUT_GANG FALSE at `p` with
`p mod 4 ≠ 0` changes nothing and is accepted; the range `p mod 4 = 0 only` refuses TRUE there. -/
def Dev.portRule (d v : Dev) (num p x : Nat) : Nat :=
  let t := v.reg Obj.IN_TRANSPORT p
  let g := v.flag Obj.IN_GANG p
  let member := (inputSettings.contains num && v.inGangMember p) || (outputSettings.contains num && v.outGangMember p)
  if member then stInvalid
  else if num = Obj.IN_TRANSPORT ∨ num = Obj.IN_GANG then
    let st := firstBad [(g && (p % 4 != 0 || t == 1), stInvalid), (!v.capsAllow p (portNeeds (t == 1) g 0), stInvalid)]
    if st = stOk ∧ num = Obj.IN_GANG then d.fsRule v p else st
  else if num = Obj.OUT_TRANSPORT ∨ num = Obj.OUT_GANG ∨ num = Obj.OUT_FORMAT then
    v.outSettingStatus p (v.reg Obj.OUT_TRANSPORT p) (v.flag Obj.OUT_GANG p) (v.reg Obj.OUT_FORMAT p)
  else if num = Obj.FS_MODE ∨ num = Obj.FS_DELAY_FRAMES then d.fsRule v p
  else if num = Obj.GW_EMBED_CHANNELS then
    if x % 4 ≠ 0 ∨ (fmtSd (v.outFormat p) ∧ 16 < x) then stInvalid else stOk
  else stOk

/-- Flow entries (R209, R210, R228). -/
def Dev.flowRule (d v : Dev) (num f x : Nat) : Nat :=
  if (num = Obj.TF_RED_HDR ∨ num = Obj.TF_BLUE_HDR) ∧ (fld x 158 156 ≠ 0 ∨ fld x 29 0 ≠ 0) then stInvalid
  else if num = Obj.RF_ENABLE then
    if x = 0 ∨ d.flag Obj.RF_ENABLE f then stOk else (v.rfEnable f false).rfStatus f
  else if num = Obj.TF_ENABLE then
    if x = 0 ∨ d.flag Obj.TF_ENABLE f then stOk else (v.setReg Obj.TF_ENABLE f 0).tfStatus f
  else if 0x180001 < num ∧ num < 0x180100 then
    if num ≠ Obj.RF_PLAYOUT ∧ d.flag Obj.RF_ENABLE f ∧ v.flag Obj.RF_ENABLE f then stBusy else stOk
  else if 0x180101 < num ∧ num < 0x180200 then
    if d.flag Obj.TF_ENABLE f ∧ v.flag Obj.TF_ENABLE f then stBusy else stOk
  else d.portRule v num f x

/-- Composition and stills (R243, R247, R250, R257, R259). -/
def Dev.pictureRule (v : Dev) (num i : Nat) (b : Bytes) : Nat :=
  let x := beNat b
  if num = Obj.CE_OUTPUT then v.ceOutputStatus i x (fun m => v.reg Obj.CE_OUTPUT m)
  else if num = Obj.CE_ORDER then orderStatus x
  else if num = Obj.CE_LAYER then layerStatus i x (fun m => v.reg Obj.CE_LAYER m)
  else if num = Obj.STILL_DATA then v.stillStatus i (v.reg Obj.STILL_FORMAT i) b.length
  else if num = Obj.STILL_FORMAT then (if v.stillPlayed i then stBusy else stOk)
  else if num = Obj.SP_STILL then v.spStatus i x
  else stOk

/-- Canopy settings (R262, R265). -/
def Dev.canopyRule (d v : Dev) (num c x : Nat) : Nat :=
  if num = Obj.CANOPY_SOURCE then
    if x ≠ 0xFFFF ∧ (!srcValid x ∨ (x < 1024 ∧ v.inGangMember x)) then stInvalid else stOk
  else if num = Obj.CI_OUTPUT then
    (v.setReg Obj.CI_ON c (boolNat (d.flag Obj.CI_ON c && v.flag Obj.CI_ON c))).ciOutputStatus c x (fun m => v.reg Obj.CI_OUTPUT m)
  else if num = Obj.CI_ON then
    if x = 0 then stOk else v.ciOnStatus c (v.reg Obj.CI_OUTPUT c) (v.reg Obj.CI_BAND_TOP c) (v.reg Obj.CI_BAND_ROWS c)
  else stOk

/-- An AI number of Table 1.5, or 65535 (R31, R32). -/
def aiValid (n : Nat) : Bool := decide (n < 37376) || n == 65535

/-- The entries that a journal message holds. -/
def journalOf (num i : Nat) (b : Bytes) : Option (List (Nat × Nat)) :=
  if num = Obj.MIX_GAIN_ROW then rowEntries i b else if num = Obj.MIX_JOURNAL_ADD then journalEntries b else some []

/-- Entries of journal messages that are accepted and whose E has not come. -/
def Dev.journalHeld (d : Dev) : Nat :=
  (d.ch.pend.map (fun p => match p.act with
    | .writes ws => (ws.map (fun w => ((journalOf w.num w.idx w.val).getD []).length)).sum
    | _ => 0)).sum

/-- Audio settings (R32, R287, R294, R295, R306); `ws` is the whole write. -/
def Dev.audioRule (d v : Dev) (ws : List Wr) (num i : Nat) (b : Bytes) : Nat :=
  let x := beNat b
  if num = Obj.SHUF_SRC then (if aiValid x then stOk else stInvalid)
  else if num = Obj.AO_DELAY then v.aoDelayStatus i x
  else if num = Obj.MIX_GAIN_ROW ∨ num = Obj.MIX_JOURNAL_ADD then
    let others := (ws.filter (fun w => !(w.num == num && w.idx == i))).map (fun w => ((journalOf w.num w.idx w.val).getD []).length)
    d.journalStatus (d.journalHeld + others.sum) (journalOf num i b)
  else if num = Obj.AP_MODE ∨ num = Obj.AP_IN_DELAY then
    if d.flag Obj.AP_ENABLE i ∧ v.flag Obj.AP_ENABLE i then stBusy else stOk
  else stOk

/-- Lanes (R105, R118). -/
def Dev.laneRule (d : Dev) (num l x : Nat) : Nat :=
  if num = Obj.LANE_EN then
    if x = 0 ∧ isSpare l ∧ d.reg Obj.LANE_SPARE_FOR (laneGroup l) ≠ 255 then stConflict else stOk
  else if num = Obj.LANE_TEST_MODE then
    if x ≠ 0 ∧ isTwin l ∧ d.holds then stConflict else stOk
  else stOk

/-- Frame memory (R321), references (R40, R49) and clocks (R68, R76, R78). -/
def Dev.memoryRule (v : Dev) (num : Nat) : Nat :=
  if num = Obj.FM_WR_HIGH ∨ num = Obj.FM_WR_LOW then
    (if v.reg Obj.FM_WR_LOW < v.reg Obj.FM_WR_HIGH then stOk else stInvalid)
  else stOk

def Dev.refRule0 (d v : Dev) (num i x : Nat) : Nat :=
  if num = Obj.REF_ACCEPT ∨ num = Obj.REF_REJECT then
    (if v.reg Obj.REF_ACCEPT i < v.reg Obj.REF_REJECT i then stOk else stInvalid)
  else if num = Obj.SEL_FORCE then
    if x < 5 then (if d.refState x = rfQualified then stOk else stWrongState)
    else if x = 255 then
      (if d.reg Obj.THERMOS_STATE = thReady ∨ d.reg Obj.THERMOS_STATE = thInUse then stOk else stWrongState)
    else stOk
  else stOk

def Dev.clockRule (v : Dev) (port : Port) (num i x : Nat) : Nat :=
  if num = Obj.CLKOUT_DIV_NUM ∨ num = Obj.CLKOUT_DIV_DEN then
    (if v.reg Obj.CLKOUT_DIV_NUM i < v.reg Obj.CLKOUT_DIV_DEN i then stOk else stInvalid)
  else if num = Obj.GATE_EN then (if x = 1 then v.gateOpenStatus i else v.gateCloseStatus i (portGates port))
  else stOk

/-- The collector (R443, R444, R451) and telemetry (R467). -/
def Dev.faultRule (d : Dev) (num i x : Nat) : Nat :=
  if num = Obj.FLT_FORCE then d.forceStatus i x
  else if num = Obj.FLT_ENABLE then d.enableStatus i x
  else if num = Obj.FLT_SEVERITY then severityStatus i x
  else stOk

/-- Management (R378, R385, R387, R392, R403). -/
def Dev.mgRule (v : Dev) (num i x : Nat) : Nat :=
  if num = Obj.MG_PAIR_ADDR then (if isGroup x then stOk else stInvalid)
  else if num = Obj.MG_GROUP_ADDR then (if x = 0 ∨ isGroup x then stOk else stInvalid)
  else if num = Obj.MG_ETHERTYPE then
    (if x < 0x0600 ∨ x ∈ [0x0800, 0x0806, 0x8100, 0x86DD, 0x88F7] then stInvalid else stOk)
  else if num = Obj.MG_SEG_SIZE then (if x % 64 = 0 then stOk else stInvalid)
  else if num = Obj.MG_PLCA_ENTER_TIME then (if x % 100 = 0 then stOk else stInvalid)
  else if num = Obj.MG_ACCESS_MODE ∨ num = Obj.MG_PLCA_ID then accessStatus (v.reg Obj.MG_ACCESS_MODE i) (v.reg Obj.MG_PLCA_ID i)
  else if num = Obj.MG_GATE_EN ∨ num = Obj.MG_GATE_BASE ∨ num = Obj.MG_GATE_LIST then
    let m := if num = Obj.MG_GATE_LIST then i / 8 else i
    gateListStatus (v.flag Obj.MG_GATE_EN m) ((List.range 8).map (fun k => v.reg Obj.MG_GATE_LIST (8 * m + k)))
  else stOk

/-- Update (R491, R492), calibration (R488), the control bus (R505). -/
def Dev.updRule (d : Dev) (num i : Nat) (b : Bytes) : Nat :=
  if num = Obj.UPD_MANIFEST then d.manifestStatus b
  else if num = Obj.UPD_PIECE then d.pieceStatus i b
  else stOk

def Dev.calRule (d : Dev) (num : Nat) (b : Bytes) : Nat :=
  if d.life.calPending then stBusy
  else if num = Obj.CAL_SET ∧ !d.calGood b then stInvalid
  else stOk

/-- Status of one element of a write `ws`, after its access: R407, then its object's rules. -/
def Dev.elemStatus (d v : Dev) (port : Port) (ws : List Wr) (o : ObjDesc) (w : Wr) : Nat :=
  let x := beNat w.val
  if !typeOk o.ty w.val || !rangeOk o w.val then stInvalid
  else match w.num / 65536 with
    | 0x03 => d.twinRule w.num
    | 0x10 => d.portRule v w.num w.idx x
    | 0x11 =>
      if w.num = Obj.HAMPER_ENTRIES then
        (if !v.hamperOk w.val then stInvalid else if (d.hamper w.idx).isSome then stBusy else stOk)
      else if tkResv x ≠ 0 ∨ !mtValid (tkApply x) then stInvalid
      else v.takeStatus (tkKind x) (tkTarget x) (tkSource x)
    | 0x14 => d.portRule v w.num w.idx x
    | 0x15 => d.portRule v w.num w.idx x
    | 0x18 => d.flowRule v w.num w.idx x
    | 0x1C => d.portRule v w.num w.idx x
    | 0x20 => v.pictureRule w.num w.idx w.val
    | 0x21 => d.canopyRule v w.num w.idx x
    | 0x28 => d.audioRule v ws w.num w.idx w.val
    | 0x29 => d.audioRule v ws w.num w.idx w.val
    | 0x2A => d.audioRule v ws w.num w.idx w.val
    | 0x30 => d.laneRule w.num w.idx x
    | 0x34 => v.memoryRule w.num
    | 0x38 => d.refRule0 v w.num w.idx x
    | 0x3C => v.clockRule port w.num w.idx x
    | 0x40 => d.faultRule w.num w.idx x
    | 0x44 => if w.idx = 0 then stNoAccess else telStatus w.idx w.val
    | 0x48 => v.mgRule w.num w.idx x
    | 0x50 => d.updRule w.num w.idx w.val
    | 0x58 => d.calRule w.num w.val
    | 0x60 => if w.num = Obj.BUS_QOS ∧ w.idx = 7 then stInvalid else stOk
    | _ => stOk

/-! ### Application -/

/-- Ports whose frames begin anew when an output's transport or gang changes. -/
def Dev.outRestart (d : Dev) (p : Nat) : Dev :=
  (List.range 4).foldl (fun d j => d.modOut (p / 4 * 4 + j) (fun x =>
    { x with started := false, ahead := false, fill := 0, pkts := [] })) d

/-- A port setting takes effect: at once, or at the frame start that watches for it (R187, R192, R193, R243). -/
def Dev.applyPort (d : Dev) (w : Wr) : Dev :=
  let x := beNat w.val
  let p := w.idx
  let d' := d.put w
  if w.num = Obj.OUT_FORMAT then d.outFormatSet p x
  else if w.num = Obj.OUT_GANG ∨ w.num = Obj.OUT_TRANSPORT then (if d.reg w.num p = x then d else d'.outRestart p)
  else if w.num = Obj.FS_MODE then
    let d := d'.modInp p (fun y => { y with costFmt := d.costFormat p })
    let d := if d.reg Obj.FS_STATE p = 5 then d.setReg Obj.FS_STATE p 0 else d
    if d.hasFrames p then d else d.fsEnter p
  else if w.num = Obj.FS_DELAY_FRAMES then (if d'.hasFrames p then d' else d'.fsDelayEnter p)
  else if w.num = Obj.FS_FORMAT_PLAN then (if fmtKnown (d.inFormat p) then d' else d'.fsRecost p x)
  else d'

def Dev.applyPicture (d : Dev) (w : Wr) : Dev :=
  let x := beNat w.val
  if w.num = Obj.CE_OUTPUT then d.ceOutputSet w.idx x
  else if w.num = Obj.STILL_FORMAT then
    (if d.reg Obj.STILL_FORMAT w.idx = x then d else (d.put w).setBlob Obj.STILL_DATA w.idx [])
  else if w.num = Obj.CANOPY_SOURCE then d.canopySourceSet w.idx x
  else if w.num / 65536 = 0x21 ∧ Obj.CI_OUTPUT ≤ w.num ∧ w.num ≤ Obj.CI_GAIN then (d.put w).ciSet w.idx
  else d.put w

def Dev.applyAudio (d : Dev) (e : Nat) (w : Wr) : Dev :=
  let x := beNat w.val
  if w.num = Obj.SHUF_SRC then d.shufSet w.idx x e
  else if w.num = Obj.AO_DELAY then d.aoDelaySet w.idx x e
  else if w.num = Obj.MIX_GAIN_ROW ∨ w.num = Obj.MIX_JOURNAL_ADD then d.journalAdd (journalOf w.num w.idx w.val)
  else if w.num = Obj.AP_ENABLE then d.apEnable w.idx (x == 1) e
  else d.put w

def Dev.applyLane (d : Dev) (w : Wr) : Dev :=
  let x := beNat w.val
  let d := d.put w
  if w.num = Obj.LANE_EN then d.laneEn w.idx (x == 1)
  else if w.num = Obj.LANE_SPARE_MODE then d.spareMode w.idx x
  else if w.num = Obj.LANE_TX_PRESET then d.presetKnown w.idx
  else if w.num = Obj.LANE_TEST_MODE then d.testMode w.idx x
  else d

def Dev.applyTiming (d : Dev) (w : Wr) : Dev :=
  let x := beNat w.val
  let old := d
  let d := d.put w
  if w.num = Obj.REF_RANK then d.refRankSet w.idx x
  else if w.num = Obj.FREF_SPREAD then old.spreadSet x
  else if w.num = Obj.SEL_FORCE ∨ w.num = Obj.SEL_REVERTIVE then d.evalSelector false
  else if w.num = Obj.LANE_REF_PREFER then d.laneRefUpdate
  else if w.num = Obj.CLKOUT_FSYNC_MODE then d.setReg Obj.CLKOUT_FSYNC_DONE w.idx 0
  else d

def Dev.applyFault (d : Dev) (w : Wr) : Dev :=
  let x := beNat w.val
  if w.num = Obj.FLT_LATCHED then d.latchedWrite w.idx x
  else if w.num = Obj.FLT_FORCE then d.forceWrite w.idx x
  else if w.num = Obj.FLT_ACK then d.ackWrite w.idx x
  else if w.num = Obj.FLT_SEVERITY then d.severityWrite w.idx x
  else d.put w

def Dev.applyCal (d : Dev) (w : Wr) : Dev :=
  if w.num = Obj.CAL_SET then (d.calLoad w.val).calChanged else (d.put w).calChanged

/-- An element of a write is applied at its E. A gate's close waits with no request to answer here (R77). -/
def Dev.applyWr (d : Dev) (e : Nat) (w : Wr) : Dev :=
  let x := beNat w.val
  match w.num / 65536 with
  | 0x11 =>
    if w.num = Obj.HAMPER_ENTRIES then d.hamperSet w.idx w.val
    else d.armTake (tkKind x) (tkTarget x) { src := tkSource x, e, late := false, hamper := none }
  | 0x14 => d.applyPort w
  | 0x15 => d.applyPort w
  | 0x18 => if w.num = Obj.RF_ENABLE then d.rfEnable w.idx (x == 1) else d.put w
  | 0x1C => d.applyPort w
  | 0x20 => d.applyPicture w
  | 0x21 => d.applyPicture w
  | 0x28 => d.applyAudio e w
  | 0x29 => d.applyAudio e w
  | 0x2A => d.applyAudio e w
  | 0x30 => d.applyLane w
  | 0x38 => d.applyTiming w
  | 0x3C =>
    if w.num = Obj.GATE_EN then (if x = 1 then d.flashGate w.idx else d.gateClose w.idx)
    else d.applyTiming w
  | 0x40 => d.applyFault w
  | 0x48 => if w.num = Obj.MG_ACCESS_MODE then d.accessMode w.idx x else d.put w
  | 0x50 =>
    if w.num = Obj.UPD_MANIFEST then d.manifestSet w.val
    else if w.num = Obj.UPD_PIECE then d.pieceSet w.idx w.val
    else d.put w
  | 0x58 => d.applyCal w
  | _ => d.put w

/-- The order of application inside one write: what it disables, its settings, what it enables. -/
def wrPhase (w : Wr) : Nat :=
  if w.num ∈ [Obj.RF_ENABLE, Obj.TF_ENABLE, Obj.AP_ENABLE, Obj.CI_ON] then (if beNat w.val = 0 then 0 else 2) else 1

def inPhases (ws : List Wr) : List Wr :=
  ws.filter (fun w => wrPhase w == 0) ++ ws.filter (fun w => wrPhase w == 1) ++ ws.filter (fun w => wrPhase w == 2)

/-- Objects whose applied values the store records (R409); the gain matrix follows R298. -/
def Wr.persisted (w : Wr) : Bool :=
  match objDesc w.num with
  | some o => o.persisted && w.num != Obj.MIX_GAIN_ROW && !(w.num == Obj.GATE_EN && w.idx == 34)
  | none => false

/-- A whole write is applied at its E, as one set of the store (R409, R427, R465). -/
def Dev.applyWrites (d : Dev) (e : Nat) (ws : List Wr) : Dev :=
  let d := (inPhases ws).foldl (fun d w => d.applyWr e w) d
  let d := ws.foldl (fun d w => d.copyFollows (objKey w.num w.idx)) d
  d.persist ((ws.filter Wr.persisted).map (fun w => objKey w.num w.idx))

end Sys2Proof.Machine
end

