-- ==== Sys2Proof/Machine/Commands.lean ====
section
/-! DEFINITION. The commands of the object tables: when each is refused, and what it does (R428 and each chapter). -/

namespace Sys2Proof.Machine

/-! ### Clears (R460) -/

def clearList (d : Dev) (ns is_ : List Nat) : Dev := is_.foldl (fun d i => d.clearCounters ns i) d

def rfCounters : List Nat := [Obj.RF_PKTS, Obj.RF_BYTES, Obj.RF_SEQ_LOST, Obj.RF_LATE, Obj.RF_EARLY, Obj.RF_RECOVERED, Obj.RF_ABSENT,
  Obj.RF_BAD, Obj.RF_OFFGRID, Obj.RF_STORE_FULL, Obj.RF_MIRROR_GAP]
def fmCounters : List Nat := [Obj.FM_REF_FORCED, Obj.FM_RH_EVENTS, Obj.FM_CE, Obj.FM_UE, Obj.FM_ODECC, Obj.FM_POISON_READ,
  Obj.FM_RETRAINS, Obj.FM_REF_DEBT_MAX]

/-- CE_COUNT_CLEAR: the counters of engine `n` and of its layers. -/
def Dev.ceCountClear (d : Dev) (n : Nat) : Dev :=
  clearList (d.clearCounters [Obj.CE_BG_ABSENT] n) [Obj.CE_LAYER_DROPOUTS, Obj.CE_LAYER_UNDERRUN] ((List.range 8).map (8 * n + ·))

/-- CANOPY_COUNT_CLEAR. -/
def Dev.canopyCountClear (d : Dev) : Dev :=
  clearList (d.clearCounters [Obj.CN_FRAMES_OK, Obj.CN_FRAMES_BAD, Obj.CN_REFUSED, Obj.CANOPY_MIRROR_MISS] 0) [Obj.CI_FRAMES]
    (List.range 128)

/-- AO_COUNT_CLEAR: index 0 also clears the mirror counters. -/
def Dev.aoCountClear (d : Dev) (a : Nat) : Dev :=
  let d := d.clearCounters [Obj.AO_ABSENT, Obj.AO_LATE_DROP] a
  if a = 0 then d.clearCounters [Obj.AUD_MIRROR_GAP, Obj.AUD_MIRROR_MISS] 0 else d

/-- MIX_COUNT_CLEAR. -/
def Dev.mixCountClear (d : Dev) : Dev :=
  clearList (d.clearCounters [Obj.MIX_COMMITS, Obj.MIX_ECC_ERR] 0) [Obj.MIX_OUT_SAT] (List.range 4096)

/-- FS_COUNT_CLEAR: index 0 also clears FS_MIRROR_MISS. -/
def Dev.fsCountClear (d : Dev) (p : Nat) : Dev :=
  let d := d.clearCounters [Obj.FS_DROPS, Obj.FS_REPEATS] p
  if p = 0 then d.clearCounters [Obj.FS_MIRROR_MISS] 0 else d

/-- LANE_COUNT_CLEAR and MG_COUNT_CLEAR: the counters and their saturation word in one step (R107, R402). -/
def Dev.laneCountClear (d : Dev) (l : Nat) : Dev := (d.clearCounters laneCounters l).setReg Obj.LANE_SAT l 0
def Dev.mgCountClear (d : Dev) (m : Nat) : Dev := (d.clearCounters mgCounters m).setReg Obj.MG_SAT m 0

/-- FM_COUNT_CLEAR: index 0 also clears the counters of the classes and stacks. -/
def Dev.fmCountClear (d : Dev) (pc : Nat) : Dev :=
  let d := d.clearCounters fmCounters pc
  if pc = 0 then
    clearList (clearList (d.clearCounters [Obj.FM_SCRUB_PASSES] 0) [Obj.FM_CLASS_OVER] (List.range 6)) [Obj.FM_HOT_ENTRIES]
      (List.range 2)
  else d

/-- TWIN_COUNT_CLEAR. -/
def Dev.twinCountClear (d : Dev) : Dev :=
  d.clearCounters [Obj.DP_GRANTS, Obj.DP_EXPIRIES, Obj.TWIN_DIGEST_MISMATCH, Obj.TWIN_JOINS, Obj.TWIN_JOIN_FAILS, Obj.TWIN_UNSEALED,
    Obj.TWIN_RECORDS_LOST, Obj.REF_GRANTS] 0

/-- CH_COUNT_CLEAR. -/
def Dev.chCountClear (d : Dev) : Dev :=
  clearList (d.clearCounters [Obj.CH_EVENTS_DROPPED, Obj.CH_BULK_EXPIRED] 0)
    [Obj.CH_REQUESTS, Obj.CH_REFUSED, Obj.CH_MALFORMED, Obj.CH_DUPLICATES] (List.range 5)

/-- RMB_COUNT_CLEAR. -/
def Dev.rmbCountClear (d : Dev) : Dev :=
  clearList (d.clearCounters [Obj.RMB_TABLE_CE, Obj.RMB_TABLE_UE] 0) [Obj.RMB_RUNS] (List.range 7)

/-- DBG_COUNT_CLEAR. -/
def Dev.dbgCountClear (d : Dev) : Dev :=
  let d := d.clearCounters [Obj.DBG_REFUSED, Obj.DBG_HALT_REFUSED, Obj.DBG_MEM_ACCESSES] 0
  let d := clearList d [Obj.BUS_OUTSTANDING_MAX, Obj.BUS_ERRORS] (List.range 9)
  clearList d [Obj.BUS_AGED, Obj.BUS_GRANTS] (List.range 12)

/-! ### Statuses beyond type and range -/

/-- MIX_COMMIT: R296, and the rows that the gain area holds (R480). -/
def Dev.mixCommitStatus (d : Dev) : Nat :=
  let st := d.commitStatus
  let after := d.mix.opened.foldl (fun m kv => smSet m kv.1 (kv.2.getD 0) 0) d.mix.gain
  let rows := (after.map (fun kv => kv.1 / 4096)).eraseDups.length
  if st = stOk ∧ d.gainRowsMax < rows then stNoCapacity else st

/-- TAKE_CANCEL is refused for a Hamper's take (R179). -/
def Dev.cancelStatus (d : Dev) (p : Nat) : Nat :=
  match (d.out p).pend with
  | some t => if t.hamper.isSome then stConflict else stOk
  | none => stOk

/-- LANE_SPARE_FORCE (Table 3.10). -/
def Dev.spareForceStatus (d : Dev) (l : Nat) : Nat :=
  if isSpare l then stInvalid
  else if d.laneState l ≠ lnActive then stWrongState
  else if !d.spareFree (laneGroup l) (laneNo l) then stConflict
  else stOk

/-- Status of a command whose argument has its type and range. -/
def Dev.cmdStatus (d : Dev) (num i : Nat) (arg : Bytes) : Nat :=
  if num = Obj.MT_STEP_APPLY then (if d.flag Obj.MT_STEP_PENDING then stOk else stWrongState)
  else if num = Obj.LANE_RESTART then (if d.laneState i = lnFail then stOk else stWrongState)
  else if num = Obj.LANE_SPARE_FORCE then d.spareForceStatus i
  else if num = Obj.TAKE_CANCEL then d.cancelStatus i
  else if num = Obj.HAMPER_FIRE then d.fireStatus i
  else if num = Obj.HAMPER_ABORT then (if (d.hamper i).isSome then stOk else stWrongState)
  else if num = Obj.HAMPER_CLEAR then (if (d.hamper i).isSome then stBusy else stOk)
  else if num = Obj.MIX_COMMIT then d.mixCommitStatus
  else if num = Obj.FM_PC_RETIRE then d.pcRetireStatus
  else if num = Obj.FM_RETIRE_CLEAR then (if d.life.phase = .layBy then stOk else stWrongState)
  else if num = Obj.DP_RELEASE then d.dpReleaseStatus
  else if num = Obj.TWIN_JOIN then d.twinJoinStatus
  else if num = Obj.REF_HANDOVER then d.handoverStatus
  else if num = Obj.START then d.startStatus
  else if num = Obj.DEV_LAYBY then d.layByStatus
  else if num = Obj.DEV_RESET then (if d.holds then stConflict else stOk)
  else if num = Obj.UPD_ACTIVATE then d.activateCheck.2
  else if num = Obj.UPD_REVERT then d.revertStatus
  else if num = Obj.UPD_DISCARD then d.discardStatus
  else if num = Obj.SEC_ATTEST then d.attestStatus
  else if num = Obj.SEC_KEY_REVOKE then d.revokeStatus i
  else if num = Obj.SEC_LIFECYCLE_SET then d.lifecycleStatus (beNat arg)
  else stOk

/-- What a refused command leaves behind: UPD_REFUSAL takes the code of the failing check (R494). DESIGN CHOICE (log 122): a refused
HAMPER_FIRE adds nothing to TAKES_REFUSED, which R174 gives to takes. -/
def Dev.cmdRefused (d : Dev) (num : Nat) : Dev :=
  if num = Obj.UPD_ACTIVATE then d.setReg Obj.UPD_REFUSAL 0 d.activateCheck.1 else d

/-- A command with an apply time of its own: its argument alone sets E, and it arms at acceptance (R183, R296, R428). -/
def argTimed (num : Nat) : Bool := num == Obj.HAMPER_FIRE || num == Obj.MIX_COMMIT

/-! ### Effects -/

/-- The effect of a command at its E; `e` and `late` matter to the commands that arm. -/
def Dev.cmdApply (d : Dev) (num i : Nat) (arg : Bytes) (e : Nat) (late : Bool) : Dev :=
  if num = Obj.MT_STEP_APPLY then d.modRef (fun r => { r with stepArmed := true })
  else if num = Obj.SYNTH_STROBE then d.strobe
  else if num = Obj.LANE_RESTART then d.restartLane i
  else if num = Obj.LANE_SPARE_FORCE then d.wantRetire i
  else if num = Obj.LANE_COUNT_CLEAR then d.laneCountClear i
  else if num = Obj.TAKE_CANCEL then d.cancelTake i
  else if num = Obj.HAMPER_FIRE then d.fireHamper i e late
  else if num = Obj.HAMPER_ABORT then d.abortHamper i
  else if num = Obj.HAMPER_CLEAR then d.clearHamper i
  else if num = Obj.TAKE_COUNT_CLEAR then d.clearCounters [Obj.TAKES_EXECUTED, Obj.TAKES_LATE, Obj.TAKES_DIRTY, Obj.TAKES_REFUSED] 0
  else if num = Obj.IN_COUNT_CLEAR then
    d.clearCounters [Obj.IN_MARK_DISAGREE, Obj.IN_DISCONT, Obj.IN_HOLES, Obj.IN_GANG_SKEW] i
  else if num = Obj.OUT_COUNT_CLEAR then d.clearCounters [Obj.OUT_REPHASE, Obj.OUT_DIRTY, Obj.OUT_UNDERFLOW] i
  else if num = Obj.FS_COUNT_CLEAR then d.fsCountClear i
  else if num = Obj.RF_COUNT_CLEAR then d.clearCounters rfCounters i
  else if num = Obj.TF_COUNT_CLEAR then d.clearCounters [Obj.TF_PKTS, Obj.TF_BYTES, Obj.TF_LATE_DATA] i
  else if num = Obj.PKT_COUNT_CLEAR then d.clearCounters [Obj.GW_REANCHOR, Obj.PKT_FCS_ERR, Obj.PKT_HDR_ERR, Obj.PKT_UNMATCHED] i
  else if num = Obj.CE_COUNT_CLEAR then d.ceCountClear i
  else if num = Obj.CANOPY_COUNT_CLEAR then d.canopyCountClear
  else if num = Obj.AO_COUNT_CLEAR then d.aoCountClear i
  else if num = Obj.MIX_JOURNAL_DISCARD then d.journalDiscard
  else if num = Obj.MIX_COMMIT then d.commitArm e
  else if num = Obj.MIX_COUNT_CLEAR then d.mixCountClear
  else if num = Obj.AP_COUNT_CLEAR then d.clearCounters [Obj.AP_REPLACED, Obj.AP_MUTES, Obj.AP_SLIPS] i
  else if num = Obj.FM_PC_RETIRE then d.fmRetire i
  else if num = Obj.FM_RETIRE_CLEAR then d.retireClear
  else if num = Obj.FM_COUNT_CLEAR then d.fmCountClear i
  else if num = Obj.DP_RELEASE then d.releasePass 0
  else if num = Obj.TWIN_JOIN then d.beginJoin
  else if num = Obj.REF_HANDOVER then d.refRevoke 0
  else if num = Obj.TWIN_COUNT_CLEAR then d.twinCountClear
  else if num = Obj.MG_COUNT_CLEAR then d.mgCountClear i
  else if num = Obj.START then d.modLife (fun x => { x with startDue := true })
  else if num = Obj.DEV_LAYBY then d.devLayBy
  else if num = Obj.CH_COUNT_CLEAR then d.chCountClear
  else if num = Obj.FLT_COUNT_CLEAR then clearList d [Obj.FLT_COUNT] (List.range 288)
  else if num = Obj.RMB_COUNT_CLEAR then d.rmbCountClear
  else if num = Obj.UPD_ACTIVATE then d.activateSlot.2
  else if num = Obj.UPD_REVERT then d.pushFallback
  else if num = Obj.UPD_DISCARD then d.discardUpdate
  else if num = Obj.SEC_ATTEST then d.attest arg
  else if num = Obj.SEC_KEY_REVOKE then d.revokeKey i
  else if num = Obj.SEC_LIFECYCLE_SET then d.lifecycleSet (beNat arg)
  else if num = Obj.DBG_COUNT_CLEAR then d.dbgCountClear
  else d

/-- The reset that an accepted command makes once its response has left, with its cause (Table 12.14, R495, R499). -/
def Dev.cmdReset (d : Dev) (num : Nat) : Option Nat :=
  if num = Obj.DEV_RESET then some rcCommand
  else if num = Obj.UPD_ACTIVATE ∧ d.activateSlot.1 then some rcUpdate
  else if num = Obj.UPD_REVERT then some rcFallback
  else none

end Sys2Proof.Machine
end

