-- ==== Sys2Proof/Machine/Messages.lean ====
section
/-! DEFINITION. Requests as bytes: the header of Table 12.4, the payloads of Table 12.5, and what parses (R417, R418, R425 to
R434). -/

namespace Sys2Proof.Machine

/-! ### Encoding -/

/-- The KIND that a payload belongs to. -/
def kindOf (p : Payload) : Nat :=
  match p with
  | .read _ => kRead
  | .write _ _ => kWrite
  | .writeSet _ _ => kSet
  | .command _ _ _ => kCommand
  | .take _ => kTake
  | .subscribe _ => kSubscribe
  | .bulkRead _ _ _ => kBulkRead
  | .bulkWrite _ => kBulkWrite
  | .bad k _ => k.toNat

def itemBytes (it : Item) : Bytes := beBytes 8 (refBits it.ref) ++ beBytes 2 it.value.length ++ it.value

/-- The bytes of a payload. -/
def payloadBytes (p : Payload) : Bytes :=
  match p with
  | .read refs => refs.flatMap (fun r => beBytes 8 (refBits r))
  | .write a it => beBytes 12 a.toNat ++ itemBytes it
  | .writeSet a its => beBytes 12 a.toNat ++ its.flatMap itemBytes
  | .command a r arg => beBytes 12 a.toNat ++ beBytes 8 (refBits r) ++ arg
  | .take recs => recs.flatMap (fun r => beBytes 16 r.toNat)
  | .subscribe recs => recs.flatMap (fun r => beBytes 32 r.toNat)
  | .bulkRead r o n => beBytes 8 (refBits r) ++ beBytes 4 o.toNat ++ beBytes 4 n.toNat
  | .bulkWrite b =>
    beBytes 12 b.apply.toNat ++ beBytes 8 (refBits b.ref) ++ beBytes 4 b.offset.toNat ++ beBytes 4 b.size.toNat ++
      beBytes 1 b.final.toNat ++ beBytes 3 b.resv.toNat ++ beBytes 4 b.crc.toNat ++ b.data
  | .bad _ bytes => bytes

/-- The 128 bits of a request's header. -/
def reqHead (kind : Nat) (r : Req) : Nat :=
  r.version.toNat * 2 ^ 124 + kind % 16 * 2 ^ 120 + boolNat r.response * 2 ^ 119 + boolNat r.more * 2 ^ 118 +
    boolNat r.late * 2 ^ 117 + boolNat r.senderB * 2 ^ 116 + r.resv.toNat * 2 ^ 112 + r.status.toNat * 2 ^ 104 +
    r.count.toNat * 2 ^ 96 + r.reqId.toNat * 2 ^ 64 + r.length.toNat * 2 ^ 48 + r.segOffset.toNat * 2 ^ 32 + r.total.toNat

/-- A whole message. -/
def messageBytes (r : Req) (p : Payload) : Bytes := beBytes 16 (reqHead (kindOf p) r) ++ payloadBytes p

/-! ### Parsing -/

/-- The header of a message that came in by `port`. -/
def parseHead (port : Port) (src : BitVec 48) (toPair : Bool) (tag : Option (BitVec 16)) (h : Nat) : Req :=
  { port, src, toPair, tag
    version := BitVec.ofNat 4 (fld h 127 124), response := bitOf h 119, more := bitOf h 118, late := bitOf h 117
    senderB := bitOf h 116, resv := BitVec.ofNat 4 (fld h 115 112), status := BitVec.ofNat 8 (fld h 111 104)
    count := BitVec.ofNat 8 (fld h 103 96), reqId := BitVec.ofNat 32 (fld h 95 64), length := BitVec.ofNat 16 (fld h 63 48)
    segOffset := BitVec.ofNat 16 (fld h 47 32), total := BitVec.ofNat 32 (fld h 31 0) }

/-- `n` items in the layout of R426; none where the bytes are not exactly `n` items. -/
def parseItems : Nat → Bytes → Option (List Item)
  | 0, b => if b = [] then some [] else none
  | n + 1, b =>
    if b.length < 10 then none
    else
      let len := beNat ((b.drop 8).take 2)
      let rest := b.drop 10
      if rest.length < len then none
      else (parseItems n (rest.drop len)).map (fun its => ⟨refOfBits (beNat (b.take 8)), rest.take len⟩ :: its)

/-- The bytes of a payload under its kind; `bad` where they do not parse. -/
def parsePayload (kind count : Nat) (b : Bytes) : Payload :=
  let bad := Payload.bad (BitVec.ofNat 4 kind) b
  let apply := BitVec.ofNat 96 (beNat (b.take 12))
  let ref := fun (x : Bytes) => refOfBits (beNat (x.take 8))
  let whole := fun n => b.length == n * count
  match kind with
  | 1 => if whole 8 then .read ((chunksOf 8 count b).map ref) else bad
  | 2 => if b.length < 12 then bad else match parseItems 1 (b.drop 12) with
    | some [it] => .write apply it
    | _ => bad
  | 3 => if b.length < 12 then bad else match parseItems count (b.drop 12) with
    | some its => .writeSet apply its
    | none => bad
  | 4 => if b.length < 20 then bad else .command apply (ref (b.drop 12)) (b.drop 20)
  | 5 => if whole 16 then .take ((chunksOf 16 count b).map (fun x => BitVec.ofNat 128 (beNat x))) else bad
  | 6 => if whole 32 then .subscribe ((chunksOf 32 count b).map (fun x => BitVec.ofNat 256 (beNat x))) else bad
  | 8 => if b.length ≠ 16 then bad else .bulkRead (ref b) (BitVec.ofNat 32 (beNat ((b.drop 8).take 4))) (BitVec.ofNat 32 (beNat (b.drop 12)))
  | 9 =>
    if b.length < 36 then bad
    else .bulkWrite
      { apply, ref := ref (b.drop 12), offset := BitVec.ofNat 32 (beNat ((b.drop 20).take 4))
        size := BitVec.ofNat 32 (beNat ((b.drop 24).take 4)), final := BitVec.ofNat 8 (beNat ((b.drop 28).take 1))
        resv := BitVec.ofNat 24 (beNat ((b.drop 29).take 3)), crc := BitVec.ofNat 32 (beNat ((b.drop 32).take 4)), data := b.drop 36 }
  | _ => bad

/-- A message's header and payload; none where not even a header is there. On a segment LENGTH ends the message, and padding
follows (R395). -/
def parseMessage (port : Port) (src : BitVec 48) (toPair : Bool) (tag : Option (BitVec 16)) (b : Bytes) : Option (Req × Payload) :=
  if b.length < 16 then none
  else
    let h := beNat (b.take 16)
    let r := parseHead port src toPair tag h
    let rest := b.drop 16
    let body := match port with
      | .mgA => rest.take r.length.toNat
      | .mgB => rest.take r.length.toNat
      | _ => rest
    some (r, parsePayload (fld h 123 120) r.count.toNat body)

/-! ### Structure: steps 2 to 5 of Table 12.6 -/

/-- The largest request of a port, header and payload (R417, R529). -/
def reqLimit (p : Port) : Nat :=
  match p with
  | .mgA => 1500
  | .mgB => 1500
  | .cn => 1024
  | .db => 2047

/-- Kinds that a port class takes (Table 12.5). -/
def kindListed (p : Port) (k : Nat) : Bool :=
  match p with
  | .mgA => k ∈ [1, 2, 3, 4, 5, 6, 8, 9]
  | .mgB => k ∈ [1, 2, 3, 4, 5, 6, 8, 9]
  | .cn => k ∈ [1, 2, 3, 4]
  | .db => k ∈ [1, 2, 3, 4, 8, 9]

/-- COUNT and the lengths of a payload obey its kind. -/
def payloadParses (count : Nat) (p : Payload) : Bool :=
  let many := fun (n hi : Nat) => decide (n = count) && decide (1 ≤ n) && decide (n ≤ hi)
  match p with
  | .read refs => many refs.length 64
  | .write _ it => count == 1 && decide (it.value.length < 65536)
  | .writeSet _ its => many its.length 255 && its.all (fun it => decide (it.value.length < 65536))
  | .command _ _ _ => count == 1
  | .take recs => many recs.length 64
  | .subscribe recs => many recs.length 16
  | .bulkRead _ _ _ => count == 1
  | .bulkWrite b => count == 1 && decide (b.data.length ≤ 1448)
  | .bad _ _ => false

/-- The references of a payload. -/
def payloadRefs (p : Payload) : List Ref :=
  match p with
  | .read refs => refs
  | .write _ it => [it.ref]
  | .writeSet _ its => its.map (·.ref)
  | .command _ r _ => [r]
  | .bulkRead r _ _ => [r]
  | .bulkWrite b => [b.ref]
  | _ => []

/-- The item whose reserved field is not zero, and whether one outside the items is not. -/
def reservedHit (r : Req) (p : Payload) : Option Nat :=
  let head := r.more || r.late || r.senderB || r.resv != 0 || r.status != 0
  let rest := match p with
    | .take recs => recs.any (fun x => tkResvOf x.toNat != 0)
    | .bulkWrite b => b.resv != 0
    | _ => false
  if head || rest then some noFail else (payloadRefs p).findIdx? (fun x => x.resv != 0)
where
  tkResvOf (x : Nat) : Nat := fld x 111 108

/-- Steps 2 to 5: a status, and the failing item. -/
def structureStatus (r : Req) (p : Payload) : Nat × Nat :=
  if r.version ≠ 1 then (stUnsupported, noFail)
  else if !kindListed r.port (kindOf p) then (stUnsupported, noFail)
  else if r.length.toNat ≠ (payloadBytes p).length ∨ r.segOffset ≠ 0 ∨ r.total.toNat ≠ r.length.toNat ∨
      reqLimit r.port < 16 + (payloadBytes p).length ∨ !payloadParses r.count.toNat p then (stMalformed, noFail)
  else match reservedHit r p with
    | some k => (stInvalid, k)
    | none => (stOk, noFail)

end Sys2Proof.Machine
end

