-- ==== Sys2Proof/Machine/Accept.lean ====
section
/-! DEFINITION. The acceptance of requests: steps 6 to 8 of Table 12.6, effective times, and what each kind does (R411 to R436,
R342 to R345, R453, R455). -/

namespace Sys2Proof.Machine

/-! ### Steps 6 and 7: existence and access -/

/-- What a message does to an object. -/
inductive Op where
  | read | write | command
deriving DecidableEq, Repr

/-- The object of a reference, where it and its elements exist (R404, R405). -/
def refObj (r : Ref) : Option ObjDesc :=
  match objDesc r.object.toNat with
  | none => none
  | some o => match o.elems with
    | none => some o
    | some n => if r.indexed && decide (n < r.index.toNat + r.elements.toNat) then none else some o

/-- INDEXED matches the object, and INDEX and ELEMENTS are allowed (R424). -/
def refForm (o : ObjDesc) (r : Ref) : Bool :=
  let single := o.ty.size.isNone || o.mg == .cmd || o.cn == .cmd || o.db == .cmd
  match o.elems with
  | none => !r.indexed && r.index == 0 && (r.elements == 0 || (single && r.elements == 1))
  | some _ => r.indexed && decide (1 ≤ r.elements.toNat) && decide (r.elements.toNat ≤ 4096) && (!single || r.elements == 1)

/-- The access of a port class (R413). -/
def classAcc (o : ObjDesc) (p : Port) : Acc :=
  match p with
  | .mgA => o.mg
  | .mgB => o.mg
  | .cn => o.cn
  | .db => o.db

/-- An access code allows an operation (R416). -/
def accAllows (a : Acc) (op : Op) : Bool :=
  match op with
  | .read => a == .ro || a == .rw
  | .write => a == .rw || a == .wo
  | .command => a == .cmd

/-- What the debug port may still do in FIELD: READ the objects of areas 0x40 and 0x44 (R415). -/
def fieldAllows (kind num : Nat) : Bool := kind == kRead && (num / 65536 == 0x40 || num / 65536 == 0x44)

/-- What FAIL and LOCKOUT still answer (R453, R455). -/
def Dev.stateAllows (d : Dev) (kind num : Nat) : Bool :=
  let reads := kind == kRead || kind == kBulkRead
  let area := num / 65536
  match d.life.phase with
  | .fail => reads || ((kind == kWrite || kind == kSet || kind == kBulkWrite) && area == 0x40) || (kind == kCommand && num == Obj.DEV_RESET)
  | .lockout => reads && (area == 0x01 || area == 0x02 || area == 0x40 || area == 0x44)
  | _ => true

/-- Step 7 of one object; a sealed write needs the TW access too, unless it came by the Canopy port (R414). -/
def Dev.accessStatus (d : Dev) (port : Port) (sealed : Bool) (kind : Nat) (op : Op) (o : ObjDesc) : Nat :=
  if port = .db ∧ d.nv.lifecycle = 2 ∧ !fieldAllows kind o.num then stNoAccess
  else if !accAllows (classAcc o port) op then stNoAccess
  else if sealed ∧ port ≠ .cn ∧ !accAllows o.tw op then stNoAccess
  else if !d.stateAllows kind o.num then stWrongState
  else stOk

/-- A debug message refused by R415: DEBUG_REFUSED is live (Table 13.11). -/
def Dev.noteRefusedDebug (d : Dev) (r : Req) (kind : Nat) (refs : List Ref) : Dev :=
  if r.port = .db ∧ d.nv.lifecycle = 2 ∧ refs.any (fun x => !fieldAllows kind x.object.toNat) then d.pulse Flt.DEBUG_REFUSED else d

/-- The first item, from `k` on, that a test fails: its status and number. -/
def firstFail {α : Type} (f : α → Nat) : Nat → List α → Option (Nat × Nat)
  | _, [] => none
  | k, x :: r => if f x = stOk then firstFail f (k + 1) r else some (f x, k)

/-! ### Effective times (R169, R342, R411) -/

/-- Objects whose writes and commands are timed: takes and Hampers (R197), and audio writes that change samples (R285). -/
def timedObj (num : Nat) : Bool :=
  num / 65536 == 0x11 ||
  num ∈ [Obj.SHUF_SRC, Obj.AO_DELAY, Obj.MIX_IN_OFFSET, Obj.AP_ENABLE, Obj.AP_MODE, Obj.AP_OUT_OFFSET]

def objShared (num : Nat) : Bool := match objDesc num with | some o => o.shared | none => false

/-- The message went to the pair's address; the mailbox has none. -/
def pairSent (r : Req) : Bool := r.toPair && decide (r.port ≠ .db)

/-- E of a write of objects `nums` with APPLY, and whether it is late. A pair-addressed Canopy write is timed (R271). -/
def Dev.eOf (d : Dev) (r : Req) (apply : Nat) (nums : List Nat) (shared : Bool) : Nat × Bool :=
  let timed := nums.any timedObj || (decide (r.port = .cn) && pairSent r)
  if !shared then (d.now, false)
  else if timed ∨ apply ≠ 0 then effective apply d.now
  else (if d.hotPeer then d.now + usMt 2000 else d.now, false)

/-- A shared write to one device alone meets a hot peer (R344, R271). -/
def Dev.loneConflict (d : Dev) (r : Req) (shared : Bool) : Bool := shared && !pairSent r && d.hotPeer

/-! ### Writes: WRITE, WRITE_SET, the content of a BULK_WRITE -/

/-- A judged write: a status with the failing item, or the elements to write. -/
inductive Judged where
  | bad (st fail : Nat)
  | good (ws : List Wr) (shared : Bool)
deriving DecidableEq, Repr

/-- The elements of one item; none where its reference or its length is wrong. -/
def itemWrs (it : Item) : Option (List Wr) :=
  match objDesc it.ref.object.toNat with
  | some o => if refForm o it.ref then elemWrs o it.ref it.value else none
  | none => none

/-- Step 8 of one item against the view of the whole write. -/
def Dev.itemStatus (d v : Dev) (port : Port) (ws : List Wr) (it : Item) : Nat :=
  match objDesc it.ref.object.toNat, itemWrs it with
  | some o, some es => match firstFail (d.elemStatus v port ws o) 0 es with
    | some (st, _) => st
    | none => stOk
  | _, _ => stInvalid

/-- Steps 6 to 8 of a write (R418, R426, R427). `sealed` is the application of a sealed write. -/
def Dev.judgeWrite (d : Dev) (r : Req) (sealed : Bool) (kind : Nat) (apply : Nat) (its : List Item) : Judged :=
  let shared := match its with | it :: _ => objShared it.ref.object.toNat | [] => false
  let mixed := its.findIdx? (fun it => objShared it.ref.object.toNat != shared)
  let access := fun (it : Item) => match refObj it.ref with
    | some o => d.accessStatus r.port sealed kind .write o
    | none => stNoObject
  match firstFail (fun (it : Item) => if (refObj it.ref).isSome then stOk else stNoObject) 0 its with
  | some (st, k) => .bad st k
  | none => match firstFail access 0 its with
    | some (st, k) => .bad st k
    | none => match mixed with
      | some k => .bad stInvalid k
      | none =>
        if !mtValid apply || (apply ≠ 0 && !shared) then .bad stInvalid 0
        else if !sealed && d.loneConflict r shared then .bad stConflict 0
        else
          let ws := its.flatMap (fun it => (itemWrs it).getD [])
          match firstFail (d.itemStatus (d.viewOf ws) r.port ws) 0 its with
          | some (st, k) => .bad st k
          | none => .good ws shared

/-- What a refused write leaves behind: the RESULT of a gate request (R79), UPDATE_FAIL for a manifest or a piece that does not
check (R491, R492), TAKES_REFUSED for a take (R174). -/
def Dev.writeRefused (d : Dev) (r : Req) (its : List Item) (st fail : Nat) : Dev :=
  match its[fail]? with
  | none => d
  | some it =>
    let num := it.ref.object.toNat
    if num = Obj.GATE_EN then
      let v := d.viewOf (its.flatMap (fun x => (itemWrs x).getD []))
      match ((itemWrs it).getD []).find? (fun w => decide (v.clockRule r.port w.num w.idx (beNat w.val) = st)) with
      | some w => d.gateNote w.idx st
      | none => d
    else if (num = Obj.UPD_MANIFEST ∨ num = Obj.UPD_PIECE) ∧ st = stInvalid then d.pulse Flt.UPDATE_FAIL
    else if num = Obj.TAKE then d.count Obj.TAKES_REFUSED
    else d

/-- Elements of settings of the port that a message arrived on (R375). -/
def ownPortSetting (p : Port) (w : Wr) : Bool :=
  let m := portIdx p
  let other := match objDesc w.num with
    | some o => if o.elems = some 2 then decide (w.idx ≠ m) else w.num == Obj.MG_GATE_LIST && decide (w.idx / 8 ≠ m)
    | none => false
  (decide (p = .mgA) || decide (p = .mgB)) && w.num / 65536 == 0x48 && !other

/-! ### Sealing (R342) -/

/-- Code of a port in a SEAL. -/
def sealPort (p : Port) : Nat := match p with | .mgA => 0 | .mgB => 1 | _ => 2

/-- The holder seals a shared write: SEAL_SEQ, the SEAL on TW_0, and the message kept for WRITE_FETCH. -/
def Dev.sendSeal (d : Dev) (r : Req) (p : Payload) (e : Nat) : Dev :=
  if !d.holds || decide (r.port = .db) then d
  else
    let seq := (d.tw.sealSeq + 1) % 2 ^ 32
    let msg := messageBytes r p
    let body := beBytes 1 (sealPort r.port) ++ beBytes 6 (keyMac r).toNat ++ beBytes 4 r.reqId.toNat ++ beBytes 4 (crc32c msg) ++
      beBytes 4 seq ++ beBytes 12 (mtEncode e)
    (d.modTw (fun t => { t with sealSeq := seq, sealed := ((seq, msg) :: t.sealed).take 1024 })).sendRec 0x01 body 2

/-! ### Application at E (R411, R421) -/

/-- Carry out an act whose E has come. -/
def subRecord (r : Port) (src : BitVec 48) (old rec_ : Nat) : Nat :=
  let dest := if fld rec_ 191 144 = 0 then src.toNat else fld rec_ 191 144
  let live := bitOf old 32
  fld rec_ 247 192 * 2 ^ 192 + dest * 2 ^ 144 + fld rec_ 143 48 * 2 ^ 48 + portIdx r * 2 ^ 40 + 2 ^ 32 +
    (if live then fld old 31 0 else 0)

/-- One subscription record is applied to its list: SUB_OWN or SUB_PAIR (R435). -/
def Dev.subApply (d : Dev) (pair : Bool) (port : Port) (src : BitVec 48) (rec_ : Nat) : Dev :=
  let obj := if pair then Obj.SUB_PAIR else Obj.SUB_OWN
  let slot := fld rec_ 247 240
  let subs := if pair then d.ch.subPair else d.ch.subOwn
  let put := fun (d : Dev) (x : SubX) =>
    let m := smSet subs slot x {}
    d.modCh (fun c => if pair then { c with subPair := m } else { c with subOwn := m })
  if fld rec_ 255 248 = 1 then put (d.setReg obj slot 0) {}
  else
    let old := d.reg obj slot
    let x := if bitOf old 32 then smGet subs slot {} else {}
    put (d.setReg obj slot (subRecord port src old rec_)) { x with src, endAt := d.clock + fld rec_ 223 208 * 1000000000 }

/-- An act at its E. -/
def Dev.actAt (d : Dev) (e : Nat) (a : Act) : Dev :=
  match a with
  | .writes ws => d.applyWrites e ws
  | .command num i arg => d.cmdApply num i arg e false
  | .subscribe port src recs => recs.foldl (fun d x => d.subApply true port src x.toNat) d

/-- An accepted act waits for its E, or takes effect at once where E is its acceptance time. -/
def Dev.schedule (d : Dev) (seq e : Nat) (port : Port) (a : Act) : Dev :=
  if e ≤ d.now then d.actAt e a else d.modCh (fun c => { c with pend := c.pend ++ [⟨e, seq, port, a⟩] })

/-- Take records among the elements of an accepted write are armed with its E; one whose own APPLY, or else the write's, is earlier is a
late take (R169, R172). The other elements wait for E. -/
def Dev.scheduleWrites (d : Dev) (seq e apply : Nat) (port : Port) (ws : List Wr) : Dev :=
  let (takes, rest) := ws.partition (fun w => w.num == Obj.TAKE)
  let d := takes.foldl (fun d w =>
    let x := beNat w.val
    let own := if tkApply x = 0 then apply else mtDecode (tkApply x)
    d.armTake (tkKind x) (tkTarget x) { src := tkSource x, e, late := decide (own ≠ 0 ∧ own < e), hamper := none }) d
  if rest = [] then d else d.schedule seq e port (.writes rest)

/-- The next acceptance order (R421). -/
def Dev.nextOrder (d : Dev) : Nat × Dev := (d.ch.order + 1, d.modCh (fun c => { c with order := c.order + 1 }))

/-- The first of the pending acts: least E, then least order. -/
def firstPend : List Pend → Option Pend
  | [] => none
  | p :: r => match firstPend r with
    | none => some p
    | some q => if q.e < p.e ∨ (q.e = p.e ∧ q.seq < p.seq) then some q else some p

/-- WRITE_APPLY_AT_E: the least E comes, and every act of it is applied, in order; none is visible apart from the others (R411, R421, R427). -/
def Dev.applyDue : Nat → Dev → Dev
  | 0, d => d
  | n + 1, d => match firstPend d.ch.pend with
    | none => d
    | some p =>
      let d' := ((d.passToMt p.e).modCh (fun c => { c with pend := c.pend.erase p })).actAt p.e p.act
      match firstPend d'.ch.pend with
      | some q => if q.e = p.e then Dev.applyDue n d' else d'
      | none => d'

/-! ### Acceptance -/

/-- An accepted or refused request: the state, its response (none while gates wait), what applies once the response has left. -/
structure Outcome where
  dev : Dev
  resp : Option Resp
  later : List Wr := []
  reset : Option Nat := none

def refuse (d : Dev) (kind : Nat) (r : Req) (st fail : Nat) (urgent : Bool) : Outcome :=
  { dev := d, resp := some (refusal kind r st fail urgent) }

/-- E of the elements of a write: the latest that any would take alone (R427); a take record in it has its own APPLY. -/
def Dev.writeE (d : Dev) (r : Req) (apply : Nat) (ws : List Wr) (shared : Bool) : Nat × Bool :=
  let (e, late) := d.eOf r apply (ws.map (·.num)) shared
  ws.foldl (fun t w =>
    if w.num = Obj.TAKE then
      let (e', late') := effective (mtDecode (tkApply (beNat w.val))) d.now
      (max t.1 e', t.2 || late')
    else t) (e, late)

/-- The items of a write. -/
def payloadItems (p : Payload) : List Item :=
  match p with
  | .write _ it => [it]
  | .writeSet _ its => its
  | _ => []

/-- The gates whose close by a write waits, with the item that names each: its reply waits for them (R77, R79). -/
def Dev.gatesLeft (d : Dev) (its : List Item) (ws : List Wr) : List (Nat × Nat) :=
  (ws.filter (fun w => w.num == Obj.GATE_EN && d.gateWaits w.idx)).map (fun w =>
    (w.idx, its.findIdx (fun it => ((itemWrs it).getD []).any (fun x => x.num == w.num && x.idx == w.idx))))

/-- A write is accepted: a local one applies now, a port's own settings once the reply has left (R375), a shared one at its E. -/
def Dev.acceptWrite (d : Dev) (r : Req) (p : Payload) (kind apply : Nat) (ws : List Wr) (shared : Bool) : Outcome :=
  let (e, late) := d.writeE r (mtDecode apply) ws shared
  let resp := some (accepted kind r e late false)
  if shared then
    let (seq, d) := d.nextOrder
    { dev := (d.sendSeal r p e).scheduleWrites seq e (mtDecode apply) r.port ws, resp }
  else if ws.any (ownPortSetting r.port) then { dev := d, resp, later := ws }
  else
    let n := d.applyWrites e ws
    match n.gatesLeft (payloadItems p) ws with
    | [] => { dev := n, resp }
    | left => { dev := n.modClk (fun x => { x with replies := x.replies ++ [⟨r, kind, e, left, none⟩] }), resp := none }

/-- A write of several kinds of message: judged, then accepted or refused. -/
def Dev.doWrite (d : Dev) (r : Req) (p : Payload) (kind apply : Nat) (its : List Item) : Outcome :=
  match d.judgeWrite r false kind apply its with
  | .bad st k => refuse (d.writeRefused r its st k) kind r st k false
  | .good ws shared => d.acceptWrite r p kind apply ws shared

/-! ### TAKE (R429) -/

/-- Take records in order, with one acceptance time: statuses and Es. -/
def Dev.takeRecords (d : Dev) (acc : Nat) : List (BitVec 128) → List (Nat × Nat) × Dev
  | [] => ([], d)
  | x :: r =>
    let (st, e, d) := d.takeRecord acc x.toNat
    let (out, d) := d.takeRecords acc r
    ((st, e) :: out, d)

/-- A take record is late (R169). -/
def lateTake (acc : Nat) (x : BitVec 128) (st : Nat) : Bool :=
  decide (st = stOk) && (effective (mtDecode (tkApply x.toNat)) acc).2

/-- Take records of a TAKE message, or of a WRITE of one record, with the payload of their response. A SEAL carries the
acceptance time plus 2 ms. -/
def Dev.doTake (d : Dev) (r : Req) (p : Payload) (recs : List (BitVec 128)) (asWrite : Bool) : Outcome :=
  let deny := if d.loneConflict r true then stConflict else if !d.stateAllows kTake Obj.TAKE then stWrongState else stOk
  let (outs, d') := if deny = stOk then d.takeRecords d.now recs else (recs.map (fun _ => (deny, 0)), d)
  let sts := outs.map (·.1)
  let d' := if sts.any (· == stOk) then d'.sendSeal r p (d.now + usMt 2000) else d'
  let late := (recs.zip sts).any (fun x => lateTake d.now x.1 x.2)
  let st0 := sts.headD stOk
  let head := if sts.all (· == stOk) then stOk else if sts.all (· == st0) then st0 else stPartial
  let payload := if asWrite then ePayload ((outs.headD (0, 0)).2) noFail
    else outs.flatMap (fun x => beBytes 1 x.1 ++ beBytes 12 (mtEncode x.2))
  { dev := d', resp := some { kind := kindOf p, req := r, status := if asWrite then st0 else head, late, count := r.count.toNat, payload,
                              urgent := true } }

/-- A WRITE to 0x11.0001: one take record with its own APPLY (R429). -/
def Dev.writeTake (d : Dev) (r : Req) (p : Payload) (apply : Nat) (it : Item) : Outcome :=
  match refObj it.ref with
  | none => refuse d kWrite r stNoObject noFail true
  | some o =>
    let st := d.accessStatus r.port false kWrite .write o
    if st ≠ stOk then refuse d kWrite r st noFail true
    else if apply ≠ 0 || !refForm o it.ref || it.value.length ≠ 16 then refuse d kWrite r stInvalid noFail true
    else d.doTake r p [BitVec.ofNat 128 (beNat it.value)] true

/-! ### COMMAND (R428) -/

/-- Commands whose replies are URGENT (R389). -/
def urgentCommand (num : Nat) : Bool := num ∈ [Obj.HAMPER_FIRE, Obj.HAMPER_ABORT, Obj.MIX_COMMIT, Obj.DP_RELEASE]

/-- Steps 6 to 8 of a command. -/
def Dev.commandStatus (d : Dev) (r : Req) (sealed : Bool) (apply : Nat) (ref : Ref) (arg : Bytes) : Nat :=
  match refObj ref with
  | none => stNoObject
  | some o =>
    let st := d.accessStatus r.port sealed kCommand .command o
    if st ≠ stOk then st
    else if !refForm o ref || !mtValid apply || (apply ≠ 0 && (!o.shared || argTimed o.num)) then stInvalid
    else if !typeOk o.ty arg || !rangeOk o arg then stInvalid
    else if !sealed && d.loneConflict r o.shared then stConflict
    else d.cmdStatus o.num ref.index.toNat arg

/-- E of an accepted command. -/
def Dev.commandE (d : Dev) (r : Req) (apply num : Nat) (arg : Bytes) : Nat × Bool :=
  if argTimed num then effective (mtDecode (beNat arg)) d.now else d.eOf r (mtDecode apply) [num] (objShared num)

/-- A command arms at acceptance, or acts at its E. -/
def Dev.enactCommand (d : Dev) (seq e : Nat) (late : Bool) (port : Port) (num i : Nat) (arg : Bytes) : Dev :=
  if argTimed num then d.cmdApply num i arg e late else d.schedule seq e port (.command num i arg)

def Dev.doCommand (d : Dev) (r : Req) (p : Payload) (apply : Nat) (ref : Ref) (arg : Bytes) : Outcome :=
  let num := ref.object.toNat
  let urgent := urgentCommand num
  let st := d.commandStatus r false apply ref arg
  if st ≠ stOk then refuse (if st = d.cmdStatus num ref.index.toNat arg then d.cmdRefused num else d) kCommand r st noFail urgent
  else
    let (e, late) := d.commandE r apply num arg
    let resp := some (accepted kCommand r e late urgent)
    let reset := d.cmdReset num
    let (seq, d) := d.nextOrder
    let d := if objShared num then d.sendSeal r p e else d
    { dev := d.enactCommand seq e late r.port num ref.index.toNat arg, resp, reset }

/-! ### READ and BULK_READ (R425, R430) -/

/-- Steps 6 to 8 of one reference that is read. -/
def Dev.readStatus (d : Dev) (r : Req) (kind : Nat) (x : Ref) : Nat :=
  match refObj x with
  | none => stNoObject
  | some o =>
    let st := d.accessStatus r.port false kind .read o
    if st ≠ stOk then st else if !refForm o x then stInvalid else stOk

/-- One result of a READ, after `used` bytes of results: a TABLE that does not fit is TOO_LARGE for that item alone. -/
def Dev.readItem (d : Dev) (r : Req) (used : Nat) (x : Ref) : Nat × Bytes :=
  let st := d.readStatus r kRead x
  let data := if st = stOk then d.readRef x else []
  let isTable := match objDesc x.object.toNat with | some o => o.ty == .table | none => false
  let big := isTable && decide (respLimit r.port < used + 12 + data.length ∨ 65535 < data.length)
  let st := if big then stTooLarge else st
  let data := if big then [] else data
  (st, beBytes 8 (refBits x) ++ beBytes 1 st ++ [0] ++ beBytes 2 data.length ++ data)

def Dev.readItems (d : Dev) (r : Req) : Nat → List Ref → List (Nat × Bytes)
  | _, [] => []
  | used, x :: xs =>
    let y := d.readItem r used x
    y :: d.readItems r (used + y.2.length) xs

def Dev.doRead (d : Dev) (r : Req) (refs : List Ref) : Outcome :=
  let out := d.readItems r 0 refs
  let st := if out.all (fun x => x.1 == stOk) then stOk else stPartial
  { dev := d, resp := some { kind := kRead, req := r, status := st, late := false, count := r.count.toNat, payload := out.flatMap (·.2),
                             urgent := false } }

def Dev.doBulkRead (d : Dev) (r : Req) (x : Ref) (offset size : Nat) : Outcome :=
  let st := d.readStatus r kBulkRead x
  let st := if st = stOk ∧ ((x.indexed ∧ x.elements ≠ 1) ∨ size = 0 ∨ 65536 < size) then stInvalid else st
  let payload := if st = stOk then ((d.readRef x).drop offset).take size else []
  { dev := d, resp := some { kind := kBulkRead, req := r, status := st, late := false, count := r.count.toNat, payload, urgent := false } }

/-! ### SUBSCRIBE (R434 to R436) -/

/-- Status of one record for a list. -/
def Dev.subStatus (d : Dev) (r : Req) (pair : Bool) (x : Nat) : Nat :=
  let slot := fld x 247 240
  let topic := fld x 239 232
  let dest := fld x 191 144
  let tgt := refOfBits (fld x 111 48)
  let subs := if pair then d.ch.subPair else d.ch.subOwn
  let old := d.reg (if pair then Obj.SUB_PAIR else Obj.SUB_OWN) slot
  let by_ := (smGet subs slot {}).src
  let listed := dest = d.reg Obj.MG_PAIR_ADDR ∨ (List.range 16).any (fun k => d.reg Obj.MG_GROUP_ADDR k == dest)
  if 1 < fld x 255 248 ∨ 15 < slot ∨ fld x 47 0 ≠ 0 then stInvalid
  else if fld x 255 248 = 1 then stOk
  else if 2 < topic ∨ (if topic = 0 then 7 < fld x 231 224 else fld x 231 224 ≠ 0) ∨
      fld x 223 208 = 0 ∨ 3600 < fld x 223 208 ∨
      (if topic = 1 then fld x 207 192 = 0 ∨ 10000 < fld x 207 192 else fld x 207 192 ≠ 0) ∨
      (if topic = 0 then 2048 ≤ fld x 143 112 else fld x 143 112 ≠ 0) ∨
      (isGroup dest ∧ ¬ listed) ∨ (topic = 0 ∧ fld x 111 48 ≠ 0) ∨ (topic = 2 ∧ (7 < fld x 55 48 ∨ fld x 111 56 ≠ 0)) then stInvalid
  else
    let st := if topic = 1 then match refObj tgt with
        | none => stNoObject
        | some o => if !accAllows o.mg .read then stNoAccess else if tgt.resv ≠ 0 ∨ !refForm o tgt then stInvalid else stOk
      else stOk
    if st ≠ stOk then st
    else if bitOf old 32 ∧ (fld old 47 40 ≠ portIdx r.port ∨ (by_ ≠ 0 ∧ by_ ≠ r.src)) then stConflict
    else stOk

/-- Records in order: statuses, and the state. Own entries apply at acceptance; pair entries at E, all together. -/
def Dev.subOwnAll (d : Dev) (r : Req) : List (BitVec 256) → List Nat × Dev
  | [] => ([], d)
  | x :: xs =>
    let st := d.subStatus r false x.toNat
    let d := if st = stOk then d.subApply false r.port r.src x.toNat else d
    let (out, d) := d.subOwnAll r xs
    (st :: out, d)

def Dev.doSubscribe (d : Dev) (r : Req) (p : Payload) (recs : List (BitVec 256)) : Outcome :=
  let answer := fun (sts : List Nat) => some
    { kind := kSubscribe, req := r, status := if sts.all (· == stOk) then stOk else stPartial, late := false, count := r.count.toNat
      payload := sts.flatMap (beBytes 1), urgent := false : Resp }
  if !d.stateAllows kSubscribe Obj.SUB_OWN then refuse d kSubscribe r stWrongState noFail false
  else if pairSent r then
    let sts := recs.map (fun x => d.subStatus r true x.toNat)
    let good := ((recs.zip sts).filter (fun x => x.2 == stOk)).map (·.1)
    let (e, _) := d.eOf r 0 [Obj.SUB_PAIR] true
    let (seq, d) := d.nextOrder
    let d := if good = [] then d else (d.sendSeal r p e).schedule seq e r.port (.subscribe r.port r.src good)
    { dev := d, resp := answer sts }
  else
    let (sts, d) := d.subOwnAll r recs
    { dev := d, resp := answer sts }

/-! ### BULK_WRITE (R431 to R433) -/

/-- The open transfer of a piece. -/
def Dev.bulkOf (d : Dev) (r : Req) (x : Ref) : Option Bulk :=
  d.ch.bulks.find? (fun b => decide (b.port = r.port) && b.src == keyMac r && decide (b.ref = x))

/-- A piece is staged (R431): a status, and the transfer that it leaves. -/
def Dev.stagePiece (d : Dev) (r : Req) (b : BulkPiece) : Nat × Option Bulk :=
  let off := b.offset.toNat
  match d.bulkOf r b.ref with
  | none =>
    if off ≠ 0 then (stSequence, none)
    else if 4 ≤ d.ch.bulks.length ∨ 67108864 < (d.ch.bulks.map (·.size)).sum + b.size.toNat then (stNoCapacity, none)
    else (stOk, some ⟨r.port, keyMac r, b.ref, b.size.toNat, b.data, 0, d.clock⟩)
  | some t =>
    if b.size.toNat ≠ t.size then (stSequence, none)
    else if off = t.staged.length then (stOk, some { t with staged := t.staged ++ b.data, lastOff := off, lastAt := d.clock })
    else if off = t.lastOff then (stOk, some { t with staged := t.staged.take off ++ b.data, lastAt := d.clock })
    else (stSequence, none)

/-- The open transfers with one replaced, or removed. -/
def Dev.setBulk (d : Dev) (r : Req) (x : Ref) (t : Option Bulk) : Dev :=
  let same := fun (b : Bulk) => decide (b.port = r.port) && b.src == keyMac r && decide (b.ref = x)
  let rest := d.ch.bulks.filter (fun b => !same b)
  d.modCh (fun c => { c with bulks := match t with
    | some t => if (c.bulks.any same) then c.bulks.map (fun b => if same b then t else b) else c.bulks ++ [t]
    | none => rest })

/-- Steps 6 to 8 of any piece: its object, its access, its fields, and R344. -/
def Dev.pieceCheck (d : Dev) (r : Req) (b : BulkPiece) : Nat :=
  match refObj b.ref with
  | none => stNoObject
  | some o =>
    let st := d.accessStatus r.port false kBulkWrite .write o
    if st ≠ stOk then st
    else if !refForm o b.ref || (b.ref.indexed && b.ref.elements != 1) || decide (1 < b.final.toNat) || !mtValid b.apply.toNat ||
        (b.apply != 0 && !o.shared) then stInvalid
    else if d.loneConflict r o.shared then stConflict
    else stOk

/-- The content of a transfer that its final piece completes; none where the length or the CRC is wrong. -/
def bulkContent (t : Bulk) (b : BulkPiece) : Option Bytes :=
  if t.staged.length = t.size ∧ crc32c t.staged = b.crc.toNat then some t.staged else none

def Dev.doBulkWrite (d : Dev) (r : Req) (p : Payload) (b : BulkPiece) : Outcome :=
  let st := d.pieceCheck r b
  if st ≠ stOk then refuse d kBulkWrite r st noFail false
  else match d.stagePiece r b with
    | (st, none) => refuse d kBulkWrite r st noFail false
    | (_, some t) =>
      if b.final = 0 then { dev := d.setBulk r b.ref (some t), resp := some (accepted kBulkWrite r 0 false false) }
      else
        let d := d.setBulk r b.ref none
        match bulkContent t b with
        | none => refuse d kBulkWrite r stInvalid noFail false
        | some content => d.doWrite r p kBulkWrite b.apply.toNat [⟨b.ref, content⟩]

/-- BULK_TRANSFER_EXPIRY: the transfer idle longest has been idle for 10 s, and is discarded. -/
def Dev.bulkExpiry (d : Dev) : Dev :=
  match d.ch.bulks with
  | [] => d
  | b :: bs =>
    let t := bs.foldl (fun t x => if x.lastAt < t.lastAt then x else t) b
    ((d.passTo (t.lastAt + 10000000000)).modCh (fun c => { c with bulks := c.bulks.erase t })).count Obj.CH_BULK_EXPIRED

/-! ### A request arrives -/

/-- What a payload asks, once its structure is checked. -/
def Dev.dispatch (d : Dev) (r : Req) (p : Payload) : Outcome :=
  match p with
  | .read refs => d.doRead r refs
  | .write a it => if it.ref.object.toNat = Obj.TAKE then d.writeTake r p a.toNat it else d.doWrite r p kWrite a.toNat [it]
  | .writeSet a its => d.doWrite r p kSet a.toNat its
  | .command a x arg => d.doCommand r p a.toNat x arg
  | .take recs => d.doTake r p recs false
  | .subscribe recs => d.doSubscribe r p recs
  | .bulkRead x o n => d.doBulkRead r x o.toNat n.toNat
  | .bulkWrite b => d.doBulkWrite r p b
  | .bad k _ => refuse d k.toNat r stMalformed noFail false

/-- A request whose reply is URGENT, refused or not (R389). -/
def urgentRequest (p : Payload) : Bool :=
  match p with
  | .take _ => true
  | .write _ it => it.ref.object.toNat == Obj.TAKE
  | .command _ x _ => urgentCommand x.object.toNat
  | _ => false

/-- Steps 2 to 8 of Table 12.6. `whole` is that the message itself is at hand; a row that stands for the last piece of a transfer
has its content alone. -/
def Dev.examine (d : Dev) (r : Req) (p : Payload) : Outcome :=
  let (st, k) := structureStatus r p
  if st ≠ stOk then refuse d (kindOf p) r st k (urgentRequest p)
  else (d.noteRefusedDebug r (kindOf p) (payloadRefs p)).dispatch r p

/-- The reply goes out, and what waits for it is put behind it. -/
def Dev.reply (o : Outcome) (port : Port) : Dev :=
  match o.resp with
  | none => o.dev
  | some resp =>
    let d := o.dev.answer resp
    let d := if resp.status ≠ stOk ∧ resp.status ≠ stPartial ∧ port = .cn then d.count Obj.CN_REFUSED else d
    if o.later = [] ∧ o.reset = none then d else d.defer port o.later o.reset

/-- A payload that asks for a shared write (R342); its first object decides. -/
def sharedWrite (p : Payload) : Bool :=
  match p with
  | .write _ it => objShared it.ref.object.toNat
  | .writeSet _ its => match its with | it :: _ => objShared it.ref.object.toNat | [] => false
  | .command _ x _ => objShared x.object.toNat
  | .take _ => true
  | .subscribe _ => true
  | .bulkWrite b => objShared b.ref.object.toNat && b.final == 1
  | _ => false

/-- A standby stages the pieces of a pair-addressed transfer, without a reply (R433). -/
def Dev.standbyPiece (d : Dev) (r : Req) (p : Payload) : Dev :=
  match p with
  | .bulkWrite b =>
    if (structureStatus r p).1 ≠ stOk ∨ d.pieceCheck r b ≠ stOk then d
    else match d.stagePiece r b with
      | (_, some t) => d.setBulk r b.ref (some t)
      | (_, none) => d
  | _ => d

end Sys2Proof.Machine
end

