-- ==== Sys2Proof/Machine/Seal.lean ====
section
/-! DEFINITION. Sealed writes at a standby, the copies that wait for their SEALs, object snapshots, and the join snapshot
(R342 to R345, R357, R365 to R367, R414, R433). -/

namespace Sys2Proof.Machine

/-! ### What a SEAL names -/

/-- The port of a SEAL's code. -/
def sealPortOf (c : Nat) : Option Port :=
  match c with
  | 0 => some .mgA
  | 1 => some .mgB
  | 2 => some .cn
  | _ => none

/-- A message is the one a SEAL names: port, source address, request ID and CRC (R343). -/
def SealX.names (s : SealX) (r : Req) (p : Payload) : Bool :=
  decide (s.port = r.port) && s.src == keyMac r && s.reqId == r.reqId && s.crc == crc32c (messageBytes r p)

/-- The message of a SEAL is at hand. -/
def SealX.whole (s : SealX) : Bool := s.fetched != [] && s.crc == crc32c s.fetched

/-- A join in which SEALs and copies are kept for the snapshot (Table 10.5, steps 1 to 4). -/
def Dev.joinWaits (d : Dev) : Bool :=
  d.twinState == twJoining && (decide (d.tw.join = .requested) || decide (d.tw.join = .acked) || decide (d.tw.join = .loading))

/-! ### Application of a sealed write (R343, R414, R433) -/

/-- The two checks of R414: the access of the write's own class, and the TW access. -/
def Dev.sealAllows (d : Dev) (r : Req) (p : Payload) : Bool :=
  let ok := fun (op : Op) (x : Ref) => match refObj x with
    | some o => d.accessStatus r.port true (kindOf p) op o == stOk
    | none => false
  match p with
  | .write _ it => ok .write it.ref
  | .writeSet _ its => its.all (fun it => ok .write it.ref)
  | .command _ x _ => ok .command x
  | .take _ => ok .write (refOf Obj.TAKE 0)
  | .bulkWrite b => ok .write b.ref
  | .subscribe _ => decide (r.port ≠ .cn)
  | _ => false

/-- What a sealed write does at its E. Take records take the acceptance time that the SEAL's E is 2 ms after. -/
def Dev.sealedAct (d : Dev) (r : Req) (p : Payload) (seq e : Nat) : Dev :=
  let wrs := fun (its : List Item) => its.flatMap (fun it => (itemWrs it).getD [])
  match p with
  | .write _ it =>
    if it.ref.object.toNat = Obj.TAKE then (d.takeRecords (e - usMt 2000) [BitVec.ofNat 128 (beNat it.value)]).2
    else d.schedule seq e r.port (.writes (wrs [it]))
  | .writeSet apply its => d.scheduleWrites seq e (mtDecode apply.toNat) r.port (wrs its)
  | .command _ x arg =>
    let num := x.object.toNat
    let apply := mtDecode (beNat arg)
    d.enactCommand seq e (argTimed num && apply != 0 && decide (apply < e)) r.port num x.index.toNat arg
  | .take recs => (d.takeRecords (e - usMt 2000) recs).2
  | .subscribe recs => d.schedule seq e r.port (.subscribe r.port r.src (recs.filter (fun x => d.subStatus r true x.toNat == stOk)))
  | .bulkWrite b =>
    match d.bulkOf r b.ref with
    | none => d
    | some t =>
      let d := d.setBulk r b.ref none
      match bulkContent t b with
      | some content => d.schedule seq e r.port (.writes (wrs [⟨b.ref, content⟩]))
      | none => d
  | _ => d

/-- A sealed write whose message is at hand. -/
def Dev.applySealed (d : Dev) (r : Req) (p : Payload) (seq e : Nat) : Dev :=
  if d.sealAllows r p then
    ((d.modCh (fun c => { c with order := max c.order seq })).sealedAct r p seq e).count Obj.CH_REQUESTS 4
  else d.count Obj.CH_REFUSED 4

/-- A SEAL has found its message: a joiner keeps both for its snapshot, a standby applies the write at E. -/
def Dev.sealMatched (d : Dev) (s : SealX) (r : Req) (p : Payload) : Dev :=
  if d.joinWaits then d.modTw (fun t => { t with seals := t.seals ++ [{ s with fetched := messageBytes r p }] })
  else if d.follows then d.applySealed r p s.seq s.e
  else d

/-- SEAL_RECEIVED: a match with a copy, or WRITE_FETCH. -/
def Dev.sealIn (d : Dev) (body : Nat) : Dev :=
  match sealPortOf (fld body 247 240) with
  | none => d
  | some port =>
    if d.acts then d
    else
      let s : SealX := { seq := fld body 127 96, port, src := BitVec.ofNat 48 (fld body 239 192),
                         reqId := BitVec.ofNat 32 (fld body 191 160), crc := fld body 159 128, e := mtDecode (fld body 95 0) }
      let d := d.modTw (fun t => { t with sealSeq := s.seq })
      match d.ch.copies.find? (fun c => !c.done && s.names c.req c.payload) with
      | some c =>
        (d.modCh (fun x => { x with copies := x.copies.map (fun y => if y = c then { y with done := true } else y) })).sealMatched s
          c.req c.payload
      | none =>
        if d.joinWaits || d.follows then (d.modTw (fun t => { t with seals := t.seals ++ [s] })).sendRec 0x08 (beBytes 4 s.seq) 1
        else d

/-- WRITE_FETCH_RECEIVED: the holder answers with the message that it sealed, in WRITE_COPY records of up to 245 bytes of it. -/
def Dev.writeFetch (d : Dev) (seq : Nat) : Dev :=
  match d.tw.sealed.find? (fun x => x.1 == seq) with
  | none => d
  | some (_, msg) =>
    let parts := chunksOf 245 (msg.length / 245 + 1) msg
    (List.range parts.length).foldl (fun d k =>
      d.sendRec 0x09 (beBytes 4 seq ++ beBytes 2 k ++ beBytes 1 (boolNat (k + 1 == parts.length)) ++ parts.getD k []) 1) d

/-- WRITE_COPY_RECEIVED: parts in order; after the last one the message is applied, or kept by a joiner. -/
def Dev.writeCopy (d : Dev) (seq part : Nat) (last : Bool) (bytes : Bytes) : Dev :=
  match d.tw.seals.find? (fun s => s.seq == seq && !s.whole) with
  | none => d
  | some s =>
    if part ≠ s.parts then d
    else
      let s' := { s with fetched := s.fetched ++ bytes, parts := s.parts + 1 }
      let drop := d.modTw (fun t => { t with seals := t.seals.erase s })
      let keep := d.modTw (fun t => { t with seals := t.seals.map (fun y => if y = s then s' else y) })
      if !last then keep
      else if !s'.whole then drop
      else if d.joinWaits then keep
      else if d.follows then match parseMessage s.port s.src true none s'.fetched with
        | some (r, p) => drop.applySealed r p s.seq s.e
        | none => drop
      else drop

/-! ### Copies (R342, R343, R345) -/

/-- A pair-addressed shared write at a device that does not act: a SEAL waits for it, or it is kept. A repeat of one that a SEAL has
matched is not kept again. -/
def Dev.keepCopy (d : Dev) (r : Req) (p : Payload) : Dev :=
  match d.tw.seals.find? (fun s => !s.whole && s.names r p) with
  | some s => (d.modTw (fun t => { t with seals := t.seals.erase s })).sealMatched s r p
  | none =>
    let held := d.ch.copies.filter (fun c => !c.done || decide (d.clock < c.arrived + 2000000000))
    let again := held.any (fun c => c.done && decide (c.req.port = r.port) && keyMac c.req == keyMac r && c.req.reqId == r.reqId)
    d.modCh (fun x => { x with copies := if again then held else held ++ [{ req := r, payload := p, arrived := d.clock }] })

/-- A copy of a TAKE or of a HAMPER_FIRE. -/
def takeCopy (p : Payload) : Bool :=
  match p with
  | .take _ => true
  | .write _ it => it.ref.object.toNat == Obj.TAKE
  | .command _ x _ => x.object.toNat == Obj.HAMPER_FIRE
  | _ => false

/-- UNSEALED_COPY_TIMEOUT: the copy kept longest without a SEAL is discarded 2 ms after it came (R343); MIRROR_MISS reports a Canopy write, a TAKE or a
HAMPER_FIRE (R195, R271). A joiner keeps every copy (Table 10.5). -/
def Dev.copyTimeout (d : Dev) : Dev :=
  if d.joinWaits then d
  else match d.ch.copies.find? (fun c => !c.done) with
    | none => d
    | some c =>
      let d := (((d.passTo (c.arrived + 2000000)).modCh (fun x => { x with copies := x.copies.erase c })).count Obj.TWIN_UNSEALED)
      if c.req.port = .cn ∨ takeCopy c.payload then (d.event 0x0301 (refOf Obj.TWIN_UNSEALED 0)).pulse Flt.TWIN_MIRROR else d

/-! ### Object snapshots (R357) -/

/-- Shared objects that have a value to read. -/
def snapObj (o : ObjDesc) : Bool := o.shared && (accAllows o.mg .read || accAllows o.cn .read)

/-- The sequence that OBJ_DIGEST covers: each TABLE by its CRC-64. -/
def Dev.snapBytes (d : Dev) : Bytes :=
  (allObjs.filter snapObj).flatMap (fun o => (List.range (o.elems.getD 1)).flatMap (fun i =>
    if o.ty = .table then beBytes 8 (crc64 (d.readObj o.num i)) else d.readObj o.num i))

/-- OBJECT_SNAPSHOT: the snapshot of this multiple of 100 ms, or of the next one where this one has been taken. -/
def Dev.objectSnapshot (d : Dev) : Dev :=
  let d := d.passToMt (d.nextTick (msMt 100) (d.tw.snapAt / msMt 100))
  let digest := crc64 d.snapBytes
  let k := d.now / msMt 100
  (d.modTw (fun t => { t with
    prevSnapIndex := t.snapIndex, prevSnapDigest := t.snapDigest, prevSnapValid := t.snapValid
    snapIndex := k, snapDigest := digest, snapAt := k * msMt 100, snapValid := d.acts || d.follows })).setReg Obj.CONFIG_DIGEST 0 digest

/-! ### The join snapshot (R365, R366, R414) -/

/-- The shared objects as references and values, with the sources that takes have applied. -/
def Dev.snapItems (d : Dev) : List Item :=
  let objs := allObjs.filter (fun o => snapObj o || o.num == Obj.XP_SOURCE || o.num == Obj.CE_LAYER_SOURCE)
  objs.flatMap (fun o => (List.range (o.elems.getD 1)).map (fun i => ⟨refOf o.num i, d.readObj o.num i⟩))

/-- Baskets of output `p` already formed whose Media Time is `ts` or later: a raster output forms them up to 2 µs ahead. -/
def Dev.formedAfter (d : Dev) (p ts : Nat) : Nat :=
  match fmtOf (d.outFormat p) with
  | some f =>
    let x := d.out p
    if x.started ∧ f.ex ts < x.t ∧ d.reg Obj.OUT_TRANSPORT p ≠ 1 then ((x.t - f.ex ts) / (204 * d.outTw p f)).toNat else 0
  | none => 0

/-- The SEQ of the first Basket of output `p` at or after TS, which is now (R138, R366). -/
def Dev.seqAtTs (d : Dev) (p : Nat) : Nat := ((d.out p).seq + 256 - d.formedAfter p d.now % 256) % 256

/-- The run state of R366. -/
def Dev.runState (d : Dev) : List RunItem :=
  let pend := fun (kind target : Nat) (t : Option TakeX) => match t with
    | some t => if t.hamper.isNone then [RunItem.pending kind target t.src t.e t.late] else []
    | none => []
  d.outs.map (fun kv => .outSeq kv.1 (d.seqAtTs kv.1)) ++
  d.outs.flatMap (fun kv => kv.2.ancSeq.map (fun a => .ancSeq a.1 a.2)) ++
  d.ins.flatMap (fun kv => (kv.2.phases.take 1).map (fun x => .phase kv.1 x.1 x.2)) ++
  d.ins.filterMap (fun kv => kv.2.shown.map (fun f => .shown kv.1 f.no)) ++
  d.outs.flatMap (fun kv => pend 0 kv.1 kv.2.pend) ++
  d.engines.flatMap (fun kv => kv.2.takes.flatMap (fun t => pend 1 (8 * kv.1 + t.1) t.2)) ++
  d.hampers.filterMap (fun kv => kv.2.map (fun h => .hamper kv.1 h.e h.late h.left)) ++
  d.mix.opened.map (fun kv => .opened kv.1 (kv.2.getD 0)) ++
  d.mix.armed.map (fun kv => .armed kv.1 (kv.2.getD 0)) ++
  d.mix.armedE.toList.map .armedE ++
  (d.aps.filter (fun kv => !d.apMaster kv.1)).map (fun kv => .tdm kv.1 (d.apState kv.1) kv.2.k) ++
  d.canopies.map (fun kv => .canopy kv.1 (d.canopyState kv.1)) ++
  d.inserters.filterMap (fun kv => (kv.2.sel.orElse (fun _ => kv.2.cur)).map (fun f => .select kv.1 f)) ++
  d.legs.map (fun kv => .leg kv.1 (d.reg Obj.RF_LEG_STATE kv.1) kv.2.expect)

/-- JOIN_SNAPSHOT_TS: the holder captures the snapshot, and its SNAPSHOT records follow. -/
def Dev.joinCapture (d : Dev) : Dev :=
  if d.tw.serving.isNone || !d.acts then d
  else
    let b := Config.snapshotBytes d.snapItems d.runState
    let parts := chunksOf 248 (b.length / 248 + 1) b
    (List.range parts.length).foldl (fun d k => d.sendRec 0x12 (beBytes 4 k ++ parts.getD k []) 1) d

/-- An object that a join snapshot writes: TW access RW, or area 0x21 (R414), or the sources of the takes applied. -/
def snapWrites (o : ObjDesc) : Bool :=
  (o.shared && (o.tw == .rw || o.num / 65536 == 0x21)) || o.num == Obj.XP_SOURCE || o.num == Obj.CE_LAYER_SOURCE

/-- One pair subscription arrives with a snapshot: its lifetime runs anew. -/
def Dev.subLoad (d : Dev) (slot rec_ : Nat) : Dev :=
  (d.setReg Obj.SUB_PAIR slot rec_).modCh (fun c => { c with
    subPair := smSet c.subPair slot (if bitOf rec_ 32 then { endAt := d.clock + fld rec_ 223 208 * 1000000000 } else {}) {} })

/-- One element of a snapshot; a gain row replaces the row in force. -/
def Dev.snapPut (d : Dev) (w : Wr) : Dev :=
  if w.num = Obj.MIX_GAIN_ROW then
    { d with mix := { d.mix with gain := ((rowEntries w.idx w.val).getD []).foldl (fun m e => smSet m e.1 e.2 0) d.mix.gain } }
  else if w.num = Obj.SUB_PAIR then d.subLoad w.idx (beNat w.val)
  else d.applyWr d.tw.joinTs w

/-- One item of the run state. -/
def Dev.runPut (d : Dev) (x : RunItem) : Dev :=
  match x with
  | .outSeq p s => d.modOut p (fun o => { o with seq := (s + o.sinceTs) % 256, serving := true })
  | .ancSeq f s => d.modOut (d.reg Obj.TF_SOURCE f) (fun o => { o with ancSeq := smSet o.ancSeq f s 0 })
  | .phase p fseq phi => d.recordPhase p fseq phi
  | .shown p n => d.modInp p (fun y => { y with shown := match y.held.find? (fun f => f.no == n) with | some f => some f | none => y.shown })
  | .pending kind target src e late => d.setPend kind target (some { src, e, late, hamper := none })
  | .hamper h e late left =>
    let ws := (d.hamperEntries h).filter (fun w => left.contains (heKey w))
    let d := ws.foldl (fun d w => d.setPend (heKind w) (heTarget w) (some { src := heSource w, e, late, hamper := some h })) d
    let d := { d with hampers := smSet d.hampers h (some { e, late, left }) none }
    (d.setReg Obj.HAMPER_STATE h hsInProgress).setReg Obj.HAMPERS_IN_PROGRESS 0 d.hampers.length
  | .opened c g => { d with mix := { d.mix with opened := smSet d.mix.opened c (some g) none } }
  | .armed c g => { d with mix := { d.mix with armed := smSet d.mix.armed c (some g) none } }
  | .armedE e => { d with mix := { d.mix with armedE := some e } }
  | .tdm a st k => (d.setReg Obj.AP_STATE a st).modAp a (fun y => { y with k })
  | .canopy g st => if d.syncRuns g then d.setReg Obj.CANOPY_SYNC_STATE g (if st = cyHold then cyRunning else st) else d
  | .select c n => d.setInserter c { d.inserter c with cur := some n }
  | .leg l st expect => (d.setReg Obj.RF_LEG_STATE l st).setLeg l { d.leg l with expect }

/-- The kept writes whose E lies after TS, in SEAL_SEQ order (Table 10.5, step 4); SEALs whose message is still being fetched stay. -/
def Dev.keptSeals (d : Dev) : Dev :=
  let ready := (d.tw.seals.filter (fun s => s.whole && decide (d.tw.joinTs < s.e))).mergeSort (fun a b => decide (a.seq ≤ b.seq))
  let d := d.modTw (fun t => { t with seals := t.seals.filter (fun s => !s.whole && decide (t.joinTs < s.e)) })
  ready.foldl (fun d s => match parseMessage s.port s.src true none s.fetched with
    | some (r, p) => d.applySealed r p s.seq s.e
    | none => d) d

/-- The snapshot is whole: it is loaded, then the kept writes are applied, and the buffers fill. -/
def Dev.snapLoad (d : Dev) : Dev :=
  let ws := d.tw.snapItems.flatMap (fun it => match objDesc it.ref.object.toNat with
    | some o => if snapWrites o then (itemWrs it).getD [] else []
    | none => [])
  let run := d.tw.snapRun
  let d := (inPhases ws).foldl Dev.snapPut d
  let d := ws.foldl (fun d w => d.copyFollows (objKey w.num w.idx)) d
  let d := d.persist ((ws.filter Wr.persisted).map (fun w => objKey w.num w.idx))
  let d := run.foldl Dev.runPut d
  let d := d.modTw (fun t => { t with join := .filling, snapItems := [], snapRun := [], snapValid := false, prevSnapValid := false })
  d.keptSeals

/-- SNAPSHOT_RECEIVED: a part out of order is a gap (RESULT 1); the last part completes the snapshot. -/
def Dev.snapIn (d : Dev) (part : Nat) (x : SnapPart) : Dev :=
  if !d.heeds || !(decide (d.tw.join = .acked) || decide (d.tw.join = .loading)) then d
  else if part ≠ d.tw.nextPart then d.joinFail 1 true
  else
    let d := d.modTw (fun t => { t with
      join := .loading, nextPart := part + 1, snapItems := t.snapItems ++ x.items, snapRun := t.snapRun ++ x.run })
    if x.last then d.snapLoad else d

end Sys2Proof.Machine
end

