-- ==== Sys2Proof/Machine/Chawyn.lean ====
section
/-! DEFINITION. The ways in of a message: repeats and copies, management frames, the Canopy port; and what waits until a response
has left (R342, R344, R375, R401, R418, R422, R269 to R271). -/

namespace Sys2Proof.Machine

/-! ### A message -/

/-- The gates that lead to a port pass their clocks. -/
def Dev.portOpen (d : Dev) (p : Port) : Bool := (portGates p).all d.gateOn

/-- A request is examined, carried out or refused, and answered (R418 to R423). -/
def Dev.carryOut (d : Dev) (r : Req) (p : Payload) : Dev := Dev.reply (d.examine r p) r.port

/-- A pair-addressed message at a device that does not act: no reply; shared writes are kept, pieces staged (R342, R433). -/
def Dev.overhear (d : Dev) (r : Req) (p : Payload) : Dev :=
  if !d.heeds || (structureStatus r p).1 ≠ stOk then d
  else
    let d := d.standbyPiece r p
    if sharedWrite p then d.keepCopy r p else d

/-- A message with a header arrives at its port: step 1 of Table 12.6, pair addressing, repeats (R344, R418, R422). -/
def Dev.request (d : Dev) (r : Req) (p : Payload) : Dev :=
  if !d.portOpen r.port then d
  else if r.response ∨ kindOf p = kEvent then d.count Obj.CH_MALFORMED (portIdx r.port)
  else if pairSent r && !d.acts then d.overhear r p
  else match d.keptFor r with
    | some resp => (d.count Obj.CH_DUPLICATES (portIdx r.port)).send resp
    | none => d.carryOut r p

/-- A message as bytes; one too short for a header is discarded without reply. -/
def Dev.message (d : Dev) (port : Port) (src : BitVec 48) (toPair : Bool) (tag : Option (BitVec 16)) (b : Bytes) : Dev :=
  match parseMessage port src toPair tag b with
  | some (r, p) => d.request r p
  | none => if d.portOpen port then d.count Obj.CH_MALFORMED (portIdx port) else d

/-! ### What waits for a response (R375, Table 12.14, R495) -/

/-- Response `n` of a port has left: the settings and the reset that waited for it. -/
def Dev.respLeft (d : Dev) (p : Port) (n : Nat) : Dev :=
  let mine := fun (x : Deferred) => decide (x.port = p) && x.resp == n
  let due := d.ch.deferred.filter mine
  let d := d.modCh (fun c => { c with deferred := c.deferred.filter (fun x => !mine x) })
  let d := due.foldl (fun d x => if x.writes = [] then d else d.applyWrites d.now x.writes) d
  match due.findSome? (·.reset) with
  | some cause => d.selfReset cause
  | none => d

/-- The same for a management port, where a response left or was given up. -/
def Dev.mgLeft (m : Nat) (x : Option Nat × Dev) : Dev :=
  match x.1 with
  | some n => x.2.respLeft (if m = 0 then .mgA else .mgB) n
  | none => x.2

/-! ### Management frames -/

/-- The reply to a TRUNCATED frame whose header is intact (R401). -/
def Dev.answerCut (d : Dev) (port : Port) (src : BitVec 48) (toPair : Bool) (tag : Option (BitVec 16)) (b : Bytes) : Dev :=
  match parseMessage port src toPair tag b with
  | none => d
  | some (r, p) =>
    if r.response ∨ kindOf p = kEvent ∨ (pairSent r && !d.acts) then d
    else d.answer (refusal (kindOf p) r stMalformed noFail (urgentRequest p))

/-- MG_FRAME_RECEIVED. -/
def Dev.mgFrame (d : Dev) (m : Nat) (f : MgFrame) : Dev :=
  let port := if m = 0 then Port.mgA else .mgB
  let x := rxParts f.bytes
  match d.rxFrame m f with
  | (.nothing, d) => d
  | (.message toPair b, d) => d.message port x.sa toPair x.tag b
  | (.cut toPair b, d) => d.answerCut port x.sa toPair x.tag b

/-! ### The Canopy port (Table 7.5) -/

/-- A bad frame. -/
def Dev.cnBad (d : Dev) : Dev :=
  if !d.portOpen .cn then d
  else { d.count Obj.CN_FRAMES_BAD with cn := { d.cn with bad := (d.clock :: d.cn.bad).take 10 } }

/-- A frame's body where the frame is good: SYNC, LEN, FCRC, the line's idle time and stop bits. -/
def cnBody (f : CanopyFrame) : Option (Nat × Bytes) :=
  let b := f.bytes
  let len := beNat ((b.drop 3).take 2)
  if !f.idle ∨ f.gap ∨ f.stopError ∨ b.take 2 ≠ [0x55, 0xC3] ∨ b.length < 7 + len ∨ len < 16 ∨ 1024 < len then none
  else if crc16 ((b.drop 2).take (3 + len)) ≠ beNat ((b.drop (5 + len)).take 2) then none
  else some (beNat ((b.drop 2).take 1), (b.drop 5).take len)

/-- CANOPY_PORT_FRAME. -/
def Dev.cnFrame (d : Dev) (f : CanopyFrame) : Dev :=
  if !d.portOpen .cn then d
  else match cnBody f with
    | none => d.cnBad
    | some (addr, body) =>
      if addr ≠ 3 ∧ addr ≠ 1 + boolNat d.nv.sideB then d
      else ({ d.count Obj.CN_FRAMES_OK with cn := { d.cn with heardAt := d.clock } }).message .cn 0 (addr == 3) none body

/-- A frame of the Canopy port around a body (Table 7.5). -/
def cnFrameBytes (addr : Nat) (body : Bytes) : Bytes :=
  let b := beBytes 1 addr ++ beBytes 2 body.length ++ body
  [0x55, 0xC3] ++ b ++ beBytes 2 (crc16 b)

/-- CANOPY_REPLY: the reply goes out, from 50 µs after the request's last byte on, with the device's own ADDR (R270; PRESUMED, log 125). -/
def Dev.cnSend (d : Dev) : Dev :=
  match d.ch.cnReply with
  | none => d
  | some body =>
    let d := d.passTo (d.cn.heardAt + 50000)
    let d := { d with cn := { d.cn with sent := cnFrameBytes (1 + boolNat d.nv.sideB) body } }
    (d.modCh (fun c => { c with cnReply := none })).respLeft .cn 0

/-! ### The Day Pass gained -/

/-- Every copy that no SEAL has matched is carried out in its order of arrival, with the device's own acceptance time (R345). -/
def Dev.sealCopies (d : Dev) : Dev :=
  let copies := d.ch.copies.filter (fun c => !c.done)
  copies.foldl (fun d c => match d.keptFor c.req with
    | some _ => d
    | none => d.carryOut c.req c.payload) (d.modCh (fun x => { x with copies := [] }))

/-- DP_GRANT_RECEIVED. -/
def Dev.grantIn (d : Dev) (body : Nat) : Dev :=
  let (gained, d) := d.leaseGrant body
  if gained then d.sealCopies else d

/-! ### Rows that carry a message of one object -/

/-- A row's reference. -/
def argRef (num : Nat) (w : WArg) : Ref := ⟨BitVec.ofNat 24 num, w.resv, w.indexed, w.index, w.elements⟩

/-- The final piece of a transfer that is otherwise staged. -/
def lastPiece (apply : BitVec 96) (it : Item) : BulkPiece :=
  { apply, ref := it.ref, offset := 0, size := BitVec.ofNat 32 it.value.length, final := 1, resv := 0,
    crc := BitVec.ofNat 32 (crc32c it.value), data := [] }

/-- Steps 2 to 8 for that piece and its content; its data lies in the content, so LENGTH has nothing to be held against. -/
def Dev.examineLast (d : Dev) (r : Req) (b : BulkPiece) (it : Item) : Outcome :=
  if r.version ≠ 1 ∨ !kindListed r.port kBulkWrite then refuse d kBulkWrite r stUnsupported noFail false
  else if r.count ≠ 1 then refuse d kBulkWrite r stMalformed noFail false
  else match reservedHit r (.bulkWrite b) with
    | some _ => refuse d kBulkWrite r stInvalid noFail false
    | none =>
      let d := d.noteRefusedDebug r kBulkWrite [it.ref]
      let st := d.pieceCheck r b
      if st ≠ stOk then refuse d kBulkWrite r st noFail false
      else d.doWrite r (.bulkWrite b) kBulkWrite b.apply.toNat [it]

/-- A whole transfer arrives: a device that does not act keeps it for its SEAL (R433). -/
def Dev.transfer (d : Dev) (r : Req) (b : BulkPiece) (it : Item) : Dev :=
  if !d.portOpen r.port then d
  else if r.response then d.count Obj.CH_MALFORMED (portIdx r.port)
  else if pairSent r && !d.acts then
    if !d.heeds || !objShared it.ref.object.toNat then d
    else (d.setBulk r b.ref (some ⟨r.port, keyMac r, b.ref, it.value.length, it.value, 0, d.clock⟩)).keepCopy r (.bulkWrite b)
  else match d.keptFor r with
    | some resp => (d.count Obj.CH_DUPLICATES (portIdx r.port)).send resp
    | none => Dev.reply (d.examineLast r b it) r.port

/-- A write of one object: a WRITE message where it fits in one, else the final piece of a whole BULK_WRITE transfer. -/
def Dev.writeRow (d : Dev) (num : Nat) (r : Req) (w : WArg) : Dev :=
  let it : Item := ⟨argRef num w, w.value⟩
  if 38 + w.value.length ≤ reqLimit r.port then d.request r (.write w.apply it)
  else d.transfer r (lastPiece w.apply it) it

/-- A command of one object. -/
def Dev.commandRow (d : Dev) (num : Nat) (r : Req) (w : WArg) : Dev :=
  d.request r (.command w.apply (argRef num w) w.value)

end Sys2Proof.Machine
end

