-- ==== Sys2Proof/Machine/Bus.lean ====
section
/-! DEFINITION. The control bus: what a transaction does at each target, gates that hold one, arbitration (R505 to R516, R77,
R510, R523). -/

namespace Sys2Proof.Machine

def Dev.modBus (d : Dev) (f : BusX → BusX) : Dev := { d with bus := f d.bus }
def Dev.modDbg (d : Dev) (f : DbgX → DbgX) : Dev := { d with dbg := f d.dbg }

/-! ### The debug module's registers as they read (Tables 15.7, 15.8) -/

def Dev.selCore (d : Dev) : Nat := d.dbg.sel / 16 % 4
def Dev.selCmp (d : Dev) : Nat := d.dbg.sel % 16
def Dev.core (d : Dev) (c : Nat) : CoreX := d.dbg.cores.getD c {}
def Dev.setCore (d : Dev) (c : Nat) (x : CoreX) : Dev := d.modDbg (fun b => { b with cores := b.cores.set c x })
def CoreX.cmp (x : CoreX) (k : Nat) : Cmp := smGet x.cmps k {}

/-- A halt would be accepted (R524). -/
def Dev.haltAllowed (d : Dev) : Bool :=
  d.nv.lifecycle != 2 && (d.reg Obj.TWIN_MODE == 1 || d.twinState == twDetached || d.twinState == twSuspect ||
    d.twinState == twReferee || decide (d.life.phase = .fail))

/-- Bits 4n to 4n + 3 of a mask over the cores. -/
def Dev.coreMask (d : Dev) (p : CoreX → Bool) : Nat :=
  (List.range 4).foldl (fun n c => if p (d.core c) then n + 2 ^ c else n) 0

/-- Bytes of a pending response as the mailbox holds them. -/
def DbgX.rxBytes (x : DbgX) : Bytes := x.rx.getD []

/-- A register's value, for the indices that Table 15.7 names; a read of DM_MBX_RX also takes its bytes (`Dev.mbxTake`). -/
def Dev.dmRead (d : Dev) (reg : Nat) : Option Nat :=
  let b := d.dbg
  let x := d.core d.selCore
  let k := x.cmp d.selCmp
  match reg with
  | 0x00 => some 0x5D1A0001
  | 0x01 => some (min d.nv.lifecycle 3 * 2 ^ 30 + boolNat d.haltAllowed * 2 ^ 29 + boolNat d.session * 2 ^ 28 +
      d.coreMask (fun x => x.pending && x.cause == 1) * 16 + d.coreMask (·.halted))
  | 0x02 => some 0
  | 0x03 => some b.sel
  | 0x04 => some (k.addr % 2 ^ 32)
  | 0x05 => some (k.addr / 2 ^ 32)
  | 0x06 => some k.ctrl
  | 0x07 => some k.hits
  | 0x08 => some (x.pc % 2 ^ 32)
  | 0x09 => some (x.pc / 2 ^ 32)
  | 0x0A => some (if x.halted then x.causeCmp * 256 + x.cause else 0)
  | 0x10 => some (b.memAddr % 2 ^ 32)
  | 0x11 => some (b.memAddr / 2 ^ 32)
  | 0x12 => some b.memCtrl
  | 0x13 => some b.memData
  | 0x14 => some (boolNat b.overrun * 16 + b.memResp * 2 + boolNat b.memOp.isSome)
  | 0x20 => some 0
  | 0x21 => some (boolNat b.txBusy * 2 ^ 25 + boolNat b.rx.isSome * 2 ^ 24 + b.rxBytes.length % 2 ^ 17)
  | 0x22 => some 0
  | 0x23 => some (beNat (fitBytes 4 ((b.rxBytes.drop b.rxPos).take 4)))
  | _ => none

/-- The next 4 response bytes are taken; when the last have been, the response has left. -/
def Dev.mbxTake (d : Dev) : Dev :=
  match d.dbg.rx with
  | none => d
  | some b =>
    let d := d.modDbg (fun x => { x with rxPos := x.rxPos + 4 })
    if b.length ≤ d.dbg.rxPos then d.respLeft .db 0 else d

/-! ### Unit windows 60 to 62, as 32-bit words (Tables 2.9, 2.10, 13.17, 15.7) -/

/-- GATE_PENDING: the gate with a waiting request; 255 none. DESIGN CHOICE (log 18): of several it names the one of the lowest ID. -/
def Dev.gatePending (d : Dev) : Nat := match d.clk.waiting with | kv :: _ => kv.1 | [] => 255

def Dev.gateWord (d : Dev) (off : Nat) : Option Nat :=
  let g := (off - 256) / 4
  if off = 0 then some 37
  else if off = 4 then some d.gatePending
  else if 256 ≤ off ∧ g < 37 then
    some (gateParent g * 256 + smGet d.clk.result g 0 * 16 + boolNat (d.gateState g == gsWaiting) * 4 + boolNat (d.gateOn g) * 2 +
      d.reg Obj.GATE_EN g)
  else none

def Dev.collectorWord (d : Dev) (off : Nat) : Option Nat :=
  let g := (off - 256) / 64
  let r := off % 64
  if off = 0 then some d.fltSummary
  else if off < 256 ∨ 9 ≤ g then none
  else match r with
    | 0x00 => some (d.fltLiveWord g)
    | 0x04 => some (d.reg Obj.FLT_LATCHED g)
    | 0x08 => some (d.reg Obj.FLT_FORCE g)
    | 0x0C => some (d.reg Obj.FLT_ENABLE g)
    | 0x10 => some (d.reg Obj.FLT_ACK g &&& d.reg Obj.FLT_LATCHED g)
    | 0x14 => some (d.reg Obj.FLT_ESC_TIME g)
    | 0x18 => some (d.escLeft g)
    | 0x1C => some (d.reg Obj.FLT_ESCALATED g)
    | r =>
      if r < 0x30 ∧ r % 4 = 0 then
        some ((List.range 8).foldl (fun n j => n + d.reg Obj.FLT_SEVERITY (32 * g + 8 * ((r - 0x20) / 4) + j) * 16 ^ j) 0)
      else none

/-- A word of a documented window; none where its table defines none. -/
def Dev.winWord (d : Dev) (n off : Nat) : Option Nat :=
  match n with
  | 60 => d.gateWord off
  | 61 => d.collectorWord off
  | _ => if off < 1024 then d.dmRead (off / 4) else none

/-- A request on a gate through its register: RESULT shows how it ended. -/
def Dev.gateByBus (d : Dev) (g master : Nat) (on : Bool) : Dev :=
  let st := if on then d.gateOpenStatus g else d.gateCloseStatus g (if master = 4 then portGates .db else [])
  if st ≠ stOk then d.gateNote g st
  else
    let d := if g = 34 then d else d.persist [objKey Obj.GATE_EN g]
    if on then d.flashGate g else d.gateClose g

/-- A collector object written through the window: a value that the object's rule refuses changes nothing. -/
def Dev.collectorPut (d : Dev) (num g bytes v : Nat) : Dev :=
  match objDesc num with
  | some o => if rangeOk o (beBytes bytes v) && d.faultRule num g v == stOk then d.applyWrites d.now [⟨num, g, beBytes bytes v⟩] else d
  | none => d

/-- A word written to a window; `seen` are the strobed bits. Bytes without a strobe stay as they are, or clear nothing. -/
def Dev.winWrite (d : Dev) (master n off seen v : Nat) : Dev :=
  let old := (d.winWord n off).getD 0
  let merged := (v &&& seen) ||| (old &&& (0xFFFFFFFF - seen))
  let g := (off - 256) / (if n = 60 then 4 else 64)
  if n = 60 then (if 256 ≤ off ∧ seen % 2 = 1 then d.gateByBus g master (v % 2 == 1) else d)
  else if off < 256 then d
  else match off % 64 with
    | 0x04 => d.collectorPut Obj.FLT_LATCHED g 4 (v &&& seen)
    | 0x08 => d.collectorPut Obj.FLT_FORCE g 4 merged
    | 0x0C => d.collectorPut Obj.FLT_ENABLE g 4 merged
    | 0x10 => d.collectorPut Obj.FLT_ACK g 4 (v &&& seen)
    | 0x14 => d.collectorPut Obj.FLT_ESC_TIME g 4 merged
    | r =>
      if r < 0x20 then d
      else (List.range 8).foldl (fun d j =>
        let s := 32 * g + 8 * ((r - 0x20) / 4) + j
        let x := merged / 16 ^ j % 8
        if d.reg Obj.FLT_SEVERITY s = x then d else d.collectorPut Obj.FLT_SEVERITY s 1 x) d

/-! ### Memories on the bus -/

/-- The byte of control RAM at an address. -/
def Dev.ramAt (d : Dev) (a : Nat) : Byte := (smGet d.bus.ram a none).getD (Config.ramByte a)

/-- A byte of the flash where its place is laid out (Table 14.2): the boot pointer log, the calibration set, the slots' manifests and
images, the Trail Log, the store and gain logs. DEDUCED (log 129): a ring stands by sequence number, a log from the start of its area. -/
def Dev.flashLaid (d : Dev) (off : Nat) : Option Byte :=
  let image := fun (k base : Nat) =>
    let x := d.slot k
    let o := off - base
    if o < 131072 then x.manifest[o]? else (smGet x.pieces ((o - 131072) / 4096) [])[(o - 131072) % 4096]?
  if off < 0x10000 then (d.nv.boot.find? (fun b => (b.seq + 1023) % 1024 == off / 64)).bind (fun b => (bootBytes b)[off % 64]?)
  else if 0x1100000 ≤ off ∧ off < 0x1300000 then
    (d.nv.trail.reverse.find? (fun e => e.seq % 65536 == (off - 0x1100000) / 32)).bind (fun e => (trailBytes e)[off % 32]?)
  else if 0x1400000 ≤ off ∧ off < 0x1C00000 then logByte (d.storeLog 0) (off - 0x1400000)
  else if 0x1C00000 ≤ off ∧ off < 0x2400000 then logByte (d.storeLog 1) (off - 0x1C00000)
  else if 0x2400000 ≤ off then logByte d.nv.gainLog (off - 0x2400000)
  else if 0x20000 ≤ off ∧ off < 0x30000 then d.nv.calibration[off - 0x20000]?
  else if 0x100000 ≤ off ∧ off < 0x900000 then image 0 0x100000
  else if 0x900000 ≤ off ∧ off < 0x1100000 then image 1 0x900000
  else none

/-- `n` bytes of the flash from `off`: a byte whose place the spec leaves open is an open value. -/
def Dev.flashRead : Nat → Nat → Dev → Bytes × Dev
  | 0, _, d => ([], d)
  | n + 1, off, d =>
    let (b, d) := match d.flashLaid off with
      | some b => (b, d)
      | none => let (v, d) := d.draw 256; (BitVec.ofNat 8 v, d)
    let (r, d) := Dev.flashRead n (off + 1) d
    (b :: r, d)

/-- A byte of the gain matrix (R511). -/
def Dev.gainByte (d : Dev) (off : Nat) : Byte := BitVec.ofNat 8 (smGet d.mix.gain (off / 2) 0 / 256 ^ (off % 2))

/-! ### A transaction (R507 to R513) -/

def busLen (t : BusTxn) : Nat := t.size * t.beats
def busAt (t : BusTxn) : Nat := t.addr.toNat

/-- The rules of R507. -/
def busFormed (t : BusTxn) : Bool :=
  t.size ∈ [1, 2, 4, 8, 16] && decide (1 ≤ t.beats) && decide (t.beats ≤ 16) && (t.size == 16 || t.beats == 1) &&
  (busAt t) % t.size == 0 && decide ((busAt t) % 256 + (busLen t) ≤ 256) &&
  (!t.write || (decide (t.data.length = (busLen t)) && decide (t.strobe.length = (busLen t))))

/-- The 32-bit words of a window that a transaction reaches, and the first byte's place in the first. -/
def busWords (t : BusTxn) : List Nat :=
  let o := (busAt t) % 0x1000000
  let w0 := o / 4 * 4
  (List.range ((o - w0 + (busLen t) + 3) / 4)).map (fun k => w0 + 4 * k)

/-- Runs of strobed bytes: place in the transaction and bytes. -/
def strobeRuns : Nat → List (Byte × Bool) → List (Nat × Bytes)
  | _, [] => []
  | k, (b, true) :: r => match strobeRuns (k + 1) r with
    | (j, bs) :: rest => if j = k + 1 then (k, b :: bs) :: rest else (k, [b]) :: (j, bs) :: rest
    | [] => [(k, [b])]
  | k, (_, false) :: r => strobeRuns (k + 1) r

def busZeros (t : BusTxn) : Bytes := if t.write then [] else List.replicate (busLen t) 0

/-- The response of a transaction that ends otherwise than OK: a read returns zero (R513). -/
def Dev.busFail (d : Dev) (t : BusTxn) (resp : Nat) : Dev := d.busAnswer t.master.val resp (busZeros t)
def Dev.busOk (d : Dev) (t : BusTxn) (data : Bytes) : Dev := d.busAnswer t.master.val 0 data

/-- Frame memory: class 4, or 5 for RMB (Table 15.1, R516). A write that meets a poisoned unit ends in DATA and changes nothing, in no
part (R513). -/
def Dev.busFm (d : Dev) (t : BusTxn) : Dev :=
  let off := (busAt t) - 0x1000000000
  let q : FmReq := { cls := if t.master.val = 7 then 5 else 4, inst := t.master.val, write := t.write, offset := BitVec.ofNat 36 off,
                     len := (busLen t), data := [], ecc := .clean, odecc := 0 }
  let run (d : Dev) : Dev := d.fmRun (freeClocks 400)
  if !t.write then run (d.fmRequest q)
  else match strobeRuns 0 (t.data.zip t.strobe) with
    | [] => d.busOk t []
    | runs =>
      let req := fun (x : Nat × Bytes) =>
        { q with offset := BitVec.ofNat 36 (off + x.1), len := x.2.length, data := x.2 }
      match runs.find? (fun x => (fmUnits (req x)).any (fun u => !(fmCovers (req x) u) && d.fmPoisoned u)) with
      | some x => run (d.fmRequest (req x))
      | none => run (runs.foldl (fun d x => d.fmRequest (req x)) d)

/-- A documented window (R510, R523, R260). -/
def Dev.busWindow (d : Dev) (t : BusTxn) (n : Nat) : Dev :=
  if n = 59 then
    if t.write then d.busFail t 2
    else
      let (v, d) := d.draw (256 ^ (busLen t))
      d.busOk t (leBytes (busLen t) v)
  else if n = 62 ∧ t.write then d.busFail t 2
  else if (busWords t).any (fun o => (d.winWord n o).isNone) then d.busFail t 1
  else
    let skip := (busAt t) % 4
    if t.write then
      let pad := List.replicate skip ((0 : Byte), false) ++ t.data.zip t.strobe
      let d := (busWords t).foldl (fun d o =>
        let part := (pad.drop (o - (busWords t).headD 0)).take 4
        d.winWrite t.master.val n o (leNat (part.map (fun x => if x.2 then 255 else 0))) (leNat (part.map (·.1)))) d
      d.busOk t []
    else
      let bytes := (busWords t).flatMap (fun o => leBytes 4 ((d.winWord n o).getD 0))
      let d := d.busOk t ((bytes.drop skip).take (busLen t))
      if n = 62 ∧ (busWords t).contains 0x8C then d.mbxTake else d

/-- A transaction at its target; none at a window that the spec leaves undocumented. -/
def Dev.busDo (d : Dev) (t : BusTxn) : Option Dev :=
  let a := (busAt t)
  if !(busFormed t) then some (d.busFail t 1)
  else match d.busTarget a with
    | none => some (d.busFail t 1)
    | some k =>
      let g := d.gateOfAddr a
      if g ≠ 0 ∧ !d.gateOn g then some (d.busFail t 2)
      else if k = 0 then
        some (if t.write then d.busFail t 2 else d.busOk t ((List.range (busLen t)).map (fun i => Config.romByte (a + i))))
      else if k = 1 ∨ k = 2 then
        some (if t.write then
            (d.modBus (fun b => { b with ram := ((List.range (busLen t)).zip (t.data.zip t.strobe)).foldl (fun m x =>
              if x.2.2 then smSet m (a + x.1) (some x.2.1) none else m) b.ram })).busOk t []
          else match t.cram with
            | .clean => d.busOk t ((List.range (busLen t)).map (fun i => d.ramAt (a + i)))
            | .corrected => (d.pulse Flt.CRAM_CE).busOk t ((List.range (busLen t)).map (fun i => d.ramAt (a + i)))
            | .uncorrectable => (d.setLine Flt.CRAM_ECC true).busFail t 3)
      else if k = 3 then
        if t.write then some (d.busFail t 2)
        else if d.nv.density < a - 0x20000000 + (busLen t) then some (d.busFail t 1)
        else
          let (b, d) := Dev.flashRead (busLen t) (a - 0x20000000) d
          some (d.busOk t b)
      else if k ≤ 7 then
        let n := unitWindow a
        if n < 59 ∨ n = 63 then none else some (d.busWindow t n)
      else if k ≤ 9 then
        some (if t.write then d.busFail t 2 else d.busOk t ((List.range (busLen t)).map (fun i => d.gainByte (a - 0x80000000 + i))))
      else some (d.busFm t)

/-- One more transaction of a master is outstanding (R506). -/
def Dev.outstanding (d : Dev) (m : Nat) : Dev :=
  let n := min 16 (smGet d.bus.open_ m 0 + 1 + (d.bus.held.filter (fun t => t.master.val == m)).length)
  if d.reg Obj.BUS_OUTSTANDING_MAX m < n then d.setReg Obj.BUS_OUTSTANDING_MAX m n else d

/-- BUS_TRANSACTION: a gate with a waiting close holds it (R77). -/
def Dev.busTransact (d : Dev) (t : BusTxn) : Option Dev :=
  let d := d.outstanding t.master.val
  if (busFormed t) ∧ d.gateHolds (busAt t) then some (d.modBus (fun b => { b with held := b.held ++ [t] }))
  else d.busDo t

/-! ### The end of a waiting close (R77) -/

/-- The transactions that a gate holds, and the state without them. -/
def Dev.takeHeld (d : Dev) (g : Nat) : List BusTxn × Dev :=
  (d.bus.held.filter (fun t => gateAbove g (d.gateBehind (busAt t))),
   d.modBus (fun b => { b with held := b.held.filter (fun t => !gateAbove g (d.gateBehind (busAt t))) }))

/-- A waiting request has ended with a status. -/
def Dev.gateEnded (d : Dev) (g st : Nat) : Dev :=
  ((d.modClk (fun x => { x with waiting := smSet x.waiting g 0 0 })).gateNote g st).gateReply g st

/-- The debug module's access that the gate held ends with an error response. -/
def Dev.memHeldFail (d : Dev) (g : Nat) : Dev :=
  match d.dbg.memOp with
  | some o =>
    if o.held && gateAbove g (d.gateBehind o.addr) then
      ((d.outstanding 4).busAnswer 4 2 []).modDbg (fun b => { b with
        memOp := none, memResp := 2, memData := if o.write then b.memData else 0
        memAddr := if bitOf b.memCtrl 27 then (b.memAddr + o.size) % 2 ^ 40 else b.memAddr })
    else d
  | none => d

/-- The debug module's access that the gate held proceeds. -/
def Dev.memHeldGo (d : Dev) (g : Nat) : Dev :=
  match d.dbg.memOp with
  | some o =>
    if o.held && gateAbove g (d.gateBehind o.addr) then d.modDbg (fun b => { b with memOp := some { o with held := false } }) else d
  | none => d

/-- GATE_CLOSE_COMPLETE: no access is in flight any more; the gate closes, and the accesses it held end with an error response. -/
def Dev.gateCloseDone (d : Dev) (g : Nat) : Dev :=
  if !d.gateWaits g || d.gateBusy g then d
  else
    let (ts, d) := d.takeHeld g
    let d := (d.gateSet g false).gateEnded g stOk
    let d := if g = 34 then d else d.persist [objKey Obj.GATE_EN g]
    ts.foldl (fun d t => d.busFail t 2) (d.memHeldFail g)

/-- GATE_CLOSE_TIMEOUT: 100 µs have passed: BUSY; the gate stays open and the accesses it held proceed. -/
def Dev.gateCloseLate (d : Dev) (g : Nat) : Dev :=
  if !d.gateWaits g then d
  else
    let (ts, d) := (d.passTo (smGet d.clk.waiting g 0)).takeHeld g
    let d := (d.gateSet g true).gateEnded g stBusy
    let d := if g = 34 then d else d.persist [objKey Obj.GATE_EN g]
    ts.foldl (fun d t => (d.busDo t).getD d) (d.memHeldGo g)

/-! ### Arbitration (R515) -/

/-- A waiting transaction is its master's oldest at the port: it competes. -/
def competing : List BusWait → List BusWait
  | [] => []
  | w :: r => w :: (competing r).filter (fun x => x.master != w.master)

/-- The effective QoS. -/
def BusWait.effective (w : BusWait) : Nat := min 15 (w.qos + w.passed / 64)

/-- How far a master lies after the one granted last (`last` is its index plus one). -/
def afterLast (last m : Nat) : Nat := (m + 9 - last % 9) % 9

/-- The transaction that a port grants. -/
def busWinner (last : Nat) (ws : List BusWait) : Option BusWait :=
  (competing ws).foldl (fun best w => match best with
    | none => some w
    | some b =>
      if b.effective < w.effective ∨ (b.effective = w.effective ∧ afterLast last w.master < afterLast last b.master) then some w
      else some b) none

/-- A master's transaction at address `a` begins to compete at the port of its target, in the order of issue; it is held at the master
while 16 of its own are outstanding (R506), or while a waiting gate holds it (R77). -/
def Dev.busWaits (d : Dev) (m a : Nat) : Dev :=
  match d.busTarget a with
  | none => d
  | some t =>
    if 16 ≤ smGet d.bus.open_ m 0 ∨ d.gateHolds a then d.modBus (fun b => { b with parked := b.parked ++ [(m, a)] })
    else (d.outstanding m).modBus (fun b => { b with
      open_ := smSet b.open_ m (smGet b.open_ m 0 + 1) 0
      waiting := smSet b.waiting t (smGet b.waiting t [] ++ [⟨m, d.reg Obj.BUS_QOS m, 0, d.gateBehind a⟩]) [] })

/-- Transactions held at their masters begin to compete where nothing holds them any more. -/
def Dev.busUnpark (d : Dev) : Dev :=
  d.bus.parked.foldl (fun d x => d.busWaits x.1 x.2) (d.modBus (fun b => { b with parked := [] }))

/-- What waits after a grant: the others that competed have been passed once more, and the winner's next one begins to compete. -/
def Dev.afterGrant (d : Dev) (w : BusWait) (ws : List BusWait) : List BusWait :=
  let comp := competing ws
  let rest := (ws.erase w).map (fun x => if x.master != w.master && comp.contains x then { x with passed := x.passed + 1 } else x)
  match rest.find? (fun x => x.master == w.master) with
  | none => rest
  | some x => rest.replace x { x with qos := d.reg Obj.BUS_QOS w.master, passed := 0 }

/-- BUS_GRANT: new transactions begin to compete, then the port grants one. -/
def Dev.busGrant (d : Dev) (t : Nat) (newly : List (Nat × Nat)) : Dev :=
  let d := newly.foldl (fun d x => if d.busTarget x.2 = some t then d.busWaits x.1 x.2 else d) d.busUnpark
  let ws := smGet d.bus.waiting t []
  match busWinner (smGet d.bus.last t 0) ws with
  | none => d
  | some w =>
    let d := if w.qos < w.effective then d.count Obj.BUS_AGED t else d
    let d := d.countWrap Obj.BUS_GRANTS t 1
    (d.modBus fun b => { b with
      waiting := smSet b.waiting t (d.afterGrant w ws) [], last := smSet b.last t (w.master + 1) 0
      open_ := smSet b.open_ w.master (smGet b.open_ w.master 0 - 1) 0 }).busUnpark

end Sys2Proof.Machine
end

