-- ==== Sys2Proof/Machine/Debug.lean ====
section
/-! DEFINITION. The TAP and the debug module: instructions, register operations, halting, comparators, memory access, mailbox
(R517 to R530). A core's program is not modelled: where it stands comes with the command. -/

namespace Sys2Proof.Machine

/-! ### TAP instructions (R517 to R521) -/

/-- RESET_N is low: the device is held in a reset that it did not make itself. -/
def Dev.resetLow (d : Dev) : Bool := d.life.held && decide (d.life.resetCause < 2)

/-- EXTEST, CLAMP and HIGHZ take effect (R520). -/
def Dev.ballsFree (d : Dev) : Bool :=
  d.resetLow || decide (d.life.phase = .layBy) || decide (d.life.phase = .fail) || decide (d.life.phase = .lockout)

/-- An instruction is loaded. -/
def Dev.tapLoad (d : Dev) (i : TapInstr) : Dev := d.modDbg (fun b => { b with tap := i })

/-- EXTEST, CLAMP or HIGHZ is loaded, or replaced by BYPASS. -/
def Dev.tapDrive (d : Dev) (i : TapInstr) : Dev :=
  if d.ballsFree then d.modDbg (fun b => { b with tap := i, replaced := false })
  else d.modDbg (fun b => { b with tap := .bypass, replaced := true })

/-- SAMPLE/PRELOAD: the boundary register takes what is shifted in. -/
def Dev.tapPreload (d : Dev) (cells : List Bool) : Dev := d.modDbg (fun b => { b with tap := .sample, boundary := cells })

/-- The instruction of a code (Table 15.6); any other code acts as BYPASS (R518). -/
def tapOf (code : Nat) : TapInstr :=
  match code with
  | 0x00 => .extest
  | 0x01 => .sample
  | 0x02 => .idcode
  | 0x03 => .clamp
  | 0x04 => .highz
  | 0x10 => .dbgAccess
  | _ => .bypass

/-- What the instruction register loads in Capture-IR (R518). -/
def Dev.captureIr (d : Dev) : Nat := 1 + boolNat d.dbg.replaced * 4 + boolNat (!d.gateOn 34) * 8

/-- The device identification (R519). -/
def Dev.idWord (d : Dev) : Nat := d.nv.stepping % 16 * 2 ^ 28 + 0x1024 * 2 ^ 12 + 0x51A * 2 + 1

/-- What the debug access register loads at Capture-DR: REG, WRITE, STATUS and DATA of the operation before (R522). -/
def Dev.captureDbg (d : Dev) : Nat :=
  d.dbg.resReg % 256 * 2 ^ 35 + boolNat d.dbg.resWrite * 2 ^ 34 + d.dbg.resStatus % 4 * 2 ^ 32 + d.dbg.resData % 2 ^ 32

/-! ### Register operations (R522, R523) -/

/-- STATUS of an operation. -/
def dsOk : Nat := 0
def dsRefused : Nat := 1
def dsGate : Nat := 2
def dsInvalid : Nat := 3

/-- An operation on a register, while DBG_ACCESS is loaded: its status decides whether it has its effect; the result is what the next
Capture-DR loads. `data` is what a read returns. -/
def Dev.dmOp (d : Dev) (reg : Nat) (write : Bool) (st data : Nat) (eff : Dev → Dev) : Dev :=
  if d.dbg.tap ≠ .dbgAccess then d
  else
    let st := if d.gateOn 34 then st else dsGate
    let d := if st = dsOk then eff d else d.count Obj.DBG_REFUSED
    d.modDbg (fun b => { b with
      resReg := reg, resWrite := write, resStatus := st, resData := if write || st != dsOk then 0 else data })

/-- FIELD denies everything but the mailbox and two reads (Table 15.9). -/
def Dev.fieldDenies (d : Dev) (reg : Nat) (write : Bool) : Bool :=
  d.nv.lifecycle == 2 && !(decide (0x20 ≤ reg) && decide (reg ≤ 0x23)) && (write || decide (1 < reg))

/-! ### Halt, step, resume (R524 to R526) -/

/-- Cores of a mask. -/
def maskCores (m : Nat) : List Nat := (List.range 4).filter (fun c => bitOf m c)

/-- Status of a DM_CTRL write. -/
def Dev.ctrlStatus (d : Dev) (halt resume step : Nat) : Nat :=
  if d.fieldDenies 2 true then dsRefused
  else if (halt &&& resume) ≠ 0 ∨ (halt &&& step) ≠ 0 ∨ (resume &&& step) ≠ 0 then dsInvalid
  else if halt ≠ 0 ∧ !d.haltAllowed then dsRefused
  else dsOk

/-- A core is asked to halt: it halts at its next instruction boundary. -/
def Dev.haltCore (d : Dev) (c : Nat) : Dev :=
  let x := d.core c
  if x.halted ∨ x.pending then d else d.setCore c { x with pending := true, cause := 1, causeCmp := 0 }

/-- A halted core runs again; a join that waited for it may begin (R525). -/
def Dev.resumeCore (d : Dev) (c : Nat) : Dev :=
  let x := d.core c
  if x.halted then (d.setCore c { x with halted := false, pending := false, pc := 0, cause := 0, causeCmp := 0 }).rejoin else d

/-- A halted core runs one instruction. -/
def Dev.stepCore (d : Dev) (c : Nat) : Dev :=
  let x := d.core c
  if x.halted then d.setCore c { x with halted := false, pending := true, pc := 0, cause := 2, causeCmp := 0 } else d

/-- DM_CTRL written. -/
def Dev.dmCtrl (d : Dev) (halt resume step : Nat) : Dev :=
  let st := d.ctrlStatus halt resume step
  let d := if d.dbg.tap = .dbgAccess ∧ d.gateOn 34 ∧ st = dsRefused ∧ halt ≠ 0 ∧ d.nv.lifecycle ≠ 2 then d.count Obj.DBG_HALT_REFUSED
    else d
  d.dmOp 0x02 true st 0 (fun d =>
    let d := (maskCores halt).foldl Dev.haltCore d
    let d := (maskCores step).foldl Dev.stepCore d
    (maskCores resume).foldl Dev.resumeCore d)

/-- DM_HALT_COMPLETE: a core that was asked to halt has reached an instruction boundary. -/
def Dev.haltDone (d : Dev) (c pc : Nat) : Dev :=
  let x := d.core c
  if x.pending then d.setCore c { x with halted := true, pending := false, pc } else d

/-! ### Comparators (R527) -/

/-- Status of a DM_CMP_CTRL value for the selected comparator. -/
def Dev.cmpStatus (d : Dev) (v : Nat) : Nat :=
  let k := d.selCmp
  let kind := fld v 30 29
  let size := fld v 28 24
  let addr := ((d.core d.selCore).cmp k).addr
  if d.fieldDenies 6 true then dsRefused
  else if 20 < size then dsInvalid
  else if bitOf v 31 && ((decide (k < 8) && (kind != 0 || size != 0)) || (decide (8 ≤ k) && (kind == 0 || addr % 2 ^ size != 0))) then
    dsInvalid
  else dsOk

/-- The selected comparator changes. -/
def Dev.modCmp (d : Dev) (f : Cmp → Cmp) : Dev :=
  let x := d.core d.selCore
  d.setCore d.selCore { x with cmps := smSet x.cmps d.selCmp (f (x.cmp d.selCmp)) {} }

/-- DM_CMP_CTRL written. -/
def Dev.dmCmpCtrl (d : Dev) (v : Nat) : Dev :=
  d.dmOp 0x06 true (d.cmpStatus v) 0 (fun d => d.modCmp (fun k => { k with ctrl := fld v 31 24 * 2 ^ 24 }))

/-- DM_CMP_HITS written: 0 clears. -/
def Dev.dmCmpHits (d : Dev) (v : Nat) : Dev :=
  d.dmOp 0x07 true (if d.fieldDenies 7 true then dsRefused else dsOk) 0 (fun d =>
    if v = 0 then d.modCmp (fun k => { k with hits := 0 }) else d)

/-- The order of causes at one instruction: BREAKPOINT, WATCHPOINT, STEP, REQUEST, then none. -/
def causeRank (c : Nat) : Nat :=
  match c with
  | 3 => 0
  | 4 => 1
  | 2 => 2
  | 1 => 3
  | _ => 4

/-- A comparator matches (R527): a breakpoint the fetch address of the next instruction, a watchpoint a data access in its range. -/
def Cmp.hit (y : Cmp) (k pc access : Nat) (write : Bool) : Bool :=
  let span := 2 ^ fld y.ctrl 28 24
  bitOf y.ctrl 31 &&
    (if k < 8 then y.addr == pc else y.addr / span == access / span && bitOf (fld y.ctrl 30 29) (if write then 1 else 0))

/-- DM_COMPARATOR_MATCH: an enabled comparator matches; the core halts where R524 would accept a halt. Among the causes at one
instruction the first is recorded, with the lowest comparator. -/
def Dev.cmpMatch (d : Dev) (c k pc access : Nat) (write : Bool) : Dev :=
  let x := d.core c
  let y := x.cmp k
  if !y.hit k pc access write then d
  else
    let x := { x with cmps := smSet x.cmps k { y with hits := min (y.hits + 1) 0xFFFFFFFF } {} }
    let cause := if k < 8 then 3 else 4
    let sameStop := x.pending || (x.halted && x.pc == pc)
    let wins := !sameStop || decide (causeRank cause < causeRank x.cause) || (cause == x.cause && decide (k < x.causeCmp))
    if !d.haltAllowed ∨ (x.halted ∧ !sameStop) then d.setCore c x
    else if wins then d.setCore c { x with halted := true, pending := false, pc, cause, causeCmp := k }
    else d.setCore c { x with halted := true, pending := false, pc }

/-! ### Memory access (R528) -/

/-- DM_MEM_CTRL's SIZE in bytes. -/
def memSize (ctrl : Nat) : Nat := 2 ^ fld ctrl 29 28

/-- An access is started, or ignored while one is in progress; a waiting gate holds it (R77). -/
def Dev.memStart (d : Dev) (write : Bool) : Dev :=
  if d.dbg.memOp.isSome then d.modDbg (fun b => { b with overrun := true })
  else (d.count Obj.DBG_MEM_ACCESSES).modDbg (fun b => { b with
    memOp := some { addr := b.memAddr, write, size := memSize b.memCtrl, data := b.memData, held := d.gateHolds b.memAddr } })

/-- Status of an access at DM_MEM_ADDR under a DM_MEM_CTRL value. -/
def Dev.memStatus (d : Dev) (ctrl : Nat) (start : Bool) : Nat :=
  if d.fieldDenies 0x12 true then dsRefused
  else if fld ctrl 29 28 = 3 then dsInvalid
  else if start ∧ d.dbg.memAddr % memSize ctrl ≠ 0 then dsInvalid
  else dsOk

/-- DM_MEM_CTRL written: its fields, and GO. While an access is in progress GO is ignored. -/
def Dev.dmMemCtrl (d : Dev) (v : Nat) : Dev :=
  let go := bitOf v 31
  d.dmOp 0x12 true (d.memStatus v go) 0 (fun d =>
    let d := if d.dbg.memOp.isSome then d else d.modDbg (fun b => { b with memCtrl := fld v 30 27 * 2 ^ 27 })
    if go then d.memStart (bitOf v 30) else d)

/-- A DR access of DM_MEM_DATA; with AUTO it starts the next access. -/
def Dev.dmMemData (d : Dev) (write : Bool) (v : Nat) : Dev :=
  let auto := bitOf d.dbg.memCtrl 27
  d.dmOp 0x13 write (d.memStatus d.dbg.memCtrl auto) d.dbg.memData (fun d =>
    let d := if write && d.dbg.memOp.isNone then d.modDbg (fun b => { b with memData := v }) else d
    if auto then d.memStart write else d)

/-- The bus transaction of an access. -/
def MemOp.txn (o : MemOp) (cram : EccOutcome) : BusTxn :=
  { master := 4, id := 0, write := o.write, addr := BitVec.ofNat 40 o.addr, size := o.size, beats := 1,
    data := leBytes o.size o.data, strobe := List.replicate o.size true, cram }

/-- DM_MEM_ACCESS_DONE: the access is carried out, unless a waiting gate holds it. The outcome at an undocumented window, or of a frame memory request that waits,
is the one that the command brings. -/
def Dev.memDone (d : Dev) (x : MemOutcome) : Dev :=
  match d.dbg.memOp with
  | none => d
  | some o =>
    if o.held then d else
    let (resp, data, d) := match ((d.outstanding 4).modBus (fun b => { b with resp := 255 })).busDo (o.txn x.cram) with
      | some d' => if d'.bus.resp = 255 then (x.resp.val, x.data, d') else (d'.bus.resp, d'.bus.data, d')
      | none => (x.resp.val, x.data, if x.resp.val = 0 then d else d.count Obj.BUS_ERRORS 4)
    let data := if resp = 0 then data.take o.size else []
    d.modDbg (fun b => { b with
      memOp := none, memResp := resp
      memData := if o.write then b.memData else leNat data
      memAddr := if bitOf b.memCtrl 27 then (b.memAddr + o.size) % 2 ^ 40 else b.memAddr })

/-- DM_MEM_STATUS written: 1 clears OVERRUN. -/
def Dev.dmOverrun (d : Dev) (v : Nat) : Dev :=
  d.dmOp 0x14 true (if d.fieldDenies 0x14 true then dsRefused else dsOk) 0 (fun d =>
    if bitOf v 4 then d.modDbg (fun b => { b with overrun := false }) else d)

/-! ### The mailbox (R529) -/

/-- DM_MBX_TX written: 4 request bytes. -/
def Dev.dmMbxTx (d : Dev) (v : Nat) : Dev :=
  d.dmOp 0x22 true dsOk 0 (fun d => d.modDbg (fun b => { b with tx := (b.tx ++ beBytes 4 v).take 2048 }))

/-- Status of a GO. -/
def Dev.mbxStatus (d : Dev) (len : Nat) : Nat :=
  if len < 16 ∨ 2047 < len ∨ d.dbg.txBusy ∨ d.dbg.rx.isSome ∨ d.dbg.tx.length < len then dsInvalid else dsOk

/-- The request is submitted; one that is discarded without reply leaves the mailbox free. -/
def Dev.mbxGo (d : Dev) (len : Nat) : Dev :=
  let msg := d.dbg.tx.take len
  let d := d.modDbg (fun b => { b with tx := [], txBusy := true })
  let silent := match parseMessage .db 0 false none msg with
    | some (r, p) => r.response || kindOf p == kEvent
    | none => true
  let d := d.message .db 0 false none msg
  if silent then d.modDbg (fun b => { b with txBusy := false }) else d

/-- RX_DONE: the response is released and both buffers empty; while a request has no response yet, the response is discarded when it
comes. -/
def Dev.mbxRelease (d : Dev) : Dev :=
  let d' := d.modDbg (fun b => { b with tx := [], rx := none, rxPos := 0, dropReply := b.txBusy })
  if d.dbg.rx.isSome then d'.respLeft .db 0 else d'

/-- DM_MBX_CTRL written. -/
def Dev.dmMbxCtrl (d : Dev) (v : Nat) : Dev :=
  let len := fld v 11 0
  let go := bitOf v 31
  d.dmOp 0x20 true (if go then d.mbxStatus len else dsOk) 0 (fun d =>
    let d := if bitOf v 30 then d.mbxRelease else d
    if go then d.mbxGo len else d)

/-- DM_MBX_RX read: the next 4 response bytes. -/
def Dev.dmMbxRx (d : Dev) : Dev := d.dmOp 0x23 false dsOk ((d.dmRead 0x23).getD 0) Dev.mbxTake

/-! ### Other registers -/

/-- A DBG_ACCESS write to a register; read-only ones keep their value. -/
def Dev.dmWrite (d : Dev) (reg v : Nat) : Dev :=
  let st := fun (bad : Bool) => if d.fieldDenies reg true then dsRefused else if bad then dsInvalid else dsOk
  match reg with
  | 0x02 => d.dmCtrl (fld v 3 0) (fld v 7 4) (fld v 11 8)
  | 0x03 => d.dmOp reg true (st (decide (11 < v % 16))) 0 (fun d => d.modDbg (fun b => { b with sel := v % 64 }))
  | 0x04 => d.dmOp reg true (st false) 0 (fun d => d.modCmp (fun k => { k with addr := k.addr / 2 ^ 32 * 2 ^ 32 + v }))
  | 0x05 => d.dmOp reg true (st false) 0 (fun d => d.modCmp (fun k => { k with addr := v % 256 * 2 ^ 32 + k.addr % 2 ^ 32 }))
  | 0x06 => d.dmCmpCtrl v
  | 0x07 => d.dmCmpHits v
  | 0x10 => d.dmOp reg true (st false) 0 (fun d => d.modDbg (fun b => { b with memAddr := b.memAddr / 2 ^ 32 * 2 ^ 32 + v }))
  | 0x11 => d.dmOp reg true (st false) 0 (fun d => d.modDbg (fun b => { b with memAddr := v % 256 * 2 ^ 32 + b.memAddr % 2 ^ 32 }))
  | 0x12 => d.dmMemCtrl v
  | 0x13 => d.dmMemData true v
  | 0x14 => d.dmOverrun v
  | 0x20 => d.dmMbxCtrl v
  | 0x22 => d.dmMbxTx v
  | _ => d.dmOp reg true (st (d.dmRead reg).isNone) 0 id

end Sys2Proof.Machine
end

