-- ==== Sys2Proof/Machine/React.lean ====
section
/-! DEFINITION. What follows a command at once, whatever it was: the fault lines that follow the state, the reactions that
the collector asked for, changes of scheme, and the notices of changed objects (R438, R442, R446 to R457). -/

namespace Sys2Proof.Machine

/-! ### Fault lines that follow the state (Tables 13.3 to 13.11) -/

/-- The first listed element of object `n` whose value satisfies `p`; only listed ones are looked at, so `p` must not hold of the
default. -/
def Dev.anyElem (d : Dev) (n : Nat) (p : Nat → Bool) : Option Nat :=
  (d.regs.find? (fun kv => kv.1 / 65536 == n && p kv.2)).map (fun kv => kv.1 % 65536)

/-- Lines of group 0. -/
def Dev.timingLines (d : Dev) : Dev :=
  let up := decide (d.life.phase ≠ .booting)
  let d := (List.range 5).foldl (fun d i =>
    d.setLine (Flt.REF_LOST + i) (up && d.refRank i != 0 && d.refState i != rfQualified)) d
  let d := d.setLine Flt.LOCAL_OSC d.ref.loscLost
  let d := d.setLine Flt.HOLDOVER (d.selMode == smHoldover)
  let d := d.setLine Flt.FREE_RUN (d.life.started && d.selMode == smFreeRun)
  let d := d.setLine Flt.REF_DISAGREE (d.ref.kept != [])
  let d := d.setLine Flt.MT_STEP (d.flag Obj.MT_STEP_PENDING)
  let d := d.setLine Flt.TOD_INVALID (decide (3 ≤ d.ref.todBad))
  d.setLine Flt.EDGE_ROOT_FALLBACK (d.ref.edgeRoot == .laneRef)

/-- A twin link has been out of ACTIVE for 1 ms after it was ACTIVE. -/
def Dev.twinDown (d : Dev) (l : Nat) : Bool :=
  match (d.lane l).leftActive with | some t => decide (t + 1000000 ≤ d.clock) | none => false

/-- Lines of groups 1 and 2 beside those of the slot groups. -/
def Dev.linkLines (d : Dev) : Dev :=
  let d := d.setLine Flt.LANE_REF_LOST (decide (d.life.phase ≠ .booting) && !d.laneRefOk)
  let d := d.setLine Flt.LANE_REF_STEP (decide (d.clock < d.ref.refStepEnd))
  let d := d.testLine
  let d := d.setLine Flt.TW0_DOWN (d.twinDown tw0) (some (.lane 272))
  let d := d.setLine Flt.TW1_DOWN (d.twinDown tw1) (some (.lane 273))
  let d := d.setLine Flt.TWIN_RESYNC d.tw.stuck
  let d := d.setLine Flt.TWIN_SUSPECT (d.twinState == twSuspect)
  d.setLine Flt.TWIN_JOIN_FAIL d.tw.joinFailed

/-- Lines of groups 3 and 4. -/
def Dev.videoLines (d : Dev) : Dev :=
  let d := d.setLine Flt.FS_CAPACITY (d.anyElem Obj.FS_STATE (· == 5)).isSome
  let d := d.setLine Flt.FS_LOSS (d.anyElem Obj.FS_STATE (fun v => v == 3 || v == 4)).isSome
  let on := d.trueOf Obj.RF_ENABLE
  let d := d.setLine Flt.RF_LEG_DOWN (on.any (fun f =>
    d.reg Obj.RF_LEG_STATE f == 0 && (match d.partner f with
      | some g => d.flag Obj.RF_ENABLE g && d.reg Obj.RF_LEG_STATE g == 1
      | none => false)))
  d.setLine Flt.RF_NO_PACKETS (on.any (fun f => d.reg Obj.RF_STATE f == 2))

/-- Lines of groups 5 and 6. -/
def Dev.mediaLines (d : Dev) : Dev :=
  let d := (List.range 16).foldl (fun d g =>
    let c := d.regs.find? (fun kv => kv.1 / 65536 == Obj.CI_STATE && kv.1 % 65536 / 8 == g && kv.2 == 6)
    d.setLine (Flt.CI_GROUP + g) c.isSome (c.map (fun kv => .inserter (Fin.ofNat 128 (kv.1 % 65536))))) d
  let d := (List.range 8).foldl (fun d k =>
    let c := d.regs.find? (fun kv => kv.1 / 65536 == Obj.CE_STATE && kv.1 % 65536 / 8 == k && kv.2 == 4)
    d.setLine (Flt.CE_GROUP + k) c.isSome (c.map (fun kv => .engine (Fin.ofNat 64 (kv.1 % 65536))))) d
  let d := d.setLine Flt.CANOPY_LOSS ((List.range 16).any (fun g => d.canopyState g == cyLost))
  let d := d.setLine Flt.CANOPY_MISMATCH (d.anyElem Obj.CI_STATE (· == 3)).isSome
  let d := d.setLine Flt.CE_BACKGROUND (d.anyElem Obj.CE_STATE (· == 2)).isSome
  let d := (List.range 16).foldl (fun d k =>
    let c := d.regs.find? (fun kv => kv.1 / 65536 == Obj.AP_STATE && kv.1 % 65536 / 2 == k && decide (5 ≤ kv.2))
    d.setLine (Flt.AP_PAIR + k) c.isSome (c.map (fun kv => .tdm (Fin.ofNat 32 (kv.1 % 65536))))) d
  let d := d.setLine Flt.CANOPY_PORT (decide (10 ≤ (d.cn.bad.filter (fun t => decide (d.clock < t + 1000000000))).length))
  d.setLine Flt.GAIN_ECC (d.mix.bad != [])

/-- Lines of groups 7 and 8. -/
def Dev.controlLines (d : Dev) : Dev :=
  let pcIn (p : Nat → Bool) : Option Channel := (d.anyElem Obj.FM_PC_STATE p).map (fun n => .pc (Fin.ofNat 64 n))
  let r := pcIn (fun v => v == pcRetiring || v == pcRetired)
  let g := pcIn (· == pcDegraded)
  let d := d.setLine Flt.FM_RETIRED r.isSome r
  let d := d.setLine Flt.FM_SECOND g.isSome g
  let d := d.setLine Flt.FM_SCRUB_LATE ((pcIn (fun v => v == pcActive || v == pcDegraded)).isSome && decide (d.fm.passAt + 86400000000000 < d.clock))
  d.setLine Flt.DEBUG_SESSION d.session

/-- Every line that follows the state. -/
def Dev.syncLines (d : Dev) : Dev := d.timingLines.linkLines.videoLines.mediaLines.controlLines

/-! ### Reactions -/

/-- Retire the channel that a source names, by its unit's rules (R447). -/
def Dev.retireChannel (d : Dev) (c : Channel) : Dev :=
  if d.isRetired c then d
  else match c with
    | .lane l => d.wantRetire l
    | .pc n => d.fmRetire n
    | .engine n => d.retireEngine n
    | .inserter n => d.retireInserter n
    | .tdm n => d.retireTdm n

/-- One reaction. -/
def Dev.carry (d : Dev) (r : Reaction) : Dev :=
  match r with
  | .retire c => d.retireChannel c
  | .dropPass => d.dropPass
  | .failStop => d.failStop
  | .lockout => d.lockOut
  | .reset cause => d.selfReset cause

/-- The reactions asked for, in order; what they ask for in turn, and the lines that then follow. -/
def Dev.settle : Nat → Dev → Dev
  | 0, d => d
  | fuel + 1, d =>
    let d := d.syncLines
    match d.flt.todo with
    | [] => d
    | rs => Dev.settle fuel (rs.foldl Dev.carry { d with flt := { d.flt with todo := [] } })

/-! ### Other consequences -/

/-- TW_0 left ACTIVE, or came back (R359, R368). -/
def Dev.followTw0 (old d : Dev) : Dev :=
  if old.laneState tw0 = lnActive ∧ d.laneState tw0 ≠ lnActive then d.tw0Lost
  else if old.laneState tw0 ≠ lnActive ∧ d.laneState tw0 = lnActive then d.rejoin
  else d

/-- Ports that a CAP withdrew leave service: TF_WITHDRAWN (R146). -/
def Dev.followCaps (old d : Dev) : Dev :=
  let ls := (d.lanes.filter (fun kv => decide (kv.2.farCaps ≠ (old.lane kv.1).farCaps))).map (·.1)
  let hit := ls.any (fun l => (d.portsOf l).any (fun p =>
    (old.capsAllow p (d.outNeeds p) && !d.capsAllow p (d.outNeeds p)) || (old.capsAllow p (d.inNeeds p) && !d.capsAllow p (d.inNeeds p))))
  let flows := if ls.isEmpty then [] else d.trueOf Obj.TF_ENABLE
  if hit || flows.any (fun t => old.tfFits t && !d.tfFits t) then d.pulse Flt.TF_WITHDRAWN else d

/-- Output streams end where their port leaves service: SEQ begins anew with the next service. -/
def Dev.followService (d : Dev) : Dev :=
  d.outs.foldl (fun d kv => if kv.2.serving && !d.outService kv.1 then d.modOut kv.1 (fun x => { x with serving := false }) else d) d

/-- Times that rules count from: the change of TWIN_HOLDER, the entry to ACTIVE (R493, R498). -/
def Dev.followTimes (old d : Dev) : Dev :=
  let d := if old.reg Obj.TWIN_HOLDER ≠ d.reg Obj.TWIN_HOLDER then d.modLife (fun x => { x with holderAt := some d.clock }) else d
  if d.devState ≠ 5 then (if d.life.activeSince.isSome then d.modLife (fun x => { x with activeSince := none }) else d)
  else if d.life.activeSince.isNone then d.modLife (fun x => { x with activeSince := some d.clock })
  else d

/-- A release of RESET_N that the TAP held takes effect when the balls return to their functions (R521). -/
def Dev.followBalls (d : Dev) : Dev :=
  if d.dbg.releaseHeld && !d.ballsTaken then { d with dbg := { d.dbg with releaseHeld := false } }.startUp else d

/-- A reset that the device made itself ends: start-up begins, up to three times where it falls back (R472, R473, R499). -/
def Dev.restart : Nat → Dev → Dev
  | 0, d => d
  | n + 1, d => if d.life.held && decide (2 ≤ d.life.resetCause) then Dev.restart n (Dev.settle 4 d.startUp) else d

/-! ### OBJECT_CHANGED (R438) -/

/-- The record of a changed target: its value, up to 64 bytes. -/
def Dev.changeRecord (d : Dev) (r : Ref) : EvRec :=
  let b := d.readRef r
  { code := 1, sev := 0, flags := if 64 < b.length then 1 else 0, time := d.now, ref := r, data := b.take 64 }

/-- One subscription's notice: at most once per MIN_INTERVAL. -/
def Dev.notice (d : Dev) (rec_ : Nat) (x : SubX) : SubX :=
  if d.clock < x.noticeAt then { x with changed := true }
  else
    let x := { x with changed := false, noticeAt := d.clock + fld rec_ 207 192 * 1000000 }
    if x.recs.any (fun r => r.code == 1) then x else (Machine.gather d.clock x (d.changeRecord (refOfBits (fld rec_ 111 48)))).1

/-- The subscriptions of one list whose target's applied value changed. -/
def Dev.noticeList (old d : Dev) (obj : Nat) (subs : SMap SubX) : SMap SubX :=
  (List.range 16).foldl (fun m s =>
    let rec_ := d.reg obj s
    if subLive rec_ 1 then
      let r := refOfBits (fld rec_ 111 48)
      if old.readRef r = d.readRef r then m else smSet m s (d.notice rec_ (smGet m s {})) {}
    else m) subs

def Dev.notices (old d : Dev) : Dev :=
  d.modCh (fun c => { c with
    subOwn := old.noticeList d Obj.SUB_OWN c.subOwn
    subPair := if d.acts then old.noticeList d Obj.SUB_PAIR c.subPair else c.subPair })

/-! ### The end of a command -/

/-- LOCKOUT holds until power goes (R455). -/
def Dev.keepLockout (old d : Dev) : Dev :=
  if old.nv.lockout || d.nv.lockout then (d.modNv (fun v => { v with lockout := true })).modLife (fun x => { x with phase := .lockout }) else d

/-- What follows a command on `old` that left `d`: nothing in a device that RESET_N or its supply holds. -/
def Dev.finish (old d : Dev) : Dev :=
  let d := d.followBalls
  if d.life.held && decide (d.life.resetCause < 2) then old.keepLockout d
  else
    let d := (old.followCaps (old.followTw0 d)).followService
    let d := Dev.restart 3 (Dev.settle 4 d)
    let d := if old.fixedScheme = d.fixedScheme then d else Dev.settle 4 d.schemeChanged
    let d := old.followTimes d
    let d := d.avsHold
    let d := old.keepLockout d
    old.notices d

/-- The state after a command on `s` whose own effect leaves the block as `d`. -/
def State.after (s : State) (d : Dev) : State := { s with dev := Dev.finish s.dev d }

/-- A command's effect and what follows it. -/
def State.run (f : Dev → Dev) (s : State) : Host.Outcome State Fault Refusal := .next (s.after (f s.dev))

end Sys2Proof.Machine
end

