-- ==== Sys2Proof/Machine/StoreLoad.lean ====
section
/-! DEFINITION. Steps 8 and 9 of Table 14.1: the store and the gain area are checked and loaded, and the device enters STARTING or
LAY_BY (R481 to R484, R497, R499). -/

namespace Sys2Proof.Machine

/-- The elements that a store gives: persisted objects of a fitting type, but for the sources that START restores, and but for those
written since the reset (R482). -/
def Dev.storeWrs (d : Dev) : List Wr :=
  let written := d.life.unrecorded.flatten
  (storeValues (d.storeLog d.life.storeArea)).filterMap (fun kv =>
    let num := kv.1 / 65536
    match objDesc num with
    | some o =>
      if o.persisted && typeOk o.ty kv.2 && num != Obj.XP_SOURCE && num != Obj.CE_LAYER_SOURCE && !written.contains kv.1 then
        some ⟨num, kv.1 % 65536, kv.2⟩
      else none
    | none => none)

/-- A store that checks is loaded. -/
def Dev.storeLoad (d : Dev) : Dev :=
  let d := (inPhases d.storeWrs).foldl (fun d w => d.applyWr d.now w) d
  { d with mix := { d.mix with gain := gainValues d.nv.gainLog } }

/-- Set numbers go on from the highest in the logs. -/
def Dev.setNumbers (d : Dev) : Dev :=
  let n := (d.storeLog d.life.storeArea ++ d.nv.gainLog).foldl (fun n r => max n r.set) 0
  d.modLife (fun x => { x with setNo := max x.setNo n })

/-- The time of the last START that a store records. -/
def lastStart (rs : List StoreRec) : Nat :=
  match (rs.filter (fun r => r.kind == 4)).getLast? with
  | some r => fieldAt r.body 0 12
  | none => 0

/-- HBM training has ended (step 7); a referee trains none (R371). -/
def Dev.trained (d : Dev) : Bool := !d.fm.trainFatal && (d.nv.refereeDuty || (List.range 64).all (fun n => d.pcState n != pcTraining))

/-- START_UP_STORE_CHECK. -/
def Dev.startUpStore (d : Dev) : Dev :=
  if d.life.phase ≠ .selfTest ∨ !d.trained then d
  else
    let d := d.migrate
    let reason := d.storeCheck
    if d.life.trial ∧ reason ≠ 0 ∧ reason ≠ 5 then d.fallBack
    else if reason = 0 then
      (d.setNumbers.storeLoad.setReg Obj.START_TIME 0 (lastStart (d.storeLog d.life.storeArea))).enterStarting
    else if reason = 5 then d.setNumbers.storeLoad.enterLayBy 5
    else (d.freshStore reason).enterLayBy reason

end Sys2Proof.Machine
end

