-- ==== Sys2Proof/Machine/Row.lean ====
section
/-! DEFINITION. What the meanings of the commands share: who a command reaches, and the few effects that join several units. -/

namespace Sys2Proof.Machine

/-- A command to a device out of reset: nothing but power, supply, reset and the TAP reaches one that RESET_N holds (R472). -/
def State.live (f : Dev → Dev) (s : State) : Host.Outcome State Fault Refusal :=
  if s.dev.life.held then .next s else s.run f

/-- What a referee does, and no other device (R371). -/
def Dev.refereeDo (d : Dev) (f : Dev → Dev) : Dev := if d.twinState = twReferee then f d else d

/-- A service message of the peer reaches the device while TW_0 is ACTIVE (R361). -/
def Dev.onTw0 (d : Dev) (f : Dev → Dev) : Dev := if d.heeds && d.laneState tw0 == lnActive then f d else d

/-- ROLL_CALL_RECEIVED: at a referee, the Roll Call of the device on that link; elsewhere the peer's (R351, R358). -/
def Dev.rollCall (d : Dev) (link : Nat) (body : BitVec 256) : Dev :=
  if d.twinState = twReferee then d.refRoll link body else d.rollIn link body

/-- OUTPUT_FRAME_START: the frame begins, then what takes effect at a frame start of the output. -/
def Dev.outputFrame (d : Dev) (p : Nat) : Dev := (((d.outFrameStart p).ceAtOutput p).ciAtOutput p).joinSwitch p

/-- LANE_EYE_MEASUREMENT as a task of the Rambler (Table 13.16). -/
def Dev.laneEye (d : Dev) (l height width : Nat) : Dev :=
  if d.laneState l = lnActive then (d.eyeMeasured l height width).rmbDone 1 else d

/-- SPARE_CHECK_END as a task of the Rambler. -/
def Dev.spareCheckDone (d : Dev) (g height width : Nat) : Dev :=
  if (d.group g).checking then (d.spareCheckEnd g height width).rmbDone 4 else d

/-- FM_RETRAIN_STEP: the task completes with the retrain. -/
def Dev.retrainTask (d : Dev) (pc : Nat) (centred : Bool) (width : Nat) : Dev :=
  let n := d.retrainStep pc centred width
  if d.fm.retrain ≠ 0 ∧ n.fm.retrain = 0 then n.rmbDone 3 else n

/-- FM_SCRUB: the task completes with the pass. -/
def Dev.scrubTask (d : Dev) (o : EccOutcome) : Dev :=
  let n := d.fmScrub o
  if d.reg Obj.FM_SCRUB_POS ≠ 0 ∧ n.reg Obj.FM_SCRUB_POS = 0 then n.rmbDone 5 else n

/-- RESPONSE_CACHE_EXPIRY: the response kept longest is dropped after its 2 s (R422). -/
def Dev.cacheExpiry (d : Dev) : Dev :=
  match d.ch.kept with
  | [] => d
  | k :: ks =>
    let t := ks.foldl (fun t x => if x.at_ < t.at_ then x else t) k
    (d.passTo (t.at_ + 2000000000)).modCh (fun c => { c with kept := c.kept.erase t })

/-- The object that a CALIBRATION_WRITE writes: the five calibration objects, then CAL_SET (R488). -/
def calObject (o : Nat) : Nat :=
  [Obj.CAL_LANE_PRESET, Obj.CAL_TEMP_TRIM, Obj.CAL_LOSC_PPT, Obj.CAL_AP_IN_DELAY, Obj.CAL_HBM_SEED, Obj.CAL_SET].getD o Obj.CAL_SET

end Sys2Proof.Machine
end

