-- ==== Sys2Proof/Machine/RowsAudio.lean ====
section
/-! DEFINITION. Shuffling, mixing and TDM: the meaning of each command of this group of the table. -/

namespace Sys2Proof.Machine

/-- AUDIO_BLOCK_ARRIVAL (R280): An audio block reaches a consumer's aligner, or is discarded as late. -/
def execAudioBlockArrival (ao : Fin 37376) (x : BlockSeen) (s : State) : Host.Outcome State Fault Refusal :=
  s.live (fun d => d.audioArrival ao.val x.n (x.ais.map (·.toNat)))

/-- AUDIO_BLOCK_DEADLINE (R280): At a block's deadline the consumer decides it present or absent. -/
def execAudioBlockDeadline (ao : Fin 37376) (n : Nat) (s : State) : Host.Outcome State Fault Refusal :=
  s.live (fun d => d.audioDeadline ao.val n)

/-- SHUF_SRC_WRITE (R286): A shuffle change applies with a crossfade from the first block at or after E. -/
def execShufSrcWrite (r : Req) (w : WArg) (s : State) : Host.Outcome State Fault Refusal :=
  s.live (fun d => d.writeRow Obj.SHUF_SRC r w)

/-- AO_DELAY_WRITE (R287): A change of a channel delay is checked against the region and crossfades at E. -/
def execAoDelayWrite (r : Req) (w : WArg) (s : State) : Host.Outcome State Fault Refusal :=
  s.live (fun d => d.writeRow Obj.AO_DELAY r w)

/-- MIXER_BLOCK (R291): The mixer reads the MI blocks of one stamp and computes the MO block. -/
def execMixerBlock (n : Nat) (s : State) : Host.Outcome State Fault Refusal :=
  s.live (fun d => d.mixerBlock n)

/-- MIX_JOURNAL_ADD (R294): A write appends gain entries to the open journal. -/
def execMixJournalAdd (r : Req) (w : WArg) (s : State) : Host.Outcome State Fault Refusal :=
  s.live (fun d => d.writeRow Obj.MIX_JOURNAL_ADD r w)

/-- MIX_GAIN_ROW_WRITE (R294): A write of MIX_GAIN_ROW appends the 4096 entries of one row to the journal. -/
def execMixGainRowWrite (r : Req) (w : WArg) (s : State) : Host.Outcome State Fault Refusal :=
  s.live (fun d => d.writeRow Obj.MIX_GAIN_ROW r w)

/-- MIX_JOURNAL_DISCARD (R295): The command empties the open journal. -/
def execMixJournalDiscard (r : Req) (w : WArg) (s : State) : Host.Outcome State Fault Refusal :=
  s.live (fun d => d.commandRow Obj.MIX_JOURNAL_DISCARD r w)

/-- MIX_COMMIT (R296): The command arms the open journal with an E. -/
def execMixCommit (r : Req) (w : WArg) (s : State) : Host.Outcome State Fault Refusal :=
  s.live (fun d => d.commandRow Obj.MIX_COMMIT r w)

/-- GAIN_STORE_RECORD (R298): The changed gain rows are recorded in the gain area no later than 10 s after a commit. -/
def execGainStoreRecord (s : State) : Host.Outcome State Fault Refusal :=
  s.live Dev.gainRecord

/-- TDM_FRAME (R300): A TDM16 frame is exchanged on a port, and a SLAVE port judges it clean or not. -/
def execTdmFrame (a : Fin 32) (f : TdmFrame) (s : State) : Host.Outcome State Fault Refusal :=
  s.live (fun d => d.tdmFrame a.val f)

/-- TDM_QUALIFIED (R308): 4800 consecutive clean frames anchor a SLAVE port and start its ramp to RUNNING. -/
def execTdmQualified (a : Fin 32) (s : State) : Host.Outcome State Fault Refusal :=
  s.live (fun d => d.tdmQualified a.val)

/-- TDM_CLOCK_LOSS (R308): No BCLK edge for 200 ns or no FSYNC for two frames takes a SLAVE port to CLOCK_LOST. -/
def execTdmClockLoss (a : Fin 32) (s : State) : Host.Outcome State Fault Refusal :=
  s.live (fun d => d.tdmLoss a.val)

/-- TDM_SLIP_CHECK (R303): Every 10 ms a SLAVE port compares its frame instant with its stamp and may re-anchor. -/
def execTdmSlipCheck (a : Fin 32) (instantAt : Nat) (s : State) : Host.Outcome State Fault Refusal :=
  s.live (fun d => d.tdmSlip a.val instantAt)

/-- AP_ENABLE_WRITE (R306): A write of AP_ENABLE starts or stops a TDM port at the first frame instant at or after E. -/
def execApEnableWrite (r : Req) (w : WArg) (s : State) : Host.Outcome State Fault Refusal :=
  s.live (fun d => d.writeRow Obj.AP_ENABLE r w)

/-- TDM_LEAD_END (R306): After 1024 frames of LEAD a MASTER port unmutes and reads RUNNING. -/
def execTdmLeadEnd (a : Fin 32) (s : State) : Host.Outcome State Fault Refusal :=
  s.live (fun d => d.apLeadEnd a.val)

/-- TDM_STOP_STEP (R306): A timed stage of a MASTER port's stop sequence completes. -/
def execTdmStopStep (a : Fin 32) (s : State) : Host.Outcome State Fault Refusal :=
  s.live (fun d => d.apStopStep a.val)

/-- AO_COUNT_CLEAR (R310): The command clears the counters of one AO. -/
def execAoCountClear (r : Req) (w : WArg) (s : State) : Host.Outcome State Fault Refusal :=
  s.live (fun d => d.commandRow Obj.AO_COUNT_CLEAR r w)

/-- MIX_COUNT_CLEAR (R310): The command clears the mixer counters. -/
def execMixCountClear (r : Req) (w : WArg) (s : State) : Host.Outcome State Fault Refusal :=
  s.live (fun d => d.commandRow Obj.MIX_COUNT_CLEAR r w)

/-- AP_COUNT_CLEAR (R310): The command clears the counters of one TDM port. -/
def execApCountClear (r : Req) (w : WArg) (s : State) : Host.Outcome State Fault Refusal :=
  s.live (fun d => d.commandRow Obj.AP_COUNT_CLEAR r w)

end Sys2Proof.Machine
end

