-- ==== Sys2Proof/Machine/RowsControl.lean ====
section
/-! DEFINITION. Management segments and Chawyn messages: the meaning of each command of this group of the table. -/

namespace Sys2Proof.Machine

/-- MG_FRAME_RECEIVED (R376): A frame on a management segment is filtered and stored in the receive ring. -/
def execMgFrameReceived (m : Fin 2) (f : MgFrame) (s : State) : Host.Outcome State Fault Refusal :=
  s.live (fun d => d.mgFrame m.val f)

/-- MG_FRAME_TRANSMIT (R391): A queued frame begins its preamble once its class is open and the medium allows. -/
def execMgFrameTransmit (m : Fin 2) (s : State) : Host.Outcome State Fault Refusal :=
  s.live (fun d => Dev.mgLeft m.val (d.txStart m.val))

/-- MG_COLLISION (R382): A collision jams and backs off the frame, or gives it up. -/
def execMgCollision (m : Fin 2) (bit : Nat) (s : State) : Host.Outcome State Fault Refusal :=
  s.live (fun d => Dev.mgLeft m.val (d.collide m.val bit))

/-- MG_BACKOFF_EXPIRY (R382): The backoff after a collision ends and the MAC defers again. -/
def execMgBackoffExpiry (m : Fin 2) (s : State) : Host.Outcome State Fault Refusal :=
  s.live (fun d => d.backoffOver m.val)

/-- MG_ACCESS_WINDOW (R386): A 100 ms window ends and AUTO may move the port between CSMA/CD and PLCA. -/
def execMgAccessWindow (m : Fin 2) (s : State) : Host.Outcome State Fault Refusal :=
  s.live (fun d => d.accessWindow m.val)

/-- MG_GATE_CYCLE_START (R392): A gate-list cycle starts and accepted gate writes take effect. -/
def execMgGateCycleStart (m : Fin 2) (s : State) : Host.Outcome State Fault Refusal :=
  s.live (fun d => d.gateCycle m.val)

/-- MG_COUNT_CLEAR (R402): The command clears every counter and MG_SAT of one port. -/
def execMgCountClear (r : Req) (w : WArg) (s : State) : Host.Outcome State Fault Refusal :=
  s.live (fun d => d.commandRow Obj.MG_COUNT_CLEAR r w)

/-- READ (R425): A READ message returns the applied values of up to 64 references. -/
def execRead (r : Req) (refs : List Ref) (s : State) : Host.Outcome State Fault Refusal :=
  s.live (fun d => d.request r (.read refs))

/-- OBJECT_WRITE (R426): A WRITE message writes one item of an object that has no row of its own. -/
def execObjectWrite (r : Req) (apply : BitVec 96) (it : Item) (s : State) : Host.Outcome State Fault Refusal :=
  s.live (fun d => d.request r (.write apply it))

/-- WRITE_SET (R427): A WRITE_SET writes up to 255 items atomically with one E. -/
def execWriteSet (r : Req) (apply : BitVec 96) (items : List Item) (s : State) : Host.Outcome State Fault Refusal :=
  s.live (fun d => d.request r (.writeSet apply items))

/-- SUBSCRIBE (R434): A SUBSCRIBE message adds, renews or removes subscription entries. -/
def execSubscribe (r : Req) (recs : List (BitVec 256)) (s : State) : Host.Outcome State Fault Refusal :=
  s.live (fun d => d.request r (.subscribe recs))

/-- BULK_READ (R430): A BULK_READ returns a byte range of an object's wire encoding in segments. -/
def execBulkRead (r : Req) (ref : Ref) (offset : BitVec 32) (size : BitVec 32) (s : State) : Host.Outcome State Fault Refusal :=
  s.live (fun d => d.request r (.bulkRead ref offset size))

/-- BULK_WRITE (R431): A BULK_WRITE stages one piece of a transfer. -/
def execBulkWrite (r : Req) (b : BulkPiece) (s : State) : Host.Outcome State Fault Refusal :=
  s.live (fun d => d.request r (.bulkWrite b))

/-- BULK_TRANSFER_EXPIRY (R431): A transfer idle for 10 s is discarded. -/
def execBulkTransferExpiry (s : State) : Host.Outcome State Fault Refusal :=
  s.live Dev.bulkExpiry

/-- RESPONSE_CACHE_EXPIRY (R422): A kept response is dropped after 2 s. -/
def execResponseCacheExpiry (s : State) : Host.Outcome State Fault Refusal :=
  s.live Dev.cacheExpiry

/-- SUBSCRIPTION_EXPIRY (R435): An entry whose LIFETIME runs out is freed and sends SUB_EXPIRED. -/
def execSubscriptionExpiry (pair : Bool) (slot : Fin 16) (s : State) : Host.Outcome State Fault Refusal :=
  s.live (fun d => d.subscriptionExpiry pair slot.val)

/-- EVENT_SEND (R439): The gathered records of a subscription are sent as an EVENT within 1 ms. -/
def execEventSend (pair : Bool) (slot : Fin 16) (s : State) : Host.Outcome State Fault Refusal :=
  s.live (fun d => d.eventSend pair slot.val)

/-- WRITE_APPLY_AT_E (R411): A timed or shared write, command or sealed copy reaches its E and is applied. -/
def execWriteApplyAtE (s : State) : Host.Outcome State Fault Refusal :=
  s.live (fun d => Dev.applyDue d.ch.pend.length d)

/-- START (R484): The command starts leaving LAY_BY. -/
def execStart (r : Req) (w : WArg) (s : State) : Host.Outcome State Fault Refusal :=
  s.live (fun d => d.commandRow Obj.START r w)

/-- STARTING_ENTRY (R484): Once STORE_PENDING is FALSE the device writes START, enters STARTING and takes its twin state. -/
def execStartingEntry (s : State) : Host.Outcome State Fault Refusal :=
  s.live Dev.startingEntry

/-- DEV_LAYBY (R485): The command ends the lease and enters LAY_BY. -/
def execDevLayby (r : Req) (w : WArg) (s : State) : Host.Outcome State Fault Refusal :=
  s.live (fun d => d.commandRow Obj.DEV_LAYBY r w)

/-- DEV_RESET (R463): The command writes the Trail Log and resets after the response leaves. -/
def execDevReset (r : Req) (w : WArg) (s : State) : Host.Outcome State Fault Refusal :=
  s.live (fun d => d.commandRow Obj.DEV_RESET r w)

/-- CH_COUNT_CLEAR (R440): The command clears the protocol counters. -/
def execChCountClear (r : Req) (w : WArg) (s : State) : Host.Outcome State Fault Refusal :=
  s.live (fun d => d.commandRow Obj.CH_COUNT_CLEAR r w)

/-- MG_PLCA_BEACON (R384): A PLCA BEACON is received on a management port, or sent by it as coordinator, starting a PLCA cycle
and keeping MG_PLCA_STATUS TRUE. -/
def execMgPlcaBeacon (m : Fin 2) (busy : Bool) (s : State) : Host.Outcome State Fault Refusal :=
  s.live (fun d => d.plcaBeacon m.val busy)

end Sys2Proof.Machine
end

