-- ==== Sys2Proof/Machine/RowsDebug.lean ====
section
/-! DEFINITION. The control bus, the TAP and the debug module: the meaning of each command of this group of the table. -/

namespace Sys2Proof.Machine

/-- BUS_TRANSACTION (R513): A control bus transaction is decoded, carried out and ends with a response. -/
def execBusTransaction (t : BusTxn) (s : State) : Host.Outcome State Fault Refusal :=
  if s.dev.life.held then .next s
  else match s.dev.busTransact t with
    | some d => s.run (fun _ => d)
    | none => .refused .undocumentedWindow

/-- BUS_GRANT (R515): A target port grants the waiting transaction of highest effective QoS. -/
def execBusGrant (t : Fin 12) (newly : List (Fin 9 × BitVec 40)) (s : State) : Host.Outcome State Fault Refusal :=
  s.live (fun d => d.busGrant t.val (newly.map (fun x => (x.1.val, x.2.toNat))))

/-- TAP_RESET (R517): TRST_N low or five TMS-high cycles reset the TAP and load IDCODE. -/
def execTapReset (s : State) : Host.Outcome State Fault Refusal :=
  s.run (fun d => d.tapLoad .idcode)

/-- EXTEST (R520): The instruction drives the balls from the boundary register, or acts as BYPASS outside its states. -/
def execExtest (s : State) : Host.Outcome State Fault Refusal :=
  s.run (fun d => d.tapDrive .extest)

/-- SAMPLE_PRELOAD (R518): The instruction samples and preloads the boundary register. -/
def execSamplePreload (preload : List Bool) (s : State) : Host.Outcome State Fault Refusal :=
  s.run (fun d => d.tapPreload preload)

/-- IDCODE (R519): The instruction selects the 32-bit identification register. -/
def execIdcode (s : State) : Host.Outcome State Fault Refusal :=
  s.run (fun d => d.tapLoad .idcode)

/-- CLAMP (R520): The instruction holds boundary outputs while selecting bypass. -/
def execClamp (s : State) : Host.Outcome State Fault Refusal :=
  s.run (fun d => d.tapDrive .clamp)

/-- HIGHZ (R520): The instruction sets every boundary output to high impedance. -/
def execHighz (s : State) : Host.Outcome State Fault Refusal :=
  s.run (fun d => d.tapDrive .highz)

/-- DBG_ACCESS (R522): The instruction selects the debug access register. -/
def execDbgAccess (s : State) : Host.Outcome State Fault Refusal :=
  s.run (fun d => d.tapLoad .dbgAccess)

/-- BYPASS (R518): The instruction selects the 1-bit bypass register. -/
def execBypass (s : State) : Host.Outcome State Fault Refusal :=
  s.run (fun d => d.tapLoad .bypass)

/-- DM_HALT (R525): A DM_CTRL HALT bit asks a core to halt when R524 allows. -/
def execDmHalt (cores : BitVec 4) (s : State) : Host.Outcome State Fault Refusal :=
  s.live (fun d => d.dmCtrl cores.toNat 0 0)

/-- DM_RESUME (R526): A DM_CTRL RESUME bit restarts a halted core. -/
def execDmResume (cores : BitVec 4) (s : State) : Host.Outcome State Fault Refusal :=
  s.live (fun d => d.dmCtrl 0 cores.toNat 0)

/-- DM_STEP (R526): A DM_CTRL STEP bit runs one instruction of a halted core. -/
def execDmStep (cores : BitVec 4) (s : State) : Host.Outcome State Fault Refusal :=
  s.live (fun d => d.dmCtrl 0 0 cores.toNat)

/-- DM_HALT_COMPLETE (R525): A core halts at an instruction boundary once its outstanding access responds. -/
def execDmHaltComplete (c : Fin 4) (pc : BitVec 40) (s : State) : Host.Outcome State Fault Refusal :=
  s.live (fun d => d.haltDone c.val pc.toNat)

/-- DM_CMP_CTRL_WRITE (R527): A write configures and enables a breakpoint or watchpoint comparator. -/
def execDmCmpCtrlWrite (data : BitVec 32) (s : State) : Host.Outcome State Fault Refusal :=
  s.live (fun d => d.dmCmpCtrl data.toNat)

/-- DM_CMP_HITS_CLEAR (R527): A write of 0 clears a comparator's hit count. -/
def execDmCmpHitsClear (data : BitVec 32) (s : State) : Host.Outcome State Fault Refusal :=
  s.live (fun d => d.dmCmpHits data.toNat)

/-- DM_COMPARATOR_MATCH (R527): A comparator matches a core access, counts a hit and halts the core when allowed. -/
def execDmComparatorMatch (c : Fin 4) (k : Fin 12) (x : CoreAccess) (s : State) : Host.Outcome State Fault Refusal :=
  s.live (fun d => d.cmpMatch c.val k.val x.pc.toNat x.addr.toNat x.write)

/-- DM_MEM_GO (R528): GO starts one debug memory access at DM_MEM_ADDR. -/
def execDmMemGo (data : BitVec 32) (s : State) : Host.Outcome State Fault Refusal :=
  s.live (fun d => d.dmMemCtrl data.toNat)

/-- DM_MEM_DATA_AUTO (R528): With AUTO set, a DR access of DM_MEM_DATA starts the next access. -/
def execDmMemDataAuto (write : Bool) (data : BitVec 32) (s : State) : Host.Outcome State Fault Refusal :=
  s.live (fun d => d.dmMemData write data.toNat)

/-- DM_MEM_ACCESS_DONE (R528): A debug memory access ends, clearing BUSY and setting RESP. -/
def execDmMemAccessDone (x : MemOutcome) (s : State) : Host.Outcome State Fault Refusal :=
  s.live (fun d => d.memDone x)

/-- DM_MEM_OVERRUN_CLEAR (R528): A write of 1 clears OVERRUN in DM_MEM_STATUS. -/
def execDmMemOverrunClear (data : BitVec 32) (s : State) : Host.Outcome State Fault Refusal :=
  s.live (fun d => d.dmOverrun data.toNat)

/-- DM_MBX_TX_WRITE (R529): A write adds 4 request bytes to the mailbox. -/
def execDmMbxTxWrite (data : BitVec 32) (s : State) : Host.Outcome State Fault Refusal :=
  s.live (fun d => d.dmMbxTx data.toNat)

/-- DM_MBX_GO (R529): GO submits the mailbox request as a Chawyn message of class DB. -/
def execDmMbxGo (data : BitVec 32) (s : State) : Host.Outcome State Fault Refusal :=
  s.live (fun d => d.dmMbxCtrl data.toNat)

/-- DM_MBX_RX_READ (R529): A read takes the next 4 bytes of the mailbox response. -/
def execDmMbxRxRead (s : State) : Host.Outcome State Fault Refusal :=
  s.live Dev.dmMbxRx

/-- DM_MBX_RX_DONE (R529): RX_DONE releases the response and empties both buffers. -/
def execDmMbxRxDone (data : BitVec 32) (s : State) : Host.Outcome State Fault Refusal :=
  s.live (fun d => d.dmMbxCtrl data.toNat)

/-- DM_REGISTER_WRITE (R522): A DBG_ACCESS write to a debug register with no row of its own. -/
def execDmRegisterWrite (reg : BitVec 8) (data : BitVec 32) (s : State) : Host.Outcome State Fault Refusal :=
  s.live (fun d => d.dmWrite reg.toNat data.toNat)

/-- DBG_COUNT_CLEAR (R531): The command clears the debug and bus counters. -/
def execDbgCountClear (r : Req) (w : WArg) (s : State) : Host.Outcome State Fault Refusal :=
  s.live (fun d => d.commandRow Obj.DBG_COUNT_CLEAR r w)

end Sys2Proof.Machine
end

