-- ==== Sys2Proof/Machine/Service.lean ====
section
/-! DEFINITION. What a good service Basket or twin-link Basket carries: the walk through its messages or records, and the effect of each
("Baskets", R139, R142; "Twin operation", R346, R361 to R363). A message or record that a row of the table brings without its
Basket has the same effect (log 118). -/

namespace Sys2Proof.Machine

/-- The messages of a SERVICE payload: code, LEN, body, back to back; a body that would run past the end ends the walk (R142). -/
def messagesOf : Nat → Bytes → List (Nat × Bytes)
  | n + 1, c :: len :: rest =>
    if len.toNat ≤ rest.length then (c.toNat, rest.take len.toNat) :: messagesOf n (rest.drop len.toNat) else []
  | _, _ => []

/-- LEN of the service messages (Tables 4.9, 10.1). -/
def messageLen (code : Nat) : Option Nat :=
  match code with
  | 0x10 | 0x11 | 0x12 | 0x13 | 0x14 | 0x15 | 0x02 => some 2
  | 0x01 => some 20
  | 0x21 => some 16
  | 0x20 => some 10
  | 0x40 | 0x41 | 0x42 | 0x43 | 0x49 => some 4
  | 0x48 => some 32
  | _ => none

/-- A service message of the lane itself (Table 4.9). -/
def Dev.laneMessage (d : Dev) (l code : Nat) (body : Bytes) : Dev :=
  let v := beNat body
  match code with
  | 0x12 => d.spareAck l (fld v 15 8)
  | 0x13 => d.spareGo l (fld v 15 8)
  | 0x14 => d.spareRequest l (fld v 15 8)
  | 0x01 => d.capIn l v
  | 0x02 => d.capAckIn l v
  | 0x21 => d.slotStatusIn l (BitVec.ofNat 128 v)
  | 0x20 => d.healthIn l v
  | _ => d

/-- A lease message, a Roll Call or a VERDICT on twin link `i` (Table 10.1): a device takes leases and verdicts from TW_1 only. -/
def Dev.twinMessage (d : Dev) (i code : Nat) (body : Bytes) : Dev :=
  let v := beNat body
  match code with
  | 0x42 => d.refereeDo (fun d => d.refAck i v)
  | 0x43 => d.refereeDo (fun d => d.refRelease i v)
  | 0x48 => d.rollCall i (BitVec.ofNat 256 v)
  | 0x40 => if i = 1 then (d.grantIn v).leaseRenew v else d
  | 0x41 => if i = 1 then d.leaseRevoke v else d
  | 0x49 => if i = 1 then d.verdict v else d
  | _ => d

/-- One message of a service Basket; an unknown code, or a LEN that is not the message's, is skipped. -/
def Dev.serviceMessage (l : Nat) (d : Dev) (m : Nat × Bytes) : Dev :=
  if messageLen m.1 ≠ some m.2.length then d
  else if m.1 < 0x40 then d.laneMessage l m.1 m.2
  else if isTwin l && d.laneState l == lnActive then d.twinMessage (l - 272) m.1 m.2
  else d

/-- The records of an INTERNAL payload: CODE, LEN, RSEQ, body; CODE 0 ends the walk (R361). -/
def recordsOf : Nat → Bytes → List (Nat × Nat × Bytes)
  | n + 1, c :: len :: r1 :: r0 :: rest =>
    if c = 0 ∨ rest.length < len.toNat then []
    else (c.toNat, beNat [r1, r0], rest.take len.toNat) :: recordsOf n (rest.drop len.toNat)
  | _, _ => []

/-- The entries of a presence record, `w` bytes each; none where they are not COUNT (Table 10.4). -/
def presenceEntries (w : Nat) (body : Bytes) : Option (Nat × Bool × List Bytes) :=
  let n := beNat ((body.drop 4).take 2)
  let es := body.drop 6
  if body.length < 6 ∨ es.length ≠ w * (n % 32768) then none
  else some (beNat (body.take 4), bitOf n 15, chunksOf w (n % 32768) es)

/-- A mirror record at a standby (Table 10.4). -/
def Dev.mirrorRecord (d : Dev) (code : Nat) (body : Bytes) : Dev :=
  let v := beNat body
  match code, body.length with
  | 0x01, 31 => d.sealIn v
  | 0x02, 11 => d.phaseIn (fld v 87 72 % 1024) (fld v 71 64) (fld v 31 0)
  | 0x03, 11 => d.fsRecordIn (fld v 87 72 % 1024) (fld v 71 40) (fld v 39 8) (fld v 7 0)
  | 0x04, _ => match presenceEntries 6 body with
    | some (w, final, es) => d.videoPresence w final (es.map (fun e => (beNat (e.take 2), beNat ((e.drop 2).take 1), beNat (e.drop 3))))
    | none => d
  | 0x05, _ => match presenceEntries 4 body with
    | some (w, final, es) => d.audioPresence w final (es.map (fun e => (beNat (e.take 2), beNat (e.drop 2))))
    | none => d
  | 0x06, 9 => d.canopyRecordIn (fld v 71 64 % 128) (fld v 63 32) (fld v 31 0)
  | 0x07, 14 => d.tdmEvent (fld v 111 104 % 32) (fld v 103 96) (fld v 95 0)
  | _, _ => d

/-- A record of a fetch or a join (Table 10.4). The state bytes of SNAPSHOT have no layout in the spec: they come by their own row. -/
def Dev.joinRecord (d : Dev) (code : Nat) (body : Bytes) : Dev :=
  let v := beNat body
  match code, body.length with
  | 0x08, 4 => d.writeFetch v
  | 0x09, n => if 8 ≤ n then d.writeCopy (beNat (body.take 4)) (beNat ((body.drop 4).take 2)) (beNat ((body.drop 6).take 1) != 0) (body.drop 7)
    else d
  | 0x10, 6 => d.joinReq (fld v 47 32)
  | 0x11, 13 => d.joinAck (fld v 103 96) (fld v 95 0)
  | 0x13, 1 => d.joinDone v
  | _, _ => d

/-- One record of an INTERNAL Basket of TW_0. -/
def Dev.twinRecord (d : Dev) (r : Nat × Nat × Bytes) : Dev :=
  if r.1 ≤ 7 then d.recIn r.2.1 (fun d => d.mirrorRecord r.1 r.2.2) else d.onTw0 (fun d => d.joinRecord r.1 r.2.2)

/-- BASKET_RECEIVED: the receiver's part, then what a good service or twin-link Basket carries. -/
def Dev.basketRow (d : Dev) (l : Nat) (w : WireBasket) : Dev :=
  match d.basketIn l w with
  | (d, none) => d
  | (d, some b) =>
    if b.type = tyService then (messagesOf 128 (b.payload.take b.count)).foldl (Dev.serviceMessage l) d
    else (recordsOf 64 (b.payload.take (if b.count = 0 then 256 else b.count))).foldl Dev.twinRecord d

end Sys2Proof.Machine
end

