-- ==== Sys2Proof/Machine/RowsLanes.lean ====
section
/-! DEFINITION. Zwichlink lanes, spares and Baskets: the meaning of each command of this group of the table. -/

namespace Sys2Proof.Machine

/-- LANE_EN_WRITE (R93): A write of LANE_EN takes a lane pair from OFF to DETECT or to OFF. -/
def execLaneEnWrite (r : Req) (w : WArg) (s : State) : Host.Outcome State Fault Refusal :=
  s.live (fun d => d.writeRow Obj.LANE_EN r w)

/-- LANE_SPARE_MODE_WRITE (R93): A write of LANE_SPARE_MODE puts a spare in WATCH or OFF. -/
def execLaneSpareModeWrite (r : Req) (w : WArg) (s : State) : Host.Outcome State Fault Refusal :=
  s.live (fun d => d.writeRow Obj.LANE_SPARE_MODE r w)

/-- TERMINATION_TEST (R94): A termination test in DETECT, made at entry and every 1 ms, finds or misses the far-end termination. -/
def execTerminationTest (l : Fin 274) (found : Bool) (s : State) : Host.Outcome State Fault Refusal :=
  s.live (fun d => d.termTest l.val found)

/-- TRAINING_WORD_RECEIVED (R96): A valid training word arrives and drives training, lock entry or a retrain. -/
def execTrainingWordReceived (l : Fin 274) (word : BitVec 64) (s : State) : Host.Outcome State Fault Refusal :=
  s.live (fun d => d.trainingWord l.val word.toNat)

/-- EYE_MARGIN_MEASURED (R101): A 256-frame margin measurement ends and the receiver negotiation moves to its next request. -/
def execEyeMarginMeasured (l : Fin 274) (margin : Nat) (s : State) : Host.Outcome State Fault Refusal :=
  s.live (fun d => d.eyeMargin l.val margin)

/-- TRAIN_WORD_TIMEOUT (R93): No valid training word within 20 ms returns the pair from TRAIN to DETECT. -/
def execTrainWordTimeout (l : Fin 274) (s : State) : Host.Outcome State Fault Refusal :=
  s.live (fun d => d.trainWordLate l.val)

/-- TRAIN_LOCK_TIMEOUT (R100): 50 ms in TRAIN without LOCK restarts TRAIN from the start preset as a charged transition. -/
def execTrainLockTimeout (l : Fin 274) (s : State) : Host.Outcome State Fault Refusal :=
  s.live (fun d => d.bringUpLate l.val lnTrain)

/-- LOCK_TIMEOUT (R93): 2 ms in LOCK without reaching EXCHANGE returns the pair to TRAIN. -/
def execLockTimeout (l : Fin 274) (s : State) : Host.Outcome State Fault Refusal :=
  s.live (fun d => d.bringUpLate l.val lnLock)

/-- EXCHANGE_TIMEOUT (R93): 10 ms in EXCHANGE without reaching ACTIVE returns the pair to TRAIN. -/
def execExchangeTimeout (l : Fin 274) (s : State) : Host.Outcome State Fault Refusal :=
  s.live (fun d => d.bringUpLate l.val lnExchange)

/-- SIGNAL_SQUELCH (R93): The received signal stays below squelch for 1 µs and the pair goes to DETECT. -/
def execSignalSquelch (l : Fin 274) (s : State) : Host.Outcome State Fault Refusal :=
  s.live (fun d => d.squelch l.val)

/-- LANE_TEST_MODE_WRITE (R104): A write of LANE_TEST_MODE puts a pair in TEST with a pattern or returns it to DETECT. -/
def execLaneTestModeWrite (r : Req) (w : WArg) (s : State) : Host.Outcome State Fault Refusal :=
  s.live (fun d => d.writeRow Obj.LANE_TEST_MODE r w)

/-- LANE_COUNT_CLEAR (R107): The command clears every counter and LANE_SAT of one lane pair. -/
def execLaneCountClear (r : Req) (w : WArg) (s : State) : Host.Outcome State Fault Refusal :=
  s.live (fun d => d.commandRow Obj.LANE_COUNT_CLEAR r w)

/-- RETIREMENT_POINT (R110): At a group's retirement point the pending retirements of the lane cycle are decided, lowest lane
first. -/
def execRetirementPoint (g : Fin 16) (s : State) : Host.Outcome State Fault Refusal :=
  s.live (fun d => d.retirePoint g.val)

/-- SPARE_REQUEST_RECEIVED (R109): A far-end SPARE_REQUEST retires the named lane, or is answered SPARE_REFUSED or ignored. -/
def execSpareRequestReceived (l : Fin 274) (lane : BitVec 8) (_code : BitVec 8) (s : State) : Host.Outcome State Fault Refusal :=
  s.live (fun d => d.spareRequest l.val lane.toNat)

/-- SPARE_ACK_RECEIVED (R560): The first SPARE_ACK of a takeover or release makes the crosspoint end send SPARE_GO. -/
def execSpareAckReceived (l : Fin 274) (lane : BitVec 8) (s : State) : Host.Outcome State Fault Refusal :=
  s.live (fun d => d.spareAck l.val lane.toNat)

/-- SPARE_GO_RECEIVED (R560): The first SPARE_GO makes the receiver switch the slots from the next cycle. -/
def execSpareGoReceived (l : Fin 274) (lane : BitVec 8) (s : State) : Host.Outcome State Fault Refusal :=
  s.live (fun d => d.spareGo l.val lane.toNat)

/-- SPARE_TAKEOVER_TIMEOUT (R561): A takeover that misses its deadlines fails and both lanes go to RETIRED_NO_SPARE. -/
def execSpareTakeoverTimeout (g : Fin 16) (s : State) : Host.Outcome State Fault Refusal :=
  s.live (fun d => d.takeoverTimeout g.val)

/-- SPARE_RELEASE_TIMEOUT (R561): A release that misses its deadlines fails and the original lane returns to FAIL. -/
def execSpareReleaseTimeout (g : Fin 16) (s : State) : Host.Outcome State Fault Refusal :=
  s.live (fun d => d.releaseTimeout g.val)

/-- LANE_RESTART (R112): The command brings a FAIL lane pair to DETECT and starts a release from the spare when it becomes
ACTIVE. -/
def execLaneRestart (r : Req) (w : WArg) (s : State) : Host.Outcome State Fault Refusal :=
  s.live (fun d => d.commandRow Obj.LANE_RESTART r w)

/-- LANE_SPARE_FORCE (R120): The command retires an ACTIVE working lane and calls the spare. -/
def execLaneSpareForce (r : Req) (w : WArg) (s : State) : Host.Outcome State Fault Refusal :=
  s.live (fun d => d.commandRow Obj.LANE_SPARE_FORCE r w)

/-- SPARE_CHECK_START (R114): Every LANE_SPARE_CHECK hours the Rambler brings one OFF spare to ACTIVE to check it. -/
def execSpareCheckStart (g : Fin 16) (s : State) : Host.Outcome State Fault Refusal :=
  s.live (fun d => d.spareCheckStart g.val)

/-- SPARE_CHECK_END (R114): After 10 s the spare check ends, may raise SPARE_CHECK_FAIL, and the spare returns to OFF. -/
def execSpareCheckEnd (g : Fin 16) (height : Nat) (width : Nat) (s : State) : Host.Outcome State Fault Refusal :=
  s.live (fun d => d.spareCheckDone g.val height width)

/-- LANE_EYE_MEASUREMENT (R115): The Rambler measures the eye of an ACTIVE pair and raises LANE_MARGIN when it is low. -/
def execLaneEyeMeasurement (l : Fin 274) (height : Nat) (width : Nat) (s : State) : Host.Outcome State Fault Refusal :=
  s.live (fun d => d.laneEye l.val height width)

/-- GROUP_SIGNAL_LOSS (R117): Loss of signal on all 17 receive lanes of a group clears its retirement history and returns retired
pairs to DETECT. -/
def execGroupSignalLoss (g : Fin 16) (s : State) : Host.Outcome State Fault Refusal :=
  s.live (fun d => d.groupLoss g.val)

/-- BASKET_RECEIVED (R139): A Basket arrives at a lane or twin-link receive edge and is checked, counted, stamped and buffered or
discarded. -/
def execBasketReceived (l : Fin 274) (steady : Bool) (blocks : List (BitVec 2 × BitVec 64)) (s : State) : Host.Outcome State Fault Refusal :=
  s.live (fun d => d.basketRow l.val { blocks, steady })

/-- CAP_RECEIVED (R145): A CAP message is checked for compatibility and answered with CAP_ACK. -/
def execCapReceived (l : Fin 274) (body : BitVec 160) (s : State) : Host.Outcome State Fault Refusal :=
  s.live (fun d => d.capIn l.val body.toNat)

/-- CAP_ACK_RECEIVED (R145): A CAP_ACK completes the exchange, or sends the pair to FAIL with CAP_MISMATCH. -/
def execCapAckReceived (l : Fin 274) (body : BitVec 16) (s : State) : Host.Outcome State Fault Refusal :=
  s.live (fun d => d.capAckIn l.val body.toNat)

/-- SLOT_STATUS_RECEIVED (R149): An I/O card's SLOT_STATUS reports the state of the four inputs of the lane. -/
def execSlotStatusReceived (l : Fin 274) (body : BitVec 128) (s : State) : Host.Outcome State Fault Refusal :=
  s.live (fun d => d.slotStatusIn l.val body)

/-- HEALTH_RECEIVED (R148): A HEALTH body is passed to telemetry. -/
def execHealthReceived (l : Fin 274) (body : BitVec 80) (s : State) : Host.Outcome State Fault Refusal :=
  s.live (fun d => d.healthIn l.val body.toNat)

/-- SLOT_POSITION (R127): At each cycle position a transmitter sends the next data Basket of the slot, a service Basket or an
IDLE Basket. -/
def execSlotPosition (x : SlotTick) (s : State) : Host.Outcome State Fault Refusal :=
  s.live (fun d => d.slotPosition x.lane.val x.late)

/-- INPUT_STAGE_BASKET (R157): The input stage accepts a Basket, identifies the format and derives marks. -/
def execInputStageBasket (g : Fin 16) (k : Fin 64) (s : State) : Host.Outcome State Fault Refusal :=
  s.live (fun d => d.inputStage (64 * g.val + k.val))

/-- GROUP_NODE_INGRESS (R19): A Basket enters its source's group node and is sent over the mesh links whose subscription bits are
set. -/
def execGroupNodeIngress (src : Fin 1128) (s : State) : Host.Outcome State Fault Refusal :=
  s.live (fun d => d.nodeIngress src.val)

/-- LANE_PRBS_LOCK (R104): In TEST the pattern checker compares the raw received bits, sets LANE_PRBS_LOCK once 1024 bits hold
fewer than 32 errors, counts errors, and clears the lock and reseeds on 32 or more errors in 1024 bits. -/
def execLanePrbsLock (l : Fin 274) (n : Nat) (bits : Nat) (s : State) : Host.Outcome State Fault Refusal :=
  s.live (fun d => d.prbsRunIn l.val n bits)

end Sys2Proof.Machine
end

