-- ==== Sys2Proof/Machine/RowsMemory.lean ====
section
/-! DEFINITION. Frame memory: the meaning of each command of this group of the table. -/

namespace Sys2Proof.Machine

/-- FM_REQUEST (R320): A requester's request enters the frame memory controller and is served, in the controller clocks that pass before the
next command; each gives the banks, 48 pc + 16 SID + bank, for which DRAM timing allows none (R321). -/
def execFmRequest (x : FmArrival) (s : State) : Host.Outcome State Fault Refusal :=
  s.live (fun d => (d.fmRequest x.req).fmRun (x.clocks.map (fun c => c.map (·.val))))

/-- FM_CE_WRITEBACK (R331): A corrected unit is written back through class 5 within 1 ms. -/
def execFmCeWriteback (unit : Nat) (s : State) : Host.Outcome State Fault Refusal :=
  s.live (fun d => d.fmWriteback unit)

/-- FM_REFRESH_TICK (R324): A bank's tREFI tick raises its refresh debt, and a debt beyond postponement forces a refresh. -/
def execFmRefreshTick (pc : Fin 64) (sid : Fin 3) (bank : Fin 16) (s : State) : Host.Outcome State Fault Refusal :=
  s.live (fun d => d.refreshTick pc.val (16 * sid.val + bank.val))

/-- FM_TEMP_SAMPLE (R326): The 1 ms stack temperature sample moves the stack into or out of hot. -/
def execFmTempSample (st : Fin 2) (temp : Option Int) (s : State) : Host.Outcome State Fault Refusal :=
  s.live (fun d => d.fmTemp st.val temp)

/-- FM_RH_SUBWINDOW (R328): A 1 ms row-hammer sub-window ends and the activation window moves on. -/
def execFmRhSubwindow (s : State) : Host.Outcome State Fault Refusal :=
  s.live Dev.rhSubwindow

/-- FM_RH_THROTTLE_END (R329): A row-hammer throttle of a requester ends after 8 ms. -/
def execFmRhThrottleEnd (cls : Fin 6) (inst : Nat) (s : State) : Host.Outcome State Fault Refusal :=
  s.live (fun d => d.throttleOver cls.val inst)

/-- FM_PAGE_IDLE_CLOSE (R323): An open row is closed after FM_PAGE_IDLE without access. -/
def execFmPageIdleClose (pc : Fin 64) (bank : Fin 48) (s : State) : Host.Outcome State Fault Refusal :=
  s.live (fun d => d.pageIdle pc.val bank.val)

/-- FM_RETRAIN_START (R336): FM_RETRAIN_GAP after the last retrain the Rambler starts retraining the next pseudo-channel. -/
def execFmRetrainStart (s : State) : Host.Outcome State Fault Refusal :=
  s.live Dev.retrainStart

/-- FM_RETRAIN_STEP (R336): One retraining step of a pseudo-channel runs when its conditions allow. -/
def execFmRetrainStep (stack : Fin 2) (pc : Fin 32) (centred : Bool) (width : Nat) (s : State) : Host.Outcome State Fault Refusal :=
  s.live (fun d => d.retrainTask (32 * stack.val + pc.val) centred width)

/-- FM_PC_RETIRE (R315): The command starts retirement of a pseudo-channel. -/
def execFmPcRetire (r : Req) (w : WArg) (s : State) : Host.Outcome State Fault Refusal :=
  s.live (fun d => d.commandRow Obj.FM_PC_RETIRE r w)

/-- FM_RETIRE_COPY_DONE (R317): The retirement copy ends, the pseudo-channel reads RETIRED and the fault latches. -/
def execFmRetireCopyDone (s : State) : Host.Outcome State Fault Refusal :=
  s.live (fun d => d.fmCopyDone)

/-- FM_RETIRE_CLEAR (R318): The command restores the retired pseudo-channel at the next start. -/
def execFmRetireClear (r : Req) (w : WArg) (s : State) : Host.Outcome State Fault Refusal :=
  s.live (fun d => d.commandRow Obj.FM_RETIRE_CLEAR r w)

/-- FM_COUNT_CLEAR (R339): The command clears the counters of one pseudo-channel. -/
def execFmCountClear (r : Req) (w : WArg) (s : State) : Host.Outcome State Fault Refusal :=
  s.live (fun d => d.commandRow Obj.FM_COUNT_CLEAR r w)

/-- FM_SCRUB (R333): The Rambler scrubs frame memory units in row order. -/
def execFmScrub (ecc : EccOutcome) (s : State) : Host.Outcome State Fault Refusal :=
  s.live (fun d => d.scrubTask ecc)

end Sys2Proof.Machine
end

