-- ==== Sys2Proof/Machine/RowsPacket.lean ====
section
/-! DEFINITION. Receive and transmit flows: the meaning of each command of this group of the table. -/

namespace Sys2Proof.Machine

/-- PACKET_RECEIVE (R205): A frame on a packet-mode port is classified, matched to a flow and placed in its store. -/
def execPacketReceive (g : Fin 16) (k : Fin 64) (s : State) : Host.Outcome State Fault Refusal :=
  s.live (fun d => d.packetReceive (64 * g.val + k.val))

/-- POSITION_DEADLINE (R219): At a position's deadline the device decides it present or absent. -/
def execPositionDeadline (f : Fin 4096) (frame : Nat) (pos : Nat) (s : State) : Host.Outcome State Fault Refusal :=
  s.live (fun d => d.positionDeadline f.val (frame * 2 ^ 32 + pos))

/-- RF_LEG_DOWN (R226): A leg with no good packet for 10 ms goes DOWN. -/
def execRfLegDown (f : Fin 4096) (s : State) : Host.Outcome State Fault Refusal :=
  s.live (fun d => d.legDown f.val)

/-- RF_ENABLE_WRITE (R209): A write of RF_ENABLE enables a receive flow and sizes its store, or disables it. -/
def execRfEnableWrite (r : Req) (w : WArg) (s : State) : Host.Outcome State Fault Refusal :=
  s.live (fun d => d.writeRow Obj.RF_ENABLE r w)

/-- RF_PLAYOUT_WRITE (R210): A new RF_PLAYOUT takes effect at the next frame start of the home input. -/
def execRfPlayoutWrite (r : Req) (w : WArg) (s : State) : Host.Outcome State Fault Refusal :=
  s.live (fun d => d.writeRow Obj.RF_PLAYOUT r w)

/-- TF_ENABLE_WRITE (R228): A write of TF_ENABLE enables a transmit flow after checks and load admission. -/
def execTfEnableWrite (r : Req) (w : WArg) (s : State) : Host.Outcome State Fault Refusal :=
  s.live (fun d => d.writeRow Obj.TF_ENABLE r w)

/-- PACKET_SEND (R233): A transmit flow sends a packet at its send time. -/
def execPacketSend (f : Fin 2048) (x : SendPlace) (s : State) : Host.Outcome State Fault Refusal :=
  s.live (fun d => d.packetSend f.val x.n x.j)

/-- RF_COUNT_CLEAR (R242): The command clears the counters of a receive flow entry. -/
def execRfCountClear (r : Req) (w : WArg) (s : State) : Host.Outcome State Fault Refusal :=
  s.live (fun d => d.commandRow Obj.RF_COUNT_CLEAR r w)

/-- TF_COUNT_CLEAR (R242): The command clears the counters of a transmit flow entry. -/
def execTfCountClear (r : Req) (w : WArg) (s : State) : Host.Outcome State Fault Refusal :=
  s.live (fun d => d.commandRow Obj.TF_COUNT_CLEAR r w)

/-- PKT_COUNT_CLEAR (R242): The command clears the packet counters of a port. -/
def execPktCountClear (r : Req) (w : WArg) (s : State) : Host.Outcome State Fault Refusal :=
  s.live (fun d => d.commandRow Obj.PKT_COUNT_CLEAR r w)

end Sys2Proof.Machine
end

