-- ==== Sys2Proof/Machine/RowsPicture.lean ====
section
/-! DEFINITION. Composition, stills and Canopy: the meaning of each command of this group of the table. -/

namespace Sys2Proof.Machine

/-- CE_OUTPUT_WRITE (R243): A write assigns or unassigns an engine to an output. -/
def execCeOutputWrite (r : Req) (w : WArg) (s : State) : Host.Outcome State Fault Refusal :=
  s.live (fun d => d.writeRow Obj.CE_OUTPUT r w)

/-- CE_LAYER_WRITE (R247): A write sets the key record of a layer after checks. -/
def execCeLayerWrite (r : Req) (w : WArg) (s : State) : Host.Outcome State Fault Refusal :=
  s.live (fun d => d.writeRow Obj.CE_LAYER r w)

/-- CE_ORDER_WRITE (R250): A write sets the blend order of an engine. -/
def execCeOrderWrite (r : Req) (w : WArg) (s : State) : Host.Outcome State Fault Refusal :=
  s.live (fun d => d.writeRow Obj.CE_ORDER r w)

/-- ENGINE_FRAME_START (R253): At an engine's nominal frame start pending changes apply and each layer's state is decided. -/
def execEngineFrameStart (n : Fin 64) (s : State) : Host.Outcome State Fault Refusal :=
  s.live (fun d => d.engineFrame n.val)

/-- STILL_DATA_WRITE (R257): A write of STILL_DATA stores a still after size, format and region checks. -/
def execStillDataWrite (r : Req) (w : WArg) (s : State) : Host.Outcome State Fault Refusal :=
  s.live (fun d => d.writeRow Obj.STILL_DATA r w)

/-- SP_STILL_WRITE (R259): A write of SP_STILL names the still that a player plays after a bandwidth check. -/
def execSpStillWrite (r : Req) (w : WArg) (s : State) : Host.Outcome State Fault Refusal :=
  s.live (fun d => d.writeRow Obj.SP_STILL r w)

/-- CANOPY_SOURCE_WRITE (R262): A Canopy-port write names the Canopy source of a group node. -/
def execCanopySourceWrite (r : Req) (w : WArg) (s : State) : Host.Outcome State Fault Refusal :=
  s.live (fun d => d.writeRow Obj.CANOPY_SOURCE r w)

/-- CI_OUTPUT_WRITE (R265): A Canopy-port write names the output of an inserter. -/
def execCiOutputWrite (r : Req) (w : WArg) (s : State) : Host.Outcome State Fault Refusal :=
  s.live (fun d => d.writeRow Obj.CI_OUTPUT r w)

/-- CI_ON_WRITE (R265): A Canopy-port write turns an inserter on or off. -/
def execCiOnWrite (r : Req) (w : WArg) (s : State) : Host.Outcome State Fault Refusal :=
  s.live (fun d => d.writeRow Obj.CI_ON r w)

/-- CANOPY_FRAME_COMPLETE (R262): A Canopy sync completes writing a frame into one of its buffers. -/
def execCanopyFrameComplete (g : Fin 16) (s : State) : Host.Outcome State Fault Refusal :=
  s.live (fun d => d.canopyComplete g.val)

/-- CANOPY_SELECT (R263): 250 µs before an output frame start an inserter selects the newest complete Canopy frame. -/
def execCanopySelect (c : Fin 128) (s : State) : Host.Outcome State Fault Refusal :=
  s.live (fun d => d.canopySelect c.val)

/-- CANOPY_LOSS_TIMEOUT (R264): No new Canopy frame for CANOPY_LOSS_HOLD frame periods makes the sync LOST. -/
def execCanopyLossTimeout (g : Fin 16) (s : State) : Host.Outcome State Fault Refusal :=
  s.live (fun d => d.canopyLoss g.val)

/-- CANOPY_PORT_FRAME (R269): A frame arrives on the Canopy port and its Chawyn message is checked and carried out. -/
def execCanopyPortFrame (f : CanopyFrame) (s : State) : Host.Outcome State Fault Refusal :=
  s.live (fun d => d.cnFrame f)

/-- CANOPY_BYTE_GAP_TIMEOUT (R269): A gap of more than 30 µs between bytes ends a Canopy frame as bad. -/
def execCanopyByteGapTimeout (s : State) : Host.Outcome State Fault Refusal :=
  s.live Dev.cnBad

/-- CANOPY_REPLY (R270): The Canopy port drives CN_DE and sends its reply 50 µs to 1 ms after the request. -/
def execCanopyReply (s : State) : Host.Outcome State Fault Refusal :=
  s.live Dev.cnSend

/-- CE_COUNT_CLEAR (R274): The command clears the counters of one engine. -/
def execCeCountClear (r : Req) (w : WArg) (s : State) : Host.Outcome State Fault Refusal :=
  s.live (fun d => d.commandRow Obj.CE_COUNT_CLEAR r w)

/-- CANOPY_COUNT_CLEAR (R274): The Canopy-port command clears the Canopy counters. -/
def execCanopyCountClear (r : Req) (w : WArg) (s : State) : Host.Outcome State Fault Refusal :=
  s.live (fun d => d.commandRow Obj.CANOPY_COUNT_CLEAR r w)

/-- UNIT_CHECK_ERROR (R459): An internal check error of an engine, inserter or TDM port is retried, or counts toward retirement. -/
def execUnitCheckError (u : CheckedUnit) (s : State) : Host.Outcome State Fault Refusal :=
  s.live (fun d => d.unitCheck u)

end Sys2Proof.Machine
end

