-- ==== Sys2Proof/Machine/RowsService.lean ====
section
/-! DEFINITION. The store, faults, background work, update and security: the meaning of each command of this group of the table. -/

namespace Sys2Proof.Machine

/-- STORE_RECORD (R409): Applied persisted values are recorded in the store within 1 s. -/
def execStoreRecord (s : State) : Host.Outcome State Fault Refusal :=
  s.live Dev.storeRecord

/-- FAULT_SOURCE_RAISE (R442): A unit's error line latches a fault source, which takes its reaction. -/
def execFaultSourceRaise (src : Fin 288) (live : Bool) (chan : Option Channel) (s : State) : Host.Outcome State Fault Refusal :=
  s.live (fun d => d.setLine src.val live chan)

/-- FLT_LATCHED_WRITE (R442): Written 1 bits clear latched sources whose live bit is 0. -/
def execFltLatchedWrite (r : Req) (w : WArg) (s : State) : Host.Outcome State Fault Refusal :=
  s.live (fun d => d.writeRow Obj.FLT_LATCHED r w)

/-- FLT_FORCE_WRITE (R443): A write of force bits forces or unforces sources. -/
def execFltForceWrite (r : Req) (w : WArg) (s : State) : Host.Outcome State Fault Refusal :=
  s.live (fun d => d.writeRow Obj.FLT_FORCE r w)

/-- FLT_ENABLE_WRITE (R444): A write of enable bits enables or disables sources. -/
def execFltEnableWrite (r : Req) (w : WArg) (s : State) : Host.Outcome State Fault Refusal :=
  s.live (fun d => d.writeRow Obj.FLT_ENABLE r w)

/-- FLT_ACK_WRITE (R449): Written 1 bits acknowledge sources and may stop the escalation timer. -/
def execFltAckWrite (r : Req) (w : WArg) (s : State) : Host.Outcome State Fault Refusal :=
  s.live (fun d => d.writeRow Obj.FLT_ACK r w)

/-- FLT_SEVERITY_WRITE (R451): A write sets a source's severity for reactions not yet taken. -/
def execFltSeverityWrite (r : Req) (w : WArg) (s : State) : Host.Outcome State Fault Refusal :=
  s.live (fun d => d.writeRow Obj.FLT_SEVERITY r w)

/-- ESCALATION_TIMER_EXPIRY (R449): A group's escalation timer ends and unacknowledged sources take their reactions. -/
def execEscalationTimerExpiry (g : Fin 9) (s : State) : Host.Outcome State Fault Refusal :=
  s.live (fun d => d.escalationExpiry g.val)

/-- TRAIL_LOG_FLUSH (R463): Trail Log entries are written to flash within 1 s. -/
def execTrailLogFlush (s : State) : Host.Outcome State Fault Refusal :=
  s.live Dev.flushTrail

/-- FLT_COUNT_CLEAR (R471): The command clears FLT_COUNT. -/
def execFltCountClear (r : Req) (w : WArg) (s : State) : Host.Outcome State Fault Refusal :=
  s.live (fun d => d.commandRow Obj.FLT_COUNT_CLEAR r w)

/-- TABLE_SCRUB (R465): The Rambler scrubs a table and writes back corrected entries. -/
def execTableScrub (t : ScrubTable) (entry : Nat) (o : EccOutcome) (_touched : Bool) (s : State) : Host.Outcome State Fault Refusal :=
  s.live (fun d => d.tableScrub t entry o)

/-- TABLE_ENTRY_RESTORE (R466): An uncorrectable table entry is restored from the firmware copy within 1 ms. -/
def execTableEntryRestore (t : ScrubTable) (entry : Nat) (s : State) : Host.Outcome State Fault Refusal :=
  s.live (fun d => d.restoreEntry t entry)

/-- TEMPERATURE_SAMPLE (R464): The Rambler samples the die sensors every 100 ms. -/
def execTemperatureSample (temps : List (Option Int)) (s : State) : Host.Outcome State Fault Refusal :=
  s.live (fun d => d.temperature temps)

/-- FLASH_COMPACTION (R464): The Rambler compacts flash logs and levels wear. -/
def execFlashCompaction (s : State) : Host.Outcome State Fault Refusal :=
  s.live Dev.flashCompaction

/-- TELEMETRY_SNAPSHOT (R468): At each 100 ms every telemetry set is read and queued for its subscriptions. -/
def execTelemetrySnapshot (s : State) : Host.Outcome State Fault Refusal :=
  s.live Dev.telemetry

/-- TEL_SET_WRITE (R467): A write defines a host telemetry set within the size limit. -/
def execTelSetWrite (r : Req) (w : WArg) (s : State) : Host.Outcome State Fault Refusal :=
  s.live (fun d => d.writeRow Obj.TEL_SET r w)

/-- RMB_COUNT_CLEAR (R471): The command clears the Rambler counters. -/
def execRmbCountClear (r : Req) (w : WArg) (s : State) : Host.Outcome State Fault Refusal :=
  s.live (fun d => d.commandRow Obj.RMB_COUNT_CLEAR r w)

/-- CC_WATCHDOG_EXPIRY (R459): A control core watchdog expires and the core restarts, or the device resets after 3 restarts in 1
h. -/
def execCcWatchdogExpiry (c : Fin 4) (s : State) : Host.Outcome State Fault Refusal :=
  s.live (fun d => d.watchdog c.val)

/-- CALIBRATION_WRITE (R488): A write of a calibration object or CAL_SET rewrites the CALIBRATION area. -/
def execCalibrationWrite (r : Req) (o : Fin 6) (w : WArg) (s : State) : Host.Outcome State Fault Refusal :=
  s.live (fun d => d.writeRow (calObject o.val) r w)

/-- UPD_MANIFEST_WRITE (R491): A manifest is validated and staged. -/
def execUpdManifestWrite (r : Req) (w : WArg) (s : State) : Host.Outcome State Fault Refusal :=
  s.live (fun d => d.writeRow Obj.UPD_MANIFEST r w)

/-- UPD_PIECE_WRITE (R492): A piece is hashed, programmed, read back and recorded in the bitmap. -/
def execUpdPieceWrite (r : Req) (w : WArg) (s : State) : Host.Outcome State Fault Refusal :=
  s.live (fun d => d.writeRow Obj.UPD_PIECE r w)

/-- UPD_ACTIVATE (R494): The command checks, writes a TRIAL record and resets into the staged image. -/
def execUpdActivate (r : Req) (w : WArg) (s : State) : Host.Outcome State Fault Refusal :=
  s.live (fun d => d.commandRow Obj.UPD_ACTIVATE r w)

/-- UPD_REVERT (R499): The command makes a trial image fall back. -/
def execUpdRevert (r : Req) (w : WArg) (s : State) : Host.Outcome State Fault Refusal :=
  s.live (fun d => d.commandRow Obj.UPD_REVERT r w)

/-- UPD_DISCARD (R504): The command clears the staged manifest and bitmap. -/
def execUpdDiscard (r : Req) (w : WArg) (s : State) : Host.Outcome State Fault Refusal :=
  s.live (fun d => d.commandRow Obj.UPD_DISCARD r w)

/-- TRIAL_CONFIRM (R498): A trial image meets its conditions and writes a CONFIRMED record. -/
def execTrialConfirm (s : State) : Host.Outcome State Fault Refusal :=
  s.live Dev.trialConfirm

/-- TRIAL_TIMEOUT (R499): 600 s pass without confirmation and the trial image falls back. -/
def execTrialTimeout (s : State) : Host.Outcome State Fault Refusal :=
  s.live Dev.trialTimeout

/-- SEC_LIFECYCLE_SET (R500): The debug command moves LIFECYCLE forward at the next reset. -/
def execSecLifecycleSet (r : Req) (w : WArg) (s : State) : Host.Outcome State Fault Refusal :=
  s.live (fun d => d.commandRow Obj.SEC_LIFECYCLE_SET r w)

/-- SEC_ATTEST (R502): The command starts signing attestation evidence over a nonce. -/
def execSecAttest (r : Req) (w : WArg) (s : State) : Host.Outcome State Fault Refusal :=
  s.live (fun d => d.commandRow Obj.SEC_ATTEST r w)

/-- SEC_ATTEST_DONE (R502): Signing completes and SEC_EVIDENCE holds the evidence. -/
def execSecAttestDone (s : State) : Host.Outcome State Fault Refusal :=
  s.live Dev.attestDone

/-- SEC_KEY_REVOKE (R503): The command marks a vendor key slot REVOKED in OTP. -/
def execSecKeyRevoke (r : Req) (w : WArg) (s : State) : Host.Outcome State Fault Refusal :=
  s.live (fun d => d.commandRow Obj.SEC_KEY_REVOKE r w)

/-- CALIBRATION_RECORD (R488): The rewrite of the CALIBRATION area completes within 1 s of a calibration write, after which
CAL_ORIGIN reads USER and later calibration writes are no longer refused with BUSY. -/
def execCalibrationRecord (s : State) : Host.Outcome State Fault Refusal :=
  s.live Dev.calRecord

end Sys2Proof.Machine
end

