-- ==== Sys2Proof/Machine/RowsTiming.lean ====
section
/-! DEFINITION. Power, reset, references, Media Time and clocks: the meaning of each command of this group of the table. -/

namespace Sys2Proof.Machine

/-- POWER_ON (R546): Power is applied, or VDD_CORE falls below the 0.30 V power-on threshold for 100 ms; this resets the device
and is the only way to leave LOCKOUT. -/
def execPowerOn (s : State) : Host.Outcome State Fault Refusal :=
  .next { s with dev := Dev.finish s.dev.powerOn s.dev.powerOn }

/-- RESET_N_ASSERT (R546): A low level of at least 1 µs on RESET_N resets the device as completely as any reset. -/
def execResetNAssert (s : State) : Host.Outcome State Fault Refusal :=
  s.run (fun d => d.resetDevice rcBall)

/-- SUPPLY_MONITOR_RESET (R546): VDD_CORE below 0.50 V or VDDIO_1V8 below 1.55 V for 2 µs resets the device with RESET_CAUSE
POWER_ON. -/
def execSupplyMonitorReset (s : State) : Host.Outcome State Fault Refusal :=
  s.run (fun d => d.resetDevice rcPowerOn)

/-- RESET_N_RELEASE (R472): Release of RESET_N starts the boot ROM and the start-up sequence of Table 14.1. -/
def execResetNRelease (s : State) : Host.Outcome State Fault Refusal :=
  s.run Dev.releaseReset

/-- START_UP_STORE_CHECK (R481): At step 8 the store and gain area are checked and loaded, and the device enters STARTING or
LAY_BY. -/
def execStartUpStoreCheck (s : State) : Host.Outcome State Fault Refusal :=
  s.live Dev.startUpStore

/-- FM_TRAINING_STEP_DONE (R334): A step of HBM start-up training completes; a failed attempt restarts from step 3, and a third
failure retires the pseudo-channel or stops start-up. -/
def execFmTrainingStepDone (pc : Fin 64) (o : TrainOutcome) (s : State) : Host.Outcome State Fault Refusal :=
  s.live (fun d => d.fmTrained pc.val o)

/-- REF_ACTIVITY_LOSS (R34): A reference input loses activity and goes ABSENT, which may make the selector switch or enter
HOLDOVER or FREE_RUN. -/
def execRefActivityLoss (x : Silence) (s : State) : Host.Outcome State Fault Refusal :=
  s.live (fun d => d.edgeSilent x.input.val x.gap)

/-- REF_MONITOR_UPDATE (R39): A frequency monitor update measures an input's offset and moves its qualification state. -/
def execRefMonitorUpdate (i : Fin 5) (offset : Int) (sync : SyncSeen) (s : State) : Host.Outcome State Fault Refusal :=
  s.live (fun d => d.refUpdate i.val offset sync)

/-- REF_WTR_EXPIRY (R39): The wait-to-restore timer of a RESTORING input reaches zero and the input becomes QUALIFIED. -/
def execRefWtrExpiry (i : Fin 5) (s : State) : Host.Outcome State Fault Refusal :=
  s.live (fun d => d.refWtr i.val)

/-- SWITCH_WINDOW_END (R46): The 1 ms switch window ends and the selector locks to its target or chooses again under R47. -/
def execSwitchWindowEnd (phase : Int) (s : State) : Host.Outcome State Fault Refusal :=
  s.live (fun d => d.switchEnd phase)

/-- TIME_PPS_EDGE (R62): A 1PPS rising edge on TIME_PPS updates the TIME_IN gate and compares the accepted time of day with the
Media Time Counter. -/
def execTimePpsEdge (s : State) : Host.Outcome State Fault Refusal :=
  s.live Dev.ppsEdge

/-- TIME_OF_DAY_MESSAGE (R38): A 16-byte time-of-day message arrives on TIME_TOD and is accepted or discarded. -/
def execTimeOfDayMessage (msg : BitVec 128) (s : State) : Host.Outcome State Fault Refusal :=
  s.live (fun d => d.todMessage msg.toNat)

/-- THERMOS_RECORD (R50): Each second in LOCKED the Thermos records the mean frequency correction and updates THERMOS_FREQ. -/
def execThermosRecord (corr : Int) (s : State) : Host.Outcome State Fault Refusal :=
  s.live (fun d => d.thermosRecord corr)

/-- LOCAL_OSC_STABLE (R53): The clean-cycle count reaches 1,048,576 and LOCAL_OSC becomes stable. -/
def execLocalOscStable (s : State) : Host.Outcome State Fault Refusal :=
  s.live Dev.loscStable

/-- LOCAL_OSC_LOSS (R56): LOCAL_OSC loses activity: monitors freeze, the Thermos empties and the LOCAL_OSC fault latches. -/
def execLocalOscLoss (s : State) : Host.Outcome State Fault Refusal :=
  s.live Dev.loscLoss

/-- REF_RANK_WRITE (R39): A write of REF_RANK disables an input or restarts its qualification. -/
def execRefRankWrite (r : Req) (w : WArg) (s : State) : Host.Outcome State Fault Refusal :=
  s.live (fun d => d.writeRow Obj.REF_RANK r w)

/-- SEL_FORCE_WRITE (R49): A write of SEL_FORCE forces an input or HOLDOVER, or returns the selector to automatic selection. -/
def execSelForceWrite (r : Req) (w : WArg) (s : State) : Host.Outcome State Fault Refusal :=
  s.live (fun d => d.writeRow Obj.SEL_FORCE r w)

/-- MT_STEP_APPLY (R63): The command arms one Media Time step for the next 1PPS edge. -/
def execMtStepApply (r : Req) (w : WArg) (s : State) : Host.Outcome State Fault Refusal :=
  s.live (fun d => d.commandRow Obj.MT_STEP_APPLY r w)

/-- SYNTH_STROBE (R69): The command captures all CLKOUT divider shadows for the next update instant. -/
def execSynthStrobe (r : Req) (w : WArg) (s : State) : Host.Outcome State Fault Refusal :=
  s.live (fun d => d.commandRow Obj.SYNTH_STROBE r w)

/-- SYNTH_UPDATE_INSTANT (R70): At the update instant the changed CLKOUT outputs take their captured settings on a shared rising
edge. -/
def execSynthUpdateInstant (s : State) : Host.Outcome State Fault Refusal :=
  s.live Dev.synthUpdate

/-- FRAME_SYNC_IN_PULSE (R71): A rising edge on FRAME_SYNC_IN defines a CLKOUT reset instant 24 ns later. -/
def execFrameSyncInPulse (s : State) : Host.Outcome State Fault Refusal :=
  s.live Dev.frameSyncIn

/-- CLKOUT_RESET_INSTANT (R71): At the reset instant the divider of each CLKOUT in ONCE or EVERY restarts with a rising edge. -/
def execClkoutResetInstant (inPhase : BitVec 4) (s : State) : Host.Outcome State Fault Refusal :=
  s.live (fun d => d.clkReset inPhase.toNat)

/-- GATE_CLOSE_REQUEST (R76): A request to close a gate is refused, closes at once or waits for accesses in flight. -/
def execGateCloseRequest (r : Req) (w : WArg) (s : State) : Host.Outcome State Fault Refusal :=
  s.live (fun d => d.writeRow Obj.GATE_EN r { w with value := [0] })

/-- GATE_OPEN_REQUEST (R78): A request to open a gate opens it, or is refused when its parent is closed. -/
def execGateOpenRequest (r : Req) (w : WArg) (s : State) : Host.Outcome State Fault Refusal :=
  s.live (fun d => d.writeRow Obj.GATE_EN r { w with value := [1] })

/-- GATE_CLOSE_COMPLETE (R77): The accesses in flight at a waiting gate complete, the gate closes and held accesses end with an
error. -/
def execGateCloseComplete (g : Fin 37) (s : State) : Host.Outcome State Fault Refusal :=
  s.live (fun d => d.gateCloseDone g.val)

/-- GATE_CLOSE_TIMEOUT (R77): A waiting close request ends BUSY after 100 µs, and the gate stays open. -/
def execGateCloseTimeout (g : Fin 37) (s : State) : Host.Outcome State Fault Refusal :=
  s.live (fun d => d.gateCloseLate g.val)

/-- AVS_EVALUATION (R13): Every 1 ms the margin monitor reevaluates margin and requests a new VDD_CORE. -/
def execAvsEvaluation (margin : Int) (s : State) : Host.Outcome State Fault Refusal :=
  s.live (fun d => d.avsEvaluate margin)

/-- AVSBUS_TRANSACTION (R547): An AVSBus transaction to the core regulator completes, and three consecutive failures latch
AVS_BUS. -/
def execAvsbusTransaction (cmd : AvsCmd) (ok : Bool) (val : BitVec 16) (s : State) : Host.Outcome State Fault Refusal :=
  s.live (fun d => d.avsTransaction cmd ok val)

/-- AVS_ENABLE_WRITE (R563): A write of AVS_ENABLE resumes AVS control or requests 0.80 V. -/
def execAvsEnableWrite (r : Req) (w : WArg) (s : State) : Host.Outcome State Fault Refusal :=
  s.live (fun d => d.writeRow Obj.AVS_ENABLE r w)

end Sys2Proof.Machine
end

