-- ==== Sys2Proof/Machine/RowsTwin.lean ====
section
/-! DEFINITION. Twin operation and the referee: the meaning of each command of this group of the table. -/

namespace Sys2Proof.Machine

/-- DP_GRANT_RECEIVED (R348): A DP_GRANT with CODE GRANT starts a lease and makes the device act. -/
def execDpGrantReceived (body : BitVec 32) (s : State) : Host.Outcome State Fault Refusal :=
  s.live (fun d => d.grantIn body.toNat)

/-- DP_RENEW_RECEIVED (R348): A RENEW with the held LEASE_NO moves the lease end later. -/
def execDpRenewReceived (body : BitVec 32) (s : State) : Host.Outcome State Fault Refusal :=
  s.live (fun d => d.leaseRenew body.toNat)

/-- DP_REVOKE_RECEIVED (R349): A DP_REVOKE naming the lease ends it at once and DP_ACK follows. -/
def execDpRevokeReceived (body : BitVec 32) (s : State) : Host.Outcome State Fault Refusal :=
  s.live (fun d => d.leaseRevoke body.toNat)

/-- LEASE_EXPIRY (R348): The lease timer ends the lease without revocation. -/
def execLeaseExpiry (s : State) : Host.Outcome State Fault Refusal :=
  s.live Dev.leaseExpire

/-- LEASE_CLOCK_DEVIATION (R348): The lease oscillator deviates beyond ±0.2 % and the lease ends at once. -/
def execLeaseClockDeviation (s : State) : Host.Outcome State Fault Refusal :=
  s.live Dev.leaseClock

/-- DP_ACK_RECEIVED (R350): The referee checks a DP_ACK and grants the Day Pass to an eligible device. -/
def execDpAckReceived (i : Fin 2) (body : BitVec 32) (s : State) : Host.Outcome State Fault Refusal :=
  s.live (fun d => d.refereeDo (fun x => x.refAck i.val body.toNat))

/-- DP_RELEASE_RECEIVED (R350): The referee takes a DP_RELEASE as an acknowledged revocation. -/
def execDpReleaseReceived (i : Fin 2) (body : BitVec 32) (s : State) : Host.Outcome State Fault Refusal :=
  s.live (fun d => d.refereeDo (fun x => x.refRelease i.val body.toNat))

/-- REFEREE_RENEW_TICK (R350): Every 3 µs the referee renews the healthy holder. -/
def execRefereeRenewTick (s : State) : Host.Outcome State Fault Refusal :=
  s.live (fun d => d.refereeDo Dev.refTick)

/-- ROLL_CALL_TIMEOUT (R351): No good ROLL_CALL for 4 µs makes a device unhealthy at the referee. -/
def execRollCallTimeout (i : Fin 2) (s : State) : Host.Outcome State Fault Refusal :=
  s.live (fun d => d.refereeDo (fun x => x.refSilent i.val))

/-- REFEREE_GUARD_EXPIRY (R350): With no acknowledgement, the lease end plus the guard passes and the referee grants again. -/
def execRefereeGuardExpiry (s : State) : Host.Outcome State Fault Refusal :=
  s.live (fun d => d.refereeDo Dev.refGuard)

/-- VERDICT_RECEIVED (R352): A VERDICT gives the holder and suspect marks and may start a join or SUSPECT. -/
def execVerdictReceived (body : BitVec 32) (s : State) : Host.Outcome State Fault Refusal :=
  s.live (fun d => d.verdict body.toNat)

/-- ROLL_CALL_RECEIVED (R358): A ROLL_CALL updates the peer state and Media Time difference, and at the referee digests are
compared. -/
def execRollCallReceived (link : Fin 2) (body : BitVec 256) (s : State) : Host.Outcome State Fault Refusal :=
  s.live (fun d => d.rollCall link.val body)

/-- ROLL_CALL_TICK (R355): At each 3 µs tick a device sends ROLL_CALL with the digest of the last window. -/
def execRollCallTick (s : State) : Host.Outcome State Fault Refusal :=
  s.live Dev.rollTick

/-- OBJECT_SNAPSHOT (R357): At each 100 ms a snapshot digest of every shared object is taken. -/
def execObjectSnapshot (s : State) : Host.Outcome State Fault Refusal :=
  s.live Dev.objectSnapshot

/-- SEAL_RECEIVED (R343): A standby matches a SEAL to its copy for application at E, or sends WRITE_FETCH. -/
def execSealReceived (rseq : Nat) (body : BitVec 248) (s : State) : Host.Outcome State Fault Refusal :=
  s.live (fun d => d.recIn rseq (fun d => d.sealIn body.toNat))

/-- PHASE_RECEIVED (R194): A standby receives an input timing record. -/
def execPhaseReceived (rseq : Nat) (ip : Fin 1024) (fseq : BitVec 8) (_frame : BitVec 32) (phase : BitVec 32) (s : State) : Host.Outcome State Fault Refusal :=
  s.live (fun d => d.recIn rseq (fun d => d.phaseIn ip.val fseq.toNat phase.toNat))

/-- FS_DECISION_RECEIVED (R194): A standby receives a frame sync decision. -/
def execFsDecisionReceived (rseq : Nat) (ip : Fin 1024) (outFrame : BitVec 32) (inFrame : BitVec 32) (action : BitVec 8) (s : State) : Host.Outcome State Fault Refusal :=
  s.live (fun d => d.recIn rseq (fun d => d.fsRecordIn ip.val outFrame.toNat inFrame.toNat action.toNat))

/-- VIDEO_PRESENCE_RECEIVED (R227): A standby receives a video presence record. -/
def execVideoPresenceReceived (rseq : Nat) (window : BitVec 32) (final : Bool) (entries : List (Nat × Nat × Nat)) (s : State) : Host.Outcome State Fault Refusal :=
  s.live (fun d => d.recIn rseq (fun d => d.videoPresence window.toNat final entries))

/-- AUDIO_PRESENCE_RECEIVED (R283): A standby receives an audio presence record. -/
def execAudioPresenceReceived (rseq : Nat) (window : BitVec 32) (final : Bool) (entries : List (Nat × Nat)) (s : State) : Host.Outcome State Fault Refusal :=
  s.live (fun d => d.recIn rseq (fun d => d.audioPresence window.toNat final entries))

/-- CANOPY_SELECT_RECEIVED (R263): A standby receives an inserter's Canopy selection. -/
def execCanopySelectReceived (rseq : Nat) (c : Fin 128) (outFrame : BitVec 32) (canopyFrame : BitVec 32) (s : State) : Host.Outcome State Fault Refusal :=
  s.live (fun d => d.recIn rseq (fun d => d.canopyRecordIn c.val outFrame.toNat canopyFrame.toNat))

/-- TDM_EVENT_RECEIVED (R283): A standby receives a TDM anchor, replace, mute or unmute decision. -/
def execTdmEventReceived (rseq : Nat) (a : Fin 32) (kind : BitVec 8) (stamp : BitVec 96) (s : State) : Host.Outcome State Fault Refusal :=
  s.live (fun d => d.recIn rseq (fun d => d.tdmEvent a.val kind.toNat stamp.toNat))

/-- WRITE_FETCH_RECEIVED (R343): The holder answers a WRITE_FETCH with WRITE_COPY records. -/
def execWriteFetchReceived (sealSeq : BitVec 32) (s : State) : Host.Outcome State Fault Refusal :=
  s.live (fun d => d.onTw0 (fun d => d.writeFetch sealSeq.toNat))

/-- WRITE_COPY_RECEIVED (R343): A standby receives the parts of a sealed message it lacked. -/
def execWriteCopyReceived (sealSeq : BitVec 32) (part : BitVec 16) (last : Bool) (bytes : List Byte) (s : State) : Host.Outcome State Fault Refusal :=
  s.live (fun d => d.onTw0 (fun d => d.writeCopy sealSeq.toNat part.toNat last bytes))

/-- JOIN_REQ_RECEIVED (R367): The holder accepts a JOIN_REQ with TS, or refuses it. -/
def execJoinReqReceived (format : BitVec 16) (_fw : BitVec 32) (s : State) : Host.Outcome State Fault Refusal :=
  s.live (fun d => d.onTw0 (fun d => d.joinReq format.toNat))

/-- JOIN_ACK_RECEIVED (R365): The joiner receives JOIN_ACK and awaits the snapshot, or enters SUSPECT. -/
def execJoinAckReceived (result : BitVec 8) (ts : BitVec 96) (s : State) : Host.Outcome State Fault Refusal :=
  s.live (fun d => d.onTw0 (fun d => d.joinAck result.toNat ts.toNat))

/-- SNAPSHOT_RECEIVED (R365): The joiner receives a snapshot part and loads the whole snapshot after the last one. -/
def execSnapshotReceived (part : BitVec 32) (x : SnapPart) (s : State) : Host.Outcome State Fault Refusal :=
  s.live (fun d => d.onTw0 (fun d => d.snapIn part.toNat x))

/-- JOIN_DONE_RECEIVED (R367): A JOIN_DONE ends a join as hot or failed. -/
def execJoinDoneReceived (result : BitVec 8) (s : State) : Host.Outcome State Fault Refusal :=
  s.live (fun d => d.onTw0 (fun d => d.joinDone result.toNat))

/-- JOIN_FILL_COMPLETE (R365): Every frame sync, delay, store and audio delay of the joiner holds its full history. -/
def execJoinFillComplete (s : State) : Host.Outcome State Fault Refusal :=
  s.live Dev.joinFilled

/-- REJOIN_HOLDOFF_EXPIRY (R359): TWIN_REJOIN_HOLDOFF ends and a SUSPECT device begins a join. -/
def execRejoinHoldoffExpiry (s : State) : Host.Outcome State Fault Refusal :=
  s.live Dev.holdoffEnd

/-- UNSEALED_COPY_TIMEOUT (R343): A copy that no SEAL matched within 2 ms is discarded and counted. -/
def execUnsealedCopyTimeout (s : State) : Host.Outcome State Fault Refusal :=
  s.live Dev.copyTimeout

/-- TWIN_JOIN (R353): The command starts a join from SUSPECT or DETACHED. -/
def execTwinJoin (r : Req) (w : WArg) (s : State) : Host.Outcome State Fault Refusal :=
  s.live (fun d => d.commandRow Obj.TWIN_JOIN r w)

/-- DP_RELEASE (R349): The command gives up the lease with DP_RELEASE. -/
def execDpRelease (r : Req) (w : WArg) (s : State) : Host.Outcome State Fault Refusal :=
  s.live (fun d => d.commandRow Obj.DP_RELEASE r w)

/-- REF_HANDOVER (R350): The referee command revokes the holder with reason HANDOVER. -/
def execRefHandover (r : Req) (w : WArg) (s : State) : Host.Outcome State Fault Refusal :=
  s.live (fun d => d.commandRow Obj.REF_HANDOVER r w)

/-- TWIN_COUNT_CLEAR (R373): The command clears the twin counters. -/
def execTwinCountClear (r : Req) (w : WArg) (s : State) : Host.Outcome State Fault Refusal :=
  s.live (fun d => d.commandRow Obj.TWIN_COUNT_CLEAR r w)

/-- TWIN_MODE_WRITE (R341): A write of TWIN_MODE in LAY_BY sets PAIR or SOLO for the next START. -/
def execTwinModeWrite (r : Req) (w : WArg) (s : State) : Host.Outcome State Fault Refusal :=
  s.live (fun d => d.writeRow Obj.TWIN_MODE r w)

/-- PRESENCE_WINDOW_END (R363): At the end of each 10 µs video or 50 µs audio presence window, the holder sends that window's
presence record, with FINAL and COUNT 0 when the window has no entries. -/
def execPresenceWindowEnd (audio : Bool) (s : State) : Host.Outcome State Fault Refusal :=
  s.live (fun d => d.presenceEnd audio)

/-- JOIN_SNAPSHOT_TS (R365): At TS, its acceptance time plus 2 ms, the holder captures the shared objects and run state that its
SNAPSHOT records carry, dividing sealed writes into those in the snapshot and those the joiner applies afterwards. -/
def execJoinSnapshotTs (s : State) : Host.Outcome State Fault Refusal :=
  s.live Dev.joinCapture

end Sys2Proof.Machine
end

