-- ==== Sys2Proof/Machine/RowsVideo.lean ====
section
/-! DEFINITION. Outputs, takes, Hampers and frame syncs: the meaning of each command of this group of the table. -/

namespace Sys2Proof.Machine

/-- OUTPUT_FRAME_START (R165): At an output frame start the output stage chooses the cadence of the next frame. -/
def execOutputFrameStart (p : Fin 1024) (s : State) : Host.Outcome State Fault Refusal :=
  s.live (fun d => d.outputFrame p.val)

/-- OUTPUT_SWITCH_POINT (R170): The output cadence reaches a switch point. -/
def execOutputSwitchPoint (p : Fin 1024) (second : Bool) (s : State) : Host.Outcome State Fault Refusal :=
  s.live (fun d => d.outSwitchPoint p.val second)

/-- TAKE (R429): A TAKE message, or a WRITE to 0x11.0001, accepts or refuses take records and gives each its E. -/
def execTake (r : Req) (recs : List (BitVec 128)) (s : State) : Host.Outcome State Fault Refusal :=
  s.live (fun d => d.request r (.take recs))

/-- TAKE_CANCEL (R179): The command withdraws the pending take of one destination. -/
def execTakeCancel (r : Req) (w : WArg) (s : State) : Host.Outcome State Fault Refusal :=
  s.live (fun d => d.commandRow Obj.TAKE_CANCEL r w)

/-- HAMPER_ENTRIES_WRITE (R182): A write replaces the whole of one Hamper after checking every entry. -/
def execHamperEntriesWrite (r : Req) (w : WArg) (s : State) : Host.Outcome State Fault Refusal :=
  s.live (fun d => d.writeRow Obj.HAMPER_ENTRIES r w)

/-- HAMPER_FIRE (R183): The command arms every entry of a Hamper with one E. -/
def execHamperFire (r : Req) (w : WArg) (s : State) : Host.Outcome State Fault Refusal :=
  s.live (fun d => d.commandRow Obj.HAMPER_FIRE r w)

/-- HAMPER_ARMED (R185): All entries of a fired Hamper are armed and it becomes IN_PROGRESS. -/
def execHamperArmed (h : Fin 256) (s : State) : Host.Outcome State Fault Refusal :=
  s.live (fun d => d.hamperArmed h.val)

/-- HAMPER_ABORT (R186): The command withdraws the unexecuted entries of a Hamper at its E. -/
def execHamperAbort (r : Req) (w : WArg) (s : State) : Host.Outcome State Fault Refusal :=
  s.live (fun d => d.commandRow Obj.HAMPER_ABORT r w)

/-- HAMPER_CLEAR (R186): The command empties a STORED Hamper at its E. -/
def execHamperClear (r : Req) (w : WArg) (s : State) : Host.Outcome State Fault Refusal :=
  s.live (fun d => d.commandRow Obj.HAMPER_CLEAR r w)

/-- FS_MODE_WRITE (R187): A write of FS_MODE sets an input to OFF, SYNC or DELAY after a capacity check. -/
def execFsModeWrite (r : Req) (w : WArg) (s : State) : Host.Outcome State Fault Refusal :=
  s.live (fun d => d.writeRow Obj.FS_MODE r w)

/-- FS_DELAY_FRAMES_WRITE (R192): A change of FS_DELAY_FRAMES moves the delay at the next frame start. -/
def execFsDelayFramesWrite (r : Req) (w : WArg) (s : State) : Host.Outcome State Fault Refusal :=
  s.live (fun d => d.writeRow Obj.FS_DELAY_FRAMES r w)

/-- IN_GANG_WRITE (R193): A write of IN_GANG is checked against capacity and packet mode. -/
def execInGangWrite (r : Req) (w : WArg) (s : State) : Host.Outcome State Fault Refusal :=
  s.live (fun d => d.writeRow Obj.IN_GANG r w)

/-- FS_FRAME_COMPLETE (R189): The last word of an arriving frame is written to frame memory and the frame is complete. -/
def execFsFrameComplete (p : Fin 1024) (s : State) : Host.Outcome State Fault Refusal :=
  s.live (fun d => d.frameComplete p.val)

/-- FS_DECISION (R190): 250 µs before a presented frame, the frame sync decides to present, drop or repeat. -/
def execFsDecision (p : Fin 1024) (s : State) : Host.Outcome State Fault Refusal :=
  s.live (fun d => d.fsDecision p.val)

/-- TAKE_COUNT_CLEAR (R197): The command clears the take counters of its own device. -/
def execTakeCountClear (r : Req) (w : WArg) (s : State) : Host.Outcome State Fault Refusal :=
  s.live (fun d => d.commandRow Obj.TAKE_COUNT_CLEAR r w)

/-- IN_COUNT_CLEAR (R197): The command clears the counters of one input port. -/
def execInCountClear (r : Req) (w : WArg) (s : State) : Host.Outcome State Fault Refusal :=
  s.live (fun d => d.commandRow Obj.IN_COUNT_CLEAR r w)

/-- OUT_COUNT_CLEAR (R197): The command clears the counters of one output port. -/
def execOutCountClear (r : Req) (w : WArg) (s : State) : Host.Outcome State Fault Refusal :=
  s.live (fun d => d.commandRow Obj.OUT_COUNT_CLEAR r w)

/-- FS_COUNT_CLEAR (R197): The command clears the frame sync counters of one input. -/
def execFsCountClear (r : Req) (w : WArg) (s : State) : Host.Outcome State Fault Refusal :=
  s.live (fun d => d.commandRow Obj.FS_COUNT_CLEAR r w)

end Sys2Proof.Machine
end

