-- ==== Sys2Proof/Machine/Dispatch.lean ====
section
/-! DEFINITION. The dispatch: one arm per command, each one direct call of its meaning. -/

namespace Sys2Proof.Machine

def exec (i : Instr) (s : State) : Host.Outcome State Fault Refusal :=
  match i with
  | .powerOn => Sys2Proof.Machine.execPowerOn s
  | .resetNAssert => Sys2Proof.Machine.execResetNAssert s
  | .supplyMonitorReset => Sys2Proof.Machine.execSupplyMonitorReset s
  | .resetNRelease => Sys2Proof.Machine.execResetNRelease s
  | .startUpStoreCheck => Sys2Proof.Machine.execStartUpStoreCheck s
  | .fmTrainingStepDone pc o => Sys2Proof.Machine.execFmTrainingStepDone pc o s
  | .refActivityLoss x => Sys2Proof.Machine.execRefActivityLoss x s
  | .refMonitorUpdate n offset sync => Sys2Proof.Machine.execRefMonitorUpdate n offset sync s
  | .refWtrExpiry n => Sys2Proof.Machine.execRefWtrExpiry n s
  | .switchWindowEnd phase => Sys2Proof.Machine.execSwitchWindowEnd phase s
  | .timePpsEdge => Sys2Proof.Machine.execTimePpsEdge s
  | .timeOfDayMessage msg => Sys2Proof.Machine.execTimeOfDayMessage msg s
  | .thermosRecord corr => Sys2Proof.Machine.execThermosRecord corr s
  | .localOscStable => Sys2Proof.Machine.execLocalOscStable s
  | .localOscLoss => Sys2Proof.Machine.execLocalOscLoss s
  | .refRankWrite r w => Sys2Proof.Machine.execRefRankWrite r w s
  | .selForceWrite r w => Sys2Proof.Machine.execSelForceWrite r w s
  | .mtStepApply r w => Sys2Proof.Machine.execMtStepApply r w s
  | .synthStrobe r w => Sys2Proof.Machine.execSynthStrobe r w s
  | .synthUpdateInstant => Sys2Proof.Machine.execSynthUpdateInstant s
  | .frameSyncInPulse => Sys2Proof.Machine.execFrameSyncInPulse s
  | .clkoutResetInstant inPhase => Sys2Proof.Machine.execClkoutResetInstant inPhase s
  | .gateCloseRequest r w => Sys2Proof.Machine.execGateCloseRequest r w s
  | .gateOpenRequest r w => Sys2Proof.Machine.execGateOpenRequest r w s
  | .gateCloseComplete g => Sys2Proof.Machine.execGateCloseComplete g s
  | .gateCloseTimeout g => Sys2Proof.Machine.execGateCloseTimeout g s
  | .avsEvaluation margin => Sys2Proof.Machine.execAvsEvaluation margin s
  | .avsbusTransaction cmd ok val => Sys2Proof.Machine.execAvsbusTransaction cmd ok val s
  | .avsEnableWrite r w => Sys2Proof.Machine.execAvsEnableWrite r w s
  | .laneEnWrite r w => Sys2Proof.Machine.execLaneEnWrite r w s
  | .laneSpareModeWrite r w => Sys2Proof.Machine.execLaneSpareModeWrite r w s
  | .terminationTest l found => Sys2Proof.Machine.execTerminationTest l found s
  | .trainingWordReceived l word => Sys2Proof.Machine.execTrainingWordReceived l word s
  | .eyeMarginMeasured l margin => Sys2Proof.Machine.execEyeMarginMeasured l margin s
  | .trainWordTimeout l => Sys2Proof.Machine.execTrainWordTimeout l s
  | .trainLockTimeout l => Sys2Proof.Machine.execTrainLockTimeout l s
  | .lockTimeout l => Sys2Proof.Machine.execLockTimeout l s
  | .exchangeTimeout l => Sys2Proof.Machine.execExchangeTimeout l s
  | .signalSquelch l => Sys2Proof.Machine.execSignalSquelch l s
  | .laneTestModeWrite r w => Sys2Proof.Machine.execLaneTestModeWrite r w s
  | .laneCountClear r w => Sys2Proof.Machine.execLaneCountClear r w s
  | .retirementPoint g => Sys2Proof.Machine.execRetirementPoint g s
  | .spareRequestReceived l lane code => Sys2Proof.Machine.execSpareRequestReceived l lane code s
  | .spareAckReceived l lane => Sys2Proof.Machine.execSpareAckReceived l lane s
  | .spareGoReceived l lane => Sys2Proof.Machine.execSpareGoReceived l lane s
  | .spareTakeoverTimeout g => Sys2Proof.Machine.execSpareTakeoverTimeout g s
  | .spareReleaseTimeout g => Sys2Proof.Machine.execSpareReleaseTimeout g s
  | .laneRestart r w => Sys2Proof.Machine.execLaneRestart r w s
  | .laneSpareForce r w => Sys2Proof.Machine.execLaneSpareForce r w s
  | .spareCheckStart g => Sys2Proof.Machine.execSpareCheckStart g s
  | .spareCheckEnd g height width => Sys2Proof.Machine.execSpareCheckEnd g height width s
  | .laneEyeMeasurement l height width => Sys2Proof.Machine.execLaneEyeMeasurement l height width s
  | .groupSignalLoss g => Sys2Proof.Machine.execGroupSignalLoss g s
  | .basketReceived l steady blocks => Sys2Proof.Machine.execBasketReceived l steady blocks s
  | .capReceived l body => Sys2Proof.Machine.execCapReceived l body s
  | .capAckReceived l body => Sys2Proof.Machine.execCapAckReceived l body s
  | .slotStatusReceived l body => Sys2Proof.Machine.execSlotStatusReceived l body s
  | .healthReceived l body => Sys2Proof.Machine.execHealthReceived l body s
  | .slotPosition x => Sys2Proof.Machine.execSlotPosition x s
  | .inputStageBasket g k => Sys2Proof.Machine.execInputStageBasket g k s
  | .groupNodeIngress src => Sys2Proof.Machine.execGroupNodeIngress src s
  | .outputFrameStart p => Sys2Proof.Machine.execOutputFrameStart p s
  | .outputSwitchPoint p second => Sys2Proof.Machine.execOutputSwitchPoint p second s
  | .take r recs => Sys2Proof.Machine.execTake r recs s
  | .takeCancel r w => Sys2Proof.Machine.execTakeCancel r w s
  | .hamperEntriesWrite r w => Sys2Proof.Machine.execHamperEntriesWrite r w s
  | .hamperFire r w => Sys2Proof.Machine.execHamperFire r w s
  | .hamperArmed h => Sys2Proof.Machine.execHamperArmed h s
  | .hamperAbort r w => Sys2Proof.Machine.execHamperAbort r w s
  | .hamperClear r w => Sys2Proof.Machine.execHamperClear r w s
  | .fsModeWrite r w => Sys2Proof.Machine.execFsModeWrite r w s
  | .fsDelayFramesWrite r w => Sys2Proof.Machine.execFsDelayFramesWrite r w s
  | .inGangWrite r w => Sys2Proof.Machine.execInGangWrite r w s
  | .fsFrameComplete p => Sys2Proof.Machine.execFsFrameComplete p s
  | .fsDecision p => Sys2Proof.Machine.execFsDecision p s
  | .takeCountClear r w => Sys2Proof.Machine.execTakeCountClear r w s
  | .inCountClear r w => Sys2Proof.Machine.execInCountClear r w s
  | .outCountClear r w => Sys2Proof.Machine.execOutCountClear r w s
  | .fsCountClear r w => Sys2Proof.Machine.execFsCountClear r w s
  | .packetReceive g k => Sys2Proof.Machine.execPacketReceive g k s
  | .positionDeadline f frame pos => Sys2Proof.Machine.execPositionDeadline f frame pos s
  | .rfLegDown f => Sys2Proof.Machine.execRfLegDown f s
  | .rfEnableWrite r w => Sys2Proof.Machine.execRfEnableWrite r w s
  | .rfPlayoutWrite r w => Sys2Proof.Machine.execRfPlayoutWrite r w s
  | .tfEnableWrite r w => Sys2Proof.Machine.execTfEnableWrite r w s
  | .packetSend f x => Sys2Proof.Machine.execPacketSend f x s
  | .rfCountClear r w => Sys2Proof.Machine.execRfCountClear r w s
  | .tfCountClear r w => Sys2Proof.Machine.execTfCountClear r w s
  | .pktCountClear r w => Sys2Proof.Machine.execPktCountClear r w s
  | .ceOutputWrite r w => Sys2Proof.Machine.execCeOutputWrite r w s
  | .ceLayerWrite r w => Sys2Proof.Machine.execCeLayerWrite r w s
  | .ceOrderWrite r w => Sys2Proof.Machine.execCeOrderWrite r w s
  | .engineFrameStart n => Sys2Proof.Machine.execEngineFrameStart n s
  | .stillDataWrite r w => Sys2Proof.Machine.execStillDataWrite r w s
  | .spStillWrite r w => Sys2Proof.Machine.execSpStillWrite r w s
  | .canopySourceWrite r w => Sys2Proof.Machine.execCanopySourceWrite r w s
  | .ciOutputWrite r w => Sys2Proof.Machine.execCiOutputWrite r w s
  | .ciOnWrite r w => Sys2Proof.Machine.execCiOnWrite r w s
  | .canopyFrameComplete g => Sys2Proof.Machine.execCanopyFrameComplete g s
  | .canopySelect c => Sys2Proof.Machine.execCanopySelect c s
  | .canopyLossTimeout g => Sys2Proof.Machine.execCanopyLossTimeout g s
  | .canopyPortFrame f => Sys2Proof.Machine.execCanopyPortFrame f s
  | .canopyByteGapTimeout => Sys2Proof.Machine.execCanopyByteGapTimeout s
  | .canopyReply => Sys2Proof.Machine.execCanopyReply s
  | .ceCountClear r w => Sys2Proof.Machine.execCeCountClear r w s
  | .canopyCountClear r w => Sys2Proof.Machine.execCanopyCountClear r w s
  | .unitCheckError u => Sys2Proof.Machine.execUnitCheckError u s
  | .audioBlockArrival ao x => Sys2Proof.Machine.execAudioBlockArrival ao x s
  | .audioBlockDeadline ao n => Sys2Proof.Machine.execAudioBlockDeadline ao n s
  | .shufSrcWrite r w => Sys2Proof.Machine.execShufSrcWrite r w s
  | .aoDelayWrite r w => Sys2Proof.Machine.execAoDelayWrite r w s
  | .mixerBlock n => Sys2Proof.Machine.execMixerBlock n s
  | .mixJournalAdd r w => Sys2Proof.Machine.execMixJournalAdd r w s
  | .mixGainRowWrite r w => Sys2Proof.Machine.execMixGainRowWrite r w s
  | .mixJournalDiscard r w => Sys2Proof.Machine.execMixJournalDiscard r w s
  | .mixCommit r w => Sys2Proof.Machine.execMixCommit r w s
  | .gainStoreRecord => Sys2Proof.Machine.execGainStoreRecord s
  | .tdmFrame a f => Sys2Proof.Machine.execTdmFrame a f s
  | .tdmQualified a => Sys2Proof.Machine.execTdmQualified a s
  | .tdmClockLoss a => Sys2Proof.Machine.execTdmClockLoss a s
  | .tdmSlipCheck a instantAt => Sys2Proof.Machine.execTdmSlipCheck a instantAt s
  | .apEnableWrite r w => Sys2Proof.Machine.execApEnableWrite r w s
  | .tdmLeadEnd a => Sys2Proof.Machine.execTdmLeadEnd a s
  | .tdmStopStep a => Sys2Proof.Machine.execTdmStopStep a s
  | .aoCountClear r w => Sys2Proof.Machine.execAoCountClear r w s
  | .mixCountClear r w => Sys2Proof.Machine.execMixCountClear r w s
  | .apCountClear r w => Sys2Proof.Machine.execApCountClear r w s
  | .fmRequest x => Sys2Proof.Machine.execFmRequest x s
  | .fmCeWriteback unit => Sys2Proof.Machine.execFmCeWriteback unit s
  | .fmRefreshTick pc sid bank => Sys2Proof.Machine.execFmRefreshTick pc sid bank s
  | .fmTempSample st temp => Sys2Proof.Machine.execFmTempSample st temp s
  | .fmRhSubwindow => Sys2Proof.Machine.execFmRhSubwindow s
  | .fmRhThrottleEnd cls inst => Sys2Proof.Machine.execFmRhThrottleEnd cls inst s
  | .fmPageIdleClose pc bank => Sys2Proof.Machine.execFmPageIdleClose pc bank s
  | .fmRetrainStart => Sys2Proof.Machine.execFmRetrainStart s
  | .fmRetrainStep stack pc centred width => Sys2Proof.Machine.execFmRetrainStep stack pc centred width s
  | .fmPcRetire r w => Sys2Proof.Machine.execFmPcRetire r w s
  | .fmRetireCopyDone => Sys2Proof.Machine.execFmRetireCopyDone s
  | .fmRetireClear r w => Sys2Proof.Machine.execFmRetireClear r w s
  | .fmCountClear r w => Sys2Proof.Machine.execFmCountClear r w s
  | .fmScrub ecc => Sys2Proof.Machine.execFmScrub ecc s
  | .dpGrantReceived body => Sys2Proof.Machine.execDpGrantReceived body s
  | .dpRenewReceived body => Sys2Proof.Machine.execDpRenewReceived body s
  | .dpRevokeReceived body => Sys2Proof.Machine.execDpRevokeReceived body s
  | .leaseExpiry => Sys2Proof.Machine.execLeaseExpiry s
  | .leaseClockDeviation => Sys2Proof.Machine.execLeaseClockDeviation s
  | .dpAckReceived d body => Sys2Proof.Machine.execDpAckReceived d body s
  | .dpReleaseReceived d body => Sys2Proof.Machine.execDpReleaseReceived d body s
  | .refereeRenewTick => Sys2Proof.Machine.execRefereeRenewTick s
  | .rollCallTimeout d => Sys2Proof.Machine.execRollCallTimeout d s
  | .refereeGuardExpiry => Sys2Proof.Machine.execRefereeGuardExpiry s
  | .verdictReceived body => Sys2Proof.Machine.execVerdictReceived body s
  | .rollCallReceived link body => Sys2Proof.Machine.execRollCallReceived link body s
  | .rollCallTick => Sys2Proof.Machine.execRollCallTick s
  | .objectSnapshot => Sys2Proof.Machine.execObjectSnapshot s
  | .sealReceived rseq body => Sys2Proof.Machine.execSealReceived rseq body s
  | .phaseReceived rseq ip fseq frame phase => Sys2Proof.Machine.execPhaseReceived rseq ip fseq frame phase s
  | .fsDecisionReceived rseq ip outFrame inFrame action => Sys2Proof.Machine.execFsDecisionReceived rseq ip outFrame inFrame action s
  | .videoPresenceReceived rseq window final entries => Sys2Proof.Machine.execVideoPresenceReceived rseq window final entries s
  | .audioPresenceReceived rseq window final entries => Sys2Proof.Machine.execAudioPresenceReceived rseq window final entries s
  | .canopySelectReceived rseq c outFrame canopyFrame => Sys2Proof.Machine.execCanopySelectReceived rseq c outFrame canopyFrame s
  | .tdmEventReceived rseq a kind stamp => Sys2Proof.Machine.execTdmEventReceived rseq a kind stamp s
  | .writeFetchReceived sealSeq => Sys2Proof.Machine.execWriteFetchReceived sealSeq s
  | .writeCopyReceived sealSeq part last bytes => Sys2Proof.Machine.execWriteCopyReceived sealSeq part last bytes s
  | .joinReqReceived format fw => Sys2Proof.Machine.execJoinReqReceived format fw s
  | .joinAckReceived result ts => Sys2Proof.Machine.execJoinAckReceived result ts s
  | .snapshotReceived part x => Sys2Proof.Machine.execSnapshotReceived part x s
  | .joinDoneReceived result => Sys2Proof.Machine.execJoinDoneReceived result s
  | .joinFillComplete => Sys2Proof.Machine.execJoinFillComplete s
  | .rejoinHoldoffExpiry => Sys2Proof.Machine.execRejoinHoldoffExpiry s
  | .unsealedCopyTimeout => Sys2Proof.Machine.execUnsealedCopyTimeout s
  | .twinJoin r w => Sys2Proof.Machine.execTwinJoin r w s
  | .dpRelease r w => Sys2Proof.Machine.execDpRelease r w s
  | .refHandover r w => Sys2Proof.Machine.execRefHandover r w s
  | .twinCountClear r w => Sys2Proof.Machine.execTwinCountClear r w s
  | .twinModeWrite r w => Sys2Proof.Machine.execTwinModeWrite r w s
  | .mgFrameReceived m f => Sys2Proof.Machine.execMgFrameReceived m f s
  | .mgFrameTransmit m => Sys2Proof.Machine.execMgFrameTransmit m s
  | .mgCollision m bit => Sys2Proof.Machine.execMgCollision m bit s
  | .mgBackoffExpiry m => Sys2Proof.Machine.execMgBackoffExpiry m s
  | .mgAccessWindow m => Sys2Proof.Machine.execMgAccessWindow m s
  | .mgGateCycleStart m => Sys2Proof.Machine.execMgGateCycleStart m s
  | .mgCountClear r w => Sys2Proof.Machine.execMgCountClear r w s
  | .read r refs => Sys2Proof.Machine.execRead r refs s
  | .objectWrite r apply it => Sys2Proof.Machine.execObjectWrite r apply it s
  | .writeSet r apply items => Sys2Proof.Machine.execWriteSet r apply items s
  | .subscribe r recs => Sys2Proof.Machine.execSubscribe r recs s
  | .bulkRead r ref offset size => Sys2Proof.Machine.execBulkRead r ref offset size s
  | .bulkWrite r b => Sys2Proof.Machine.execBulkWrite r b s
  | .bulkTransferExpiry => Sys2Proof.Machine.execBulkTransferExpiry s
  | .responseCacheExpiry => Sys2Proof.Machine.execResponseCacheExpiry s
  | .subscriptionExpiry pair slot => Sys2Proof.Machine.execSubscriptionExpiry pair slot s
  | .eventSend pair slot => Sys2Proof.Machine.execEventSend pair slot s
  | .writeApplyAtE => Sys2Proof.Machine.execWriteApplyAtE s
  | .start r w => Sys2Proof.Machine.execStart r w s
  | .startingEntry => Sys2Proof.Machine.execStartingEntry s
  | .devLayby r w => Sys2Proof.Machine.execDevLayby r w s
  | .devReset r w => Sys2Proof.Machine.execDevReset r w s
  | .chCountClear r w => Sys2Proof.Machine.execChCountClear r w s
  | .storeRecord => Sys2Proof.Machine.execStoreRecord s
  | .faultSourceRaise src live chan => Sys2Proof.Machine.execFaultSourceRaise src live chan s
  | .fltLatchedWrite r w => Sys2Proof.Machine.execFltLatchedWrite r w s
  | .fltForceWrite r w => Sys2Proof.Machine.execFltForceWrite r w s
  | .fltEnableWrite r w => Sys2Proof.Machine.execFltEnableWrite r w s
  | .fltAckWrite r w => Sys2Proof.Machine.execFltAckWrite r w s
  | .fltSeverityWrite r w => Sys2Proof.Machine.execFltSeverityWrite r w s
  | .escalationTimerExpiry g => Sys2Proof.Machine.execEscalationTimerExpiry g s
  | .trailLogFlush => Sys2Proof.Machine.execTrailLogFlush s
  | .fltCountClear r w => Sys2Proof.Machine.execFltCountClear r w s
  | .tableScrub t entry o touched => Sys2Proof.Machine.execTableScrub t entry o touched s
  | .tableEntryRestore t entry => Sys2Proof.Machine.execTableEntryRestore t entry s
  | .temperatureSample temps => Sys2Proof.Machine.execTemperatureSample temps s
  | .flashCompaction => Sys2Proof.Machine.execFlashCompaction s
  | .telemetrySnapshot => Sys2Proof.Machine.execTelemetrySnapshot s
  | .telSetWrite r w => Sys2Proof.Machine.execTelSetWrite r w s
  | .rmbCountClear r w => Sys2Proof.Machine.execRmbCountClear r w s
  | .ccWatchdogExpiry c => Sys2Proof.Machine.execCcWatchdogExpiry c s
  | .calibrationWrite r o w => Sys2Proof.Machine.execCalibrationWrite r o w s
  | .updManifestWrite r w => Sys2Proof.Machine.execUpdManifestWrite r w s
  | .updPieceWrite r w => Sys2Proof.Machine.execUpdPieceWrite r w s
  | .updActivate r w => Sys2Proof.Machine.execUpdActivate r w s
  | .updRevert r w => Sys2Proof.Machine.execUpdRevert r w s
  | .updDiscard r w => Sys2Proof.Machine.execUpdDiscard r w s
  | .trialConfirm => Sys2Proof.Machine.execTrialConfirm s
  | .trialTimeout => Sys2Proof.Machine.execTrialTimeout s
  | .secLifecycleSet r w => Sys2Proof.Machine.execSecLifecycleSet r w s
  | .secAttest r w => Sys2Proof.Machine.execSecAttest r w s
  | .secAttestDone => Sys2Proof.Machine.execSecAttestDone s
  | .secKeyRevoke r w => Sys2Proof.Machine.execSecKeyRevoke r w s
  | .busTransaction t => Sys2Proof.Machine.execBusTransaction t s
  | .busGrant t newly => Sys2Proof.Machine.execBusGrant t newly s
  | .tapReset => Sys2Proof.Machine.execTapReset s
  | .extest => Sys2Proof.Machine.execExtest s
  | .samplePreload preload => Sys2Proof.Machine.execSamplePreload preload s
  | .idcode => Sys2Proof.Machine.execIdcode s
  | .clamp => Sys2Proof.Machine.execClamp s
  | .highz => Sys2Proof.Machine.execHighz s
  | .dbgAccess => Sys2Proof.Machine.execDbgAccess s
  | .bypass => Sys2Proof.Machine.execBypass s
  | .dmHalt cores => Sys2Proof.Machine.execDmHalt cores s
  | .dmResume cores => Sys2Proof.Machine.execDmResume cores s
  | .dmStep cores => Sys2Proof.Machine.execDmStep cores s
  | .dmHaltComplete c pc => Sys2Proof.Machine.execDmHaltComplete c pc s
  | .dmCmpCtrlWrite data => Sys2Proof.Machine.execDmCmpCtrlWrite data s
  | .dmCmpHitsClear data => Sys2Proof.Machine.execDmCmpHitsClear data s
  | .dmComparatorMatch c k x => Sys2Proof.Machine.execDmComparatorMatch c k x s
  | .dmMemGo data => Sys2Proof.Machine.execDmMemGo data s
  | .dmMemDataAuto write data => Sys2Proof.Machine.execDmMemDataAuto write data s
  | .dmMemAccessDone x => Sys2Proof.Machine.execDmMemAccessDone x s
  | .dmMemOverrunClear data => Sys2Proof.Machine.execDmMemOverrunClear data s
  | .dmMbxTxWrite data => Sys2Proof.Machine.execDmMbxTxWrite data s
  | .dmMbxGo data => Sys2Proof.Machine.execDmMbxGo data s
  | .dmMbxRxRead => Sys2Proof.Machine.execDmMbxRxRead s
  | .dmMbxRxDone data => Sys2Proof.Machine.execDmMbxRxDone data s
  | .dmRegisterWrite reg data => Sys2Proof.Machine.execDmRegisterWrite reg data s
  | .dbgCountClear r w => Sys2Proof.Machine.execDbgCountClear r w s
  | .lanePrbsLock l n bits => Sys2Proof.Machine.execLanePrbsLock l n bits s
  | .mgPlcaBeacon m busy => Sys2Proof.Machine.execMgPlcaBeacon m busy s
  | .calibrationRecord => Sys2Proof.Machine.execCalibrationRecord s
  | .presenceWindowEnd audio => Sys2Proof.Machine.execPresenceWindowEnd audio s
  | .joinSnapshotTs => Sys2Proof.Machine.execJoinSnapshotTs s

end Sys2Proof.Machine
end

