-- ==== Sys2Proof/Machine/Idle.lean ====
section
/-! DEFINITION. What passes while no command waits: one 4 ns tick of the clock (R57, R58, R60), the activity of TIME_IN that runs
out (R34), and frames that leave a management port as their time on the medium ends. DESIGN CHOICE: the table has no row for the tick. -/

namespace Sys2Proof.Machine

/-- A frame on the medium whose last bit has gone has left (R391); a BEACON that stays away is missed (R384). -/
def Dev.mgTime (d : Dev) (m : Nat) : Dev :=
  let d := d.beaconWatch m
  if (d.mac m).endAt ≠ 0 ∧ (d.mac m).endAt ≤ d.clock then Dev.mgLeft m (d.txDone m) else d

/-- Frame memory in a tick: the controller's 1.6 GHz give 6 clocks (R311, R321). -/
def Dev.fmTime (d : Dev) : Dev :=
  if d.fm.queues = [] ∧ d.fm.buffer = [] ∧ d.fm.held = [] then d else d.fmSettle.fmRun (freeClocks 6)

/-- What a standby must decide itself, since its time has come without the holder's record: frames, audio blocks, packet positions, TDM
port moves (R195, R284). -/
def Dev.mirrorTime (d : Dev) : Dev :=
  let d := (smKeys d.ins).foldl (fun d p => d.fsSettle p d.now) d
  if !d.follows then d
  else
    let d := (smKeys d.aos).foldl (fun d a => d.audioSettle a) d
    let d := (d.trueOf Obj.RF_ENABLE).foldl (fun d f => if (d.store (d.storeOwner f)).due = [] then d else d.positionSettle f) d
    (smKeys d.aps).foldl (fun d a => d.overdue a) d

/-- One tick of an idle block; a device that RESET_N holds stands still. -/
def Dev.idle (d : Dev) : Dev :=
  if d.life.held then d
  else
    let n : Dev := { d with time := d.time.tick }
    Dev.finish d ((n.timeInWatch.mgTime 0).mgTime 1).fmTime.mirrorTime

/-- An idle step of the block. -/
def State.idle (s : State) : State := { s with dev := s.dev.idle }

end Sys2Proof.Machine
end

