-- ==== Sys2Proof/WellFormed.lean ====
section
/-! DEFINITION. The commands that a wire or a unit can bring: operands that lists and numbers hold more loosely than their source
does. Every meaning is defined on the others too; nothing is claimed about those. -/

namespace Sys2Proof

/-- A Basket or training frame is 33 blocks (R88). -/
def WireBasket.wf (b : WireBasket) : Bool := b.blocks.length == 33

/-- A TDM16 frame holds 16 slots (R300). -/
def TdmFrame.wf (f : TdmFrame) : Bool := f.sdin.length == 16

/-- A write brings as many bytes as it is long, and a request touches at least one (R320). -/
def FmReq.wf (q : FmReq) : Bool := decide (1 ≤ q.len) && (!q.write || q.data.length == q.len)

/-- A write brings one byte and one strobe for each byte of its beats (R507). -/
def BusTxn.wf (t : BusTxn) : Bool :=
  !t.write || (t.data.length == t.size * t.beats && t.strobe.length == t.size * t.beats)

/-- The receive ring has 256 descriptors (R396). -/
def MgFrame.wf (f : MgFrame) : Bool := decide (f.avail ≤ 256)

/-- A memory access brings back at most 16 bytes (R528). -/
def MemOutcome.wf (x : MemOutcome) : Bool := decide (x.data.length ≤ 16)

/-- Entries of a scrubbed table (Table 13.16). -/
def ScrubTable.entries : ScrubTable → Nat
  | .subscription => 1128
  | .crosspoint => 1024
  | .shuffle => 37376
  | .rxFlow => 4096
  | .txFlow => 2048
  | .layer => 512
  | .canopy => 144
  | .journal => 65536
  | .gain => 4096

/-- A value or a list of references fits the 65,535 bytes of a payload (R417). -/
def fits (bytes : Nat) : Bool := decide (bytes ≤ 65535)

/-- A command that its source can bring. A command without a line of its own has operands that are all in range by their types. -/
def Instr.wf : Instr → Bool
  | .basketReceived _ steady blocks => (WireBasket.mk blocks steady).wf
  | .positionDeadline _ _ pos => decide (pos < 2 ^ 32)
  | .audioBlockArrival _ x => decide (1 ≤ x.ais.length) && decide (x.ais.length ≤ 4)
  | .tdmFrame _ f => f.wf
  | .fmRequest x => x.req.wf
  | .fmCeWriteback unit => decide (unit < 1610612736)
  | .lanePrbsLock _ n bits => decide (bits < 2 ^ n)
  | .sealReceived rseq _ => decide (rseq < 65536)
  | .phaseReceived rseq _ _ _ _ => decide (rseq < 65536)
  | .fsDecisionReceived rseq _ _ _ _ => decide (rseq < 65536)
  | .videoPresenceReceived rseq _ _ es =>
    decide (rseq < 65536) && decide (es.length ≤ 41) && es.all (fun e => decide (e.1 < 65536 ∧ e.2.1 < 256 ∧ e.2.2 < 2 ^ 24))
  | .audioPresenceReceived rseq _ _ es =>
    decide (rseq < 65536) && decide (es.length ≤ 61) && es.all (fun e => decide (e.1 < 65536 ∧ e.2 < 65536))
  | .canopySelectReceived rseq _ _ _ => decide (rseq < 65536)
  | .tdmEventReceived rseq _ _ _ => decide (rseq < 65536)
  | .writeCopyReceived _ _ _ bytes => decide (1 ≤ bytes.length) && decide (bytes.length ≤ 245)
  | .mgFrameReceived _ f => f.wf
  | .take _ recs => fits (16 * recs.length)
  | .read _ refs => fits (8 * refs.length)
  | .objectWrite _ _ it => fits (it.value.length + 24)
  | .writeSet _ _ items => fits (items.foldl (fun n it => n + it.value.length + 12) 12)
  | .subscribe _ recs => fits (32 * recs.length)
  | .bulkWrite _ b => fits (b.data.length + 36)
  | .tableScrub t e _ _ => decide (e < t.entries)
  | .tableEntryRestore t e => decide (e < t.entries)
  | .temperatureSample temps => temps.length == 8
  | .busTransaction t => t.wf
  | .busGrant _ newly => decide (newly.map (·.1)).Nodup
  | .dmMemAccessDone x => x.wf
  | _ => true

end Sys2Proof
end

