-- ==== Sys2Proof/Safety.lean ====
section
/-! DEFINITION. What a safe run means, in the terms that claims use: a step that goes on, and the invariants of the block. -/

namespace Sys2Proof.Machine

/-- A step goes on: it answers a next state. -/
def State.goesOn (s : State) : Prop := ∃ t, step s = .next t

/-- LOCKOUT is latched: the device reads it, and only power takes it back (R455). -/
def Dev.lockedOut (d : Dev) : Prop := d.nv.lockout = true ∧ d.life.phase = .lockout

/-- A latched lockout and the phase agree. -/
def Dev.lockoutAgrees (d : Dev) : Prop := d.nv.lockout = true → d.life.phase = .lockout

/-- The lists of frame memory and of control RAM are in canonical form (R311; Table 15.2). -/
abbrev Dev.memWf (d : Dev) : Prop := smWf (fun _ => 0) d.fm.cells = true ∧ smWf (fun _ => none) d.bus.ram = true

/-- The commands that reach a device which RESET_N or a supply holds: power, supply, reset, and the TAP's instructions. Model's choice:
log entry 4. -/
def reachesHeld (c : Instr) : Bool :=
  match c with
  | .powerOn | .resetNAssert | .supplyMonitorReset | .resetNRelease | .tapReset | .extest | .samplePreload _ | .idcode | .clamp
  | .highz | .dbgAccess | .bypass => true
  | _ => false

/-! ### Messages that rows of the command table carry -/

/-- The WRITE that a row of the command table carries: its request, APPLY and item (R426). -/
def carriedWrite (i : Instr) : Option (Req × BitVec 96 × Item) :=
  match i with
  | .shufSrcWrite r w => some (r, w.apply, ⟨argRef Obj.SHUF_SRC w, w.value⟩)
  | .aoDelayWrite r w => some (r, w.apply, ⟨argRef Obj.AO_DELAY w, w.value⟩)
  | .mixJournalAdd r w => some (r, w.apply, ⟨argRef Obj.MIX_JOURNAL_ADD w, w.value⟩)
  | .mixGainRowWrite r w => some (r, w.apply, ⟨argRef Obj.MIX_GAIN_ROW w, w.value⟩)
  | .apEnableWrite r w => some (r, w.apply, ⟨argRef Obj.AP_ENABLE w, w.value⟩)
  | .laneEnWrite r w => some (r, w.apply, ⟨argRef Obj.LANE_EN w, w.value⟩)
  | .laneSpareModeWrite r w => some (r, w.apply, ⟨argRef Obj.LANE_SPARE_MODE w, w.value⟩)
  | .laneTestModeWrite r w => some (r, w.apply, ⟨argRef Obj.LANE_TEST_MODE w, w.value⟩)
  | .rfEnableWrite r w => some (r, w.apply, ⟨argRef Obj.RF_ENABLE w, w.value⟩)
  | .rfPlayoutWrite r w => some (r, w.apply, ⟨argRef Obj.RF_PLAYOUT w, w.value⟩)
  | .tfEnableWrite r w => some (r, w.apply, ⟨argRef Obj.TF_ENABLE w, w.value⟩)
  | .ceOutputWrite r w => some (r, w.apply, ⟨argRef Obj.CE_OUTPUT w, w.value⟩)
  | .ceLayerWrite r w => some (r, w.apply, ⟨argRef Obj.CE_LAYER w, w.value⟩)
  | .ceOrderWrite r w => some (r, w.apply, ⟨argRef Obj.CE_ORDER w, w.value⟩)
  | .stillDataWrite r w => some (r, w.apply, ⟨argRef Obj.STILL_DATA w, w.value⟩)
  | .spStillWrite r w => some (r, w.apply, ⟨argRef Obj.SP_STILL w, w.value⟩)
  | .canopySourceWrite r w => some (r, w.apply, ⟨argRef Obj.CANOPY_SOURCE w, w.value⟩)
  | .ciOutputWrite r w => some (r, w.apply, ⟨argRef Obj.CI_OUTPUT w, w.value⟩)
  | .ciOnWrite r w => some (r, w.apply, ⟨argRef Obj.CI_ON w, w.value⟩)
  | .fltLatchedWrite r w => some (r, w.apply, ⟨argRef Obj.FLT_LATCHED w, w.value⟩)
  | .fltForceWrite r w => some (r, w.apply, ⟨argRef Obj.FLT_FORCE w, w.value⟩)
  | .fltEnableWrite r w => some (r, w.apply, ⟨argRef Obj.FLT_ENABLE w, w.value⟩)
  | .fltAckWrite r w => some (r, w.apply, ⟨argRef Obj.FLT_ACK w, w.value⟩)
  | .fltSeverityWrite r w => some (r, w.apply, ⟨argRef Obj.FLT_SEVERITY w, w.value⟩)
  | .telSetWrite r w => some (r, w.apply, ⟨argRef Obj.TEL_SET w, w.value⟩)
  | .calibrationWrite r o w => some (r, w.apply, ⟨argRef (calObject o.val) w, w.value⟩)
  | .updManifestWrite r w => some (r, w.apply, ⟨argRef Obj.UPD_MANIFEST w, w.value⟩)
  | .updPieceWrite r w => some (r, w.apply, ⟨argRef Obj.UPD_PIECE w, w.value⟩)
  | .refRankWrite r w => some (r, w.apply, ⟨argRef Obj.REF_RANK w, w.value⟩)
  | .selForceWrite r w => some (r, w.apply, ⟨argRef Obj.SEL_FORCE w, w.value⟩)
  | .avsEnableWrite r w => some (r, w.apply, ⟨argRef Obj.AVS_ENABLE w, w.value⟩)
  | .twinModeWrite r w => some (r, w.apply, ⟨argRef Obj.TWIN_MODE w, w.value⟩)
  | .hamperEntriesWrite r w => some (r, w.apply, ⟨argRef Obj.HAMPER_ENTRIES w, w.value⟩)
  | .fsModeWrite r w => some (r, w.apply, ⟨argRef Obj.FS_MODE w, w.value⟩)
  | .fsDelayFramesWrite r w => some (r, w.apply, ⟨argRef Obj.FS_DELAY_FRAMES w, w.value⟩)
  | .inGangWrite r w => some (r, w.apply, ⟨argRef Obj.IN_GANG w, w.value⟩)
  | .objectWrite r a it => some (r, a, it)
  | _ => none

/-- The COMMAND that a row of the command table carries: its request, APPLY, object, element and argument (R428). -/
def carriedCommand (i : Instr) : Option (Req × BitVec 96 × Ref × Bytes) :=
  match i with
  | .mixJournalDiscard r w => some (r, w.apply, argRef Obj.MIX_JOURNAL_DISCARD w, w.value)
  | .mixCommit r w => some (r, w.apply, argRef Obj.MIX_COMMIT w, w.value)
  | .aoCountClear r w => some (r, w.apply, argRef Obj.AO_COUNT_CLEAR w, w.value)
  | .mixCountClear r w => some (r, w.apply, argRef Obj.MIX_COUNT_CLEAR w, w.value)
  | .apCountClear r w => some (r, w.apply, argRef Obj.AP_COUNT_CLEAR w, w.value)
  | .mgCountClear r w => some (r, w.apply, argRef Obj.MG_COUNT_CLEAR w, w.value)
  | .start r w => some (r, w.apply, argRef Obj.START w, w.value)
  | .devLayby r w => some (r, w.apply, argRef Obj.DEV_LAYBY w, w.value)
  | .devReset r w => some (r, w.apply, argRef Obj.DEV_RESET w, w.value)
  | .chCountClear r w => some (r, w.apply, argRef Obj.CH_COUNT_CLEAR w, w.value)
  | .dbgCountClear r w => some (r, w.apply, argRef Obj.DBG_COUNT_CLEAR w, w.value)
  | .laneCountClear r w => some (r, w.apply, argRef Obj.LANE_COUNT_CLEAR w, w.value)
  | .laneRestart r w => some (r, w.apply, argRef Obj.LANE_RESTART w, w.value)
  | .laneSpareForce r w => some (r, w.apply, argRef Obj.LANE_SPARE_FORCE w, w.value)
  | .fmPcRetire r w => some (r, w.apply, argRef Obj.FM_PC_RETIRE w, w.value)
  | .fmRetireClear r w => some (r, w.apply, argRef Obj.FM_RETIRE_CLEAR w, w.value)
  | .fmCountClear r w => some (r, w.apply, argRef Obj.FM_COUNT_CLEAR w, w.value)
  | .rfCountClear r w => some (r, w.apply, argRef Obj.RF_COUNT_CLEAR w, w.value)
  | .tfCountClear r w => some (r, w.apply, argRef Obj.TF_COUNT_CLEAR w, w.value)
  | .pktCountClear r w => some (r, w.apply, argRef Obj.PKT_COUNT_CLEAR w, w.value)
  | .ceCountClear r w => some (r, w.apply, argRef Obj.CE_COUNT_CLEAR w, w.value)
  | .canopyCountClear r w => some (r, w.apply, argRef Obj.CANOPY_COUNT_CLEAR w, w.value)
  | .fltCountClear r w => some (r, w.apply, argRef Obj.FLT_COUNT_CLEAR w, w.value)
  | .rmbCountClear r w => some (r, w.apply, argRef Obj.RMB_COUNT_CLEAR w, w.value)
  | .updActivate r w => some (r, w.apply, argRef Obj.UPD_ACTIVATE w, w.value)
  | .updRevert r w => some (r, w.apply, argRef Obj.UPD_REVERT w, w.value)
  | .updDiscard r w => some (r, w.apply, argRef Obj.UPD_DISCARD w, w.value)
  | .secLifecycleSet r w => some (r, w.apply, argRef Obj.SEC_LIFECYCLE_SET w, w.value)
  | .secAttest r w => some (r, w.apply, argRef Obj.SEC_ATTEST w, w.value)
  | .secKeyRevoke r w => some (r, w.apply, argRef Obj.SEC_KEY_REVOKE w, w.value)
  | .mtStepApply r w => some (r, w.apply, argRef Obj.MT_STEP_APPLY w, w.value)
  | .synthStrobe r w => some (r, w.apply, argRef Obj.SYNTH_STROBE w, w.value)
  | .twinJoin r w => some (r, w.apply, argRef Obj.TWIN_JOIN w, w.value)
  | .dpRelease r w => some (r, w.apply, argRef Obj.DP_RELEASE w, w.value)
  | .refHandover r w => some (r, w.apply, argRef Obj.REF_HANDOVER w, w.value)
  | .twinCountClear r w => some (r, w.apply, argRef Obj.TWIN_COUNT_CLEAR w, w.value)
  | .takeCancel r w => some (r, w.apply, argRef Obj.TAKE_CANCEL w, w.value)
  | .hamperFire r w => some (r, w.apply, argRef Obj.HAMPER_FIRE w, w.value)
  | .hamperAbort r w => some (r, w.apply, argRef Obj.HAMPER_ABORT w, w.value)
  | .hamperClear r w => some (r, w.apply, argRef Obj.HAMPER_CLEAR w, w.value)
  | .takeCountClear r w => some (r, w.apply, argRef Obj.TAKE_COUNT_CLEAR w, w.value)
  | .inCountClear r w => some (r, w.apply, argRef Obj.IN_COUNT_CLEAR w, w.value)
  | .outCountClear r w => some (r, w.apply, argRef Obj.OUT_COUNT_CLEAR w, w.value)
  | .fsCountClear r w => some (r, w.apply, argRef Obj.FS_COUNT_CLEAR w, w.value)
  | _ => none

/-- A device that nothing holds takes up a message (R342, R344, R418 to R423): its port passes clocks, it is a request, the device acts
where the message went to the pair's address, no response to an earlier copy is kept, and steps 2 to 5 of Table 12.6 pass. -/
def Dev.takesUp (d : Dev) (r : Req) (p : Payload) : Prop :=
  d.life.held = false ∧ d.portOpen r.port = true ∧ r.response = false ∧ (pairSent r = true → d.acts = true) ∧ d.keptFor r = none ∧
  (structureStatus r p).1 = stOk

/-! ### Clears -/

/-- Counters `ns` of the elements `is_`, as keys of the register file. -/
def clearKeys (ns is_ : List Nat) : List Nat := ns.flatMap (fun n => is_.map (fun i => objKey n i))

/-- The counters that a COUNT_CLEAR command of object `c`, element `i`, clears (R460 and the table of each area); none for other
objects. -/
def countClear (c i : Nat) : List Nat :=
  if c = Obj.LANE_COUNT_CLEAR then clearKeys (Obj.LANE_SAT :: laneCounters) [i]
  else if c = Obj.TAKE_COUNT_CLEAR then clearKeys [Obj.TAKES_EXECUTED, Obj.TAKES_LATE, Obj.TAKES_DIRTY, Obj.TAKES_REFUSED] [0]
  else if c = Obj.IN_COUNT_CLEAR then clearKeys [Obj.IN_MARK_DISAGREE, Obj.IN_DISCONT, Obj.IN_HOLES, Obj.IN_GANG_SKEW] [i]
  else if c = Obj.OUT_COUNT_CLEAR then clearKeys [Obj.OUT_REPHASE, Obj.OUT_DIRTY, Obj.OUT_UNDERFLOW] [i]
  else if c = Obj.FS_COUNT_CLEAR then
    clearKeys [Obj.FS_DROPS, Obj.FS_REPEATS] [i] ++ (if i = 0 then clearKeys [Obj.FS_MIRROR_MISS] [0] else [])
  else if c = Obj.RF_COUNT_CLEAR then clearKeys rfCounters [i]
  else if c = Obj.TF_COUNT_CLEAR then clearKeys [Obj.TF_PKTS, Obj.TF_BYTES, Obj.TF_LATE_DATA] [i]
  else if c = Obj.PKT_COUNT_CLEAR then clearKeys [Obj.GW_REANCHOR, Obj.PKT_FCS_ERR, Obj.PKT_HDR_ERR, Obj.PKT_UNMATCHED] [i]
  else if c = Obj.CE_COUNT_CLEAR then
    clearKeys [Obj.CE_BG_ABSENT] [i] ++ clearKeys [Obj.CE_LAYER_DROPOUTS, Obj.CE_LAYER_UNDERRUN] ((List.range 8).map (8 * i + ·))
  else if c = Obj.CANOPY_COUNT_CLEAR then
    clearKeys [Obj.CN_FRAMES_OK, Obj.CN_FRAMES_BAD, Obj.CN_REFUSED, Obj.CANOPY_MIRROR_MISS] [0] ++ clearKeys [Obj.CI_FRAMES] (List.range 128)
  else if c = Obj.AO_COUNT_CLEAR then
    clearKeys [Obj.AO_ABSENT, Obj.AO_LATE_DROP] [i] ++ (if i = 0 then clearKeys [Obj.AUD_MIRROR_GAP, Obj.AUD_MIRROR_MISS] [0] else [])
  else if c = Obj.MIX_COUNT_CLEAR then
    clearKeys [Obj.MIX_COMMITS, Obj.MIX_ECC_ERR] [0] ++ clearKeys [Obj.MIX_OUT_SAT] (List.range 4096)
  else if c = Obj.AP_COUNT_CLEAR then clearKeys [Obj.AP_REPLACED, Obj.AP_MUTES, Obj.AP_SLIPS] [i]
  else if c = Obj.FM_COUNT_CLEAR then
    clearKeys fmCounters [i] ++ (if i = 0 then
      clearKeys [Obj.FM_SCRUB_PASSES] [0] ++ clearKeys [Obj.FM_CLASS_OVER] (List.range 6) ++ clearKeys [Obj.FM_HOT_ENTRIES] (List.range 2)
      else [])
  else if c = Obj.TWIN_COUNT_CLEAR then clearKeys [Obj.DP_GRANTS, Obj.DP_EXPIRIES, Obj.TWIN_DIGEST_MISMATCH, Obj.TWIN_JOINS,
    Obj.TWIN_JOIN_FAILS, Obj.TWIN_UNSEALED, Obj.TWIN_RECORDS_LOST, Obj.REF_GRANTS] [0]
  else if c = Obj.MG_COUNT_CLEAR then clearKeys (Obj.MG_SAT :: mgCounters) [i]
  else if c = Obj.CH_COUNT_CLEAR then clearKeys [Obj.CH_EVENTS_DROPPED, Obj.CH_BULK_EXPIRED] [0] ++
    clearKeys [Obj.CH_REQUESTS, Obj.CH_REFUSED, Obj.CH_MALFORMED, Obj.CH_DUPLICATES] (List.range 5)
  else if c = Obj.FLT_COUNT_CLEAR then clearKeys [Obj.FLT_COUNT] (List.range 288)
  else if c = Obj.RMB_COUNT_CLEAR then clearKeys [Obj.RMB_TABLE_CE, Obj.RMB_TABLE_UE] [0] ++ clearKeys [Obj.RMB_RUNS] (List.range 7)
  else if c = Obj.DBG_COUNT_CLEAR then clearKeys [Obj.DBG_REFUSED, Obj.DBG_HALT_REFUSED, Obj.DBG_MEM_ACCESSES] [0] ++
    clearKeys [Obj.BUS_OUTSTANDING_MAX, Obj.BUS_ERRORS] (List.range 9) ++ clearKeys [Obj.BUS_AGED, Obj.BUS_GRANTS] (List.range 12)
  else []

end Sys2Proof.Machine
end

