-- ==== Sys2Proof/Certificates/Slice0/Obligations.lean ====
section
/-! DEFINITION. The statements about the model. Each says of a group of commands, or of a kind of state, what the numbered rules of the
spec say of it; a clause that rests on a choice of the model names its log entry. -/

open Sys2Proof Sys2Proof.Machine

/-- A step takes the command at the front of the queue and runs it with the queue's rest; an empty queue lets 4 ns pass, and a device
that RESET_N holds stands still. Model's choice: what an empty queue does, log entry 3. -/
def Obligations.StepRunsTheFront : Prop :=
  (∀ (c : Instr) (s : State), step { s with pending := c :: s.pending } = exec c s) ∧
  (∀ s : State, s.pending = [] → step s = .next { s with dev := s.dev.idle }) ∧
  (∀ s : State, s.pending = [] → s.dev.life.held = true → step s = .next s) ∧
  (∀ d : Dev, d.life.held = false →
    d.idle = Dev.finish d (((({ d with time := d.time.tick } : Dev).timeInWatch.mgTime 0).mgTime 1).fmTime.mirrorTime))

/-- Every command is carried out, whatever the state, and leaves the queue as it was; only a control bus transaction that lies in a unit
window whose contents the spec leaves undocumented is refused (R510). -/
def Obligations.EveryCommandIsCarriedOut : Prop :=
  ∀ (c : Instr) (s : State),
    (∃ t, exec c s = .next t ∧ t.pending = s.pending) ∨
    (exec c s = .refused .undocumentedWindow ∧ s.dev.life.held = false ∧
      ∃ t, c = .busTransaction t ∧ 0x40000000 ≤ t.addr.toNat ∧ t.addr.toNat < 0x80000000 ∧
        (t.addr.toNat / 0x1000000 - 64 < 59 ∨ t.addr.toNat / 0x1000000 - 64 = 63))

/-- Nothing but power, supply, reset and the TAP's instructions changes a device that RESET_N holds. Model's choice: log entry 4. -/
def Obligations.HeldDeviceStandsStill : Prop :=
  (∀ (c : Instr) (s : State), s.dev.life.held = true → reachesHeld c = false → exec c s = .next s) ∧
  (∀ (c : Instr) (s t : State), s.dev.life.held = true → s.dev.life.resetCause < 2 → s.dev.dbg.releaseHeld = false →
    c ≠ .resetNRelease → exec c s = .next t → t.dev.life.held = true)

/-- LOCKOUT is entered whole and left by power alone (R455): every step keeps the latch and the phase in agreement, and a locked-out
device stays locked out under every command but POWER_ON. -/
def Obligations.LockoutHolds : Prop :=
  ∀ s t : State, step s = .next t → s.dev.lockoutAgrees →
    t.dev.lockoutAgrees ∧
    (s.dev.lockedOut → (∀ rest, s.pending ≠ .powerOn :: rest) → t.dev.lockedOut ∧ t.dev.devState = 7)

/-- The device after reset: every object of the dictionary at its default, nothing listed, RESET_N low, the queue empty, no lockout. -/
def Obligations.StateAtReset : Prop :=
  (∀ n i : Nat, State.reset.dev.reg n i = keyDefault (objKey n i)) ∧ (∀ n i : Nat, State.reset.dev.blob n i = []) ∧
  State.reset.pending = [] ∧ State.reset.dev.life.held = true ∧ State.reset.dev.devState = 0 ∧ State.reset.dev.fixedScheme = true ∧
  State.reset.dev.lockoutAgrees ∧ State.reset.dev.nv.lockout = false ∧ smWf keyDefault State.reset.dev.regs = true ∧
  (∀ u, State.reset.dev.fmPoisoned u = false)

/-- A request written out by Tables 12.4 and 12.5 reads back as itself, whatever its fields hold, wherever COUNT and LENGTH say what is
there (R417, R418, R425 to R434). -/
def Obligations.MessagesReadBack : Prop :=
  ∀ (r : Req) (p : Payload), payloadParses r.count.toNat p = true → r.length.toNat = (payloadBytes p).length →
    parseMessage r.port r.src r.toPair r.tag (messageBytes r p) = some (r, p)

/-- The scheme of the fault collector (R445). -/
def Obligations.CollectorScheme : Prop :=
  ∀ d : Dev,
    (d.fixedScheme = true ↔ (d.devState = 0 ∨ d.devState = 1 ∨ d.devState = 3 ∨ d.devState = 2) ∨ d.twinState = twJoining) ∧
    d.liveVal Obj.FLT_SCHEME 0 = some (if d.fixedScheme then 0 else 1) ∧
    (∀ s, d.latchSeverity s = if d.fixedScheme then (match d.reg Obj.FLT_CLASS s with | 0 => 1 | 1 => 2 | _ => 6)
      else d.reg Obj.FLT_SEVERITY s)

/-- IDCODE (R519). -/
def Obligations.DeviceIdentification : Prop :=
  ∀ d : Dev,
    fld d.idWord 31 28 = d.nv.stepping % 16 ∧ fld d.idWord 27 12 = 0x1024 ∧ fld d.idWord 11 1 = 0x51A ∧ bitOf d.idWord 0 = true ∧
    d.idWord < 2 ^ 32 ∧ (d.nv.stepping = 1 → d.idWord = 0x11024A35)

/-- The places of ports on lanes (R26, R27): a lane's slots are the four ports 64g + 4l + s, for arriving and for leaving Baskets alike, and a spare
lane carries the ports of the lane that it has taken over and no others, while no move of it is under way. -/
def Obligations.PortPositions : Prop :=
  (∀ (d : Dev) (p g l s : Nat), p < 1024 → g = p / 64 → l = p % 64 / 4 → s = p % 4 → (d.group g).move = .none →
    (d.reg Obj.LANE_SPARE_FOR g ≠ l →
      d.portOf (17 * g + l) s = some p ∧ d.portIn (17 * g + l) s = some p ∧ 64 * g + 4 * l + s = p) ∧
    (d.reg Obj.LANE_SPARE_FOR g = l →
      d.portOf (spareOf g) s = some p ∧ d.portIn (spareOf g) s = some p ∧
      d.portOf (17 * g + l) s = none ∧ d.portIn (17 * g + l) s = none)) ∧
  (∀ (d : Dev) (g l s : Nat), g < 16 → l < 16 → s < 4 → (d.group g).move = .none → d.reg Obj.LANE_SPARE_FOR g ≠ l →
    d.portOf (17 * g + l) s = some (64 * g + 4 * l + s) ∧ d.portIn (17 * g + l) s = some (64 * g + 4 * l + s) ∧
    (64 * g + 4 * l + s) / 64 = g ∧ (64 * g + 4 * l + s) % 64 / 4 = l ∧ (64 * g + 4 * l + s) % 4 = s) ∧
  (∀ (d : Dev) (g s : Nat), g < 16 → (d.group g).move = .none → 16 ≤ d.reg Obj.LANE_SPARE_FOR g →
    d.portOf (spareOf g) s = none ∧ d.portIn (spareOf g) s = none)

/-- The instants of audio samples and blocks on the Media Time line, truncated to SUBNS (R66). -/
def Obligations.AudioInstants : Prop :=
  (∀ k : Nat, 48000 * sampleTime k ≤ k * subSec ∧ k * subSec < 48000 * (sampleTime k + 1)) ∧
  (∀ n : Nat, 3000 * blockTime n ≤ n * subSec ∧ n * subSec < 3000 * (blockTime n + 1)) ∧
  (∀ n : Nat, blockTime n = sampleTime (16 * n)) ∧ subSec = 1000000000 * 2 ^ 16

/-- The register file and its counters: what is written is read back, every other element keeps its value, the canonical form is kept;
a 32-bit counter saturates, holds, and joins CNT_SAT_LIST (R404, R408, R460). -/
def Obligations.RegistersAndCounters : Prop :=
  ∀ (d : Dev) (n i : Nat), smWf keyDefault d.regs = true → i < 65536 →
    (∀ v, (d.setReg n i v).reg n i = v ∧ smWf keyDefault (d.setReg n i v).regs = true ∧
      ∀ m j, j < 65536 → (m ≠ n ∨ j ≠ i) → (d.setReg n i v).reg m j = d.reg m j) ∧
    (∀ k, d.reg n i + k < 0xFFFFFFFF → d.count n i k = d.setReg n i (d.reg n i + k)) ∧
    (∀ k, d.reg n i = 0xFFFFFFFF → d.count n i k = d) ∧
    (∀ k, d.reg n i < 0xFFFFFFFF → 0xFFFFFFFF ≤ d.reg n i + k →
      refBits (refOf n i) ∈ (d.count n i k).flt.sat ∧
      (n ∉ [Obj.LANE_SAT, Obj.MG_SAT, Obj.TRAIL_NEXT_SEQ, Obj.CH_EVENTS_DROPPED] → (d.count n i k).reg n i = 0xFFFFFFFF))

/-- What follows a command at once, where nothing is due: only the subscriptions' notices. The fault lines stand as the state has them, no
reaction is asked for, no scheme, holder, link state, capability or service has changed, and no lockout is latched (R438, R442, R445,
R447). -/
def Obligations.NothingElseFollows : Prop :=
  ∀ (old d : Dev), d.syncLines = d → d.flt.todo = [] → d.life.held = false → (d.dbg.releaseHeld = true → d.ballsTaken = true) →
    old.laneState tw0 = d.laneState tw0 → (∀ kv ∈ d.lanes, kv.2.farCaps = (old.lane kv.1).farCaps) →
    (∀ kv ∈ d.outs, kv.2.serving = true → d.outService kv.1 = true) → old.fixedScheme = d.fixedScheme →
    old.reg Obj.TWIN_HOLDER = d.reg Obj.TWIN_HOLDER → (d.devState = 5 ↔ d.life.activeSince.isSome = true) → d.avsHold = d →
    old.nv.lockout = false → d.nv.lockout = false →
    (Dev.finish old d = old.notices d ∧
      ∃ own pair, old.notices d = { d with ch := { d.ch with subOwn := own, subPair := pair } }) ∧
    ((∀ k < 16, subLive (d.reg Obj.SUB_OWN k) 1 = false) → d.acts = false → Dev.finish old d = d)

/-- Power and reset (R455, R463, R472, R500, R526, R546): what each clears, and what non-volatile state keeps. What hidden fields start as is
the model's choice, log entry 2.
Rows: POWER_ON, RESET_N_ASSERT, SUPPLY_MONITOR_RESET. -/
def Obligations.PowerOnAndReset : Prop :=
  (∀ s : State, exec .powerOn s = .next { s with dev := s.dev.powerOn } ∧
    s.dev.powerOn.life.held = true ∧ s.dev.powerOn.life.resetCause = rcPowerOn ∧ s.dev.powerOn.life.phase = .booting ∧
    s.dev.powerOn.nv.lockout = false) ∧
  (∀ s : State, exec .resetNAssert s = .next { s with dev := s.dev.resetDevice rcBall }) ∧
  (∀ s : State, exec .supplyMonitorReset s = .next { s with dev := s.dev.resetDevice rcPowerOn }) ∧
  (∀ (d : Dev) (c : Nat),
    (d.resetDevice c).life = { phase := if d.nv.lockout then .lockout else .booting, held := true, resetCause := c } ∧
    (d.resetDevice c).nv = { d.nv with lifecycle := max d.nv.lifecycle d.nv.lifecycleNext, lifecycleNext := 0 } ∧
    (d.resetDevice c).blobs = [] ∧ (d.resetDevice c).time = {} ∧ (d.resetDevice c).ref = { active := d.ref.active } ∧
    (d.resetDevice c).tw = {} ∧ (d.resetDevice c).ch = {} ∧ (d.resetDevice c).fm = {} ∧ (d.resetDevice c).flt = {})

/-- The release of RESET_N (R472, R473, R496, R521; Table 14.1): held behind the TAP, without effect in LOCKOUT, or the start of a slot.
Rows: RESET_N_RELEASE. -/
def Obligations.ResetRelease : Prop :=
  (∀ s : State, s.dev.life.held = true → s.dev.ballsTaken = true →
    exec .resetNRelease s = .next (s.after { s.dev with dbg := { s.dev.dbg with releaseHeld := true } })) ∧
  (∀ s : State, s.dev.life.held = true → s.dev.ballsTaken = false → s.dev.life.phase = .lockout →
    exec .resetNRelease s = .next (s.after (s.dev.modLife (fun x => { x with held := false })))) ∧
  (∀ (s : State) (d : Dev), s.dev.life.held = true → s.dev.ballsTaken = false → s.dev.life.phase ≠ .lockout →
    s.dev.nv.lifecycle ≤ 2 → d = ((s.dev.modLife (fun x => { x with held := false })).latch Flt.RESET_SEEN).makeIdentity.bootTrial →
    (∀ b, d.bootRec = some b → d.slotBoots b.slot = true →
      exec .resetNRelease s = .next (s.after (d.firstStage b b.slot b.storeArea))) ∧
    (∀ b, d.bootRec = some b → d.slotBoots b.slot = false → d.slotBoots b.prevSlot = true → b.prevStoreArea < 2 →
      exec .resetNRelease s = .next (s.after (d.firstStage b b.prevSlot b.prevStoreArea))) ∧
    (∀ b, d.bootRec = some b → d.slotBoots b.slot = false → d.slotBoots b.prevSlot = false →
      exec .resetNRelease s = .next (s.after (d.modLife (fun x => { x with bootFailed := true })))) ∧
    (d.bootRec = none →
      exec .resetNRelease s = .next (s.after (d.modLife (fun x => { x with bootFailed := true })))))

/-- Start-up checks and training (R334, R335, R481 to R483; Table 14.6), a trial image's confirmation and time-out (R498, R499) and the end of
an attestation (R502). The eye that training leaves is an open value: log entry 60.
Rows: START_UP_STORE_CHECK, FM_TRAINING_STEP_DONE, TRIAL_CONFIRM, TRIAL_TIMEOUT, SEC_ATTEST_DONE. -/
def Obligations.StartUpTrialsAndAttestation : Prop :=
  ((∀ (s : State) (d : Dev), s.dev.life.held = false → s.dev.life.phase = .selfTest → s.dev.trained = true →
    d = s.dev.migrate → d.life.trial = false →
    (d.storeCheck = 0 → exec .startUpStoreCheck s = .next (s.after
      ((d.setNumbers.storeLoad.setReg Obj.START_TIME 0 (lastStart (d.storeLog d.life.storeArea))).enterStarting))) ∧
    (d.storeCheck = 5 → exec .startUpStoreCheck s = .next (s.after (d.setNumbers.storeLoad.enterLayBy 5))) ∧
    (d.storeCheck ≠ 0 → d.storeCheck ≠ 5 → exec .startUpStoreCheck s =
      .next (s.after ((d.freshStore d.storeCheck).enterLayBy d.storeCheck)))) ∧
  (∀ (s : State) (d : Dev), s.dev.life.held = false → s.dev.life.phase = .selfTest → s.dev.trained = true →
    d = s.dev.migrate → d.life.trial = true → d.storeCheck ≠ 0 → d.storeCheck ≠ 5 →
    exec .startUpStoreCheck s = .next (s.after d.fallBack)) ∧
  (∀ (s : State) (pc : Fin 64), s.dev.life.held = false → s.dev.pcState pc.val = pcTraining →
    exec (.fmTrainingStepDone pc .done) s = .next (s.after
      (({ s.dev with freeN := s.dev.freeN + 1 }.setReg Obj.FM_PC_STATE pc.val pcActive).setReg Obj.FM_EYE_WIDTH pc.val
        (s.dev.reg Obj.FM_EYE_MIN + Config.freeNat s.dev.freeN % (65536 - s.dev.reg Obj.FM_EYE_MIN))).fmSettle)) ∧
  (∀ (s : State) (pc : Fin 64), s.dev.life.held = false → s.dev.pcState pc.val = pcTraining →
    smGet s.dev.fm.attempts pc.val 0 + 1 < 3 →
    exec (.fmTrainingStepDone pc .failed) s = .next (s.after
      { s.dev with fm := { s.dev.fm with attempts := smSet s.dev.fm.attempts pc.val (smGet s.dev.fm.attempts pc.val 0 + 1) 0 } }))) ∧
((∀ (s : State), s.dev.life.held = false →
    (s.dev.trialMet = false → exec .trialConfirm s = .next (s.after s.dev)) ∧
    (∀ b, s.dev.trialMet = true → s.dev.bootRec = some b → b.prevStoreArea = s.dev.life.storeArea →
      exec .trialConfirm s = .next (s.after ((((s.dev.pushBoot { b with
          state := 0, boots := 0, storeArea := s.dev.life.storeArea, prevStoreArea := 255 }).flashDo .unstage).modNv (fun v => { v with
        fromLayby := false })).modLife (fun x => { x with trial := false })))) ∧
    (∀ b d, s.dev.trialMet = true → s.dev.bootRec = some b → b.prevStoreArea < 2 → b.prevStoreArea ≠ s.dev.life.storeArea →
      d = s.dev.flashDo (.eraseStore b.prevStoreArea) →
      exec .trialConfirm s = .next (s.after ((((d.pushBoot { b with
          state := 0, boots := 0, storeArea := d.life.storeArea, prevStoreArea := 255 }).flashDo .unstage).modNv (fun v => { v with
        fromLayby := false })).modLife (fun x => { x with trial := false })))) ∧
    (s.dev.life.trial = true → s.dev.life.trialEnd ≤ s.dev.clock →
      exec .trialTimeout s = .next (s.after (s.dev.pushFallback.ask (.reset 6)))) ∧
    (s.dev.life.trial = false ∨ s.dev.clock < s.dev.life.trialEnd → exec .trialTimeout s = .next (s.after s.dev)) ∧
    (s.dev.reg Obj.SEC_ATTEST_STATE ≠ 1 → exec .secAttestDone s = .next (s.after s.dev)) ∧
    (s.dev.reg Obj.SEC_ATTEST_STATE = 1 → exec .secAttestDone s = .next (s.after ({ s.dev.setReg Obj.SEC_ATTEST_STATE 0 2 with
      sec := { s.dev.sec with evidence :=
        s.dev.evidenceHead ++ fitBytes sigBytes (Config.identitySign (sha256 s.dev.evidenceHead)) } } : Dev)))))

/-- The reference inputs (R34 to R41, R46, R47, R56): loss of activity, the monitor's update, wait-to-restore and the end of a switch window.
Rows: REF_ACTIVITY_LOSS, REF_MONITOR_UPDATE, REF_WTR_EXPIRY, SWITCH_WINDOW_END. -/
def Obligations.ReferenceMonitoring : Prop :=
  (∀ (s : State) (i : Fin 5) (gap : Nat) (d : Dev), s.dev.life.held = false → lossGap i.val ≤ 27 * gap →
    d = s.dev.modRef (fun r => { r with
      active := setBit r.active i.val false, gateRun := smSet r.gateRun i.val 0 0, gateFresh := smSet r.gateFresh i.val 0 0
      pulseGap := smSet r.pulseGap i.val 0 0, ppsAt := if i.val = 4 then none else r.ppsAt
      todNext := if i.val = 4 then none else r.todNext }) →
    (s.dev.refState i.val = rfDisabled → exec (.refActivityLoss ⟨i, gap⟩) s = .next (s.after d)) ∧
    (s.dev.refState i.val ≠ rfDisabled → exec (.refActivityLoss ⟨i, gap⟩) s = .next (s.after (d.setRef i.val rfAbsent)))) ∧
  (∀ (s : State) (i : Fin 5) (gap : Nat), s.dev.life.held = false → 27 * gap < lossGap i.val →
    exec (.refActivityLoss ⟨i, gap⟩) s = .next (s.after s.dev)) ∧
  (∀ (s : State) (i : Fin 5) (off dev : Int) (p : SyncSeen) (e d : Dev), s.dev.life.held = false →
    e = (if i.val = 4 then s.dev else s.dev.gateCount i.val).syncUpdate i.val p →
    d = e.setSreg 32 Obj.REF_OFFSET i.val (off - e.loscTrim) →
    dev = off - e.loscTrim + (if i.val < 2 then (500000 * d.reg Obj.FREF_SPREAD : Nat) else 0 : Int) →
    (e.ref.loscLost = true → exec (.refMonitorUpdate i off p) s = .next (s.after e)) ∧
    (bitOf e.ref.active i.val = false → exec (.refMonitorUpdate i off p) s = .next (s.after e)) ∧
    (e.ref.loscLost = false → bitOf e.ref.active i.val = true →
      (d.refState i.val = rfAbsent → gateFull i.val ≤ smGet d.ref.gateFresh i.val 0 →
        exec (.refMonitorUpdate i off p) s = .next (s.after (d.setRef i.val rfDisqualified))) ∧
      (d.refState i.val = rfDisqualified → gateFull i.val ≤ smGet d.ref.gateRun i.val 0 → dev.natAbs ≤ 1000 * d.reg Obj.REF_ACCEPT i.val →
        d.reg Obj.REF_WTR i.val ≠ 0 → (d.setRef i.val rfRestoring).reg Obj.REF_WTR i.val = d.reg Obj.REF_WTR i.val →
        exec (.refMonitorUpdate i off p) s = .next (s.after ((d.setRef i.val rfRestoring).modRef (fun r => { r with
          wtrEnd := smSet r.wtrEnd i.val ((d.setRef i.val rfRestoring).clock + 1000000000 * d.reg Obj.REF_WTR i.val) 0 })))) ∧
      (d.refState i.val = rfRestoring → ¬ dev.natAbs ≤ 1000 * d.reg Obj.REF_ACCEPT i.val →
        exec (.refMonitorUpdate i off p) s = .next (s.after (d.setRef i.val rfDisqualified))) ∧
      (d.refState i.val = rfQualified → ¬ dev.natAbs ≤ 1000 * d.reg Obj.REF_REJECT i.val →
        exec (.refMonitorUpdate i off p) s = .next (s.after (d.setRef i.val rfDisqualified))) ∧
      (d.refState i.val = rfQualified → dev.natAbs ≤ 1000 * d.reg Obj.REF_REJECT i.val →
        exec (.refMonitorUpdate i off p) s = .next (s.after d)) ∧
      (d.refState i.val = rfDisabled → exec (.refMonitorUpdate i off p) s = .next (s.after d)))) ∧
  (∀ (s : State) (i : Fin 5), s.dev.life.held = false → s.dev.refState i.val = rfRestoring → s.dev.ref.loscLost = false →
    exec (.refWtrExpiry i) s = .next (s.after ((s.dev.passTo (smGet s.dev.ref.wtrEnd i.val 0)).setRef i.val rfQualified))) ∧
  (∀ (s : State) (i : Fin 5), s.dev.life.held = false → s.dev.refState i.val ≠ rfRestoring ∨ s.dev.ref.loscLost = true →
    exec (.refWtrExpiry i) s = .next (s.after s.dev)) ∧
  (∀ (s : State) (phase : Int) (d : Dev), s.dev.life.held = false → s.dev.selMode = smSwitching →
    d = (s.dev.passTo s.dev.ref.windowEnd).modRef (fun r => { r with evalDue := false, changedDue := false }) →
    (s.dev.refState (s.dev.reg Obj.SEL_CURRENT) = rfQualified → s.dev.ref.evalDue = false →
      exec (.switchWindowEnd phase) s = .next (s.after
        ((d.modRef (fun r => { r with buildOut := phase })).enterMode smLocked (s.dev.reg Obj.SEL_CURRENT)))) ∧
    (s.dev.refState (s.dev.reg Obj.SEL_CURRENT) = rfQualified → s.dev.ref.evalDue = true →
      exec (.switchWindowEnd phase) s = .next (s.after
        (((d.modRef (fun r => { r with buildOut := phase })).enterMode smLocked (s.dev.reg Obj.SEL_CURRENT)).selAct
          s.dev.ref.changedDue))) ∧
    (s.dev.refState (s.dev.reg Obj.SEL_CURRENT) ≠ rfQualified →
      exec (.switchWindowEnd phase) s = .next (s.after (d.selAct true)))) ∧
  (∀ (s : State) (phase : Int), s.dev.life.held = false → s.dev.selMode ≠ smSwitching →
    exec (.switchWindowEnd phase) s = .next (s.after s.dev))

/-- Time of day (R38, R61 to R63), the Thermos (R50, R51; its start is log entry 12) and LOCAL_OSC (R53 to R56). MT_TIME_OFFSET after a step is log entry 13.
Rows: TIME_OF_DAY_MESSAGE, TIME_PPS_EDGE, THERMOS_RECORD, LOCAL_OSC_STABLE, LOCAL_OSC_LOSS. -/
def Obligations.TimeOfDayAndThermos : Prop :=
  (∀ (s : State) (msg : BitVec 128) (t : Nat), s.dev.life.held = false → s.dev.ref.ppsAt = some t →
    t + 100000000 ≤ s.dev.clock → s.dev.clock ≤ t + 800000000 → todGood msg.toNat = true →
    exec (.timeOfDayMessage msg) s = .next (s.after
      ((s.dev.modRef (fun r => { r with
        todNext := some (fld msg.toNat 95 48), todBad := 0, todFrom := s.dev.clock })).setReg Obj.TOD_LAST 0 msg.toNat))) ∧
  (∀ (s : State) (msg : BitVec 128), s.dev.life.held = false → todGood msg.toNat = false →
    exec (.timeOfDayMessage msg) s = .next (s.after (s.dev.modRef (fun r => { r with todBad := r.todBad + 1 })))) ∧
  (∀ (s : State), s.dev.life.held = false → s.dev.ref.todNext = none → s.dev.ref.stepArmed = false →
    exec .timePpsEdge s = .next (s.after ((s.dev.gateCount 4).modRef (fun r => { r with
      ppsAt := some s.dev.clock, todFrom := if bitOf s.dev.ref.active 4 then r.todFrom else s.dev.clock })))) ∧
  (∀ (s : State) (secs : Nat) (d : Dev), s.dev.life.held = false → s.dev.ref.todNext = some secs → s.dev.ref.stepArmed = true →
    s.dev.refState 4 = rfQualified →
    d = (s.dev.gateCount 4).modRef (fun r => { r with
      ppsAt := some s.dev.clock, todFrom := if bitOf s.dev.ref.active 4 then r.todFrom else s.dev.clock
      todNext := none, stepArmed := false, compareDue := false }) →
    exec .timePpsEdge s = .next (s.after
      (((d.setSreg 64 Obj.MT_TIME_OFFSET 0 (d.timeDiff secs)).stepTime secs).setReg Obj.MT_STEP_PENDING 0 0))) ∧
  (∀ (s : State) (corr : Int), s.dev.life.held = false → s.dev.selMode ≠ smLocked →
    exec (.thermosRecord corr) s = .next (s.after s.dev)) ∧
  (∀ (s : State) (corr : Int), s.dev.life.held = false → s.dev.selMode = smLocked → s.dev.ref.loscLost = false →
    s.dev.ref.recent.length < 5 → s.dev.ref.spoiledAt = none →
    exec (.thermosRecord corr) s = .next (s.after (s.dev.thermosStart.modRef (fun r => { r with
      recent := (corr - s.dev.thermosStart.loscTrim) :: r.recent })))) ∧
  (∀ (s : State) (t : Nat) (d : Dev), s.dev.life.held = false → s.dev.ref.loscStable = false → s.dev.ref.loscFrom = some t →
    d = ((s.dev.passTo (t + 26214400)).modRef (fun r => { r with
      loscLost := false, loscStable := true, edgeRoot := .localOsc })).setReg Obj.REF_STATUS 5 rfQualified →
    d.cleanCount = 1048576 ∧ (d.selMode ≠ smLocked → exec .localOscStable s = .next (s.after d)) ∧
    (d.selMode = smLocked → exec .localOscStable s = .next (s.after d.thermosStart))) ∧
  (∀ (s : State) (d : Dev), s.dev.life.held = false →
    d = (((s.dev.modRef (fun r => { r with
      loscLost := true, loscStable := false, loscFrom := none, recent := [], records := 0, meanSum := 0, meanWeight := 0 })).setReg
      Obj.REF_STATUS 5 rfAbsent).setReg Obj.THERMOS_STATE 0 thEmpty).setReg Obj.THERMOS_FREQ 0 0 →
    d.cleanCount = 0 ∧
    (d.selMode ≠ smHoldover → (s.dev.ref.edgeRoot ≠ .localOsc → exec .localOscLoss s = .next (s.after d)) ∧
    (s.dev.ref.edgeRoot = .localOsc → d.laneRefNow = 255 → exec .localOscLoss s = .next (s.after (d.ask (.reset rcRootClock)))) ∧
    (s.dev.ref.edgeRoot = .localOsc → d.laneRefNow ≠ 255 →
      exec .localOscLoss s = .next (s.after (d.modRef (fun r => { r with edgeRoot := .laneRef }))))))

/-- The synthesiser (R69 to R72): update instants, FRAME_SYNC_IN and reset instants. What is kept of a phase is log entry 15.
Rows: SYNTH_UPDATE_INSTANT, FRAME_SYNC_IN_PULSE, CLKOUT_RESET_INSTANT. -/
def Obligations.SynthesiserEvents : Prop :=
  (∀ (s : State) (cs : List ClkSet) (d : Dev) (ch : List Nat), s.dev.life.held = false → s.dev.synth.captured = some cs →
    d = s.dev.passToMt s.dev.synth.updateE → ch = (List.range 4).filter (fun n => cs.getD n {} != d.synth.live.getD n {}) →
    exec .synthUpdateInstant s = .next (s.after { d with synth := { d.synth with
      live := cs, captured := none
      restartAt := ch.foldl (fun m n => smSet m n (d.synth.updateE + 1) 0) d.synth.restartAt
      lowFrom := ch.foldl (fun m n => smSet m n
        ((d.synth.live.getD n {}).lastCycle (smGet d.synth.restartAt n 0 - 1) d.synth.updateE + 1) 0) d.synth.lowFrom } })) ∧
  (∀ (s : State), s.dev.life.held = false → s.dev.synth.captured = none →
    exec .synthUpdateInstant s = .next (s.after s.dev)) ∧
  (∀ (s : State) (n : Nat), s.dev.life.held = false → n < 4 → s.dev.fsyncArmed n = true →
    exec .frameSyncInPulse s = .next (s.after
      { s.dev with synth := { s.dev.synth with resetAt := some (s.dev.now + 24 * subNs) } })) ∧
  (∀ (s : State), s.dev.life.held = false → (∀ n, n < 4 → s.dev.fsyncArmed n = false) →
    exec .frameSyncInPulse s = .next (s.after s.dev)) ∧
  (∀ (s : State) (p : BitVec 4) (t : Nat) (d : Dev), s.dev.life.held = false → s.dev.synth.resetAt = some t →
    s.dev.synth.captured = none → d = s.dev.passToMt t → (∀ n, n < 4 → s.dev.reg Obj.CLKOUT_FSYNC_MODE n = 2) →
    exec (.clkoutResetInstant p) s = .next (s.after { d with synth := { d.synth with
      resetAt := none
      restartAt := (List.range 4).foldl (fun m n => if bitOf p.toNat n then m else smSet m n (t + 1) 0) d.synth.restartAt } })) ∧
  (∀ (s : State) (p : BitVec 4), s.dev.life.held = false → s.dev.synth.resetAt = none →
    exec (.clkoutResetInstant p) s = .next (s.after s.dev))

/-- Gates that close (R76, R77), the core voltage (R13 to R15) and AVSBus (R547). Which requests wait is log entry 17, when a step is asked for log
entry 16.
Rows: GATE_CLOSE_COMPLETE, GATE_CLOSE_TIMEOUT, AVS_EVALUATION, AVSBUS_TRANSACTION. -/
def Obligations.GatesAndCoreVoltage : Prop :=
  (∀ (s : State) (g : Fin 37) (ts : List BusTxn) (d : Dev), s.dev.life.held = false → g.val ≠ 34 →
    s.dev.gateWaits g.val = true →
    (s.dev.gateBusy g.val = false → s.dev.takeHeld g.val = (ts, d) →
      exec (.gateCloseComplete g) s = .next (s.after
        (ts.foldl (fun d t => d.busFail t 2)
          ((((d.gateSet g.val false).gateEnded g.val stOk).persist [objKey Obj.GATE_EN g.val]).memHeldFail g.val)))) ∧
    (s.dev.gateBusy g.val = true → exec (.gateCloseComplete g) s = .next (s.after s.dev)) ∧
    ((s.dev.passTo (smGet s.dev.clk.waiting g.val 0)).takeHeld g.val = (ts, d) →
      exec (.gateCloseTimeout g) s = .next (s.after
        (ts.foldl (fun d t => (d.busDo t).getD d)
          ((((d.gateSet g.val true).gateEnded g.val stBusy).persist [objKey Obj.GATE_EN g.val]).memHeldGo g.val))))) ∧
  (∀ (s : State) (g : Fin 37), s.dev.life.held = false → s.dev.gateWaits g.val = false →
    exec (.gateCloseComplete g) s = .next (s.after s.dev) ∧ exec (.gateCloseTimeout g) s = .next (s.after s.dev)) ∧
  (∀ (s : State) (m : Int) (d : Dev), s.dev.life.held = false → s.dev.avsLatched = false → s.dev.flag Obj.AVS_ENABLE = true →
    d = (s.dev.setReg Obj.AVS_MARGIN 0 (clampInt 0 255 m).toNat).setLine Flt.AVS_MARGIN (decide (m < 4)) →
    (m < 4 → exec (.avsEvaluation m) s = .next (s.after (d.avsRequest 800))) ∧
    (4 ≤ m → d.avsLatched = false → d.flag Obj.AVS_ENABLE = true →
      (d.reg Obj.AVS_MARGIN_TARGET : Int) ≤ m → m ≤ d.reg Obj.AVS_MARGIN_TARGET + 4 →
      exec (.avsEvaluation m) s = .next (s.after (d.modClk (fun x => { x with above := 0 })))) ∧
    (4 ≤ m → d.avsLatched = false → d.flag Obj.AVS_ENABLE = true → (d.reg Obj.AVS_MARGIN_TARGET : Int) + 4 < m →
      d.clk.above = 99 → 600 < d.reg Obj.AVS_VREQ →
      exec (.avsEvaluation m) s = .next (s.after
        ((d.modClk (fun x => { x with above := 0 })).avsRequest (d.reg Obj.AVS_VREQ - 5))))) ∧
  (∀ (s : State) (cmd : AvsCmd) (v : BitVec 16), s.dev.life.held = false → s.dev.life.phase ≠ .booting →
    exec (.avsbusTransaction cmd false v) s = .next (s.after
      ((s.dev.modClk (fun x => { x with busFails := s.dev.clk.busFails + 1 })).setLine Flt.AVS_BUS (decide (3 ≤ s.dev.clk.busFails + 1))))) ∧
  (∀ (s : State) (v : BitVec 16), s.dev.life.held = false → s.dev.life.phase ≠ .booting →
    exec (.avsbusTransaction .readVoltage true v) s = .next (s.after
      (((s.dev.modClk (fun x => { x with busFails := 0 })).setLine Flt.AVS_BUS false).setReg Obj.TEL_VCORE 0 v.toNat)) ∧
    exec (.avsbusTransaction .readCurrent true v) s = .next (s.after
      (((s.dev.modClk (fun x => { x with busFails := 0 })).setLine Flt.AVS_BUS false).setReg Obj.TEL_ICORE 0 v.toNat)))

/-- Detection and training of a lane (R93 to R101). How tests and measurements count is log entry 19.
Rows: TERMINATION_TEST, TRAINING_WORD_RECEIVED, EYE_MARGIN_MEASURED. -/
def Obligations.LaneTraining : Prop :=
  (∀ (s : State) (l : Fin 274), s.dev.life.held = false → s.dev.laneState l.val = lnDetect → s.dev.laneRefOk = true →
    exec (.terminationTest l false) s = .next (s.after (s.dev.modLane l.val (fun x => { x with termHits := 0 }))) ∧
    ((s.dev.lane l.val).termHits = 0 →
      exec (.terminationTest l true) s = .next (s.after (s.dev.modLane l.val (fun x => { x with termHits := 1 })))) ∧
    (∀ n, (s.dev.lane l.val).termHits = n + 1 → exec (.terminationTest l true) s =
      .next (s.after ((s.dev.modLane l.val (fun x => { x with termHits := n + 2 })).toTrain l.val true)))) ∧
  (∀ (s : State) (l : Fin 274) (found : Bool), s.dev.life.held = false → s.dev.laneState l.val ≠ lnDetect →
    exec (.terminationTest l found) s = .next (s.after s.dev)) ∧
  (∀ (s : State) (l : Fin 274) (w : BitVec 64) (d : Dev), s.dev.life.held = false →
    d = s.dev.setReg Obj.LANE_ID_SEEN l.val (fld w.toNat 26 17) →
    (trainingValid w.toNat = false → exec (.trainingWordReceived l w) s = .next (s.after s.dev)) ∧
    (trainingValid w.toNat = true → s.dev.laneState l.val = lnDetect → d.laneRefOk = true →
      exec (.trainingWordReceived l w) s = .next (s.after ((d.toTrain l.val true).trainWord l.val w.toNat))) ∧
    (trainingValid w.toNat = true → s.dev.laneState l.val = lnTrain →
      exec (.trainingWordReceived l w) s = .next (s.after (d.trainWord l.val w.toNat))) ∧
    (trainingValid w.toNat = true → s.dev.laneState l.val = lnActive →
      exec (.trainingWordReceived l w) s = .next (s.after (d.retrain l.val)))) ∧
  (∀ (s : State) (l : Fin 274) (m : Nat), s.dev.life.held = false → s.dev.laneState l.val = lnTrain →
    ((s.dev.lane l.val).neg.answered = true → (s.dev.lane l.val).neg.cleared = true → exec (.eyeMarginMeasured l m) s =
      .next (s.after (s.dev.setLane l.val { s.dev.lane l.val with neg := negMeasure (s.dev.lane l.val).neg m }))) ∧
    ((s.dev.lane l.val).neg.answered = false → exec (.eyeMarginMeasured l m) s =
      .next (s.after (s.dev.setLane l.val { s.dev.lane l.val with neg := { (s.dev.lane l.val).neg with base := m } })))) ∧
  (∀ (s : State) (l : Fin 274) (m : Nat), s.dev.life.held = false → s.dev.laneState l.val ≠ lnTrain →
    exec (.eyeMarginMeasured l m) s = .next (s.after s.dev))

/-- The time-outs of a lane and its loss of signal (R93, R100, R108; Table 3.2). The times kept are log entry 20.
Rows: TRAIN_WORD_TIMEOUT, TRAIN_LOCK_TIMEOUT, LOCK_TIMEOUT, EXCHANGE_TIMEOUT, SIGNAL_SQUELCH. -/
def Obligations.LaneTimeouts : Prop :=
  (∀ (s : State) (l : Fin 274), s.dev.life.held = false →
    (s.dev.laneState l.val = lnTrain → (s.dev.lane l.val).gotWord = false →
      exec (.trainWordTimeout l) s = .next (s.after (s.dev.toDetect l.val))) ∧
    (s.dev.laneState l.val ≠ lnTrain → exec (.trainWordTimeout l) s = .next (s.after s.dev))) ∧
  (∀ (s : State) (l : Fin 274) (d : Dev), s.dev.life.held = false → s.dev.chargedIn l.val < s.dev.reg Obj.LANE_RETRY_LIMIT →
    d = (((s.dev.modLane l.val (fun x => { x with charged := (s.dev.clock :: x.charged).take 16 })).count
      Obj.LANE_RETRAINS l.val).pulse Flt.LANE_RETRAIN).toTrain l.val true →
    (s.dev.laneState l.val = lnTrain → exec (.trainLockTimeout l) s = .next (s.after d)) ∧
    (s.dev.laneState l.val = lnLock → exec (.lockTimeout l) s = .next (s.after d)) ∧
    (s.dev.laneState l.val = lnExchange → exec (.exchangeTimeout l) s = .next (s.after d))) ∧
  (∀ (s : State) (l : Fin 274), s.dev.life.held = false → s.dev.reg Obj.LANE_RETRY_LIMIT ≤ s.dev.chargedIn l.val →
    (s.dev.laneState l.val = lnTrain → exec (.trainLockTimeout l) s = .next (s.after (s.dev.wantRetire l.val))) ∧
    (s.dev.laneState l.val = lnLock → exec (.lockTimeout l) s = .next (s.after (s.dev.wantRetire l.val))) ∧
    (s.dev.laneState l.val = lnExchange → exec (.exchangeTimeout l) s = .next (s.after (s.dev.wantRetire l.val)))) ∧
  (∀ (s : State) (l : Fin 274), s.dev.life.held = false →
    (s.dev.laneState l.val ≠ lnTrain → exec (.trainLockTimeout l) s = .next (s.after s.dev)) ∧
    (s.dev.laneState l.val ≠ lnLock → exec (.lockTimeout l) s = .next (s.after s.dev)) ∧
    (s.dev.laneState l.val ≠ lnExchange → exec (.exchangeTimeout l) s = .next (s.after s.dev))) ∧
  (∀ (s : State) (l : Fin 274), s.dev.life.held = false →
    (s.dev.laneState l.val ∈ [lnTrain, lnLock, lnExchange, lnActive] →
      exec (.signalSquelch l) s = .next (s.after (s.dev.toDetect l.val))) ∧
    (s.dev.laneState l.val = lnFail → s.dev.reg Obj.LANE_FAIL_REASON l.val ∈ [3, 4] →
      exec (.signalSquelch l) s = .next (s.after (s.dev.toDetect l.val))) ∧
    (s.dev.laneState l.val ∈ [lnOff, lnDetect, lnTest] → exec (.signalSquelch l) s = .next (s.after s.dev)))

/-- Retirement and the spare lane (R109 to R113, R560, R561): requests, acknowledgements and time-outs.
Rows: RETIREMENT_POINT, SPARE_REQUEST_RECEIVED, SPARE_ACK_RECEIVED, SPARE_GO_RECEIVED, SPARE_TAKEOVER_TIMEOUT, SPARE_RELEASE_TIMEOUT,
GROUP_SIGNAL_LOSS. -/
def Obligations.SparesAndRetirement : Prop :=
  (∀ (s : State) (g : Fin 16), s.dev.life.held = false →
    exec (.retirementPoint g) s = .next (s.after
      (((List.range 17).filter (fun k => decide (k ∈ (s.dev.group g.val).retire))).foldl (fun d k => d.retireOne g.val k)
        (s.dev.setGroup g.val { s.dev.group g.val with retire := [] })))) ∧
  (∀ (s : State) (l : Fin 274) (lane code : BitVec 8) (n : Nat), s.dev.life.held = false → l.val < 272 →
    s.dev.laneState l.val = lnActive → lane.toNat < 16 → n = 17 * laneGroup l.val + lane.toNat →
    (s.dev.laneState n ∉ [lnOff, lnTest, lnFail] → s.dev.spareFree (laneGroup l.val) lane.toNat = true →
      exec (.spareRequestReceived l lane code) s = .next (s.after (s.dev.retireOne (laneGroup l.val) lane.toNat))) ∧
    (s.dev.laneState n ∉ [lnOff, lnTest, lnFail] → s.dev.spareFree (laneGroup l.val) lane.toNat = false →
      exec (.spareRequestReceived l lane code) s = .next (s.after
        (s.dev.sendSvc l.val 0x15 [BitVec.ofNat 8 lane.toNat, BitVec.ofNat 8 (s.dev.spareWhy (laneGroup l.val))]))) ∧
    (s.dev.laneState n ∈ [lnOff, lnTest] →
      exec (.spareRequestReceived l lane code) s = .next (s.after (s.dev.sendSvc l.val 0x15 [BitVec.ofNat 8 lane.toNat, 4]))) ∧
    (s.dev.laneState n = lnFail → s.dev.reg Obj.LANE_SPARE_FOR (laneGroup l.val) = lane.toNat →
      exec (.spareRequestReceived l lane code) s = .next (s.after s.dev)) ∧
    (s.dev.laneState n = lnFail → s.dev.reg Obj.LANE_SPARE_FOR (laneGroup l.val) ≠ lane.toNat →
      exec (.spareRequestReceived l lane code) s = .next (s.after (s.dev.sendSvc l.val 0x15 [BitVec.ofNat 8 lane.toNat, 4])))) ∧
  (∀ (s : State) (l : Fin 274) (lane : BitVec 8), s.dev.life.held = false → l.val < 272 →
    s.dev.moveLane (laneGroup l.val) = some (l.val, lane.toNat) →
    ((s.dev.group (laneGroup l.val)).acked = false →
      exec (.spareAckReceived l lane) s = .next (s.after ((s.dev.setGroup (laneGroup l.val)
        { s.dev.group (laneGroup l.val) with acked := true, goLeft := 8, goOn := (l.val, lane.toNat) }).finishMove (laneGroup l.val)))) ∧
    ((s.dev.group (laneGroup l.val)).goSeen = false →
      exec (.spareGoReceived l lane) s = .next (s.after (((s.dev.modLane l.val (fun x => { x with expect := [], asm := [] })).setGroup
        (laneGroup l.val) { s.dev.group (laneGroup l.val) with goSeen := true }).finishMove (laneGroup l.val))))) ∧
  (∀ (s : State) (g : Fin 16) (k : Nat), s.dev.life.held = false →
    ((s.dev.group g.val).move = .bringUp k →
      exec (.spareTakeoverTimeout g) s = .next (s.after (s.dev.failTakeover g.val k))) ∧
    ((s.dev.group g.val).unanswered = true →
      ((s.dev.group g.val).move = .takeover k →
        exec (.spareTakeoverTimeout g) s = .next (s.after (s.dev.failTakeover g.val k))) ∧
      ((s.dev.group g.val).move = .release k →
        exec (.spareReleaseTimeout g) s = .next (s.after (s.dev.failRelease g.val k))))) ∧
  (∀ (s : State) (g : Fin 16), s.dev.life.held = false → (s.dev.group g.val).move = .none →
    exec (.spareTakeoverTimeout g) s = .next (s.after s.dev) ∧ exec (.spareReleaseTimeout g) s = .next (s.after s.dev)) ∧
  (∀ (s : State) (g : Fin 16) (d e h : Dev), s.dev.life.held = false →
    d = (List.range 17).foldl (fun d k => d.modLane (17 * g.val + k) (fun x => { x with charged := [] })) s.dev →
    e = (d.setReg Obj.LANE_SPARE_FOR g.val 255).setMove g.val .none →
    h = (List.range 17).foldl (fun d k =>
      if d.laneState (17 * g.val + k) == lnFail &&
        (d.reg Obj.LANE_FAIL_REASON (17 * g.val + k) == 1 || d.reg Obj.LANE_FAIL_REASON (17 * g.val + k) == 2)
      then d.toDetect (17 * g.val + k) else d) (e.setGroup g.val { e.group g.val with retire := [], orphan := none }) →
    (16 ≤ d.spareLane g.val → exec (.groupSignalLoss g) s = .next (s.after h)) ∧
    (d.spareLane g.val < 16 → exec (.groupSignalLoss g) s = .next (s.after (h.restSpare g.val))))

/-- The Rambler's lane work (R104, R114, R115). How compared bits make a run is log entry 22.
Rows: SPARE_CHECK_START, SPARE_CHECK_END, LANE_EYE_MEASUREMENT, LANE_PRBS_LOCK. -/
def Obligations.RamblerLaneChecks : Prop :=
  (∀ (s : State) (g : Fin 16), s.dev.life.held = false →
    (s.dev.laneState (spareOf g.val) = lnOff → s.dev.flag Obj.LANE_EN (spareOf g.val) = true →
      s.dev.reg Obj.LANE_SPARE_CHECK ≠ 0 → s.dev.nv.refereeDuty = false → (∀ h, h < 16 → (s.dev.group h).checking = false) →
      exec (.spareCheckStart g) s = .next (s.after ((s.dev.setGroup g.val { s.dev.group g.val with
        checking := true, checkFrom := s.dev.reg Obj.LANE_PRBS_ERR (spareOf g.val) }).toDetect (spareOf g.val)))) ∧
    ((∃ h, h < 16 ∧ (s.dev.group h).checking = true) → exec (.spareCheckStart g) s = .next (s.after s.dev)) ∧
    (s.dev.laneState (spareOf g.val) ≠ lnOff → exec (.spareCheckStart g) s = .next (s.after s.dev))) ∧
  (∀ (s : State) (g : Fin 16) (h w : Nat), s.dev.life.held = false → (s.dev.group g.val).checking = false →
    exec (.spareCheckEnd g h w) s = .next (s.after s.dev)) ∧
  (∀ (s : State) (g : Fin 16) (h w : Nat) (d : Dev), s.dev.life.held = false → (s.dev.group g.val).checking = true →
    s.dev.reg Obj.LANE_EYE_MIN ≤ h → s.dev.reg Obj.LANE_PRBS_ERR (spareOf g.val) = (s.dev.group g.val).checkFrom →
    d = ((((s.dev.setGroup g.val { s.dev.group g.val with checking := false, checkFailed := false }).setReg
      Obj.LANE_EYE_HEIGHT (spareOf g.val) h).setReg Obj.LANE_EYE_WIDTH (spareOf g.val) w).marginLine g.val) → d.laneState (spareOf g.val) ≠ lnFail →
    exec (.spareCheckEnd g h w) s = .next (s.after ((d.restSpare g.val).rmbDone 4))) ∧
  (∀ (s : State) (l : Fin 274) (h w : Nat), s.dev.life.held = false → 272 ≤ l.val → s.dev.laneState l.val = lnActive →
    s.dev.reg Obj.LANE_EYE_MIN ≤ h →
    exec (.laneEyeMeasurement l h w) s = .next (s.after ((((s.dev.setReg Obj.LANE_EYE_HEIGHT l.val h).setReg
      Obj.LANE_EYE_WIDTH l.val w).modLane l.val (fun x => { x with lowEye := false })).rmbDone 1))) ∧
  (∀ (s : State) (l : Fin 274) (h w : Nat) (d : Dev), s.dev.life.held = false → l.val < 272 → s.dev.laneState l.val = lnActive →
    h < s.dev.reg Obj.LANE_EYE_MIN →
    d = (((s.dev.setReg Obj.LANE_EYE_HEIGHT l.val h).setReg
      Obj.LANE_EYE_WIDTH l.val w).modLane l.val (fun x => { x with lowEye := true })) →
    exec (.laneEyeMeasurement l h w) s = .next (s.after
      (((d.marginLine (laneGroup l.val)).event 0x3002 (refOf Obj.LANE_STATE l.val)).rmbDone 1))) ∧
  (∀ (s : State) (l : Fin 274) (n bits : Nat), s.dev.life.held = false →
    (s.dev.laneState l.val ≠ lnTest → exec (.lanePrbsLock l n bits) s = .next (s.after s.dev)) ∧
    exec (.lanePrbsLock l 0 bits) s = .next (s.after s.dev) ∧
    (s.dev.laneState l.val = lnTest → exec (.lanePrbsLock l (n + 1) bits) s =
      .next (s.after ((s.dev.checkIn l.val (bits / 2 ^ n % 2)).prbsRunIn l.val n bits)))) ∧
  (∀ (s : State) (l : Fin 274) (b : Nat) (ab : Nat × Nat) (x : LaneX), s.dev.life.held = false → s.dev.laneState l.val = lnTest →
    b < 2 → ab = patternTaps (s.dev.reg Obj.LANE_TEST_MODE l.val) →
    ((s.dev.lane l.val).testSeed < ab.1 → (s.dev.lane l.val).testErrs < 32 → (s.dev.lane l.val).testBits < 1024 →
      exec (.lanePrbsLock l 1 b) s = .next (s.after (s.dev.setLane l.val { s.dev.lane l.val with
        testSeed := (s.dev.lane l.val).testSeed + 1, testReg := ((s.dev.lane l.val).testReg * 2 + b) % 2 ^ ab.1 }))) ∧
    (ab.1 ≤ (s.dev.lane l.val).testSeed → s.dev.flag Obj.LANE_PRBS_LOCK l.val = false → x = ((s.dev.lane l.val).checkBit ab b).1 →
      (32 ≤ x.testErrs → exec (.lanePrbsLock l 1 b) s = .next (s.after
        (((s.dev.setLane l.val x).modLane l.val LaneX.reseed).setReg Obj.LANE_PRBS_LOCK l.val 0))) ∧
      (x.testErrs < 32 → x.testBits = 1024 → exec (.lanePrbsLock l 1 b) s = .next (s.after
        ((s.dev.setLane l.val x).setReg Obj.LANE_PRBS_LOCK l.val 1))) ∧
      (x.testErrs < 32 → x.testBits ≠ 1024 → exec (.lanePrbsLock l 1 b) s = .next (s.after (s.dev.setLane l.val x)))))

/-- Service messages on a lane (R103, R145, R148, R149; Tables 4.10 to 4.14).
Rows: CAP_RECEIVED, CAP_ACK_RECEIVED, SLOT_STATUS_RECEIVED, HEALTH_RECEIVED. -/
def Obligations.LaneServiceMessages : Prop :=
  (∀ (s : State) (l : Fin 274) (b : BitVec 160), s.dev.life.held = false → (s.dev.lane l.val).cycleLock = true →
    s.dev.laneState l.val ∈ [lnExchange, lnActive] →
    (s.dev.capResult l.val b.toNat = 0 → exec (.capReceived l b) s = .next (s.after
      (((s.dev.sendSvc l.val 0x02 [0, 0]).modLane l.val (fun x => { x with farCaps := some b, farOk := true })).tryActive l.val))) ∧
    (∀ r, s.dev.capResult l.val b.toNat = r → r ≠ 0 → exec (.capReceived l b) s = .next (s.after
      (s.dev.sendSvc l.val 0x02 [BitVec.ofNat 8 r, 0])))) ∧
  (∀ (s : State) (l : Fin 274) (b : BitVec 16), s.dev.life.held = false → (s.dev.lane l.val).cycleLock = true →
    s.dev.laneState l.val ∈ [lnExchange, lnActive] →
    (fld b.toNat 15 8 = 0 → exec (.capAckReceived l b) s = .next (s.after
      ((s.dev.modLane l.val (fun x => { x with ourAcked := true })).tryActive l.val))) ∧
    (fld b.toNat 15 8 ≠ 0 → exec (.capAckReceived l b) s = .next (s.after (s.dev.failLane l.val 4)))) ∧
  (∀ (s : State) (l : Fin 274) (b : BitVec 160) (k : BitVec 16), s.dev.life.held = false → (s.dev.lane l.val).cycleLock = false →
    exec (.capReceived l b) s = .next (s.after s.dev) ∧ exec (.capAckReceived l k) s = .next (s.after s.dev)) ∧
  (∀ (s : State) (l : Fin 274) (b : BitVec 128), s.dev.life.held = false → l.val < 272 → s.dev.laneState l.val = lnActive →
    exec (.slotStatusReceived l b) s = .next (s.after (s.dev.modLane l.val (fun x => { x with slotStatus := b })))) ∧
  (∀ (s : State) (l : Fin 274) (b : BitVec 128) (h : BitVec 80), s.dev.life.held = false → s.dev.laneState l.val ≠ lnActive →
    exec (.slotStatusReceived l b) s = .next (s.after s.dev) ∧ exec (.healthReceived l h) s = .next (s.after s.dev)) ∧
  (∀ (s : State) (l : Fin 274) (h : BitVec 80), s.dev.life.held = false → s.dev.laneState l.val = lnActive →
    (bitOf h.toNat 0 = false → exec (.healthReceived l h) s = .next (s.after
      (s.dev.modLane l.val (fun x => { x with health := h.toNat })))) ∧
    (bitOf h.toNat 0 = true → exec (.healthReceived l h) s = .next (s.after
      ((s.dev.modLane l.val (fun x => { x with health := h.toNat })).pulse Flt.LANE_FAR_OVERFLOW (some (.lane l))))))

/-- Baskets (R19, R25, R127, R139, R140, R157): receipt on a lane, a slot's position, the input stage and the group node.
Rows: BASKET_RECEIVED, SLOT_POSITION, INPUT_STAGE_BASKET, GROUP_NODE_INGRESS. -/
def Obligations.BasketsInAndOut : Prop :=
  (∀ (s : State) (l : Fin 274) (w : WireBasket), s.dev.life.held = false →
    (s.dev.laneState l.val ∈ [lnOff, lnDetect, lnTest, lnFail] → exec (.basketReceived l w.steady w.blocks) s =
      .next (s.after (s.dev.trainingWord l.val ((w.blocks.map (·.2.toNat)).headD 0)))) ∧
    (s.dev.laneState l.val = lnTrain → exec (.basketReceived l w.steady w.blocks) s = .next (s.after
      ((s.dev.setLane l.val ((s.dev.lane l.val).headersIn w).1).trainingWord l.val ((w.blocks.map (·.2.toNat)).headD 0)))) ∧
    (s.dev.laneState l.val ∈ [lnLock, lnExchange, lnActive] →
      ∀ x blocks r d, (s.dev.lane l.val).headersIn w = (x, true) → descramble x.descram (w.blocks.map (·.2.toNat)) = (blocks, r) →
        d = ((s.dev.setLane l.val { x with descram := r }).countBasket l.val (wireErrors w) false).count Obj.LANE_LOCK_LOSS l.val →
        (s.dev.laneState l.val ≠ lnActive → exec (.basketReceived l w.steady w.blocks) s = .next (s.after d)) ∧
        (s.dev.laneState l.val = lnActive → exec (.basketReceived l w.steady w.blocks) s = .next (s.after (d.retrain l.val))))) ∧
  (∀ (s : State) (l : Fin 274) (w : WireBasket) (x : LaneX) (blocks : List Nat) (r : Nat) (b : Basket) (d e : Dev),
    s.dev.life.held = false → (s.dev.lane l.val).headersIn w = (x, false) → (s.dev.lane l.val).blockLock = true →
    trainingValid ((w.blocks.map (·.2.toNat)).headD 0) = false → descramble x.descram (w.blocks.map (·.2.toNat)) = (blocks, r) →
    b = basketOf blocks → d = s.dev.setLane l.val { x with descram := r } →
    (s.dev.laneState l.val = lnExchange → b.type ≠ tyIdle → (d.lane l.val).goodBasket (isTwin l.val) w blocks = false →
      e = (d.countBasket l.val (wireErrors w) true).modLane l.val (fun y => { y.cycleIn (isTwin l.val) false with
        live := (d.lane l.val).live, goodRun := 0 }) →
      exec (.basketReceived l w.steady w.blocks) s = .next (s.after e)) ∧
    (∀ p k, s.dev.laneState l.val = lnActive → b.type = tyRaster → (d.lane l.val).goodBasket (isTwin l.val) w blocks = true →
      (d.lane l.val).cycleLock = true → (d.lane l.val).live = true → k = (d.lane l.val).pos →
      e = (d.countBasket l.val (wireErrors w) false).modLane l.val (fun y => { y.cycleIn (isTwin l.val) false with
        live := true, goodRun := y.goodRun + 1 }) →
      (e.lane l.val).winBad < e.reg Obj.LANE_HCRC_LIMIT → e.portIn l.val (k % 4) = some p → e.reg Obj.IN_TRANSPORT p = 0 →
      exec (.basketReceived l w.steady w.blocks) s = .next (s.after (e.dataBasket l.val (k % 4) p b)))) ∧
  (∀ (s : State) (l : Fin 274) (late : Bool), s.dev.life.held = false → s.dev.laneState l.val ∈ [lnOff, lnDetect, lnFail] →
    exec (.slotPosition ⟨l, late⟩) s = .next (s.after (s.dev.modTx l.val (fun x => { x with
      pos := 0, cycle := 0, last := none, line := [] })))) ∧
  (∀ (s : State) (l : Fin 274) (late : Bool) (w bits r : Nat), s.dev.life.held = false → s.dev.laneState l.val = lnTrain →
    w = trainingEncode ((s.dev.lane l.val).rxReady || (s.dev.lane l.val).neg.phase == .done) (negRequest (s.dev.lane l.val).neg)
      (s.dev.lane l.val).status (s.dev.laneIdentity l.val) →
    prbsRun 2048 (s.dev.tx l.val).train = (bits, r) →
    exec (.slotPosition ⟨l, late⟩) s = .next (s.after ((s.dev.modTx l.val (fun t => { t with
      pos := 0, cycle := 0, train := r, last := some (BitVec.ofNat 64 w, beBytes 256 bits) })).modTx l.val (fun x => { x with
      line := withSync (blocksOf w (beBytes 256 bits)) })))) ∧
  (∀ (s : State) (l : Fin 274) (late : Bool) (b : Basket) (d : Dev), s.dev.life.held = false → s.dev.laneState l.val = lnExchange →
    l.val < 272 → (s.dev.tx l.val).pos < 16 → s.dev.positionBasket l.val (s.dev.tx l.val).pos late = (b, d) →
    exec (.slotPosition ⟨l, late⟩) s = .next (s.after ((d.modTx l.val (fun x => { x with
      pos := (s.dev.tx l.val).pos + 1 })).sendBasket l.val b))) ∧
  (∀ (s : State) (sg : Fin 16) (sk : Fin 64) (p : Nat), s.dev.life.held = false → p = 64 * sg.val + sk.val →
    (s.dev.takeRx p = none → exec (.inputStageBasket sg sk) s = .next (s.after s.dev)) ∧
    (∀ e d f g, s.dev.takeRx p = some (e, d) → e.holes = 0 →
      f = (d.fsSettle (d.inBase p) d.now).modInp p (fun x => { x with signal := true }) →
      fmtOf (linkCode (f.reg Obj.IN_FORMAT (d.inBase p)) (f.flag Obj.IN_GANG (d.inBase p))) = some g →
      (e.basket.valid = false → exec (.inputStageBasket sg sk) s = .next (s.after
        ((f.emitHoles p g.words 1 (f.inp p).idx).modInp p (fun x => { x with
          idx := (x.idx + 204) % g.words, trs := x.trs.skip g.lines 204 })))) ∧
      (e.basket.valid = true → exec (.inputStageBasket sg sk) s = .next (s.after
        (f.inputWords p e))))) ∧
  (∀ (s : State) (src : Fin 1128), s.dev.life.held = false → (∀ g, g < 16 → s.dev.tapOn g = false) →
    (1024 ≤ src.val → exec (.groupNodeIngress src) s = .next (s.after s.dev)) ∧
    (src.val < 1024 → (s.dev.inp (s.dev.inBase src.val)).mode = 0 → s.dev.reg Obj.IN_TRANSPORT (s.dev.inBase src.val) = 0 →
      ((s.dev.inp src.val).q = [] → exec (.groupNodeIngress src) s = .next (s.after s.dev)) ∧
      (∀ part rest, (s.dev.inp src.val).q = part :: rest →
        (∀ g, g < 16 → bitOf (s.dev.subMask (s.dev.inBase src.val)) g = true) → exec (.groupNodeIngress src) s = .next (s.after
          { s.dev.setInp src.val { s.dev.inp src.val with q := rest } with
            mesh := (List.range 16).foldl (fun m g =>
              smSet m (2048 * g + src.val) ((part :: smGet m (2048 * g + src.val) []).take keepParts) []) s.dev.mesh }))))

/-- Output frames (R65, R165, R166), switch points (R170, R171) and Hampers (R185).
Rows: OUTPUT_FRAME_START, OUTPUT_SWITCH_POINT, HAMPER_ARMED. -/
def Obligations.OutputFramesAndSwitchPoints : Prop :=
  (∀ (s : State) (p : Fin 1024), s.dev.life.held = false → fmtOf (s.dev.outFormat p.val) = none →
    exec (.outputFrameStart p) s = .next (s.after (((s.dev.ceAtOutput p.val).ciAtOutput p.val).joinSwitch p.val))) ∧
  (∀ (s : State) (p : Fin 1024) (f f' : Fmt) (src : Nat) (x : OutX) (c d e : Dev), s.dev.life.held = false →
    fmtOf (s.dev.outFormat p.val) = some f → src = s.dev.reg Obj.XP_SOURCE p.val →
    c = (s.dev.phaseDue src).fsSettle src s.dev.now → (c.out p.val).started = true →
    x = { c.out p.val with
      fmt := s.dev.outFormat p.val, started := true, start := (c.out p.val).next, ph := (c.out p.val).nextPh
      onRef := decide (f.wrapDiff ((c.out p.val).nextPh - c.refPhase p.val f) = 0), oldUntil := 0, still := c.stillOf src
      word := if (c.out p.val).ahead then (c.out p.val).word else 0
      t := if (c.out p.val).ahead then (c.out p.val).t else f.ex (c.out p.val).next
      fill := if (c.out p.val).ahead then (c.out p.val).fill else 0
      mismatch := if (c.out p.val).ahead then (c.out p.val).mismatch else c.mismatched p.val (s.dev.outFormat p.val) src
      ahead := false } →
    d = (if (c.setOut p.val x).bigMove p.val f (f.wrapDiff ((c.out p.val).nextPh - (c.out p.val).ph)) then
      (c.setOut p.val x).rephased p.val else c.setOut p.val x) →
    d.reg Obj.OUT_TRANSPORT p.val = 0 → d.followStart p.val f (f.ex d.now) (·.exP) = none →
    fmtOf (d.outFormat p.val) = some f' →
    e = d.setOut p.val { d.out p.val with
      nextPh := (d.cadence p.val (d.outFormat p.val) f' (d.reg Obj.XP_SOURCE p.val) (d.out p.val).ph (d.out p.val).onRef).1
      next := f'.tick (nearAcross f' f'
        (d.cadence p.val (d.outFormat p.val) f' (d.reg Obj.XP_SOURCE p.val) (d.out p.val).ph (d.out p.val).onRef).1
        (f'.exactStart (d.out p.val).ph (d.out p.val).start + f'.exP)) } →
    exec (.outputFrameStart p) s = .next (s.after
      ((((e.setReg Obj.OUT_STATE p.val (e.outState p.val)).ceAtOutput p.val).ciAtOutput p.val).joinSwitch p.val))) ∧
  (∀ (s : State) (p : Fin 1024) (second : Bool), s.dev.life.held = false → s.dev.outGangMember p.val = true →
    exec (.outputSwitchPoint p second) s = .next (s.after s.dev)) ∧
  (∀ (s : State) (p : Fin 1024) (second : Bool) (f : Fmt) (line : Nat) (t : TakeX) (inst : Int), s.dev.life.held = false →
    s.dev.outGangMember p.val = false → fmtOf (s.dev.outFormat p.val) = some f → s.dev.reg Obj.OUT_TRANSPORT p.val = 0 →
    s.dev.switchLine p.val (s.dev.outFormat p.val) second = some line → (s.dev.out p.val).pend = some t →
    inst = f.ex (s.dev.out p.val).start + s.dev.lineWord p.val (s.dev.outFormat p.val) line * s.dev.outTw p.val f →
    (f.ex t.e ≤ inst → s.dev.takeReady t = true →
      exec (.outputSwitchPoint p second) s = .next (s.after (s.dev.executeTake p.val line f inst))) ∧
    (inst < f.ex t.e → (s.dev.out p.val).swDone = none →
      exec (.outputSwitchPoint p second) s = .next (s.after s.dev))) ∧
  (∀ (s : State) (h : Fin 256), s.dev.life.held = false →
    ((s.dev.hamper h.val).isSome = true → s.dev.reg Obj.HAMPER_STATE h.val = hsArmed →
      exec (.hamperArmed h) s = .next (s.after (s.dev.setReg Obj.HAMPER_STATE h.val hsInProgress))) ∧
    (s.dev.hamper h.val = none → exec (.hamperArmed h) s = .next (s.after s.dev)))

/-- Frame synchronisers (R188 to R194): a completed frame, and a decision and its record.
Rows: FS_FRAME_COMPLETE, FS_DECISION. -/
def Obligations.FrameSyncDecisions : Prop :=
  (∀ (s : State) (p : Fin 1024) (fr : Frame), s.dev.life.held = false → s.dev.reg Obj.IN_TRANSPORT p.val = 0 →
    (s.dev.inp p.val).mode = 1 →
    ((s.dev.inp p.val).filled = none → (s.dev.inp p.val).writing = some fr →
      exec (.fsFrameComplete p) s = .next (s.after (s.dev.setInp p.val { s.dev.inp p.val with
        writing := none, held := (fr :: (s.dev.inp p.val).held).take 2 }))) ∧
    ((s.dev.inp p.val).filled = some fr →
      exec (.fsFrameComplete p) s = .next (s.after (s.dev.setInp p.val { s.dev.inp p.val with
        filled := none, held := (fr :: (s.dev.inp p.val).held).take 2 })))) ∧
  (∀ (s : State) (p : Fin 1024), s.dev.life.held = false → s.dev.reg Obj.IN_TRANSPORT p.val = 0 →
    (s.dev.inp p.val).filled = none → (s.dev.inp p.val).writing = none →
    exec (.fsFrameComplete p) s = .next (s.after s.dev)) ∧
  (∀ (s : State) (p : Fin 1024), s.dev.life.held = false → (s.dev.inp p.val).wait = none → (s.dev.inp p.val).mode ≠ 1 →
    exec (.fsDecision p) s = .next (s.after s.dev)) ∧
  (∀ (s : State) (p : Fin 1024) (w : FsWait), s.dev.life.held = false → (s.dev.inp p.val).wait = some w → w.start ≤ s.dev.now →
    s.dev.fsSettle p.val s.dev.now = (s.dev.fsTake p.val w).mirrorMiss Obj.FS_MIRROR_MISS) ∧
  (∀ (s : State) (p : Fin 1024) (f : Fmt) (g k : Frame) (start n : Nat), s.dev.life.held = false →
    (s.dev.inp p.val).wait = none → (s.dev.inp p.val).mode = 1 → fmtOf (s.dev.inp p.val).costFmt = some f →
    s.dev.fsNextStart p.val f = (start, n) → s.dev.follows = false →
    (s.dev.inp p.val).last = some k → (s.dev.inp p.val).held.head? = some g → (s.dev.inp p.val).stepped = false →
    (g.no = k.no + 1 → exec (.fsDecision p) s = .next (s.after
      ((s.dev.fsAct p.val start 0 (some g)).mirror 0x03 (fsRecord p.val n g.no 0)))) ∧
    (k.no + 1 < g.no → exec (.fsDecision p) s = .next (s.after
      (((s.dev.count Obj.FS_DROPS p.val (g.no - k.no - 1)).fsAct p.val start 1 (some g)).mirror 0x03 (fsRecord p.val n g.no 1)))) ∧
    (g.no ≤ k.no → (s.dev.inp p.val).missed + 1 < s.dev.reg Obj.FS_LOSS_HOLD p.val → exec (.fsDecision p) s = .next (s.after
      (((s.dev.count Obj.FS_REPEATS p.val).fsAct p.val start 2 none).mirror 0x03 (fsRecord p.val n k.no 2))))) ∧
  (∀ (s : State) (p : Fin 1024) (f : Fmt) (start n : Nat), s.dev.life.held = false →
    (s.dev.inp p.val).wait = none → (s.dev.inp p.val).mode = 1 → fmtOf (s.dev.inp p.val).costFmt = some f →
    s.dev.fsNextStart p.val f = (start, n) → s.dev.follows = true →
    smGet (s.dev.inp p.val).mirrored (n % 2 ^ 32 + 1) (0, 0) = (0, 0) →
    exec (.fsDecision p) s = .next (s.after (s.dev.modInp p.val (fun x => { x with wait := some (s.dev.fsDecide p.val n start) }))))

/-- Engines (R252, R253) and internal check errors (R268, R309, R459). The bound of errors is the model's reading: log entry 49.
Rows: ENGINE_FRAME_START, UNIT_CHECK_ERROR. -/
def Obligations.EnginesAndUnitChecks : Prop :=
  (∀ (s : State) (n : Fin 64), s.dev.life.held = false →
    (1024 ≤ (s.dev.engine n.val).out → exec (.engineFrameStart n) s = .next (s.after s.dev)) ∧
    (s.dev.reg Obj.CE_STATE n.val = ceRetired → exec (.engineFrameStart n) s = .next (s.after s.dev)) ∧
    ((s.dev.engine n.val).out < 1024 → s.dev.reg Obj.CE_STATE n.val ≠ ceRetired →
      fmtOf (s.dev.outFormat (s.dev.engine n.val).out) = none →
      exec (.engineFrameStart n) s = .next (s.after (s.dev.setReg Obj.CE_STATE n.val ceIdle))) ∧
    ((s.dev.engine n.val).out < 1024 → s.dev.reg Obj.CE_STATE n.val ≠ ceRetired →
      fmtOf (s.dev.outFormat (s.dev.engine n.val).out) ≠ none →
      exec (.engineFrameStart n) s = .next (s.after (s.dev.engineFrame n.val)))) ∧
  (∀ (s : State) (n : Fin 64) (ts : List Nat) (bad : Bool), s.dev.life.held = false →
    s.dev.checkErrors (s.dev.engine n.val).errors = (ts, bad) →
    exec (.unitCheckError (.engine n)) s = .next (s.after
      (if bad then (s.dev.setEngine n.val { s.dev.engine n.val with errors := ts }).retireEngine n.val
        else s.dev.setEngine n.val { s.dev.engine n.val with errors := ts }))) ∧
  (∀ (s : State) (c : Fin 128) (ts : List Nat) (bad : Bool), s.dev.life.held = false →
    s.dev.checkErrors (s.dev.inserter c.val).errors = (ts, bad) →
    exec (.unitCheckError (.inserter c)) s = .next (s.after
      (if bad then (s.dev.setInserter c.val { s.dev.inserter c.val with errors := ts }).retireInserter c.val
        else s.dev.setInserter c.val { s.dev.inserter c.val with errors := ts }))) ∧
  (∀ (s : State) (a : Fin 32) (ts : List Nat) (bad : Bool), s.dev.life.held = false →
    s.dev.checkErrors (s.dev.ap a.val).errors = (ts, bad) →
    exec (.unitCheckError (.tdm a)) s = .next (s.after
      (if bad then (s.dev.setAp a.val { s.dev.ap a.val with errors := ts }).retireTdm a.val
        else s.dev.setAp a.val { s.dev.ap a.val with errors := ts })))

/-- Canopy syncs (R262 to R265). When HOLD begins is log entry 50.
Rows: CANOPY_FRAME_COMPLETE, CANOPY_SELECT, CANOPY_LOSS_TIMEOUT. -/
def Obligations.CanopySyncs : Prop :=
  (∀ (s : State) (g : Fin 16), s.dev.life.held = false → s.dev.syncRuns g.val = false →
    exec (.canopyFrameComplete g) s = .next (s.after s.dev)) ∧
  (∀ (s : State) (g : Fin 16), s.dev.life.held = false → s.dev.syncRuns g.val = true →
    s.dev.generated (s.dev.reg Obj.CANOPY_SOURCE g.val) = false →
    ((s.dev.canopy g.val).writing = none → exec (.canopyFrameComplete g) s = .next (s.after s.dev)) ∧
    (∀ fr, (s.dev.canopy g.val).writing = some fr →
      exec (.canopyFrameComplete g) s = .next (s.after ((s.dev.setCanopy g.val { s.dev.canopy g.val with
        writing := none, bufs := fr :: (s.dev.canopy g.val).bufs, lastAt := s.dev.now }).setReg
          Obj.CANOPY_SYNC_STATE g.val cyRunning)))) ∧
  (∀ (s : State) (c : Fin 128) (fr : Frame) (n : Nat), s.dev.life.held = false →
    (s.dev.canopy (c.val / 8)).bufs.head? = some fr →
    n = (if (s.dev.inserter c.val).out < 1024
      then s.dev.outFrameNo (s.dev.inserter c.val).out (s.dev.out (s.dev.inserter c.val).out).next else 0) →
    (s.dev.follows = false → exec (.canopySelect c) s = .next (s.after
      ((s.dev.setInserter c.val { s.dev.inserter c.val with sel := some fr.no }).mirror 0x06 (canopyRecord c.val n fr.no)))) ∧
    (s.dev.follows = true → exec (.canopySelect c) s = .next (s.after
      (s.dev.setInserter c.val { s.dev.inserter c.val with sel := some fr.no })))) ∧
  (∀ (s : State) (c : Fin 128), s.dev.life.held = false → (s.dev.canopy (c.val / 8)).bufs = [] →
    exec (.canopySelect c) s = .next (s.after (s.dev.setInserter c.val { s.dev.inserter c.val with sel := none }))) ∧
  (∀ (s : State) (g : Fin 16), s.dev.life.held = false →
    (s.dev.canopyState g.val ∈ [cyRunning, cyHold] →
      (s.dev.canopy g.val).lastAt + s.dev.reg Obj.CANOPY_LOSS_HOLD * s.dev.canopyPeriod g.val ≤ s.dev.now →
      exec (.canopyLossTimeout g) s = .next (s.after
        ((s.dev.setReg Obj.CANOPY_SYNC_STATE g.val cyLost).event 0x2101 (refOf Obj.CANOPY_SYNC_STATE g.val)))) ∧
    (s.dev.canopyState g.val ∉ [cyRunning, cyHold] → exec (.canopyLossTimeout g) s = .next (s.after s.dev)))

/-- The Canopy port (R269, R270; Table 7.5). What counts as bad, and a frame to another address, is log entry 51.
Rows: CANOPY_PORT_FRAME, CANOPY_BYTE_GAP_TIMEOUT, CANOPY_REPLY. -/
def Obligations.CanopyPort : Prop :=
  (∀ (s : State) (f : CanopyFrame), s.dev.life.held = false → s.dev.portOpen .cn = true →
    (cnBody f = none → exec (.canopyPortFrame f) s = .next (s.after
      { s.dev.count Obj.CN_FRAMES_BAD with cn := { s.dev.cn with bad := (s.dev.clock :: s.dev.cn.bad).take 10 } })) ∧
    (∀ addr body, cnBody f = some (addr, body) → addr ∈ [3, 1 + boolNat s.dev.nv.sideB] →
      exec (.canopyPortFrame f) s = .next (s.after
        (({ s.dev.count Obj.CN_FRAMES_OK with cn := { s.dev.cn with heardAt := s.dev.clock } }).message .cn 0 (addr == 3) none body))) ∧
    (∀ addr body, cnBody f = some (addr, body) → addr ∉ [3, 1 + boolNat s.dev.nv.sideB] →
      exec (.canopyPortFrame f) s = .next (s.after s.dev))) ∧
  (∀ (s : State), s.dev.life.held = false → s.dev.portOpen .cn = true →
    exec .canopyByteGapTimeout s = .next (s.after
      { s.dev.count Obj.CN_FRAMES_BAD with cn := { s.dev.cn with bad := (s.dev.clock :: s.dev.cn.bad).take 10 } })) ∧
  (∀ (s : State) (f : CanopyFrame), s.dev.life.held = false → s.dev.portOpen .cn = false →
    exec (.canopyPortFrame f) s = .next (s.after s.dev) ∧ exec .canopyByteGapTimeout s = .next (s.after s.dev)) ∧
  (∀ (s : State), s.dev.life.held = false → s.dev.ch.cnReply = none → exec .canopyReply s = .next (s.after s.dev)) ∧
  (∀ (s : State) (b : Bytes), s.dev.life.held = false → s.dev.ch.cnReply = some b →
    (∀ x ∈ s.dev.ch.deferred, x.port ≠ .cn) →
    exec .canopyReply s = .next (s.after { s.dev.passTo (s.dev.cn.heardAt + 50000) with
      cn := { s.dev.cn with sent := cnFrameBytes (1 + boolNat s.dev.nv.sideB) b }, ch := { s.dev.ch with cnReply := none } }))

/-- Audio blocks and their deadlines (R279 to R281), the mixer (R290 to R292) and records of the gain matrix (R298).
Rows: AUDIO_BLOCK_ARRIVAL, AUDIO_BLOCK_DEADLINE, MIXER_BLOCK, GAIN_STORE_RECORD. -/
def Obligations.AudioBlocksAndMixer : Prop :=
  ((∀ (s : State) (ao : Fin 37376) (n : Nat) (ais : List (BitVec 16)), s.dev.life.held = false → s.dev.aoOffset ao.val = none →
    exec (.audioBlockArrival ao ⟨n, ais⟩) s = .next (s.after s.dev) ∧ exec (.audioBlockDeadline ao n) s = .next (s.after s.dev)) ∧
  (∀ (s : State) (ao : Fin 37376) (n off : Nat) (ais : List (BitVec 16)) (rs : List (Nat × Block)),
    s.dev.life.held = false → s.dev.aoOffset ao.val = some off →
    rs = (((ais.map (·.toNat)).take 4).filter (s.dev.audioSub · (aoNode ao.val))).filterMap
      (fun ai => (s.dev.aiBlock ai n).map (fun b => (ai, b))) →
    (rs = [] → exec (.audioBlockArrival ao ⟨n, ais⟩) s = .next (s.after s.dev)) ∧
    (rs ≠ [] → exec (.audioBlockArrival ao ⟨n, ais⟩) s = .next (s.after
      ((meshRecords (meshAudio n rs)).2.foldl (fun d r => d.alignBlock ao.val (meshRecords (meshAudio n rs)).1 off r)
        { s.dev with audioMesh := smSet s.dev.audioMesh (aoNode ao.val) (some (meshAudio n rs)) none })))) ∧
  (∀ (n ai : Nat) (b : Block), n < 2 ^ 64 → ai < 65536 → b.present < 65536 → b.samples.length = 16 →
    (∀ v ∈ b.samples, -8388608 ≤ v ∧ v < 8388608) → (∀ i, i < 16 → bitOf b.present i = false → b.samples.getD i 0 = 0) →
    meshRecords (meshAudio n [(ai, b)]) = (n, [(ai, b)])) ∧
  (∀ (d : Dev) (a n off : Nat) (r : Nat × Block), ((d.ao a).sources n).contains r.1 = true → r.1 ≠ aiSilence →
    (d.blockDeadline a n off < d.now ∨ smGet (d.ao a).decided n 0 ≠ 0 →
      d.alignBlock a n off r = (d.count Obj.AO_LATE_DROP a).pulse Flt.AO_LATE) ∧
    (d.now ≤ d.blockDeadline a n off → smGet (d.ao a).decided n 0 = 0 →
      d.alignBlock a n off r =
        (d.setAo a { d.ao a with got := smSet (d.ao a).got (n * 65536 + r.1) r.2 {} }).aoPrune a off)) ∧
  (∀ (s : State) (ao : Fin 37376) (n off : Nat), s.dev.life.held = false → s.dev.aoOffset ao.val = some off →
    (smGet (s.dev.ao ao.val).decided n 0 ≠ 0 ∨ s.dev.now < s.dev.blockDeadline ao.val n off →
      exec (.audioBlockDeadline ao n) s = .next (s.after s.dev)) ∧
    (smGet (s.dev.ao ao.val).decided n 0 = 0 → s.dev.blockDeadline ao.val n off ≤ s.dev.now → s.dev.follows = false →
      (s.dev.blockHere ao.val n = true →
        exec (.audioBlockDeadline ao n) s = .next (s.after ((s.dev.decideBlock ao.val n true).aoPrune ao.val off))) ∧
      (s.dev.blockHere ao.val n = false → ((s.dev.decideBlock ao.val n false).aoPrune ao.val off).acts = false →
        exec (.audioBlockDeadline ao n) s = .next (s.after ((s.dev.decideBlock ao.val n false).aoPrune ao.val off)))))) ∧
((∀ (s : State) (n : Nat), s.dev.life.held = false →
    (s.dev.now < blockTime n + s.dev.reg Obj.MIX_IN_OFFSET * subNs → exec (.mixerBlock n) s = .next (s.after s.dev)) ∧
    (s.dev.mix.made.any (fun m => m.1 == n + 2) = true → exec (.mixerBlock n) s = .next (s.after s.dev)) ∧
    (blockTime n + s.dev.reg Obj.MIX_IN_OFFSET * subNs ≤ s.dev.now → s.dev.mix.made.any (fun m => m.1 == n + 2) = false →
      s.dev.mix.gain = [] → s.dev.mix.armedE = none →
      exec (.mixerBlock n) s = .next (s.after { s.dev.mixTake n with
        mix := { (s.dev.mixTake n).mix with made := ((n + 2, []) :: (s.dev.mixTake n).mix.made).take 256 } }))) ∧
  (∀ (s : State) (n c : Nat) (g : Nat) (out : List Int) (d : Dev), s.dev.life.held = false →
    blockTime n + s.dev.reg Obj.MIX_IN_OFFSET * subNs ≤ s.dev.now → s.dev.mix.made.any (fun m => m.1 == n + 2) = false →
    d = s.dev.mixTake n → s.dev.mix.gain = [(c, g)] → s.dev.mix.bad = [] → s.dev.mix.armedE = none →
    out = (List.range 16).map (fun k => mixTerm (d.miSample (c % 4096) n k) (rampGain (toInt 16 g) (toInt 16 g) k)) →
    (∀ v ∈ out, mixClamp (mixRound v) = mixRound v) →
    exec (.mixerBlock n) s = .next (s.after { d with mix := { d.mix with
      made := ((n + 2, [(c / 4096, { present := 0xFFFF, samples := out.map mixRound })]) :: d.mix.made).take 256 } })) ∧
  (∀ (s : State), s.dev.life.held = false →
    (s.dev.gateOn 33 = true → s.dev.life.gainDirty ≠ [] → exec .gainStoreRecord s = .next (s.after
      ((s.dev.modNv (fun v => { v with gainLog := v.gainLog ++ s.dev.life.gainDirty.map (fun o =>
        ({ kind := 6, set := s.dev.life.setNo + 1, body := gainRowBody s.dev.mix.gain o } : StoreRec)) ++
        [closeRec (s.dev.life.setNo + 1) s.dev.life.gainDirty.length] })).modLife
        (fun x => { x with gainDirty := [], setNo := s.dev.life.setNo + 1 })))) ∧
    (s.dev.life.gainDirty = [] → exec .gainStoreRecord s = .next (s.after s.dev))))

/-- TDM ports (R300 to R308). Readings of the port rules are log entry 53.
Rows: TDM_FRAME, TDM_QUALIFIED, TDM_CLOCK_LOSS, TDM_SLIP_CHECK, TDM_LEAD_END, TDM_STOP_STEP. -/
def Obligations.TdmPorts : Prop :=
  (∀ (s : State) (a : Fin 32) (f : TdmFrame) (d : Dev), s.dev.life.held = false →
    d = s.dev.setReg Obj.AP_FRAME_PERIOD a.val (f.period % 2 ^ 32) → 
    (d.apMaster a.val = true → (∀ k, (d.apSettle a.val).ap a.val = k → k.on = none →
      exec (.tdmFrame a f) s = .next (s.after (d.apSettle a.val)))) ∧
    (d.apMaster a.val = true → ∀ k n, (d.apSettle a.val).ap a.val = k → k.on = some n → n ≤ sampleNear (d.apSettle a.val).now - 1 →
      (d.apSettle a.val).apState a.val ≠ apRetired →
      exec (.tdmFrame a f) s = .next (s.after ((d.apSettle a.val).frameOut a.val
        (((sampleNear (d.apSettle a.val).now - 1 : Nat) : Int) - ((d.apSettle a.val).reg Obj.AP_IN_DELAY a.val : Nat))
        ((sampleNear (d.apSettle a.val).now - 1 : Nat) : Int) (k.masterLevel (sampleNear (d.apSettle a.val).now - 1))
        (sdinSamples f.sdin)))) ∧
    (d.apMaster a.val = false → exec (.tdmFrame a f) s = .next (s.after (d.slaveFrame a.val f)))) ∧
  (∀ (s : State) (a : Fin 32), s.dev.life.held = false → s.dev.apMaster a.val = false →
    ((s.dev.ap a.val).det = apQualifying → 4800 ≤ (s.dev.ap a.val).clean → exec (.tdmQualified a) s = .next (s.after
      ((s.dev.setAp a.val { s.dev.ap a.val with det := apRunning, clean := 0 }).detect a.val tkRun (s.dev.ap a.val).k))) ∧
    ((s.dev.ap a.val).clean < 4800 → exec (.tdmQualified a) s = .next (s.after s.dev)) ∧
    ((s.dev.ap a.val).det ∉ [apOff, apLost] → exec (.tdmClockLoss a) s = .next (s.after
      ((s.dev.setAp a.val { s.dev.ap a.val with det := apLost, clean := 0, dirty := 0, periods := [] }).detect a.val tkLost
        ((s.dev.ap a.val).k + 1)))) ∧
    ((s.dev.ap a.val).det ∈ [apOff, apLost] → exec (.tdmClockLoss a) s = .next (s.after s.dev))) ∧
  (∀ (s : State) (a : Fin 32), s.dev.life.held = false → s.dev.apMaster a.val = true →
    exec (.tdmQualified a) s = .next (s.after s.dev) ∧ exec (.tdmClockLoss a) s = .next (s.after s.dev)) ∧
  (∀ (s : State) (a : Fin 32) (t : Nat) (want : Int), s.dev.life.held = false → s.dev.apMaster a.val = false →
    s.dev.apState a.val = apRunning → (s.dev.ap a.val).anchorDue = false →
    want = ((sampleTime ((s.dev.ap a.val).k + (s.dev.reg Obj.AP_IN_DELAY a.val : Nat)).toNat : Nat) : Int) →
    (((t : Int) - want).natAbs ≤ usMt 5 → exec (.tdmSlipCheck a t) s = .next (s.after s.dev)) ∧
    (usMt 5 < ((t : Int) - want).natAbs → s.dev.follows = false → ∀ d, d = (s.dev.count Obj.AP_SLIPS a.val).pulse Flt.AP_SLIP →
      d.follows = false →
      exec (.tdmSlipCheck a t) s = .next (s.after (d.setAp a.val { d.ap a.val with anchorDue := true })))) ∧
  (∀ (s : State) (a : Fin 32), s.dev.life.held = false →
    (s.dev.apState a.val = apLead → exec (.tdmLeadEnd a) s = .next (s.after (s.dev.apSettle a.val))) ∧
    (∀ k, s.dev.apState a.val = apLead → (s.dev.ap a.val).off = none → (s.dev.ap a.val).on = some k →
      sampleTime (k + 1024) ≤ s.dev.now → exec (.tdmLeadEnd a) s = .next (s.after (s.dev.setReg Obj.AP_STATE a.val apRunning))) ∧
    (s.dev.apState a.val ≠ apLead → exec (.tdmLeadEnd a) s = .next (s.after s.dev)) ∧
    (∀ k, (s.dev.ap a.val).off = some k → s.dev.apState a.val ≠ apRetired → sampleTime (k + 65) ≤ s.dev.now →
      exec (.tdmStopStep a) s = .next (s.after ((s.dev.setReg Obj.AP_STATE a.val apOff).setAp a.val
        { s.dev.ap a.val with on := none, off := none, ring := [], edge := {} }))) ∧
    ((s.dev.ap a.val).off = none → exec (.tdmStopStep a) s = .next (s.after s.dev)))

/-- FM_REQUEST (R12, R314, R319, R320, R329, R332): where a request is turned away, what enters a queue, and what a transfer reads or
writes.
Rows: FM_REQUEST. -/
def Obligations.FrameMemoryRequests : Prop :=
  (∀ (s : State) (q : FmReq) (cs : List (List (Fin 3072))) (ks : List (List Nat)), s.dev.life.held = false →
    ks = cs.map (fun c => c.map (·.val)) →
    (q.cls.val < 4 → fmInRegion q = false → exec (.fmRequest ⟨q, cs⟩) s = .next (s.after ((s.dev.pulse Flt.FM_REGION).fmRun ks))) ∧
    (4 ≤ q.cls.val → 0xBD0000000 ≤ q.offset.toNat → q.inst ≠ 7 →
      exec (.fmRequest ⟨q, cs⟩) s = .next (s.after ((s.dev.busAnswer q.inst 2 (List.replicate q.len 0)).fmRun ks))) ∧
    (4 ≤ q.cls.val → q.offset.toNat < 0xBD0000000 ∨ q.inst = 7 → 0xC00000000 < q.offset.toNat + q.len →
      exec (.fmRequest ⟨q, cs⟩) s = .next (s.after ((s.dev.busAnswer q.inst 1 (List.replicate q.len 0)).fmRun ks))) ∧
    ((q.cls.val < 4 ∧ fmInRegion q = true) ∨
      (4 ≤ q.cls.val ∧ (q.offset.toNat < 0xBD0000000 ∨ q.inst = 7) ∧ q.offset.toNat + q.len ≤ 0xC00000000) →
      exec (.fmRequest ⟨q, cs⟩) s = .next (s.after (((s.dev.modFm (fun x => { x with held := x.held ++ [q] })).fmSettle).fmRun ks)))) ∧
  (∀ (d : Dev) (q : FmReq) (pc : Nat), pc = (d.fmCoord q.offset.toNat).pc →
    (d.pcServes pc = false ∨ 64 ≤ (d.fmQueue pc q.write).length → d.fmAdmit q = none) ∧
    (d.pcServes pc = true → (d.fmQueue pc q.write).length < 64 →
      (q.cls.val = 5 → d.takeTokens 5 q.len = none → d.fmAdmit q = none) ∧
      (∀ e, q.write = true → d.takeTokens q.cls.val q.len = some e → d.fmAdmit q = some
        ((e.setFmQueue pc true (e.fmQueue pc true ++ [⟨q, e.fm.accepted, e.clock, true, []⟩])).modFm (fun x => { x with
          accepted := x.accepted + 1 }))) ∧
      (∀ e, q.write = true → q.cls.val ≠ 5 → d.takeTokens q.cls.val q.len = none →
        e = (d.count Obj.FM_CLASS_OVER q.cls.val).pulse Flt.FM_CLASS_OVER → d.fmAdmit q = some
        ((e.setFmQueue pc true (e.fmQueue pc true ++ [⟨q, e.fm.accepted, e.clock, false, []⟩])).modFm (fun x => { x with
          accepted := x.accepted + 1 }))))) ∧
  (∀ (d : Dev) (q : FmReq) (u : Nat), q.write = true → q.cls = 5 → q.offset.toNat = 32 * u → q.len = 32 → q.data.length = 32 →
    (d.fmTransfer q []).fmUnit u = q.data ∧ (d.fmTransfer q []).fmPoisoned u = false ∧ (d.fmTransfer q []).bus.resp = 0 ∧
    ∀ v, v ≠ u → (d.fmTransfer q []).fmUnit v = d.fmUnit v) ∧
  (∀ (d : Dev) (q : FmReq) (u o : Nat), q.write = true → q.cls = 5 → q.offset.toNat = 32 * u + o → 0 < q.len → q.len < 32 →
    o + q.len ≤ 32 → q.ecc = .clean → q.odecc = 0 → d.fmPoisoned u = true →
    (d.fmTransfer q []).bus.resp = 3 ∧ ∀ v, (d.fmTransfer q []).fmUnit v = d.fmUnit v) ∧
  (∀ (d : Dev) (q : FmReq) (u : Nat), q.write = false → q.cls = 5 → q.offset.toNat = 32 * u → q.len = 32 → q.ecc = .clean →
    q.odecc = 0 →
    (d.fmPoisoned u = false → (d.fmTransfer q []).bus.resp = 0 ∧ (d.fmTransfer q []).bus.data = (d.fmUnit u).take 32) ∧
    (d.fmPoisoned u = true → (d.fmTransfer q []).bus.resp = 3 ∧ (d.fmTransfer q []).bus.data = List.replicate 32 0) ∧
    ∀ v, (d.fmTransfer q []).fmUnit v = d.fmUnit v)

/-- Refresh, temperature, row hammer windows, pages, retraining, scrub and the end of a retirement copy (R316, R317, R323 to R326,
R328, R329, R331, R333, R336).
Rows: FM_CE_WRITEBACK, FM_REFRESH_TICK, FM_TEMP_SAMPLE, FM_RH_SUBWINDOW, FM_RH_THROTTLE_END, FM_PAGE_IDLE_CLOSE, FM_RETRAIN_START,
FM_RETRAIN_STEP, FM_RETIRE_COPY_DONE, FM_SCRUB. -/
def Obligations.FrameMemoryBackground : Prop :=
  (∀ (s : State) (u : Nat), s.dev.life.held = false →
    (s.dev.fm.writeback.contains u = false ∨ s.dev.takeTokens 5 32 = none → exec (.fmCeWriteback u) s = .next (s.after s.dev)) ∧
    (∀ d, s.dev.fm.writeback.contains u = true → s.dev.takeTokens 5 32 = some d → exec (.fmCeWriteback u) s = .next (s.after
      (d.modFm (fun x => { x with served := smSet x.served 5 (smGet x.served 5 0 + 32) 0, writeback := x.writeback.filter (· != u) }))))) ∧
  (∀ (s : State) (pc : Fin 64) (sid : Fin 3) (b : Fin 16), s.dev.life.held = false →
    (s.dev.pcServes pc.val = false → exec (.fmRefreshTick pc sid b) s = .next (s.after s.dev)) ∧
    (∀ k d x e, s.dev.pcServes pc.val = true → k = 48 * pc.val + (16 * sid.val + b.val) → d = s.dev.passTo (s.dev.bank k).tickAt →
      x = { d.bank k with
        debt := (d.bank k).debt + 1, tickAt := (if (d.bank k).tickAt = 0 then d.clock else (d.bank k).tickAt) + d.fmRefi pc.val } →
      x.debt ≤ d.reg Obj.FM_REF_DEBT_MAX pc.val →
      (d.fmHot pc.val = true → e = (d.count Obj.FM_REF_FORCED pc.val).setBank k { x with debt := x.debt - 1, open_ := 0 } →
        exec (.fmRefreshTick pc sid b) s = .next (s.after (if 9 < (e.bank k).debt then e.setLine Flt.FM_REFRESH true else e))) ∧
      (d.fmHot pc.val = false → x.debt ≤ d.reg Obj.FM_REF_POSTPONE → e = (d.setBank k x).fmRefreshFree →
        exec (.fmRefreshTick pc sid b) s = .next (s.after (if 9 < (e.bank k).debt then e.setLine Flt.FM_REFRESH true else e))))) ∧
  (∀ (s : State) (st : Fin 2) (d e : Dev), s.dev.life.held = false → s.dev.flag Obj.FM_HOT st.val = false →
    (∀ t : Int, d = s.dev.setSreg 8 Obj.FM_TEMP st.val t → e = d.setLine (Flt.HBM_OVERTEMP + st.val) (decide (100 ≤ t)) →
      e.flag Obj.FM_HOT st.val = false →
      (85 < t → exec (.fmTempSample st (some t)) s = .next (s.after
        ((((e.setReg Obj.FM_HOT st.val 1).count Obj.FM_HOT_ENTRIES st.val).setLine (Flt.HBM_HOT + st.val) true).payback st.val))) ∧
      (t ≤ 85 → exec (.fmTempSample st (some t)) s = .next (s.after e))) ∧
    exec (.fmTempSample st none) s = .next (s.after
      ((((s.dev.setReg Obj.FM_HOT st.val 1).count Obj.FM_HOT_ENTRIES st.val).setLine (Flt.HBM_HOT + st.val) true).payback st.val))) ∧
  (∀ (s : State), s.dev.life.held = false →
    exec .fmRhSubwindow s = .next (s.after ((s.dev.fm.banks.filter (fun kv => kv.2.acts != [])).foldl (fun d kv =>
      d.setBank kv.1 { kv.2 with acts := (kv.2.acts.map (fun e => (e.1, (0 :: e.2).take 8))).filter (fun e => e.2.any (· != 0)) }) s.dev))) ∧
  (∀ (s : State) (c : Fin 6) (i : Nat), s.dev.life.held = false →
    exec (.fmRhThrottleEnd c i) s = .next (s.after ((s.dev.modFm (fun x => { x with throttles := x.throttles.filter (fun t =>
      !(t.cls == c.val && t.inst == i && decide (t.endAt ≤ s.dev.clock))) })).fmSettle))) ∧
  (∀ (s : State) (pc : Fin 64) (b : Fin 48), s.dev.life.held = false →
    (s.dev.reg Obj.FM_PAGE_IDLE = 0 ∨ (s.dev.bank (48 * pc.val + b.val)).open_ = 0 →
      exec (.fmPageIdleClose pc b) s = .next (s.after s.dev)) ∧
    (s.dev.reg Obj.FM_PAGE_IDLE ≠ 0 → (s.dev.bank (48 * pc.val + b.val)).open_ ≠ 0 → exec (.fmPageIdleClose pc b) s = .next (s.after
      ((s.dev.passTo ((s.dev.bank (48 * pc.val + b.val)).usedAt + s.dev.reg Obj.FM_PAGE_IDLE)).setBank (48 * pc.val + b.val)
        { s.dev.bank (48 * pc.val + b.val) with open_ := 0 })))) ∧
  (∀ (s : State), s.dev.life.held = false →
    (∀ pc, s.dev.fm.retrain = 0 → s.dev.fm.retrainAt + s.dev.reg Obj.FM_RETRAIN_GAP * 1000000000 ≤ s.dev.clock →
      s.dev.nextRetrain = some pc →
      exec .fmRetrainStart s = .next (s.after (s.dev.modFm (fun x => { x with retrain := pc + 1, retrainStep := 0 })))) ∧
    (s.dev.fm.retrain ≠ 0 → exec .fmRetrainStart s = .next (s.after s.dev)) ∧
    (s.dev.clock < s.dev.fm.retrainAt + s.dev.reg Obj.FM_RETRAIN_GAP * 1000000000 →
      exec .fmRetrainStart s = .next (s.after s.dev))) ∧
  (∀ (s : State) (st : Fin 2) (x : Fin 32) (pc w : Nat) (c : Bool), s.dev.life.held = false → pc = 32 * st.val + x.val →
    (∀ d e, s.dev.fm.retrain = pc + 1 → s.dev.fm.banks.any (fun kv => kv.1 / 48 == pc && decide (6 ≤ kv.2.debt)) = false →
      (s.dev.fmQueue pc false).length < 48 → s.dev.fm.stepAt + 10000 ≤ s.dev.clock → s.dev.takeTokens 5 retrainBytes = some d →
      (s.dev.fm.retrainStep + 1 < 256 → e = d.modFm (fun x => { x with
          served := smSet x.served 5 (smGet x.served 5 0 + retrainBytes) 0, retrainStep := x.retrainStep + 1, stepAt := s.dev.clock }) →
        exec (.fmRetrainStep st x c w) s = .next (s.after e)) ∧
      (s.dev.fm.retrainStep = 255 → c = true → e.reg Obj.FM_EYE_MIN ≤ w → e = ((d.modFm (fun x => { x with
          served := smSet x.served 5 (smGet x.served 5 0 + retrainBytes) 0, stepAt := s.dev.clock, retrain := 0, retrainStep := 0
          retrainLast := pc, retrainAt := s.dev.clock })).setReg Obj.FM_EYE_WIDTH pc (w % 65536)).count Obj.FM_RETRAINS pc →
        exec (.fmRetrainStep st x c w) s = .next (s.after (e.rmbDone 3)))) ∧
    (s.dev.fm.retrain ≠ pc + 1 ∨ 48 ≤ (s.dev.fmQueue pc false).length ∨ s.dev.clock < s.dev.fm.stepAt + 10000 ∨
      s.dev.takeTokens 5 retrainBytes = none → exec (.fmRetrainStep st x c w) s = .next (s.after s.dev))) ∧
  (∀ (s : State), s.dev.life.held = false →
    (s.dev.fm.copying = 0 → exec .fmRetireCopyDone s = .next (s.after s.dev)) ∧
    (∀ pc answers bad d e, s.dev.fm.copying = pc + 1 → Config.copyRead s.dev.freeN = (answers, bad) →
      d = ((((({ s.dev with freeN := s.dev.freeN + 1 }.modFm (fun x => { x with
        copying := 0, gone := if answers then x.gone else pc + 1, rewritten := if answers then x.rewritten else []
        poison := x.poison ++ bad.filter (fun u =>
          (coordOf (fun k => s.dev.reg Obj.FM_HASH_LIVE k) (32 * u)).pc == pc && !x.poison.contains u) })).setReg Obj.FM_PC_STATE pc
        pcRetired).setReg Obj.FM_RETIRED_PC 0 pc).setReg Obj.FM_CAPACITY 0 50734301184).setReg Obj.FM_PEAK 0 12902400).setReg
        Obj.FM_CLASS_BUDGET 5 258048 →
      e = { d with nv := { d.nv with fmRetired := pc } } →
      exec .fmRetireCopyDone s = .next (s.after (e.event 0x4141 (refOf Obj.FM_PC_STATE pc)
        (e.poisonedRegions.map (BitVec.ofNat 8)))))) ∧
  (∀ (s : State) (o : EccOutcome), s.dev.life.held = false → s.dev.takeTokens 5 32 = none →
    exec (.fmScrub o) s = .next (s.after s.dev)) ∧
  (∀ (s : State) (c d e : Dev) (pos : Nat), s.dev.life.held = false → s.dev.takeTokens 5 32 = some c →
    d = c.modFm (fun x => { x with served := smSet x.served 5 (smGet x.served 5 0 + 32) 0 }) → pos = s.dev.reg Obj.FM_SCRUB_POS →
    (pos + 32 < 51539607552 → exec (.fmScrub .clean) s = .next (s.after (d.setReg Obj.FM_SCRUB_POS 0 (pos + 32)))) ∧
    (pos + 32 < 51539607552 → d.pcServes (d.fmCoord pos).pc = true → d.fmPoisoned (pos / 32) = false →
      exec (.fmScrub .corrected) s = .next (s.after ((d.correctUnit (pos / 32)).setReg Obj.FM_SCRUB_POS 0 (pos + 32))) ∧
      exec (.fmScrub .uncorrectable) s = .next (s.after ((d.poisonUnit (pos / 32)).setReg Obj.FM_SCRUB_POS 0 (pos + 32)))) ∧
    (51539607552 ≤ pos + 32 → e = ((d.setReg Obj.FM_SCRUB_POS 0 0).count Obj.FM_SCRUB_PASSES).modFm (fun x =>
        { x with passAt := d.clock }) → e.reg Obj.FM_SCRUB_POS = 0 →
      exec (.fmScrub .clean) s = .next (s.after (e.rmbDone 5))))

/-- Receive flows: the classification of a packet, a leg that falls silent, the decision of a position; and transmit flows (R205,
R219, R226, R233; Table 6.2).
Rows: PACKET_RECEIVE, RF_LEG_DOWN, POSITION_DEADLINE, PACKET_SEND. -/
def Obligations.ReceiveAndTransmitFlows : Prop :=
  (∀ (s : State) (sg : Fin 16) (sk : Fin 64) (p : Nat), s.dev.life.held = false → p = 64 * sg.val + sk.val → (s.dev.inp p).frames = [] →
    exec (.packetReceive sg sk) s = .next (s.after s.dev)) ∧
  (∀ (s : State) (sg : Fin 16) (sk : Fin 64) (p : Nat) (a : Nat) (bytes : Bytes) (rest : List (Nat × Bytes)) (d : Dev), s.dev.life.held = false → p = 64 * sg.val + sk.val →
    (s.dev.inp p).frames = (a, bytes) :: rest → d = s.dev.modInp p (fun x => { x with frames := rest }) →
    (d.reg Obj.IN_TRANSPORT p ≠ 1 → exec (.packetReceive sg sk) s = .next (s.after d)) ∧
    (d.reg Obj.IN_TRANSPORT p = 1 → parseUdp bytes = .badFcs →
      exec (.packetReceive sg sk) s = .next (s.after ((d.count Obj.PKT_FCS_ERR p).pulse Flt.PKT_FCS))) ∧
    (d.reg Obj.IN_TRANSPORT p = 1 → parseUdp bytes = .badHdr →
      exec (.packetReceive sg sk) s = .next (s.after ((d.count Obj.PKT_HDR_ERR p).pulse Flt.PKT_HDR))) ∧
    (∀ ip udp pl, d.reg Obj.IN_TRANSPORT p = 1 → parseUdp bytes = .good ip udp pl →
      ((d.trueOf Obj.RF_ENABLE).find? (fun f => d.reg Obj.RF_PORT f == p && d.reg Obj.RF_DST_IP f == ip &&
          d.reg Obj.RF_DST_UDP f == udp && (!d.flag Obj.RF_MATCH_SSRC f || d.reg Obj.RF_SSRC f == byteField pl 8 4)) = none →
        exec (.packetReceive sg sk) s = .next (s.after (d.count Obj.PKT_UNMATCHED p))) ∧
      ∀ f, (d.trueOf Obj.RF_ENABLE).find? (fun f => d.reg Obj.RF_PORT f == p && d.reg Obj.RF_DST_IP f == ip &&
          d.reg Obj.RF_DST_UDP f == udp && (!d.flag Obj.RF_MATCH_SSRC f || d.reg Obj.RF_SSRC f == byteField pl 8 4)) = some f →
        (parseRtp pl = none → exec (.packetReceive sg sk) s = .next (s.after ((d.count Obj.RF_BAD f).pulse Flt.PKT_HDR))) ∧
        (∀ r, parseRtp pl = some r → d.reg Obj.RF_PT f ≠ 0 → d.reg Obj.RF_PT f ≠ r.pt →
          exec (.packetReceive sg sk) s = .next (s.after ((d.count Obj.RF_BAD f).pulse Flt.PKT_HDR))) ∧
        (∀ r, parseRtp pl = some r → d.reg Obj.RF_PT f = 0 ∨ d.reg Obj.RF_PT f = r.pt →
          exec (.packetReceive sg sk) s = .next (s.after (d.placePacket f a r bytes.length))))) ∧
  (∀ (s : State) (f : Fin 4096), s.dev.life.held = false →
    (s.dev.flag Obj.RF_ENABLE f.val = true → s.dev.reg Obj.RF_LEG_STATE f.val = 1 → (s.dev.leg f.val).lastAt + 10000000 ≤ s.dev.clock →
      exec (.rfLegDown f) s = .next (s.after ((s.dev.setReg Obj.RF_LEG_STATE f.val 0).event 0x1801 (refOf Obj.RF_LEG_STATE f.val)))) ∧
    (s.dev.clock < (s.dev.leg f.val).lastAt + 10000000 → exec (.rfLegDown f) s = .next (s.after s.dev))) ∧
  (∀ (s : State) (f : Fin 4096) (fr pos key : Nat), s.dev.life.held = false → key = fr * 2 ^ 32 + pos →
    (s.dev.flag Obj.RF_ENABLE f.val = false ∨ smGet (s.dev.store (s.dev.storeOwner f.val)).decided key 0 ≠ 0 ∨
      s.dev.now < s.dev.deadline f.val key → exec (.positionDeadline f fr pos) s = .next (s.after s.dev)) ∧
    (s.dev.flag Obj.RF_ENABLE f.val = true → smGet (s.dev.store (s.dev.storeOwner f.val)).decided key 0 = 0 →
      s.dev.deadline f.val key ≤ s.dev.now →
      (s.dev.follows = false → smGet (s.dev.store (s.dev.storeOwner f.val)).legs key 0 ≠ 0 →
        exec (.positionDeadline f fr pos) s = .next (s.after (s.dev.decidePosition f.val key true))) ∧
      (s.dev.follows = false → smGet (s.dev.store (s.dev.storeOwner f.val)).legs key 0 = 0 →
        (s.dev.decidePosition f.val key false).acts = false →
        exec (.positionDeadline f fr pos) s = .next (s.after (s.dev.decidePosition f.val key false))) ∧
      (∀ w, s.dev.follows = true →
        s.dev.tw.winV.find? (fun w => w.1 == s.dev.deadline f.val key / usMt 10 % 2 ^ 32 && w.2.1) = some w →
        w.2.2.contains (presenceEntry (s.dev.storeOwner f.val) key) = true →
        exec (.positionDeadline f fr pos) s = .next (s.after (s.dev.decidePosition f.val key false))))) ∧
  (∀ (s : State) (f : Fin 2048) (n j : Nat), s.dev.life.held = false →
    (s.dev.tfState f.val ≠ 1 ∨ s.dev.pipeRuns = false → exec (.packetSend f ⟨n, j⟩) s = .next (s.after s.dev)) ∧
    (s.dev.tfState f.val = 1 → s.dev.pipeRuns = true →
      (s.dev.reg Obj.TF_ESSENCE f.val = 0 → exec (.packetSend f ⟨n, j⟩) s = .next (s.after (s.dev.sendVideo f.val j))) ∧
      (s.dev.reg Obj.TF_ESSENCE f.val = 1 → exec (.packetSend f ⟨n, j⟩) s = .next (s.after (s.dev.sendAudio f.val n))) ∧
      (s.dev.reg Obj.TF_ESSENCE f.val = 2 → exec (.packetSend f ⟨n, j⟩) s = .next (s.after (s.dev.sendAnc f.val n j)))))

/-- The Day Pass at a member of a pair: grants, renewals, revocations, and the lease timer (R347 to R349, R352; Table 10.2).
Rows: DP_GRANT_RECEIVED, DP_RENEW_RECEIVED, LEASE_EXPIRY, DP_REVOKE_RECEIVED, LEASE_CLOCK_DEVIATION. -/
def Obligations.LeaseOfTheDayPass : Prop :=
  (∀ (s : State) (b : BitVec 32) (d : Dev), s.dev.life.held = false → s.dev.heeds = true → lbCode b.toNat = 0 →
    (s.dev.holds = false ∨ lbNo b.toNat ≠ s.dev.reg Obj.DP_LEASE_NO) →
    d = (((s.dev.modTw (fun x => { x with leaseEnd := some (s.dev.clock + 11490), join := .none })).setReg Obj.DP_LEASE_NO 0
      (lbNo b.toNat)).count Obj.DP_GRANTS).setTwin twActive →
    (s.dev.twinState ∈ [twAlone, twHot] → exec (.dpGrantReceived b) s = .next (s.after
      (d.setPhase (match d.life.phase with | .starting => .running | p => p)).sealCopies)) ∧
    (s.dev.twinState = twActive → exec (.dpGrantReceived b) s = .next (s.after
      (d.setPhase (match d.life.phase with | .starting => .running | p => p))))) ∧
  (∀ (s : State) (b : BitVec 32), s.dev.life.held = false →
    s.dev.heeds = false ∨ lbCode b.toNat ≠ 0 ∨ s.dev.twinState ∉ [twAlone, twHot, twActive] ∨
      (s.dev.holds = true ∧ lbNo b.toNat = s.dev.reg Obj.DP_LEASE_NO) →
    exec (.dpGrantReceived b) s = .next (s.after s.dev)) ∧
  (∀ (s : State) (b : BitVec 32) (e : Nat), s.dev.life.held = false → s.dev.tw.leaseEnd = some e →
    (s.dev.heeds = true → s.dev.holds = true → lbCode b.toNat = 1 → lbNo b.toNat = s.dev.reg Obj.DP_LEASE_NO →
      exec (.dpRenewReceived b) s = .next (s.after
        (s.dev.modTw (fun x => { x with leaseEnd := some (max e (s.dev.clock + 11490)) })))) ∧
    (lbNo b.toNat ≠ s.dev.reg Obj.DP_LEASE_NO → exec (.dpRenewReceived b) s = .next (s.after s.dev)) ∧
    exec .leaseExpiry s = .next (s.after (((s.dev.passTo e).count Obj.DP_EXPIRIES).leaseOver false))) ∧
  (∀ (s : State), s.dev.life.held = false → s.dev.tw.leaseEnd = none → exec .leaseExpiry s = .next (s.after s.dev)) ∧
  (∀ (s : State) (b : BitVec 32), s.dev.life.held = false →
    (s.dev.heeds = true → s.dev.holds = true → lbCode b.toNat ≤ 2 → lbNo b.toNat = s.dev.reg Obj.DP_LEASE_NO →
      exec (.dpRevokeReceived b) s = .next (s.after
        ((s.dev.sendSvc tw1 0x42 (leaseBody (lbNo b.toNat) 0 0)).leaseOver (lbCode b.toNat == 0)))) ∧
    (s.dev.holds = false → exec (.dpRevokeReceived b) s = .next (s.after s.dev)) ∧
    (lbNo b.toNat ≠ s.dev.reg Obj.DP_LEASE_NO → exec (.dpRevokeReceived b) s = .next (s.after s.dev)) ∧
    (s.dev.holds = true → exec .leaseClockDeviation s = .next (s.after ((s.dev.leaseOver false).setLine Flt.LEASE_CLOCK true))) ∧
    (s.dev.holds = false → exec .leaseClockDeviation s = .next (s.after (s.dev.setLine Flt.LEASE_CLOCK true)))) ∧
  (∀ (d : Dev), d.twinState = twActive →
    d.leaseOver true = (d.modTw (fun x => { x with leaseEnd := none, serving := none })).enterHot ∧
    d.leaseOver false = (d.modTw (fun x => { x with leaseEnd := none, serving := none })).enterSuspect)

/-- The referee's procedure: acknowledgements, releases, the guard time, renewals, and Roll Calls that stay away (R350, R351).
Rows: DP_ACK_RECEIVED, DP_RELEASE_RECEIVED, REFEREE_GUARD_EXPIRY, REFEREE_RENEW_TICK, ROLL_CALL_TIMEOUT. -/
def Obligations.RefereeProcedure : Prop :=
  (∀ (s : State) (i : Fin 2) (b : BitVec 32), s.dev.life.held = false → s.dev.twinState = twReferee → s.dev.rf.holder = i.val →
    lbNo b.toNat = s.dev.rf.leaseNo →
    (s.dev.rf.phase = .waiting → exec (.dpAckReceived i b) s = .next (s.after s.dev.refFree)) ∧
    (s.dev.rf.phase ≠ .idle → lbCode b.toNat ≤ 2 → exec (.dpReleaseReceived i b) s = .next (s.after s.dev.refFree))) ∧
  (∀ (s : State) (i : Fin 2) (b : BitVec 32), s.dev.life.held = false →
    (s.dev.twinState ≠ twReferee ∨ s.dev.rf.holder ≠ i.val ∨ lbNo b.toNat ≠ s.dev.rf.leaseNo) →
    exec (.dpAckReceived i b) s = .next (s.after s.dev) ∧ exec (.dpReleaseReceived i b) s = .next (s.after s.dev)) ∧
  (∀ (s : State), s.dev.life.held = false → s.dev.twinState = twReferee →
    (s.dev.rf.phase = .waiting →
      exec .refereeGuardExpiry s = .next (s.after (s.dev.passTo (s.dev.rf.leaseEnd + 500)).refFree)) ∧
    (s.dev.rf.phase ≠ .waiting → exec .refereeGuardExpiry s = .next (s.after s.dev)) ∧
    (∀ d, d = ((s.dev.passTo s.dev.rf.tickAt).modRf (fun x => { x with
        tickAt := max s.dev.clock s.dev.rf.tickAt + 3000 })).refSettle.refEvaluate → d.rf.phase = .granted →
      [tw0, tw1].any (fun l => ((d.sendSvc (272 + d.rf.holder) 0x40 (leaseBody d.rf.leaseNo 1 0)).tx l).svc.any
        (fun m => m.1 == 0x149)) = false →
      exec .refereeRenewTick s = .next (s.after
        ((d.sendSvc (272 + d.rf.holder) 0x40 (leaseBody d.rf.leaseNo 1 0)).sendVerdict false))) ∧
    (∀ i : Fin 2, (s.dev.rf.dev i.val).heard = none → exec (.rollCallTimeout i) s = .next (s.after s.dev)) ∧
    (∀ (i : Fin 2) (t : Nat), (s.dev.rf.dev i.val).heard = some t → exec (.rollCallTimeout i) s = .next (s.after
      ((((s.dev.passTo (t + 4000)).modRf
        (fun x => x.setDev i.val { x.dev i.val with heard := none })).refSettle).refEvaluate)))) ∧
  (∀ (s : State) (i : Fin 2), s.dev.life.held = false → s.dev.twinState ≠ twReferee →
    exec .refereeRenewTick s = .next (s.after s.dev) ∧ exec .refereeGuardExpiry s = .next (s.after s.dev) ∧
    exec (.rollCallTimeout i) s = .next (s.after s.dev)) ∧
  (∀ (d : Dev) (i : Nat), d.rf.phase = .idle → d.refChoice = some i →
    d.refGrant = (((d.modRf (fun x => { x with
      phase := .granted, holder := i, leaseNo := (d.rf.leaseNo + 1) % 65536, leaseEnd := d.clock + 12000 })).sendSvc (272 + i) 0x40
        (leaseBody ((d.rf.leaseNo + 1) % 65536) 0 0)).count Obj.REF_GRANTS).sendVerdict true)

/-- VERDICT and ROLL_CALL (R352 to R360; Tables 10.2 and 10.3).
Rows: VERDICT_RECEIVED, ROLL_CALL_RECEIVED, ROLL_CALL_TICK, OBJECT_SNAPSHOT. -/
def Obligations.VerdictsAndRollCalls : Prop :=
  (∀ (s : State) (b : BitVec 32) (me h : Nat) (d : Dev), s.dev.life.held = false → s.dev.heeds = true →
    me = boolNat s.dev.nv.sideB → h = lbCode b.toNat → h ∈ [0, 1, 255] → d = s.dev.setReg Obj.TWIN_HOLDER 0 h →
    (bitOf (lbFlags b.toNat) me = true → d.twinState ∈ [twHot, twJoining] →
      exec (.verdictReceived b) s = .next (s.after d.enterSuspect)) ∧
    (bitOf (lbFlags b.toNat) me = false → d.twinState = twAlone → h = 1 - me →
      exec (.verdictReceived b) s = .next (s.after
        ((d.setPhase (match d.life.phase with | .starting => .running | p => p)).beginJoin))) ∧
    (d.twinState ∉ [twHot, twJoining, twAlone] → exec (.verdictReceived b) s = .next (s.after d))) ∧
  (∀ (s : State) (b : BitVec 32), s.dev.life.held = false → s.dev.heeds = false ∨ lbCode b.toNat ∉ [0, 1, 255] →
    exec (.verdictReceived b) s = .next (s.after s.dev)) ∧
  (∀ (s : State) (link : Fin 2) (b : BitVec 256), s.dev.life.held = false →
    (s.dev.twinState = twReferee → exec (.rollCallReceived link b) s = .next (s.after (s.dev.refRoll link.val b))) ∧
    (s.dev.heeds = false → s.dev.twinState ≠ twReferee → exec (.rollCallReceived link b) s = .next (s.after s.dev)) ∧
    (s.dev.heeds = true → link.val = 1 → exec (.rollCallReceived link b) s = .next (s.after s.dev)) ∧
    (∀ d e : Dev, ∀ diff : Int, s.dev.heeds = true → link.val = 0 → s.dev.laneState tw0 = lnActive →
      d = (s.dev.modTw (fun x => { x with roll := some (s.dev.clock, b) })).setReg Obj.PEER_STATE 0 (fld b.toNat 247 240) →
      diff = 4 * toInt 32 ((fld b.toNat 39 8 + 2 ^ 32 - fourNs s.dev.now % 2 ^ 32) % 2 ^ 32) + 250 →
      diff.natAbs ≤ d.reg Obj.TWIN_MT_LIMIT → e = d.setSreg 32 Obj.TWIN_MT_DIFF 0 diff → e.reg Obj.TWIN_MT_LIMIT = d.reg Obj.TWIN_MT_LIMIT →
      exec (.rollCallReceived link b) s = .next (s.after ((e.setLine Flt.TWIN_SKEW false).comparePeer b.toNat)))) ∧
  (∀ (s : State), s.dev.life.held = false → s.dev.twinState = twReferee → exec .rollCallTick s = .next (s.after s.dev)) ∧
  (∀ (s : State) (d : Dev), s.dev.life.held = false → s.dev.twinState ≠ twReferee →
    d = s.dev.passToMt (s.dev.nextTick (usMt 3) s.dev.tw.rollK) →
    exec .rollCallTick s = .next (s.after s.dev.rollTick) ∧ s.dev.rollTick.regs = s.dev.regs ∧
    (0x48, d.rollBody (d.now / usMt 3)) ∈ (s.dev.rollTick.tx tw0).svc) ∧
  (∀ (s : State) (d : Dev) (digest k : Nat), s.dev.life.held = false →
    d = s.dev.passToMt (s.dev.nextTick (msMt 100) (s.dev.tw.snapAt / msMt 100)) → digest = crc64 d.snapBytes → k = d.now / msMt 100 →
    exec .objectSnapshot s = .next (s.after ((d.modTw (fun t => { t with
      prevSnapIndex := t.snapIndex, prevSnapDigest := t.snapDigest, prevSnapValid := t.snapValid, snapIndex := k, snapDigest := digest
      snapAt := k * msMt 100, snapValid := d.acts || d.follows })).setReg Obj.CONFIG_DIGEST 0 digest)))

/-- Mirror records and fetches on TW_0: the first copy of a record is taken, a second copy and one to a device that heeds no twin
link changes nothing (R194, R227, R263, R283, R343, R361).
Rows: SEAL_RECEIVED, PHASE_RECEIVED, FS_DECISION_RECEIVED, VIDEO_PRESENCE_RECEIVED, AUDIO_PRESENCE_RECEIVED, CANOPY_SELECT_RECEIVED,
TDM_EVENT_RECEIVED, WRITE_FETCH_RECEIVED, WRITE_COPY_RECEIVED. -/
def Obligations.MirrorRecords : Prop :=
  (∀ (s : State) (rseq : Nat) (d : Dev), s.dev.life.held = false → s.dev.heeds = true → s.dev.laneState tw0 = lnActive →
    rseq ∉ s.dev.tw.rseqSeen → d = s.dev.modTw (fun x => { x with rseqSeen := (rseq :: x.rseqSeen).take 256 }) →
    (∀ b, exec (.sealReceived rseq b) s = .next (s.after (d.sealIn b.toNat))) ∧
    (∀ ip fq fr ph, exec (.phaseReceived rseq ip fq fr ph) s = .next (s.after
      (if d.follows then d.recordPhase ip.val fq.toNat (4 * ph.toNat) else d))) ∧
    (∀ ip o i a, exec (.fsDecisionReceived rseq ip o i a) s = .next (s.after (d.fsRecordIn ip.val o.toNat i.toNat a.toNat))) ∧
    (∀ w fin es, exec (.videoPresenceReceived rseq w fin es) s = .next (s.after (d.videoPresence w.toNat fin es))) ∧
    (∀ w fin es, exec (.audioPresenceReceived rseq w fin es) s = .next (s.after (d.audioPresence w.toNat fin es))) ∧
    (∀ c o f, exec (.canopySelectReceived rseq c o f) s = .next (s.after (d.canopyRecordIn c.val o.toNat f.toNat))) ∧
    (∀ a k t, exec (.tdmEventReceived rseq a k t) s = .next (s.after (d.tdmEvent a.val k.toNat t.toNat)))) ∧
  (∀ (s : State) (rseq : Nat), s.dev.life.held = false →
    s.dev.heeds = false ∨ s.dev.laneState tw0 ≠ lnActive ∨ rseq ∈ s.dev.tw.rseqSeen →
    (∀ b, exec (.sealReceived rseq b) s = .next (s.after s.dev)) ∧
    (∀ ip fq fr ph, exec (.phaseReceived rseq ip fq fr ph) s = .next (s.after s.dev)) ∧
    (∀ ip o i a, exec (.fsDecisionReceived rseq ip o i a) s = .next (s.after s.dev)) ∧
    (∀ w fin es, exec (.videoPresenceReceived rseq w fin es) s = .next (s.after s.dev)) ∧
    (∀ w fin es, exec (.audioPresenceReceived rseq w fin es) s = .next (s.after s.dev)) ∧
    (∀ c o f, exec (.canopySelectReceived rseq c o f) s = .next (s.after s.dev)) ∧
    (∀ a k t, exec (.tdmEventReceived rseq a k t) s = .next (s.after s.dev))) ∧
  (∀ (s : State) (seq : BitVec 32), s.dev.life.held = false → s.dev.heeds = true → s.dev.laneState tw0 = lnActive →
    (∀ msg parts, s.dev.tw.sealed.find? (fun x => x.1 == seq.toNat) = some (seq.toNat, msg) →
      parts = chunksOf 245 (msg.length / 245 + 1) msg →
      exec (.writeFetchReceived seq) s = .next (s.after ((List.range parts.length).foldl (fun d k => d.sendRec 0x09
        (beBytes 4 seq.toNat ++ beBytes 2 k ++ beBytes 1 (boolNat (k + 1 == parts.length)) ++ parts.getD k []) 1) s.dev))) ∧
    (s.dev.tw.sealed.find? (fun x => x.1 == seq.toNat) = none → exec (.writeFetchReceived seq) s = .next (s.after s.dev)) ∧
    (∀ (x : SealX) (part : BitVec 16) (bytes : List Byte),
      s.dev.tw.seals.find? (fun z => z.seq == seq.toNat && !z.whole) = some x →
      (part.toNat = x.parts → exec (.writeCopyReceived seq part false bytes) s = .next (s.after (s.dev.modTw (fun t => { t with
        seals := t.seals.map (fun y => if y = x then { x with fetched := x.fetched ++ bytes, parts := x.parts + 1 } else y) })))) ∧
      (part.toNat ≠ x.parts → ∀ l, exec (.writeCopyReceived seq part l bytes) s = .next (s.after s.dev)) ∧
      (part.toNat = x.parts → x.crc = crc32c (x.fetched ++ bytes) → x.fetched ++ bytes ≠ [] → s.dev.joinWaits = false →
        s.dev.follows = true → ∀ r p, parseMessage x.port x.src true none (x.fetched ++ bytes) = some (r, p) →
        exec (.writeCopyReceived seq part true bytes) s = .next (s.after
          ((s.dev.modTw (fun t => { t with seals := t.seals.erase x })).applySealed r p x.seq x.e)))))

/-- A join (Table 10.5, R353, R365 to R367), the copies that no SEAL matches (R343) and the ends of presence windows (R363).
Rows: JOIN_REQ_RECEIVED, JOIN_ACK_RECEIVED, SNAPSHOT_RECEIVED, JOIN_DONE_RECEIVED, REJOIN_HOLDOFF_EXPIRY, JOIN_FILL_COMPLETE,
UNSEALED_COPY_TIMEOUT, PRESENCE_WINDOW_END, JOIN_SNAPSHOT_TS. -/
def Obligations.JoinsAndCopies : Prop :=
  (∀ (s : State), s.dev.life.held = false → s.dev.heeds = true → s.dev.laneState tw0 = lnActive →
    (∀ (f : BitVec 16) (fw : BitVec 32) (r : Nat), s.dev.acts = true →
      r = (if f.toNat < s.dev.reg Obj.STORE_FORMAT then 1
        else if s.dev.tw.serving.isSome ∨ (List.range 256).any (fun h => s.dev.reg Obj.HAMPER_STATE h == hsArmed ||
          s.dev.reg Obj.HAMPER_STATE h == hsInProgress) then 2
        else if s.dev.reg Obj.TWIN_MT_LIMIT < (s.dev.sreg 32 Obj.TWIN_MT_DIFF).natAbs then 3 else 0) →
      (r = 0 → exec (.joinReqReceived f fw) s = .next (s.after ((s.dev.sendRec 0x11
        (beBytes 1 0 ++ beBytes 12 (mtEncode (s.dev.now + msMt 2))) 1).modTw (fun x => { x with serving := some (s.dev.now + msMt 2) })))) ∧
      (r ≠ 0 → exec (.joinReqReceived f fw) s = .next (s.after (s.dev.sendRec 0x11 (beBytes 1 r ++ beBytes 12 0) 1)))) ∧
    (∀ (f : BitVec 16) (fw : BitVec 32), s.dev.acts = false → exec (.joinReqReceived f fw) s = .next (s.after s.dev)) ∧
    (∀ (res : BitVec 8) (ts : BitVec 96),
      (s.dev.tw.join = .requested → res = 0 → exec (.joinAckReceived res ts) s = .next (s.after
        ({ s.dev with outs := s.dev.outs.map (fun (kv : Nat × OutX) => (kv.1, { kv.2 with sinceTs := 0 })) }.modTw (fun x => { x with join := .acked, joinTs := mtDecode ts.toNat, nextPart := 0 })))) ∧
      (s.dev.tw.join = .requested → res ≠ 0 → exec (.joinAckReceived res ts) s = .next (s.after s.dev.enterSuspect)) ∧
      (s.dev.tw.join ≠ .requested → exec (.joinAckReceived res ts) s = .next (s.after s.dev))) ∧
    (∀ (part : BitVec 32) (x : SnapPart) (d : Dev), s.dev.tw.join = .acked ∨ s.dev.tw.join = .loading →
      d = s.dev.modTw (fun t => { t with
        join := .loading, nextPart := part.toNat + 1, snapItems := t.snapItems ++ x.items, snapRun := t.snapRun ++ x.run }) →
      (part.toNat = s.dev.tw.nextPart → x.last = false → exec (.snapshotReceived part x) s = .next (s.after d)) ∧
      (part.toNat = s.dev.tw.nextPart → x.last = true → exec (.snapshotReceived part x) s = .next (s.after d.snapLoad)) ∧
      (part.toNat ≠ s.dev.tw.nextPart → exec (.snapshotReceived part x) s = .next (s.after (s.dev.joinFail 1 true)))) ∧
    (∀ (res : BitVec 8),
      (s.dev.acts = true → exec (.joinDoneReceived res) s = .next (s.after (s.dev.modTw (fun x => { x with serving := none })))) ∧
      (s.dev.acts = false → res ≠ 0 → exec (.joinDoneReceived res) s = .next (s.after (s.dev.joinFail res.toNat false))) ∧
      (s.dev.acts = false → res = 0 → exec (.joinDoneReceived res) s = .next (s.after s.dev))) ∧
    (∀ t, s.dev.tw.rejoinAt = some t → s.dev.twinState = twSuspect →
      exec .rejoinHoldoffExpiry s = .next (s.after (s.dev.passTo t).beginJoin))) ∧
  (∀ (s : State), s.dev.life.held = false →
    (s.dev.tw.rejoinAt = none → exec .rejoinHoldoffExpiry s = .next (s.after s.dev)) ∧
    (∀ t, s.dev.tw.rejoinAt = some t → s.dev.twinState ≠ twSuspect →
      exec .rejoinHoldoffExpiry s = .next (s.after (s.dev.passTo t))) ∧
    (s.dev.tw.join = .filling → exec .joinFillComplete s = .next (s.after (s.dev.modTw (fun x => { x with
      join := .verifying, verified := 0, snapMatched := false, validFrom := s.dev.now / usMt 3 + 1 })))) ∧
    (s.dev.tw.join ≠ .filling → exec .joinFillComplete s = .next (s.after s.dev)) ∧
    (s.dev.joinWaits = true → exec .unsealedCopyTimeout s = .next (s.after s.dev)) ∧
    (s.dev.ch.copies.find? (fun c => !c.done) = none → exec .unsealedCopyTimeout s = .next (s.after s.dev)) ∧
    (∀ c, s.dev.joinWaits = false → s.dev.ch.copies.find? (fun c => !c.done) = some c → c.req.port ≠ .cn → takeCopy c.payload = false →
      exec .unsealedCopyTimeout s = .next (s.after
        (((s.dev.passTo (c.arrived + 2000000)).modCh (fun x => { x with copies := x.copies.erase c })).count Obj.TWIN_UNSEALED))) ∧
    (∀ c, s.dev.joinWaits = false → s.dev.ch.copies.find? (fun c => !c.done) = some c → c.req.port = .cn ∨ takeCopy c.payload = true →
      exec .unsealedCopyTimeout s = .next (s.after
        (((((s.dev.passTo (c.arrived + 2000000)).modCh (fun x => { x with copies := x.copies.erase c })).count Obj.TWIN_UNSEALED).event 0x0301
          (refOf Obj.TWIN_UNSEALED 0)).pulse Flt.TWIN_MIRROR))) ∧
    (∀ d, d = s.dev.passToMt (s.dev.nextTick (usMt 10) s.dev.tw.windowV) → s.dev.tw.presV = [] →
      exec (.presenceWindowEnd false) s = .next (s.after
        ((d.modTw (fun x => { x with windowV := d.now / usMt 10, presV := [] })).mirror 0x04
          (beBytes 4 ((d.now / usMt 10 - 1) % 2 ^ 32) ++ beBytes 2 32768)))) ∧
    (∀ d, d = s.dev.passToMt (s.dev.nextTick (usMt 50) s.dev.tw.windowA) → s.dev.tw.presA = [] →
      exec (.presenceWindowEnd true) s = .next (s.after
        ((d.modTw (fun x => { x with windowA := d.now / usMt 50, presA := [] })).mirror 0x05
          (beBytes 4 ((d.now / usMt 50 - 1) % 2 ^ 32) ++ beBytes 2 32768)))) ∧
    (s.dev.tw.serving = none ∨ s.dev.acts = false → exec .joinSnapshotTs s = .next (s.after s.dev)) ∧
    (∀ parts, s.dev.tw.serving.isSome = true → s.dev.acts = true →
      parts = chunksOf 248 ((Config.snapshotBytes s.dev.snapItems s.dev.runState).length / 248 + 1)
        (Config.snapshotBytes s.dev.snapItems s.dev.runState) →
      exec .joinSnapshotTs s = .next (s.after ((List.range parts.length).foldl (fun d k =>
        d.sendRec 0x12 (beBytes 4 k ++ parts.getD k []) 1) s.dev))))

/-- A management port: frames in (R376, R398), a frame's start (R391), collisions and backoff (R382, R383), the access window and BEACONs
(R384, R386, R387), and the start of a gate-list cycle (R392).
Rows: MG_FRAME_RECEIVED, MG_FRAME_TRANSMIT, MG_COLLISION, MG_BACKOFF_EXPIRY, MG_PLCA_BEACON, MG_GATE_CYCLE_START, MG_ACCESS_WINDOW. -/
def Obligations.ManagementSegments : Prop :=
  (∀ (s : State) (m : Fin 2) (g : MgFrame) (f : RxFrame), s.dev.life.held = false → f = rxParts g.bytes →
    (s.dev.mgOpen m.val = false → exec (.mgFrameReceived m g) s = .next (s.after s.dev)) ∧
    (∀ n, s.dev.mgOpen m.val = true → s.dev.rxFilter m.val g.collision f = some n →
      exec (.mgFrameReceived m g) s = .next (s.after (s.dev.count n m.val))) ∧
    (∀ fl base, s.dev.mgOpen m.val = true → s.dev.rxFilter m.val g.collision f = none → fl = s.dev.rxFlags g.symbolErr f →
      base = boolNat (isGroup f.da.toNat) * 2 ^ 54 + boolNat f.tag.isSome * 2 ^ 53 →
      (g.avail = 0 → exec (.mgFrameReceived m g) s = .next (s.after
        (((s.dev.countRxFlags m.val fl).count Obj.MG_RX_NO_DESC m.val).pulse (Flt.MG_RX_LOSS_A + m.val)))) ∧
      (g.avail ≠ 0 → fl ≠ 0 → bitOf fl 56 = false → s.dev.flag Obj.MG_DELIVER_ERRORED = false →
        exec (.mgFrameReceived m g) s = .next (s.after (s.dev.countRxFlags m.val fl))) ∧
      (fl = 0 → g.avail ≠ 0 → g.avail < ceilDiv (s.dev.rxStored f) 512 → exec (.mgFrameReceived m g) s = .next (s.after
        ((((s.dev.completeRx m.val g.avail (512 * g.avail) (512 * g.avail) (base + 2 ^ 55)).count Obj.MG_RX_ABANDONED m.val).pulse
          (Flt.MG_RX_LOSS_A + m.val)).setReg Obj.MG_LAST_ERRORED m.val (beNat (fitBytes 64 (g.bytes.take (512 * g.avail))))))) ∧
      (∀ d e n stored, fl = 0 → stored = s.dev.rxStored f → n = ceilDiv stored 512 → g.avail ≠ 0 → n ≤ g.avail →
        isGroup f.da.toNat = false →
        d = (s.dev.completeRx m.val n stored f.len (base + fl)).countRxFlags m.val fl →
        e = (d.countWrap Obj.MG_RX_FRAMES m.val 1).countWrap Obj.MG_RX_BYTES m.val f.len →
        exec (.mgFrameReceived m g) s = .next (s.after
          (e.message (if m.val = 0 then .mgA else .mgB) f.sa (f.da.toNat == d.reg Obj.MG_PAIR_ADDR) f.tag f.body))))) ∧
  (∀ (s : State) (m : Fin 2) (y : MacX), s.dev.life.held = false → y = s.dev.mac m.val →
    (s.dev.mgOpen m.val = false → exec (.mgFrameTransmit m) s = .next (s.after s.dev)) ∧
    (∀ f r, s.dev.mgOpen m.val = true → y.flight = none → y.endAt = 0 → y.urgent = f :: r → s.dev.fits m.val f = true →
      exec (.mgFrameTransmit m) s = .next (s.after (s.dev.setMac m.val { y with
        urgent := r, flight := some f, wire := s.dev.txBytes m.val f, endAt := s.dev.clock + f.time }))) ∧
    (∀ f r, s.dev.mgOpen m.val = true → y.flight = none → y.endAt = 0 → y.urgent = [] → y.normal = f :: r →
      (s.dev.fits m.val f = true → exec (.mgFrameTransmit m) s = .next (s.after (s.dev.setMac m.val { y with
        normal := r, flight := some f, wire := s.dev.txBytes m.val f, endAt := s.dev.clock + f.time }))) ∧
      (s.dev.fits m.val f = false → exec (.mgFrameTransmit m) s = .next (s.after s.dev))) ∧
    (∀ f d e, s.dev.mgOpen m.val = true → y.flight = some f → y.endAt ≠ 0 → y.method = none → y.waiting = [] → y.urgent = [] →
      y.normal = [] → f.resp = 0 → d = s.dev.passTo (y.endAt + 9600) →
      e = d.setMac m.val { y with flight := none, tries := 0, endAt := 0 } →
      e.mac m.val = { y with flight := none, tries := 0, endAt := 0 } →
      exec (.mgFrameTransmit m) s = .next (s.after
        ((e.countWrap Obj.MG_TX_FRAMES m.val 1).countWrap Obj.MG_TX_BYTES m.val f.len)))) ∧
  (∀ (s : State) (m : Fin 2) (bit : Nat) (y : MacX), s.dev.life.held = false → y = s.dev.mac m.val →
    (y.flight = none ∨ y.endAt = 0 → exec (.mgCollision m bit) s = .next (s.after s.dev)) ∧
    (∀ f, y.flight = some f → f.time ≤ bit * 100 → exec (.mgCollision m bit) s = .next (s.after s.dev)) ∧
    (∀ f d x, y.flight = some f → y.endAt ≠ 0 → bit * 100 < f.time →
      d = (s.dev.passTo (y.endAt - f.time + bit * 100)).count Obj.MG_TX_COLLISIONS m.val →
      x = { y with winColl := y.winColl + 1, endAt := 0, tries := y.tries + 1 } →
      (bit < 512 → y.tries < 15 → exec (.mgCollision m bit) s = .next (s.after ((d.draw (2 ^ min x.tries 10)).2.setMac m.val { x with
        backoff := some ((d.draw (2 ^ min x.tries 10)).2.clock + 3200 + (d.draw (2 ^ min x.tries 10)).1 * 51200) }))) ∧
      (bit < 512 → 15 ≤ y.tries → exec (.mgCollision m bit) s = .next (s.after
        (Dev.mgLeft m.val (((d.setMac m.val x).count Obj.MG_TX_EXCESS m.val).giveUp m.val f)))) ∧
      (512 ≤ bit → exec (.mgCollision m bit) s = .next (s.after
        (Dev.mgLeft m.val (((d.setMac m.val x).count Obj.MG_TX_LATE_COLL m.val).giveUp m.val f)))))) ∧
  (∀ (s : State) (m : Fin 2) (busy : Bool), s.dev.life.held = false →
    ((s.dev.mac m.val).backoff = none → exec (.mgBackoffExpiry m) s = .next (s.after s.dev)) ∧
    (∀ t, (s.dev.mac m.val).backoff = some t → exec (.mgBackoffExpiry m) s = .next (s.after
      ((s.dev.passTo t).modMac m.val (fun x => { x with backoff := none })))) ∧
    (s.dev.mgOpen m.val = true → exec (.mgPlcaBeacon m busy) s = .next (s.after
      ((s.dev.setReg Obj.MG_PLCA_STATUS m.val 1).modMac m.val (fun x => { x with
        beaconAt := s.dev.clock, winBeacon := true
        winBusy := x.winBusy + boolNat (busy && s.dev.reg Obj.MG_ACCESS_STATE m.val == 1) })))) ∧
    (s.dev.mgOpen m.val = false → exec (.mgPlcaBeacon m busy) s = .next (s.after s.dev)) ∧
    (∀ d, d = s.dev.passToMt (s.dev.cycleStart m.val) → exec (.mgGateCycleStart m) s = .next (s.after (d.modMac m.val (fun x => { x with
      gateEn := d.flag Obj.MG_GATE_EN m.val, gateBase := mtDecode (d.reg Obj.MG_GATE_BASE m.val)
      gateList := (List.range 8).map (fun k => d.reg Obj.MG_GATE_LIST (8 * m.val + k)) }))))) ∧
  (∀ (s : State) (m : Fin 2) (c d : Dev) (y x : MacX), s.dev.life.held = false →
    c = s.dev.passToMt (s.dev.nextTick (msMt 100) (s.dev.mac m.val).winK) → y = c.mac m.val → d = c.beaconWatch m.val →
    x = { y with winColl := 0, winBusy := 0, winBeacon := d.flag Obj.MG_PLCA_STATUS m.val, winK := d.now / msMt 100 } →
    (d.reg Obj.MG_ACCESS_MODE m.val ≠ 0 → exec (.mgAccessWindow m) s = .next (s.after (d.setMac m.val x))) ∧
    (d.reg Obj.MG_ACCESS_MODE m.val = 0 → d.reg Obj.MG_ACCESS_STATE m.val = 0 →
      (y.winColl * 10 ≤ d.reg Obj.MG_PLCA_ENTER_RATE → 0 < d.reg Obj.MG_PLCA_ENTER_TIME →
        exec (.mgAccessWindow m) s = .next (s.after (d.setMac m.val { x with enterRun := 0, exitRun := 0 }))) ∧
      (d.reg Obj.MG_PLCA_ENTER_RATE < y.winColl * 10 → d.reg Obj.MG_PLCA_ENTER_TIME ≤ (y.enterRun + 1) * 100 →
        ∀ e, e = d.setMac m.val { x with enterRun := 0, exitRun := 0 } →
        (e.reg Obj.MG_PLCA_ID m.val ≠ 255 → exec (.mgAccessWindow m) s = .next (s.after
          (((e.setMethod m.val 1).count Obj.MG_PLCA_ENTRIES m.val).event 0x4801 (refOf Obj.MG_ACCESS_STATE m.val)))) ∧
        (e.reg Obj.MG_PLCA_ID m.val = 255 → exec (.mgAccessWindow m) s = .next (s.after
          (e.event 0x4803 (refOf Obj.MG_ACCESS_STATE m.val)))))) ∧
    (d.reg Obj.MG_ACCESS_MODE m.val = 0 → d.reg Obj.MG_ACCESS_STATE m.val = 1 →
      (if y.winBeacon then y.winBusy * 10 else 0) < d.reg Obj.MG_PLCA_EXIT_RATE → d.reg Obj.MG_PLCA_EXIT_TIME * 10 ≤ y.exitRun + 1 →
      exec (.mgAccessWindow m) s = .next (s.after
        (((d.setMac m.val { x with enterRun := 0, exitRun := 0 }).setMethod m.val 0).event 0x4802 (refOf Obj.MG_ACCESS_STATE m.val)))))

/-- Transfers, kept responses and subscriptions that run out, an EVENT that goes out, writes that reach their E, and the entry to
STARTING (R411, R422, R431, R435, R437 to R439, R484).
Rows: BULK_TRANSFER_EXPIRY, RESPONSE_CACHE_EXPIRY, WRITE_APPLY_AT_E, STARTING_ENTRY, SUBSCRIPTION_EXPIRY, EVENT_SEND. -/
def Obligations.ProtocolTimers : Prop :=
  (∀ (s : State), s.dev.life.held = false →
    (s.dev.ch.bulks = [] → exec .bulkTransferExpiry s = .next (s.after s.dev)) ∧
    (∀ b bs t, s.dev.ch.bulks = b :: bs → t = bs.foldl (fun t x => if x.lastAt < t.lastAt then x else t) b →
      exec .bulkTransferExpiry s = .next (s.after
        (((s.dev.passTo (t.lastAt + 10000000000)).modCh (fun c => { c with bulks := c.bulks.erase t })).count Obj.CH_BULK_EXPIRED))) ∧
    (s.dev.ch.kept = [] → exec .responseCacheExpiry s = .next (s.after s.dev)) ∧
    (∀ k ks t, s.dev.ch.kept = k :: ks → t = ks.foldl (fun t x => if x.at_ < t.at_ then x else t) k →
      exec .responseCacheExpiry s = .next (s.after
        ((s.dev.passTo (t.at_ + 2000000000)).modCh (fun c => { c with kept := c.kept.erase t })))) ∧
    (firstPend s.dev.ch.pend = none → exec .writeApplyAtE s = .next (s.after s.dev)) ∧
    (∀ p q r, s.dev.ch.pend = q :: r → firstPend s.dev.ch.pend = some p →
      (∀ x, firstPend (((s.dev.passToMt p.e).modCh (fun c => { c with pend := c.pend.erase p })).actAt p.e p.act).ch.pend = some x → x.e ≠ p.e) →
      exec .writeApplyAtE s = .next (s.after
        (((s.dev.passToMt p.e).modCh (fun c => { c with pend := c.pend.erase p })).actAt p.e p.act))) ∧
    (s.dev.life.startDue = false ∨ s.dev.life.phase ≠ .layBy ∨ s.dev.storePending = true →
      exec .startingEntry s = .next (s.after s.dev)) ∧
    (s.dev.life.startDue = true → s.dev.life.phase = .layBy → s.dev.storePending = false →
      exec .startingEntry s = .next (s.after
        ((((s.dev.addMarker 4).setReg Obj.START_TIME 0 (mtEncode s.dev.now)).addTrail 0 0 0 (refOf Obj.START 0) []).enterStarting)))) ∧
  (∀ (s : State) (pair : Bool) (slot : Fin 16) (o n : Nat) (x : SubX), s.dev.life.held = false →
    o = (if pair then Obj.SUB_PAIR else Obj.SUB_OWN) → n = s.dev.reg o slot.val →
    x = smGet (if pair then s.dev.ch.subPair else s.dev.ch.subOwn) slot.val {} →
    (bitOf n 32 = false → exec (.subscriptionExpiry pair slot) s = .next (s.after s.dev)) ∧
    (∀ (m : SMap SubX) (d : Dev), bitOf n 32 = true → d = s.dev.passTo x.endAt → m = smSet (if pair then s.dev.ch.subPair else s.dev.ch.subOwn) slot.val { x with
        recs := x.recs ++ [{ code := 3, sev := 0, time := d.now, ref := refOf o slot.val }], changed := false } {} →
      exec (.subscriptionExpiry pair slot) s = .next (s.after
        ((d.modCh (fun c => if pair then { c with subPair := m } else { c with subOwn := m })).setReg o slot.val (n - 2 ^ 32)))) ∧
    (x.recs = [] → x.dropped = 0 → x.changed = false → exec (.eventSend pair slot) s = .next (s.after s.dev)) ∧
    (∀ (m : SMap SubX) (d : Dev) (seq : Nat), x.recs ≠ [] → x.recs.length ≤ 255 → x.dropped = 0 → x.changed = false →
      (pair = true → s.dev.acts = true) → fld n 191 144 ≠ 0 → bitOf n 32 = true → seq = (fld n 31 0 + 1) % 2 ^ 32 →
      m = smSet (if pair then s.dev.ch.subPair else s.dev.ch.subOwn) slot.val { x with recs := [], dropped := 0, firstAt := s.dev.clock } {} →
      d = (s.dev.modCh (fun c => if pair then { c with subPair := m } else { c with subOwn := m })).setReg o slot.val
        (n / 2 ^ 32 * 2 ^ 32 + seq) →
      exec (.eventSend pair slot) s = .next (s.after (d.sendFrames (fld n 47 40 % 2) (BitVec.ofNat 48 (fld n 191 144))
        (if d.reg Obj.MG_EVENT_TCI = 0 then none else some (BitVec.ofNat 16 (d.reg Obj.MG_EVENT_TCI)))
        ((x.recs.map s.dev.currentRecord).any (fun e => collectorCode e.code)) 0
        (segments kEvent false false d.nv.sideB 0 x.recs.length seq ((x.recs.map s.dev.currentRecord).flatMap EvRec.bytes)
          (d.reg Obj.MG_SEG_SIZE))))))

/-- The store, the calibration area and the Trail Log: what a recording writes (R409, R463, R479, R480, R488).
Rows: STORE_RECORD, CALIBRATION_RECORD, TRAIL_LOG_FLUSH. -/
def Obligations.StoreAndTrailRecords : Prop :=
  (∀ (s : State), s.dev.life.held = false →
    (s.dev.gateOn 33 = false → exec .storeRecord s = .next (s.after s.dev)) ∧
    (s.dev.gateOn 33 = true → exec .storeRecord s = .next (s.after
      ((s.dev.life.unrecorded.foldl Dev.recordSet s.dev).modLife (fun x => { x with unrecorded := [] })))) ∧
    (s.dev.life.calPending = true → s.dev.gateOn 33 = true → exec .calibrationRecord s = .next (s.after
      ((((s.dev.modNv (fun v => { v with calibration := s.dev.calSet, calUser := true })).modLife (fun x => { x with
        calPending := false })).setReg Obj.CAL_ORIGIN 0 1).setReg Obj.CAL_CRC 0 (fieldAt s.dev.calSet 4436 4)))) ∧
    (s.dev.life.calPending = false → exec .calibrationRecord s = .next (s.after s.dev)) ∧
    (s.dev.trailRam = [] ∨ s.dev.gateOn 33 = false → exec .trailLogFlush s = .next (s.after s.dev)) ∧
    (s.dev.trailRam ≠ [] → s.dev.gateOn 33 = true → s.dev.nv.trail.length + s.dev.trailRam.length ≤ 65536 → exec .trailLogFlush s = .next (s.after
      (({ s.dev with trailRam := [] } : Dev).modNv (fun v => { v with
        trail := s.dev.nv.trail ++ s.dev.trailRam, trailSeq := s.dev.reg Obj.TRAIL_NEXT_SEQ })))))

/-- The collector's lines and escalation timers, and a control core's watchdog (R442, R449, R459).
Rows: FAULT_SOURCE_RAISE, ESCALATION_TIMER_EXPIRY, CC_WATCHDOG_EXPIRY. -/
def Obligations.FaultLinesAndTimers : Prop :=
  (∀ (s : State) (src : Fin 288) (ch : Option Channel), s.dev.life.held = false →
    (∀ b, bitOf (smGet s.dev.flt.lines (src.val / 32) 0) (src.val % 32) = b →
      exec (.faultSourceRaise src b ch) s = .next (s.after s.dev)) ∧
    (bitOf (smGet s.dev.flt.lines (src.val / 32) 0) (src.val % 32) = true →
      exec (.faultSourceRaise src false ch) s = .next (s.after { s.dev with flt := { s.dev.flt with
        lines := smSet s.dev.flt.lines (src.val / 32) (setBit (smGet s.dev.flt.lines (src.val / 32) 0) (src.val % 32) false) 0 } })) ∧
    (∀ d, bitOf (smGet s.dev.flt.lines (src.val / 32) 0) (src.val % 32) = false →
      d = { s.dev with flt := { s.dev.flt with
        lines := smSet s.dev.flt.lines (src.val / 32) (setBit (smGet s.dev.flt.lines (src.val / 32) 0) (src.val % 32) true) 0
        chans := smSet s.dev.flt.chans src.val ch none } } →
      exec (.faultSourceRaise src true ch) s = .next (s.after (if d.fltLatched src.val then d else d.latch src.val)))) ∧
  (∀ (s : State) (g : Fin 9) (due : Nat), s.dev.life.held = false →
    (smGet s.dev.flt.escEnd g.val 0 = 0 → exec (.escalationTimerExpiry g) s = .next (s.after s.dev)) ∧
    (∀ d, smGet s.dev.flt.escEnd g.val 0 ≠ 0 → d = s.dev.passTo (smGet s.dev.flt.escEnd g.val 0) →
      due = smGet d.flt.joined g.val 0 &&& d.reg Obj.FLT_LATCHED g.val &&& d.reg Obj.FLT_ENABLE g.val &&&
        (0xFFFFFFFF - d.reg Obj.FLT_ACK g.val) →
      exec (.escalationTimerExpiry g) s = .next (s.after ((setBits 32 due).foldl (fun d k => d.escalate (32 * g.val + k))
        { d with flt := { d.flt with joined := smSet d.flt.joined g.val 0 0, escEnd := smSet d.flt.escEnd g.val 0 0 } })))) ∧
  (∀ (d e : Dev) (n : Nat), 3 ≤ d.actSeverity n → d.actSeverity n ≤ 5 →
    e = (d.setFltBit Obj.FLT_ESCALATED n true).event 0x4140 (d.fltRef n) [] (boolNat (bitOf (d.reg Obj.FLT_FORCE (n / 32)) (n % 32))) →
    (e.fltChan n = none → d.escalate n = (if d.actSeverity n = 3 then e else e.ask .dropPass)) ∧
    (∀ c, e.fltChan n = some c → d.escalate n = (if d.actSeverity n = 3 then e.ask (.retire c)
      else if d.actSeverity n = 4 then e.ask .dropPass else (e.ask (.retire c)).ask .dropPass))) ∧
  (∀ (s : State) (c : Fin 4), s.dev.life.held = false →
    ((s.dev.dbg.cores.getD c.val {}).halted = true → exec (.ccWatchdogExpiry c) s = .next (s.after s.dev)) ∧
    (∀ ts d, (s.dev.dbg.cores.getD c.val {}).halted = false →
      ts = (s.dev.clock :: smGet s.dev.life.restarts c.val []).filter (fun t => decide (s.dev.clock < t + 3600000000000)) →
      d = (s.dev.pulse (Flt.CC_WDOG + c.val)).modLife (fun x => { x with
        restarts := smSet x.restarts c.val ts [], coreRestarts := x.coreRestarts + 1 }) →
      exec (.ccWatchdogExpiry c) s = .next (s.after (if 3 < ts.length then d.ask (.reset rcWatchdog) else d))))

/-- The Rambler's tasks: table scrub and restore, temperatures, flash compaction, and telemetry (R299, R464 to R466, R468, Table 13.6).
Rows: TABLE_SCRUB, TABLE_ENTRY_RESTORE, TEMPERATURE_SAMPLE, FLASH_COMPACTION, TELEMETRY_SNAPSHOT. -/
def Obligations.RamblerTasks : Prop :=
  (∀ (s : State) (e : Nat) (u : Bool) (d : Dev), s.dev.life.held = false →
    (∀ t, exec (.tableScrub t e .clean u) s = .next (s.after (s.dev.rmbDone 0))) ∧
    (d = s.dev.count Obj.RMB_TABLE_CE →
      exec (.tableScrub .crosspoint e .corrected u) s = .next (s.after ((d.pulse Flt.XP_TABLE_CE).rmbDone 0)) ∧
      exec (.tableScrub .gain e .corrected u) s = .next (s.after ((d.pulse Flt.GAIN_CE).rmbDone 0)) ∧
      exec (.tableScrub .shuffle e .corrected u) s = .next (s.after (d.rmbDone 0))) ∧
    exec (.tableScrub .journal e .uncorrectable u) s = .next (s.after ((({ s.dev with mix := { s.dev.mix with
      opened := [], armed := [], armedE := none } } : Dev).pulse Flt.JOURNAL_ECC).rmbDone 0)) ∧
    exec (.tableScrub .shuffle e .uncorrectable u) s = .next (s.after ((s.dev.breakEntry .shuffle e).rmbDone 0)) ∧
    (e ∉ s.dev.mix.bad → exec (.tableScrub .gain e .uncorrectable u) s = .next (s.after
      ((({ s.dev with mix := { s.dev.mix with bad := s.dev.mix.bad ++ [e] } } : Dev).count Obj.MIX_ECC_ERR).rmbDone 0))) ∧
    (∀ t, s.dev.broken.find? (fun b => b.table == t && b.entry == e) = none →
      exec (.tableEntryRestore t e) s = .next (s.after s.dev)) ∧
    (∀ t b src, s.dev.broken.find? (fun b => b.table == t && b.entry == e) = some b → scrubSource t = some src →
      d = (b.saved.foldl (fun (d : Dev) kv => d.putEntry kv.1 kv.2)
        ({ s.dev with broken := s.dev.broken.filter (fun x => !(x.table == t && x.entry == e)) } : Dev)).count Obj.RMB_TABLE_UE →
      exec (.tableEntryRestore t e) s = .next (s.after (if d.broken.any (fun x => x.table == t) then d else d.setLine src false)))) ∧
  (∀ (s : State) (ts : List (Option Int)) (vs : List Int) (hi : Int) (c d : Dev), s.dev.life.held = false → vs = ts.filterMap id →
    c = s.dev.modLife (fun x => { x with sampled := x.sampled || !vs.isEmpty }) →
    hi = vs.foldl max (if s.dev.life.sampled then c.sreg 8 Obj.TEL_TEMP_MAX else vs.headD 0) →
    d = ((((List.range 8).foldl (fun d k => match ts.getD k none with | some v => d.setSreg 8 Obj.TEL_TEMP k v | none => d) c).setSreg 8
      Obj.TEL_TEMP_MAX 0 hi).setLine Flt.TEMP_HIGH (vs.any (fun v => decide (105 ≤ v)))).setLine Flt.TEMP_CRIT
        (vs.any (fun v => decide (115 ≤ v))) →
    exec (.temperatureSample ts) s = .next (s.after ((d.setLine Flt.TEMP_SENSOR
      (vs.any (fun a => vs.any (fun b => decide (10 < a - b))) || (List.range 8).any (fun k => (ts.getD k none).isNone))).rmbDone 2))) ∧
  (∀ (s : State) (d : Dev), s.dev.life.held = false →
    d = s.dev.modNv (fun v => { v with stores := v.stores.map compactLog, gainLog := compactLog v.gainLog }) →
    exec .flashCompaction s = .next (s.after (((d.draw 76).2.draw 2).2.modNv (fun v => { v with
      flashFree := 25 + (d.draw 76).1, eraseMax := min 0xFFFFFFFF (v.eraseMax + ((d.draw 76).2.draw 2).1) }) |>.rmbDone 6))) ∧
  (∀ (s : State) (n : Nat) (c d : Dev), s.dev.life.held = false →
    c = s.dev.passToMt (if s.dev.now / msMt 100 % 2 ^ 32 = s.dev.reg Obj.TEL_SNAP then (s.dev.now / msMt 100 + 1) * msMt 100 else s.dev.now) →
    n = c.now / msMt 100 →
    d = (((List.range 6).foldl (fun d k => d.setReg Obj.FM_CLASS_USED k (smGet d.fm.served k 0 * 80 / 1000000)) c).modFm (fun f => { f with
      served := [] })).setReg Obj.TEL_SNAP 0 (n % 2 ^ 32) →
    (∀ k < 16, subLive (d.reg Obj.SUB_OWN k) 2 = false) → d.acts = false →
    exec .telemetrySnapshot s = .next (s.after d))

/-- The TAP: what each instruction loads, in a held device too (R517 to R521, Table 15.6).
Rows: TAP_RESET, IDCODE, BYPASS, DBG_ACCESS, SAMPLE_PRELOAD, EXTEST, CLAMP, HIGHZ. -/
def Obligations.TapInstructions : Prop :=
  (∀ s : State,
    exec .tapReset s = .next (s.after (s.dev.modDbg (fun b => { b with tap := .idcode }))) ∧
    exec .idcode s = .next (s.after (s.dev.modDbg (fun b => { b with tap := .idcode }))) ∧
    exec .bypass s = .next (s.after (s.dev.modDbg (fun b => { b with tap := .bypass }))) ∧
    exec .dbgAccess s = .next (s.after (s.dev.modDbg (fun b => { b with tap := .dbgAccess }))) ∧
    ∀ cells, exec (.samplePreload cells) s = .next (s.after (s.dev.modDbg (fun b => { b with tap := .sample, boundary := cells })))) ∧
  (∀ s : State, (s.dev.resetLow = true ∨ s.dev.life.phase = .layBy ∨ s.dev.life.phase = .fail ∨ s.dev.life.phase = .lockout) →
    exec .extest s = .next (s.after (s.dev.modDbg (fun b => { b with tap := .extest, replaced := false }))) ∧
    exec .clamp s = .next (s.after (s.dev.modDbg (fun b => { b with tap := .clamp, replaced := false }))) ∧
    exec .highz s = .next (s.after (s.dev.modDbg (fun b => { b with tap := .highz, replaced := false })))) ∧
  (∀ s : State, s.dev.resetLow = false → s.dev.life.phase ∉ [.layBy, .fail, .lockout] →
    exec .extest s = .next (s.after (s.dev.modDbg (fun b => { b with tap := .bypass, replaced := true }))) ∧
    exec .clamp s = exec .extest s ∧ exec .highz s = exec .extest s)

/-- Control bus transactions and grants (R77, R507, R509 to R513, R515; Tables 15.2 to 15.4).
Rows: BUS_TRANSACTION, BUS_GRANT. -/
def Obligations.ControlBus : Prop :=
  (∀ (s : State) (t : BusTxn), s.dev.life.held = false → busFormed t = false →
    exec (.busTransaction t) s = .next (s.after ((s.dev.outstanding t.master.val).busAnswer t.master.val 1
      (if t.write then [] else List.replicate (t.size * t.beats) 0)))) ∧
  (∀ (s : State) (t : BusTxn) (d : Dev) (k : Nat), s.dev.life.held = false → busFormed t = true → d = s.dev.outstanding t.master.val →
    d.busTarget t.addr.toNat = some k → d.gateHolds t.addr.toNat = false →
    (d.gateOfAddr t.addr.toNat = 0 ∨ d.gateOn (d.gateOfAddr t.addr.toNat) = true) →
    ((k = 0 ∨ k = 3 ∨ k = 8 ∨ k = 9) → t.write = true →
      exec (.busTransaction t) s = .next (s.after (d.busAnswer t.master.val 2 []))) ∧
    (k = 0 → t.write = false → exec (.busTransaction t) s = .next (s.after (d.busAnswer t.master.val 0
      ((List.range (t.size * t.beats)).map (fun i => Config.romByte (t.addr.toNat + i)))))) ∧
    (k = 1 ∨ k = 2 → t.write = false →
      (t.cram = .clean → exec (.busTransaction t) s = .next (s.after (d.busAnswer t.master.val 0
        ((List.range (t.size * t.beats)).map (fun i => d.ramAt (t.addr.toNat + i)))))) ∧
      (t.cram = .corrected → exec (.busTransaction t) s = .next (s.after ((d.pulse Flt.CRAM_CE).busAnswer t.master.val 0
        ((List.range (t.size * t.beats)).map (fun i => d.ramAt (t.addr.toNat + i)))))) ∧
      (t.cram = .uncorrectable → exec (.busTransaction t) s = .next (s.after ((d.setLine Flt.CRAM_ECC true).busAnswer t.master.val 3
        (List.replicate (t.size * t.beats) 0))))) ∧
    (k = 1 ∨ k = 2 → t.write = true → exec (.busTransaction t) s = .next (s.after ((d.modBus (fun b => { b with
      ram := ((List.range (t.size * t.beats)).zip (t.data.zip t.strobe)).foldl (fun m x =>
        if x.2.2 then smSet m (t.addr.toNat + x.1) (some x.2.1) none else m) b.ram })).busAnswer t.master.val 0 []))) ∧
    (k = 3 → t.write = false → d.nv.density < t.addr.toNat - 0x20000000 + t.size * t.beats →
      exec (.busTransaction t) s = .next (s.after (d.busAnswer t.master.val 1 (List.replicate (t.size * t.beats) 0)))) ∧
    (k = 3 → t.write = false → t.addr.toNat - 0x20000000 + t.size * t.beats ≤ d.nv.density →
      ∀ b e, Dev.flashRead (t.size * t.beats) (t.addr.toNat - 0x20000000) d = (b, e) →
      exec (.busTransaction t) s = .next (s.after (e.busAnswer t.master.val 0 b))) ∧
    (3 < k → k ≤ 7 → (unitWindow t.addr.toNat < 59 ∨ unitWindow t.addr.toNat = 63) →
      exec (.busTransaction t) s = .refused .undocumentedWindow) ∧
    (3 < k → k ≤ 7 → 59 ≤ unitWindow t.addr.toNat → unitWindow t.addr.toNat ≠ 63 →
      exec (.busTransaction t) s = .next (s.after (d.busWindow t (unitWindow t.addr.toNat)))) ∧
    (k = 8 ∨ k = 9 → t.write = false → exec (.busTransaction t) s = .next (s.after (d.busAnswer t.master.val 0
      ((List.range (t.size * t.beats)).map (fun i => d.gainByte (t.addr.toNat - 0x80000000 + i)))))) ∧
    (9 < k → exec (.busTransaction t) s = .next (s.after (d.busFm t)))) ∧
  (∀ (s : State) (t : BusTxn) (d : Dev), s.dev.life.held = false → busFormed t = true → d = s.dev.outstanding t.master.val →
    d.busTarget t.addr.toNat = none → d.gateHolds t.addr.toNat = false →
    exec (.busTransaction t) s = .next (s.after (d.busAnswer t.master.val 1
      (if t.write then [] else List.replicate (t.size * t.beats) 0)))) ∧
  (∀ (s : State) (t : BusTxn) (d : Dev) (k g : Nat), s.dev.life.held = false → busFormed t = true →
    d = s.dev.outstanding t.master.val →
    (d.gateHolds t.addr.toNat = true → exec (.busTransaction t) s = .next (s.after (d.modBus (fun b => { b with held := b.held ++ [t] })))) ∧
    (d.busTarget t.addr.toNat = some k → g = d.gateOfAddr t.addr.toNat → g ≠ 0 → d.gateHolds t.addr.toNat = false → d.gateOn g = false →
      exec (.busTransaction t) s = .next (s.after (d.busAnswer t.master.val 2
        (if t.write then [] else List.replicate (t.size * t.beats) 0))))) ∧
  (∀ (s : State) (t : Fin 12) (newly : List (Fin 9 × BitVec 40)) (d : Dev), s.dev.life.held = false →
    d = (newly.map (fun x => (x.1.val, x.2.toNat))).foldl (fun (d : Dev) x => if d.busTarget x.2 = some t.val then d.busWaits x.1 x.2 else d)
      s.dev.busUnpark →
    (busWinner (smGet d.bus.last t.val 0) (smGet d.bus.waiting t.val []) = none →
      exec (.busGrant t newly) s = .next (s.after d)) ∧
    (∀ w e, busWinner (smGet d.bus.last t.val 0) (smGet d.bus.waiting t.val []) = some w →
      e = (if w.qos < w.effective then d.count Obj.BUS_AGED t.val else d).countWrap Obj.BUS_GRANTS t.val 1 →
      exec (.busGrant t newly) s = .next (s.after (e.modBus (fun b => { b with
        waiting := smSet b.waiting t.val (e.afterGrant w (smGet d.bus.waiting t.val [])) []
        last := smSet b.last t.val (w.master + 1) 0
        open_ := smSet b.open_ w.master (smGet b.open_ w.master 0 - 1) 0 })).busUnpark))) ∧
  (∀ (d : Dev) (m a t : Nat), d.busTarget a = some t →
    (16 ≤ smGet d.bus.open_ m 0 ∨ d.gateHolds a = true →
      d.busWaits m a = d.modBus (fun b => { b with parked := b.parked ++ [(m, a)] })) ∧
    (∀ e, smGet d.bus.open_ m 0 < 16 → d.gateHolds a = false → e = d.outstanding m →
      d.busWaits m a = e.modBus (fun b => { b with
        open_ := smSet b.open_ m (smGet b.open_ m 0 + 1) 0
        waiting := smSet b.waiting t (smGet b.waiting t [] ++ [⟨m, d.reg Obj.BUS_QOS m, 0, d.gateBehind a⟩]) [] })))

/-- Halting, resuming, stepping, comparators (R524 to R527; Tables 15.7 to 15.9).
Rows: DM_HALT, DM_RESUME, DM_STEP, DM_HALT_COMPLETE, DM_CMP_CTRL_WRITE, DM_CMP_HITS_CLEAR, DM_COMPARATOR_MATCH. -/
def Obligations.HaltsAndComparators : Prop :=
  (∀ (s : State) (m : BitVec 4) (k : Dev → Dev), s.dev.life.held = false → s.dev.dbg.tap = .dbgAccess → s.dev.gateOn 34 = true →
    s.dev.nv.lifecycle ≠ 2 → k = (fun e => e.modDbg (fun b => { b with
      resReg := 2, resWrite := true, resStatus := 0, resData := 0 })) →
    (s.dev.haltAllowed = true → exec (.dmHalt m) s = .next (s.after (k ((maskCores m.toNat).foldl Dev.haltCore s.dev)))) ∧
    exec (.dmResume m) s = .next (s.after (k ((maskCores m.toNat).foldl Dev.resumeCore s.dev))) ∧
    exec (.dmStep m) s = .next (s.after (k ((maskCores m.toNat).foldl Dev.stepCore s.dev))) ∧
    (m ≠ 0 → s.dev.haltAllowed = false → exec (.dmHalt m) s = .next (s.after
      (((s.dev.count Obj.DBG_HALT_REFUSED).count Obj.DBG_REFUSED).modDbg (fun b => { b with
        resReg := 2, resWrite := true, resStatus := 1, resData := 0 }))))) ∧
  (∀ (s : State) (m : BitVec 4), s.dev.life.held = false → s.dev.dbg.tap ≠ .dbgAccess →
    exec (.dmHalt m) s = .next (s.after s.dev) ∧ exec (.dmResume m) s = .next (s.after s.dev) ∧
    exec (.dmStep m) s = .next (s.after s.dev)) ∧
  (∀ (s : State) (c : Fin 4) (pc : BitVec 40), s.dev.life.held = false →
    ((s.dev.core c.val).pending = true → exec (.dmHaltComplete c pc) s = .next (s.after
      (s.dev.setCore c.val { s.dev.core c.val with halted := true, pending := false, pc := pc.toNat }))) ∧
    ((s.dev.core c.val).pending = false → exec (.dmHaltComplete c pc) s = .next (s.after s.dev))) ∧
  (∀ (s : State) (v : BitVec 32), s.dev.life.held = false → s.dev.dbg.tap = .dbgAccess → s.dev.gateOn 34 = true → s.dev.nv.lifecycle ≠ 2 →
    (fld v.toNat 28 24 ≤ 20 → bitOf v.toNat 31 = false → exec (.dmCmpCtrlWrite v) s = .next (s.after
      ((s.dev.modCmp (fun k => { k with ctrl := fld v.toNat 31 24 * 2 ^ 24 })).modDbg (fun b => { b with
        resReg := 6, resWrite := true, resStatus := 0, resData := 0 })))) ∧
    (20 < fld v.toNat 28 24 → exec (.dmCmpCtrlWrite v) s = .next (s.after
      ((s.dev.count Obj.DBG_REFUSED).modDbg (fun b => { b with resReg := 6, resWrite := true, resStatus := 3, resData := 0 })))) ∧
    exec (.dmCmpHitsClear 0) s = .next (s.after
      ((s.dev.modCmp (fun k => { k with hits := 0 })).modDbg (fun b => { b with
        resReg := 7, resWrite := true, resStatus := 0, resData := 0 })))) ∧
  (∀ (s : State) (c : Fin 4) (k : Fin 12) (pc a : BitVec 40) (wr : Bool) (x : CoreX) (y : Cmp), s.dev.life.held = false →
    x = s.dev.core c.val → y = x.cmp k.val →
    (y.hit k.val pc.toNat a.toNat wr = false → exec (.dmComparatorMatch c k ⟨pc, a, wr⟩) s = .next (s.after s.dev)) ∧
    (y.hit k.val pc.toNat a.toNat wr = true → s.dev.haltAllowed = false → exec (.dmComparatorMatch c k ⟨pc, a, wr⟩) s = .next (s.after
      (s.dev.setCore c.val { x with cmps := smSet x.cmps k.val { y with hits := min (y.hits + 1) 0xFFFFFFFF } {} }))) ∧
    (y.hit k.val pc.toNat a.toNat wr = true → s.dev.haltAllowed = true → x.halted = false → x.pending = false →
      exec (.dmComparatorMatch c k ⟨pc, a, wr⟩) s = .next (s.after (s.dev.setCore c.val { x with
        cmps := smSet x.cmps k.val { y with hits := min (y.hits + 1) 0xFFFFFFFF } {}
        halted := true, pending := false, pc := pc.toNat, cause := if k.val < 8 then 3 else 4, causeCmp := k.val })))) ∧
  (∀ (y : Cmp) (k pc a : Nat) (wr : Bool),
    (k < 8 → (y.hit k pc a wr = true ↔ bitOf y.ctrl 31 = true ∧ y.addr = pc)) ∧
    (8 ≤ k → (y.hit k pc a wr = true ↔ bitOf y.ctrl 31 = true ∧ y.addr / 2 ^ fld y.ctrl 28 24 = a / 2 ^ fld y.ctrl 28 24 ∧
      bitOf (fld y.ctrl 30 29) (if wr then 1 else 0) = true)))

/-- Memory access, the mailbox, and the other debug registers (R522, R523, R528, R529; Tables 15.7, 15.8).
Rows: DM_MEM_GO, DM_MEM_DATA_AUTO, DM_MEM_OVERRUN_CLEAR, DM_REGISTER_WRITE, DM_MEM_ACCESS_DONE, DM_MBX_TX_WRITE, DM_MBX_GO,
DM_MBX_RX_DONE, DM_MBX_RX_READ. -/
def Obligations.DebugAccess : Prop :=
  (∀ (s : State) (v : BitVec 32), s.dev.life.held = false → s.dev.dbg.tap = .dbgAccess → s.dev.gateOn 34 = true → s.dev.nv.lifecycle ≠ 2 →
    (bitOf v.toNat 31 = true → fld v.toNat 29 28 ≠ 3 → s.dev.dbg.memAddr % memSize v.toNat = 0 → s.dev.dbg.memOp = none →
      exec (.dmMemGo v) s = .next (s.after
        (((s.dev.modDbg (fun b => { b with memCtrl := fld v.toNat 30 27 * 2 ^ 27 })).memStart (bitOf v.toNat 30)).modDbg (fun b => { b with
          resReg := 0x12, resWrite := true, resStatus := 0, resData := 0 })))) ∧
    (bitOf v.toNat 31 = true → fld v.toNat 29 28 ≠ 3 → s.dev.dbg.memAddr % memSize v.toNat ≠ 0 →
      exec (.dmMemGo v) s = .next (s.after ((s.dev.count Obj.DBG_REFUSED).modDbg (fun b => { b with
        resReg := 0x12, resWrite := true, resStatus := 3, resData := 0 })))) ∧
    (∀ w, fld s.dev.dbg.memCtrl 29 28 ≠ 3 → bitOf s.dev.dbg.memCtrl 27 = true → s.dev.dbg.memAddr % memSize s.dev.dbg.memCtrl = 0 →
      s.dev.dbg.memOp = none → exec (.dmMemDataAuto w v) s = .next (s.after
        ((((if w then s.dev.modDbg (fun b => { b with memData := v.toNat }) else s.dev)).memStart w).modDbg (fun b => { b with
          resReg := 0x13, resWrite := w, resStatus := 0, resData := if w then 0 else s.dev.dbg.memData })))) ∧
    (bitOf v.toNat 4 = true → exec (.dmMemOverrunClear v) s = .next (s.after
      ((s.dev.modDbg (fun b => { b with overrun := false })).modDbg (fun b => { b with
        resReg := 0x14, resWrite := true, resStatus := 0, resData := 0 })))) ∧
    exec (.dmRegisterWrite 0x10 v) s = .next (s.after
      ((s.dev.modDbg (fun b => { b with memAddr := b.memAddr / 2 ^ 32 * 2 ^ 32 + v.toNat })).modDbg (fun b => { b with
        resReg := 0x10, resWrite := true, resStatus := 0, resData := 0 }))) ∧
    (v.toNat % 16 ≤ 11 → exec (.dmRegisterWrite 0x03 v) s = .next (s.after
      ((s.dev.modDbg (fun b => { b with sel := v.toNat % 64 })).modDbg (fun b => { b with
        resReg := 0x03, resWrite := true, resStatus := 0, resData := 0 })))) ∧
    exec (.dmRegisterWrite 0x30 v) s = .next (s.after ((s.dev.count Obj.DBG_REFUSED).modDbg (fun b => { b with
        resReg := 0x30, resWrite := true, resStatus := 3, resData := 0 })))) ∧
  (∀ (d : Dev) (w : Bool), d.dbg.memOp = none → d.memStart w = (d.count Obj.DBG_MEM_ACCESSES).modDbg (fun b => { b with
    memOp := some { addr := b.memAddr, write := w, size := memSize b.memCtrl, data := b.memData, held := d.gateHolds b.memAddr } })) ∧
  (∀ (d : Dev) (w : Bool) (o : MemOp), d.dbg.memOp = some o → d.memStart w = d.modDbg (fun b => { b with overrun := true })) ∧
  (∀ (s : State) (x : MemOutcome), s.dev.life.held = false →
    (s.dev.dbg.memOp = none → exec (.dmMemAccessDone x) s = .next (s.after s.dev)) ∧
    (∀ o, s.dev.dbg.memOp = some o → o.held = true → exec (.dmMemAccessDone x) s = .next (s.after s.dev)) ∧
    (∀ o d, s.dev.dbg.memOp = some o → o.held = false →
      ((s.dev.outstanding 4).modBus (fun b => { b with resp := 255 })).busDo (o.txn x.cram) = some d →
      d.bus.resp = 0 → exec (.dmMemAccessDone x) s = .next (s.after (d.modDbg (fun b => { b with
        memOp := none, memResp := 0, memData := if o.write then b.memData else leNat (d.bus.data.take o.size)
        memAddr := if bitOf b.memCtrl 27 then (b.memAddr + o.size) % 2 ^ 40 else b.memAddr }))))) ∧
  (∀ (s : State) (v : BitVec 32), s.dev.life.held = false → s.dev.dbg.tap = .dbgAccess → s.dev.gateOn 34 = true →
    exec (.dmMbxTxWrite v) s = .next (s.after
      ((s.dev.modDbg (fun b => { b with tx := (b.tx ++ beBytes 4 v.toNat).take 2048 })).modDbg (fun b => { b with
        resReg := 0x22, resWrite := true, resStatus := 0, resData := 0 }))) ∧
    (bitOf v.toNat 31 = true → bitOf v.toNat 30 = false → 16 ≤ fld v.toNat 11 0 → fld v.toNat 11 0 ≤ 2047 → s.dev.dbg.txBusy = false →
      s.dev.dbg.rx = none → fld v.toNat 11 0 ≤ s.dev.dbg.tx.length → exec (.dmMbxGo v) s = .next (s.after
        ((s.dev.mbxGo (fld v.toNat 11 0)).modDbg (fun b => { b with
          resReg := 0x20, resWrite := true, resStatus := 0, resData := 0 })))) ∧
    (bitOf v.toNat 31 = true → fld v.toNat 11 0 < 16 → exec (.dmMbxGo v) s = .next (s.after
      ((s.dev.count Obj.DBG_REFUSED).modDbg (fun b => { b with resReg := 0x20, resWrite := true, resStatus := 3, resData := 0 })))) ∧
    (bitOf v.toNat 31 = false → bitOf v.toNat 30 = true → exec (.dmMbxRxDone v) s = .next (s.after
      (s.dev.mbxRelease.modDbg (fun b => { b with resReg := 0x20, resWrite := true, resStatus := 0, resData := 0 })))) ∧
    exec .dmMbxRxRead s = .next (s.after (s.dev.mbxTake.modDbg (fun b => { b with
      resReg := 0x23, resWrite := false, resStatus := 0
      resData := beNat (fitBytes 4 (((s.dev.dbg.rx.getD []).drop s.dev.dbg.rxPos).take 4)) }))))

/-- A message at its port (R342, R344, R418, R422): nothing where the port's gate is closed, a count for a response, the kept response
again for a repeat, and no reply to a pair-addressed message at a device that does not act. Said of each command that stands for a
COMMAND, and of READ.
Rows: MIX_JOURNAL_DISCARD, MIX_COMMIT, AO_COUNT_CLEAR, MIX_COUNT_CLEAR, AP_COUNT_CLEAR, MG_COUNT_CLEAR, START, DEV_LAYBY, DEV_RESET,
CH_COUNT_CLEAR, DBG_COUNT_CLEAR, LANE_COUNT_CLEAR, LANE_RESTART, LANE_SPARE_FORCE, FM_PC_RETIRE, FM_RETIRE_CLEAR, FM_COUNT_CLEAR,
RF_COUNT_CLEAR, TF_COUNT_CLEAR, PKT_COUNT_CLEAR, CE_COUNT_CLEAR, CANOPY_COUNT_CLEAR, FLT_COUNT_CLEAR, RMB_COUNT_CLEAR, UPD_ACTIVATE,
UPD_REVERT, UPD_DISCARD, SEC_LIFECYCLE_SET, SEC_ATTEST, SEC_KEY_REVOKE, MT_STEP_APPLY, SYNTH_STROBE, TWIN_JOIN, DP_RELEASE, REF_HANDOVER,
TWIN_COUNT_CLEAR, TAKE_CANCEL, HAMPER_FIRE, HAMPER_ABORT, HAMPER_CLEAR, TAKE_COUNT_CLEAR, IN_COUNT_CLEAR, OUT_COUNT_CLEAR, FS_COUNT_CLEAR. -/
def Obligations.MessageIntake : Prop :=
  ∀ (s : State) (i : Instr) (r : Req) (p : Payload), s.dev.life.held = false →
    ((∃ a x b, carriedCommand i = some (r, a, x, b) ∧ p = .command a x b) ∨ (∃ refs, i = .read r refs ∧ p = .read refs)) →
    (s.dev.portOpen r.port = false → exec i s = .next (s.after s.dev)) ∧
    (s.dev.portOpen r.port = true → r.response = true →
      exec i s = .next (s.after (s.dev.count Obj.CH_MALFORMED (portIdx r.port)))) ∧
    (s.dev.portOpen r.port = true → r.response = false → pairSent r = true → s.dev.acts = false → s.dev.heeds = false →
      exec i s = .next (s.after s.dev)) ∧
    (s.dev.portOpen r.port = true → r.response = false → pairSent r = true → s.dev.acts = false → s.dev.heeds = true →
      (structureStatus r p).1 = stOk →
      exec i s = .next (s.after (if sharedWrite p then s.dev.keepCopy r p else s.dev))) ∧
    (∀ resp, s.dev.portOpen r.port = true → r.response = false → (pairSent r = true → s.dev.acts = true) →
      s.dev.keptFor r = some resp →
      exec i s = .next (s.after ((s.dev.count Obj.CH_DUPLICATES (portIdx r.port)).send resp))) ∧
    (s.dev.portOpen r.port = true → r.response = false → (pairSent r = true → s.dev.acts = true) → s.dev.keptFor r = none →
      r.version ≠ 1 → r.port ≠ .cn →
      exec i s = .next (s.after (s.dev.answer (refusal (kindOf p) r stUnsupported noFail (urgentRequest p)))))

/-- A WRITE of a local object: applied at its acceptance, E the Media Time of acceptance; a setting of the port that it came by is
applied once the reply has left (R375, R411, R426). Said of every row that carries a WRITE.
Rows: SHUF_SRC_WRITE, AO_DELAY_WRITE, MIX_JOURNAL_ADD, MIX_GAIN_ROW_WRITE, AP_ENABLE_WRITE, LANE_EN_WRITE, LANE_SPARE_MODE_WRITE,
LANE_TEST_MODE_WRITE, RF_ENABLE_WRITE, RF_PLAYOUT_WRITE, TF_ENABLE_WRITE, CE_OUTPUT_WRITE, CE_LAYER_WRITE, CE_ORDER_WRITE,
STILL_DATA_WRITE, SP_STILL_WRITE, CANOPY_SOURCE_WRITE, CI_OUTPUT_WRITE, CI_ON_WRITE, FLT_LATCHED_WRITE, FLT_FORCE_WRITE, FLT_ENABLE_WRITE,
FLT_ACK_WRITE, FLT_SEVERITY_WRITE, TEL_SET_WRITE, CALIBRATION_WRITE, UPD_MANIFEST_WRITE, UPD_PIECE_WRITE, REF_RANK_WRITE, SEL_FORCE_WRITE,
AVS_ENABLE_WRITE, TWIN_MODE_WRITE, HAMPER_ENTRIES_WRITE, FS_MODE_WRITE, FS_DELAY_FRAMES_WRITE, IN_GANG_WRITE, OBJECT_WRITE. -/
def Obligations.LocalWrites : Prop :=
  ∀ (s : State) (i : Instr) (r : Req) (a : BitVec 96) (it : Item) (ws : List Wr), carriedWrite i = some (r, a, it) →
    s.dev.takesUp r (.write a it) → (r.port = .db → s.dev.nv.lifecycle ≠ 2) → 38 + it.value.length ≤ reqLimit r.port →
    s.dev.judgeWrite r false kWrite a.toNat [it] = .good ws false → it.ref.object.toNat ∉ [Obj.GATE_EN, Obj.TAKE] →
    (ws.any (ownPortSetting r.port) = false →
      exec i s = .next (s.after ((s.dev.applyWrites s.dev.now ws).answer (accepted kWrite r s.dev.now false false)))) ∧
    (ws.any (ownPortSetting r.port) = true →
      exec i s = .next (s.after ((s.dev.answer (accepted kWrite r s.dev.now false false)).defer r.port ws none)))

/-- A WRITE of a shared object: sealed, and applied at its E (R342, R411, R426). Said of every row that carries a WRITE.
Rows: SHUF_SRC_WRITE, AO_DELAY_WRITE, MIX_JOURNAL_ADD, MIX_GAIN_ROW_WRITE, AP_ENABLE_WRITE, LANE_EN_WRITE, LANE_SPARE_MODE_WRITE,
LANE_TEST_MODE_WRITE, RF_ENABLE_WRITE, RF_PLAYOUT_WRITE, TF_ENABLE_WRITE, CE_OUTPUT_WRITE, CE_LAYER_WRITE, CE_ORDER_WRITE,
STILL_DATA_WRITE, SP_STILL_WRITE, CANOPY_SOURCE_WRITE, CI_OUTPUT_WRITE, CI_ON_WRITE, FLT_LATCHED_WRITE, FLT_FORCE_WRITE, FLT_ENABLE_WRITE,
FLT_ACK_WRITE, FLT_SEVERITY_WRITE, TEL_SET_WRITE, CALIBRATION_WRITE, UPD_MANIFEST_WRITE, UPD_PIECE_WRITE, REF_RANK_WRITE, SEL_FORCE_WRITE,
AVS_ENABLE_WRITE, TWIN_MODE_WRITE, HAMPER_ENTRIES_WRITE, FS_MODE_WRITE, FS_DELAY_FRAMES_WRITE, IN_GANG_WRITE, OBJECT_WRITE. -/
def Obligations.SharedWrites : Prop :=
  (∀ (s : State) (i : Instr) (r : Req) (a : BitVec 96) (it : Item) (ws : List Wr) (e : Nat) (late : Bool),
    carriedWrite i = some (r, a, it) → s.dev.takesUp r (.write a it) → (r.port = .db → s.dev.nv.lifecycle ≠ 2) →
    38 + it.value.length ≤ reqLimit r.port → s.dev.judgeWrite r false kWrite a.toNat [it] = .good ws true →
    it.ref.object.toNat ≠ Obj.TAKE → s.dev.writeE r (mtDecode a.toNat) ws true = (e, late) →
    exec i s = .next (s.after (((s.dev.nextOrder.2.sendSeal r (.write a it) e).scheduleWrites s.dev.nextOrder.1 e (mtDecode a.toNat)
      r.port ws).answer (accepted kWrite r e late false)))) ∧
  (∀ (d : Dev) (r : Req) (apply n k : Nat) (v : Bytes), n ≠ Obj.TAKE →
    d.writeE r apply [⟨n, k, v⟩] true = d.eOf r apply [n] true) ∧
  (∀ (d : Dev) (seq e apply n k : Nat) (port : Port) (v : Bytes), n ≠ Obj.TAKE →
    d.scheduleWrites seq e apply port [⟨n, k, v⟩] = d.schedule seq e port (.writes [⟨n, k, v⟩])) ∧
  (∀ (d : Dev) (seq e apply k own : Nat) (port : Port) (v : Bytes),
    own = (if tkApply (beNat v) = 0 then apply else mtDecode (tkApply (beNat v))) →
    d.scheduleWrites seq e apply port [⟨Obj.TAKE, k, v⟩] = d.armTake (tkKind (beNat v)) (tkTarget (beNat v))
      { src := tkSource (beNat v), e, late := decide (own ≠ 0 ∧ own < e), hamper := none }) ∧
  (∀ (d : Dev) (r : Req) (num : Nat), timedObj num = false → (r.port = .cn → pairSent r = false) →
    d.eOf r 0 [num] true = (if d.hotPeer then d.now + usMt 2000 else d.now, false)) ∧
  (∀ (d : Dev) (r : Req) (apply num : Nat), (timedObj num = true ∨ apply ≠ 0 ∨ (r.port = .cn ∧ pairSent r = true)) →
    d.eOf r apply [num] true = (max apply (d.now + usMt 2000), decide (apply ≠ 0 ∧ apply < d.now + usMt 2000))) ∧
  (∀ (d : Dev) (seq e : Nat) (port : Port) (x : Act),
    (e ≤ d.now → d.schedule seq e port x = d.actAt e x) ∧
    (d.now < e → d.schedule seq e port x = d.modCh (fun c => { c with pend := c.pend ++ [⟨e, seq, port, x⟩] })))

/-- A value too long for one message comes by a whole BULK_WRITE transfer, whose last piece is judged and accepted as a WRITE is (R431,
R432). Said of every row that carries a WRITE.
Rows: SHUF_SRC_WRITE, AO_DELAY_WRITE, MIX_JOURNAL_ADD, MIX_GAIN_ROW_WRITE, AP_ENABLE_WRITE, LANE_EN_WRITE, LANE_SPARE_MODE_WRITE,
LANE_TEST_MODE_WRITE, RF_ENABLE_WRITE, RF_PLAYOUT_WRITE, TF_ENABLE_WRITE, CE_OUTPUT_WRITE, CE_LAYER_WRITE, CE_ORDER_WRITE,
STILL_DATA_WRITE, SP_STILL_WRITE, CANOPY_SOURCE_WRITE, CI_OUTPUT_WRITE, CI_ON_WRITE, FLT_LATCHED_WRITE, FLT_FORCE_WRITE, FLT_ENABLE_WRITE,
FLT_ACK_WRITE, FLT_SEVERITY_WRITE, TEL_SET_WRITE, CALIBRATION_WRITE, UPD_MANIFEST_WRITE, UPD_PIECE_WRITE, REF_RANK_WRITE, SEL_FORCE_WRITE,
AVS_ENABLE_WRITE, TWIN_MODE_WRITE, HAMPER_ENTRIES_WRITE, FS_MODE_WRITE, FS_DELAY_FRAMES_WRITE, IN_GANG_WRITE, OBJECT_WRITE. -/
def Obligations.TransferredWrites : Prop :=
  ∀ (s : State) (i : Instr) (r : Req) (a : BitVec 96) (it : Item) (ws : List Wr), carriedWrite i = some (r, a, it) →
    (∀ q x y, i ≠ .objectWrite q x y) → reqLimit r.port < 38 + it.value.length → s.dev.life.held = false →
    s.dev.portOpen r.port = true → r.response = false → (pairSent r = true → s.dev.acts = true) → s.dev.keptFor r = none →
    r.version = 1 → (r.port = .cn → False) → r.count = 1 → reservedHit r (.bulkWrite (lastPiece a it)) = none →
    (r.port = .db → s.dev.nv.lifecycle ≠ 2) → s.dev.pieceCheck r (lastPiece a it) = stOk → it.ref.object.toNat ∉ [Obj.GATE_EN, Obj.TAKE] →
    (s.dev.judgeWrite r false kBulkWrite a.toNat [it] = .good ws false → ws.any (ownPortSetting r.port) = false →
      exec i s = .next (s.after ((s.dev.applyWrites s.dev.now ws).answer (accepted kBulkWrite r s.dev.now false false)))) ∧
    (∀ e late, s.dev.judgeWrite r false kBulkWrite a.toNat [it] = .good ws true →
      s.dev.writeE r (mtDecode a.toNat) ws true = (e, late) →
      exec i s = .next (s.after (((s.dev.nextOrder.2.sendSeal r (.bulkWrite (lastPiece a it)) e).scheduleWrites s.dev.nextOrder.1 e
        (mtDecode a.toNat) r.port ws).answer (accepted kBulkWrite r e late false))))

/-- Requests on a gate (R76 to R79): an opening is carried out and answered; a closing without accesses in flight too; otherwise the
closing waits for at most 100 µs and is not answered yet.
Rows: GATE_OPEN_REQUEST, GATE_CLOSE_REQUEST. -/
def Obligations.GateRequests : Prop :=
  ∀ (s : State) (r : Req) (w : WArg) (g : Nat), s.dev.life.held = false → (r.port = .db → s.dev.nv.lifecycle ≠ 2) →
    r.port ≠ .cn → s.dev.gateWaits g = false →
    (s.dev.takesUp r (.write w.apply ⟨argRef Obj.GATE_EN w, [1]⟩) →
      s.dev.judgeWrite r false kWrite w.apply.toNat [⟨argRef Obj.GATE_EN w, [1]⟩] = .good [⟨Obj.GATE_EN, g, [1]⟩] false →
      exec (.gateOpenRequest r w) s = .next (s.after ((s.dev.applyWrites s.dev.now [⟨Obj.GATE_EN, g, [1]⟩]).answer
        (accepted kWrite r s.dev.now false false)))) ∧
    (s.dev.takesUp r (.write w.apply ⟨argRef Obj.GATE_EN w, [0]⟩) →
      s.dev.judgeWrite r false kWrite w.apply.toNat [⟨argRef Obj.GATE_EN w, [0]⟩] = .good [⟨Obj.GATE_EN, g, [0]⟩] false →
      (s.dev.gateBusy g = false → exec (.gateCloseRequest r w) s = .next (s.after
        ((s.dev.applyWrites s.dev.now [⟨Obj.GATE_EN, g, [0]⟩]).answer (accepted kWrite r s.dev.now false false)))) ∧
      (s.dev.gateBusy g = true → exec (.gateCloseRequest r w) s = .next (s.after
        ((s.dev.applyWrites s.dev.now [⟨Obj.GATE_EN, g, [0]⟩]).modClk (fun x => { x with
          replies := x.replies ++ [⟨r, kWrite, s.dev.now, [(g, 0)], none⟩] }))))) ∧
    (s.dev.gateBusy g = false → s.dev.gateClose g = (s.dev.gateSet g false).gateNote g stOk) ∧
    (s.dev.gateBusy g = true → s.dev.gateClose g =
      ((s.dev.setReg Obj.GATE_EN g 0).setReg Obj.GATE_STATE g gsWaiting).modClk (fun x => { x with
        waiting := smSet x.waiting g (s.dev.clock + 100000) 0 }))

/-- A refused WRITE or COMMAND answers its status with E zero, counts, and applies nothing; a gate's RESULT, UPDATE_FAIL and UPD_REFUSAL follow
their own rules (R79, R419, R426, R428, R440, R491, R494). Said of every row that carries a WRITE or a COMMAND. Which refusals name no status is log
entry 77.
Rows: SHUF_SRC_WRITE, AO_DELAY_WRITE, MIX_JOURNAL_ADD, MIX_GAIN_ROW_WRITE, AP_ENABLE_WRITE, LANE_EN_WRITE, LANE_SPARE_MODE_WRITE,
LANE_TEST_MODE_WRITE, RF_ENABLE_WRITE, RF_PLAYOUT_WRITE, TF_ENABLE_WRITE, CE_OUTPUT_WRITE, CE_LAYER_WRITE, CE_ORDER_WRITE,
STILL_DATA_WRITE, SP_STILL_WRITE, CANOPY_SOURCE_WRITE, CI_OUTPUT_WRITE, CI_ON_WRITE, FLT_LATCHED_WRITE, FLT_FORCE_WRITE, FLT_ENABLE_WRITE,
FLT_ACK_WRITE, FLT_SEVERITY_WRITE, TEL_SET_WRITE, CALIBRATION_WRITE, UPD_MANIFEST_WRITE, UPD_PIECE_WRITE, REF_RANK_WRITE, SEL_FORCE_WRITE,
AVS_ENABLE_WRITE, TWIN_MODE_WRITE, HAMPER_ENTRIES_WRITE, FS_MODE_WRITE, FS_DELAY_FRAMES_WRITE, IN_GANG_WRITE, OBJECT_WRITE,
MIX_JOURNAL_DISCARD, MIX_COMMIT, AO_COUNT_CLEAR, MIX_COUNT_CLEAR, AP_COUNT_CLEAR, MG_COUNT_CLEAR, START, DEV_LAYBY, DEV_RESET,
CH_COUNT_CLEAR, DBG_COUNT_CLEAR, LANE_COUNT_CLEAR, LANE_RESTART, LANE_SPARE_FORCE, FM_PC_RETIRE, FM_RETIRE_CLEAR, FM_COUNT_CLEAR,
RF_COUNT_CLEAR, TF_COUNT_CLEAR, PKT_COUNT_CLEAR, CE_COUNT_CLEAR, CANOPY_COUNT_CLEAR, FLT_COUNT_CLEAR, RMB_COUNT_CLEAR, UPD_ACTIVATE,
UPD_REVERT, UPD_DISCARD, SEC_LIFECYCLE_SET, SEC_ATTEST, SEC_KEY_REVOKE, MT_STEP_APPLY, SYNTH_STROBE, TWIN_JOIN, DP_RELEASE, REF_HANDOVER,
TWIN_COUNT_CLEAR, TAKE_CANCEL, HAMPER_FIRE, HAMPER_ABORT, HAMPER_CLEAR, TAKE_COUNT_CLEAR, IN_COUNT_CLEAR, OUT_COUNT_CLEAR, FS_COUNT_CLEAR. -/
def Obligations.RefusedRequests : Prop :=
  (∀ (s : State) (i : Instr) (r : Req) (a : BitVec 96) (it : Item) (d e : Dev) (st k : Nat), carriedWrite i = some (r, a, it) →
    s.dev.takesUp r (.write a it) → 38 + it.value.length ≤ reqLimit r.port → it.ref.object.toNat ≠ Obj.TAKE →
    d = s.dev.noteRefusedDebug r kWrite [it.ref] → d.judgeWrite r false kWrite a.toNat [it] = .bad st k → st ≠ stOk → st ≠ stPartial →
    e = (d.writeRefused r [it] st k).answer (refusal kWrite r st k false) →
    exec i s = .next (s.after (if r.port = .cn then e.count Obj.CN_REFUSED else e))) ∧
(∀ (s : State) (i : Instr) (r : Req) (a : BitVec 96) (x : Ref) (b : Bytes) (n st : Nat) (d e : Dev),
    carriedCommand i = some (r, a, x, b) → s.dev.takesUp r (.command a x b) → n = x.object.toNat →
    d = s.dev.noteRefusedDebug r kCommand [x] → st = d.commandStatus r false a.toNat x b → st ≠ stOk → st ≠ stPartial →
    e = ((if st = d.cmdStatus n x.index.toNat b then d.cmdRefused n else d).answer (refusal kCommand r st noFail (urgentCommand n))) →
    exec i s = .next (s.after (if r.port = .cn then e.count Obj.CN_REFUSED else e)))

/-- A COMMAND that is accepted takes the next place in the order, is sealed where its object is shared, acts at its E, and is answered;
a reset that it asks for waits until the response has left (R342, R411, R428; Table 12.14). Said of every row that carries one.
Rows: MIX_JOURNAL_DISCARD, MIX_COMMIT, AO_COUNT_CLEAR, MIX_COUNT_CLEAR, AP_COUNT_CLEAR, MG_COUNT_CLEAR, START, DEV_LAYBY, DEV_RESET,
CH_COUNT_CLEAR, DBG_COUNT_CLEAR, LANE_COUNT_CLEAR, LANE_RESTART, LANE_SPARE_FORCE, FM_PC_RETIRE, FM_RETIRE_CLEAR, FM_COUNT_CLEAR,
RF_COUNT_CLEAR, TF_COUNT_CLEAR, PKT_COUNT_CLEAR, CE_COUNT_CLEAR, CANOPY_COUNT_CLEAR, FLT_COUNT_CLEAR, RMB_COUNT_CLEAR, UPD_ACTIVATE,
UPD_REVERT, UPD_DISCARD, SEC_LIFECYCLE_SET, SEC_ATTEST, SEC_KEY_REVOKE, MT_STEP_APPLY, SYNTH_STROBE, TWIN_JOIN, DP_RELEASE, REF_HANDOVER,
TWIN_COUNT_CLEAR, TAKE_CANCEL, HAMPER_FIRE, HAMPER_ABORT, HAMPER_CLEAR, TAKE_COUNT_CLEAR, IN_COUNT_CLEAR, OUT_COUNT_CLEAR, FS_COUNT_CLEAR. -/
def Obligations.AcceptedCommands : Prop :=
  ∀ (s : State) (i : Instr) (r : Req) (a : BitVec 96) (x : Ref) (b : Bytes) (n e : Nat) (late : Bool) (d f : Dev),
    carriedCommand i = some (r, a, x, b) → s.dev.takesUp r (.command a x b) → (r.port = .db → s.dev.nv.lifecycle ≠ 2) →
    n = x.object.toNat → s.dev.commandStatus r false a.toNat x b = stOk → s.dev.commandE r a.toNat n b = (e, late) →
    d = (if objShared n then s.dev.nextOrder.2.sendSeal r (.command a x b) e else s.dev.nextOrder.2) →
    f = (d.enactCommand s.dev.nextOrder.1 e late r.port n x.index.toNat b).answer (accepted kCommand r e late (urgentCommand n)) →
    exec i s = .next (s.after (match s.dev.cmdReset n with | none => f | some c => f.defer r.port [] (some c)))

/-- READ and BULK_READ give back wire encodings and change nothing but the counts and the kept response (R425, R430); WRITE_SET,
SUBSCRIBE, BULK_WRITE and TAKE do what their kinds say (R427, R429, R431, R434).
Rows: READ, BULK_READ, WRITE_SET, SUBSCRIBE, BULK_WRITE, TAKE. -/
def Obligations.OtherRequests : Prop :=
  (∀ (s : State) (r : Req) (refs : List Ref), s.dev.takesUp r (.read refs) → (r.port = .db → s.dev.nv.lifecycle ≠ 2) →
    exec (.read r refs) s = .next (s.after (s.dev.answer
      { kind := kRead, req := r, status := if (s.dev.readItems r 0 refs).all (fun x => x.1 == stOk) then stOk else stPartial, late := false
        count := r.count.toNat, payload := (s.dev.readItems r 0 refs).flatMap (·.2), urgent := false }))) ∧
  (∀ (s : State) (r : Req) (x : Ref) (o n : BitVec 32), s.dev.takesUp r (.bulkRead x o n) → (r.port = .db → s.dev.nv.lifecycle ≠ 2) →
    s.dev.readStatus r kBulkRead x = stOk → x.indexed = false → n.toNat ≠ 0 → n.toNat ≤ 65536 →
    exec (.bulkRead r x o n) s = .next (s.after (s.dev.answer
      { kind := kBulkRead, req := r, status := stOk, late := false, count := r.count.toNat
        payload := ((s.dev.readRef x).drop o.toNat).take n.toNat, urgent := false }))) ∧
  (∀ (s : State) (r : Req) (a : BitVec 96) (its : List Item) (ws : List Wr), s.dev.takesUp r (.writeSet a its) →
    (r.port = .db → s.dev.nv.lifecycle ≠ 2) →
    (s.dev.judgeWrite r false kSet a.toNat its = .good ws false → ws.any (ownPortSetting r.port) = false → 
      (∀ w ∈ ws, w.num ≠ Obj.TAKE ∧ w.num ≠ Obj.GATE_EN) →
      exec (.writeSet r a its) s = .next (s.after
        ((s.dev.applyWrites s.dev.now ws).answer (accepted kSet r s.dev.now false false)))) ∧
    (∀ e late, s.dev.judgeWrite r false kSet a.toNat its = .good ws true → s.dev.writeE r (mtDecode a.toNat) ws true = (e, late) →
      exec (.writeSet r a its) s = .next (s.after (((s.dev.nextOrder.2.sendSeal r (.writeSet a its) e).scheduleWrites s.dev.nextOrder.1 e
        (mtDecode a.toNat) r.port ws).answer (accepted kSet r e late false))))) ∧
  (∀ (s : State) (r : Req) (recs : List (BitVec 256)) (sts : List Nat) (d : Dev), s.dev.takesUp r (.subscribe recs) →
    s.dev.stateAllows kSubscribe Obj.SUB_OWN = true → pairSent r = false → s.dev.subOwnAll r recs = (sts, d) →
    exec (.subscribe r recs) s = .next (s.after (d.answer
      { kind := kSubscribe, req := r, status := if sts.all (· == stOk) then stOk else stPartial, late := false, count := r.count.toNat
        payload := sts.flatMap (beBytes 1), urgent := false }))) ∧
  (∀ (s : State) (r : Req) (b : BulkPiece) (t : Bulk), s.dev.takesUp r (.bulkWrite b) → (r.port = .db → s.dev.nv.lifecycle ≠ 2) →
    s.dev.pieceCheck r b = stOk → s.dev.stagePiece r b = (stOk, some t) → b.final = 0 →
    exec (.bulkWrite r b) s = .next (s.after ((s.dev.setBulk r b.ref (some t)).answer (accepted kBulkWrite r 0 false false)))) ∧
  (∀ (s : State) (r : Req) (recs : List (BitVec 128)) (outs : List (Nat × Nat)) (d : Dev), s.dev.takesUp r (.take recs) →
    s.dev.loneConflict r true = false → s.dev.stateAllows kTake Obj.TAKE = true → s.dev.takeRecords s.dev.now recs = (outs, d) →
    outs.all (fun x => x.1 == stOk) = true → recs ≠ [] →
    exec (.take r recs) s = .next (s.after ((d.sendSeal r (.take recs) (s.dev.now + usMt 2000)).answer
      { kind := kTake, req := r, status := stOk, late := (recs.zip (outs.map (·.1))).any (fun x => lateTake s.dev.now x.1 x.2)
        count := r.count.toNat, payload := outs.flatMap (fun x => beBytes 1 x.1 ++ beBytes 12 (mtEncode x.2)), urgent := true })))

/-- What an accepted write does to each object that a row of the table names, once it is applied at its E (R411, and the chapter of each
object). -/
def Obligations.WritesTakeEffect : Prop :=
  ∀ (d : Dev) (e i : Nat) (v : Bytes) (x : Nat), x = beNat v →
    (∀ n ∈ [Obj.TWIN_MODE, Obj.AVS_ENABLE, Obj.SP_STILL, Obj.IN_GANG, Obj.RF_PLAYOUT, Obj.TF_ENABLE, Obj.FLT_ENABLE, Obj.CE_LAYER,
      Obj.CE_ORDER], d.applyWr e ⟨n, i, v⟩ = d.setReg n i x) ∧
    (∀ n ∈ [Obj.TEL_SET, Obj.STILL_DATA], d.applyWr e ⟨n, i, v⟩ = d.setBlob n i v) ∧
    d.applyWr e ⟨Obj.HAMPER_ENTRIES, i, v⟩ = d.hamperSet i v ∧
    d.applyWr e ⟨Obj.RF_ENABLE, i, v⟩ = d.rfEnable i (x == 1) ∧
    d.applyWr e ⟨Obj.CE_OUTPUT, i, v⟩ = d.ceOutputSet i x ∧
    (d.reg Obj.CANOPY_SOURCE i = x → d.applyWr e ⟨Obj.CANOPY_SOURCE, i, v⟩ = d) ∧
    (∀ f, d.reg Obj.CANOPY_SOURCE i ≠ x → f = d.setReg Obj.CANOPY_SOURCE i x →
      d.applyWr e ⟨Obj.CANOPY_SOURCE, i, v⟩ = (f.setCanopy i { f.canopy i with writing := none, word := 0 }).canopyTap i) ∧
    d.applyWr e ⟨Obj.CI_ON, i, v⟩ = (d.setReg Obj.CI_ON i x).ciSet i ∧
    d.applyWr e ⟨Obj.CI_OUTPUT, i, v⟩ = (d.setReg Obj.CI_OUTPUT i x).ciSet i ∧
    d.applyWr e ⟨Obj.SHUF_SRC, i, v⟩ = d.shufSet i x e ∧
    d.applyWr e ⟨Obj.AO_DELAY, i, v⟩ = d.aoDelaySet i x e ∧
    d.applyWr e ⟨Obj.AP_ENABLE, i, v⟩ = d.apEnable i (x == 1) e ∧
    d.applyWr e ⟨Obj.MIX_GAIN_ROW, i, v⟩ = d.journalAdd (rowEntries i v) ∧
    d.applyWr e ⟨Obj.MIX_JOURNAL_ADD, i, v⟩ = d.journalAdd (journalEntries v) ∧
    d.applyWr e ⟨Obj.LANE_EN, i, v⟩ = (d.setReg Obj.LANE_EN i x).laneEn i (x == 1) ∧
    d.applyWr e ⟨Obj.LANE_SPARE_MODE, i, v⟩ = (d.setReg Obj.LANE_SPARE_MODE i x).spareMode i x ∧
    d.applyWr e ⟨Obj.LANE_TEST_MODE, i, v⟩ = (d.setReg Obj.LANE_TEST_MODE i x).testMode i x ∧
    d.applyWr e ⟨Obj.REF_RANK, i, v⟩ = (d.setReg Obj.REF_RANK i x).refRankSet i x ∧
    d.applyWr e ⟨Obj.SEL_FORCE, i, v⟩ = (d.setReg Obj.SEL_FORCE i x).evalSelector false ∧
    d.applyWr e ⟨Obj.FLT_LATCHED, i, v⟩ = d.latchedWrite i x ∧
    d.applyWr e ⟨Obj.FLT_FORCE, i, v⟩ = d.forceWrite i x ∧
    d.applyWr e ⟨Obj.FLT_ACK, i, v⟩ = d.ackWrite i x ∧
    d.applyWr e ⟨Obj.FLT_SEVERITY, i, v⟩ = d.severityWrite i x ∧
    d.applyWr e ⟨Obj.UPD_MANIFEST, i, v⟩ = d.manifestSet v ∧
    d.applyWr e ⟨Obj.UPD_PIECE, i, v⟩ = d.pieceSet i v ∧
    (∀ n ∈ [Obj.CAL_LANE_PRESET, Obj.CAL_TEMP_TRIM, Obj.CAL_LOSC_PPT, Obj.CAL_AP_IN_DELAY, Obj.CAL_HBM_SEED],
      d.applyWr e ⟨n, i, v⟩ = (d.setReg n i x).calChanged) ∧
    d.applyWr e ⟨Obj.CAL_SET, i, v⟩ = (d.calLoad v).calChanged ∧
    (∀ f, f = d.setReg Obj.FS_DELAY_FRAMES i x →
      d.applyWr e ⟨Obj.FS_DELAY_FRAMES, i, v⟩ = if f.hasFrames i then f else f.fsDelayEnter i) ∧
    (∀ f, f = (d.setReg Obj.FS_MODE i x).modInp i (fun y => { y with costFmt := d.costFormat i }) → f.reg Obj.FS_STATE i ≠ 5 →
      d.applyWr e ⟨Obj.FS_MODE, i, v⟩ = if f.hasFrames i then f else f.fsEnter i) ∧
    d.applyWr e ⟨Obj.GATE_EN, i, [1]⟩ = (if i = 33 then (d.gateOpen i).flashRun else d.gateOpen i) ∧
    d.applyWr e ⟨Obj.GATE_EN, i, [0]⟩ = d.gateClose i

/-- What an accepted command does at its E, for each command that clears no counters (R69, R104, R115, R178, R182 to R186, R295, R296, R315,
R318, R349, R350, R353, R484, R485, R495, R499, R500, R502 to R504). -/
def Obligations.CommandsTakeEffect : Prop :=
  ∀ (d : Dev) (i e : Nat) (arg : Bytes) (l : Bool),
    d.cmdApply Obj.MT_STEP_APPLY i arg e l = d.modRef (fun r => { r with stepArmed := true }) ∧
    d.cmdApply Obj.SYNTH_STROBE i arg e l = d.strobe ∧
    d.cmdApply Obj.LANE_RESTART i arg e l = d.restartLane i ∧
    d.cmdApply Obj.LANE_SPARE_FORCE i arg e l = d.wantRetire i ∧
    d.cmdApply Obj.TAKE_CANCEL i arg e l = d.cancelTake i ∧
    d.cmdApply Obj.HAMPER_FIRE i arg e l = d.fireHamper i e l ∧
    d.cmdApply Obj.HAMPER_ABORT i arg e l = d.abortHamper i ∧
    d.cmdApply Obj.HAMPER_CLEAR i arg e l = d.clearHamper i ∧
    d.cmdApply Obj.MIX_JOURNAL_DISCARD i arg e l = d.journalDiscard ∧
    d.cmdApply Obj.MIX_COMMIT i arg e l = d.commitArm e ∧
    d.cmdApply Obj.FM_PC_RETIRE i arg e l = d.fmRetire i ∧
    d.cmdApply Obj.FM_RETIRE_CLEAR i arg e l = { d with nv := { d.nv with fmRetired := 255 } } ∧
    d.cmdApply Obj.DP_RELEASE i arg e l = d.releasePass 0 ∧
    d.cmdApply Obj.TWIN_JOIN i arg e l = d.beginJoin ∧
    d.cmdApply Obj.REF_HANDOVER i arg e l = d.refRevoke 0 ∧
    d.cmdApply Obj.START i arg e l = d.modLife (fun x => { x with startDue := true }) ∧
    d.cmdApply Obj.DEV_LAYBY i arg e l = d.devLayBy ∧
    (d.cmdApply Obj.DEV_RESET i arg e l = d ∧ d.cmdReset Obj.DEV_RESET = some rcCommand) ∧
    (d.cmdApply Obj.UPD_ACTIVATE i arg e l = d.activateSlot.2 ∧
      (d.activateSlot.1 = true → d.cmdReset Obj.UPD_ACTIVATE = some rcUpdate)) ∧
    (d.cmdApply Obj.UPD_REVERT i arg e l = d.pushFallback ∧ d.cmdReset Obj.UPD_REVERT = some rcFallback) ∧
    d.cmdApply Obj.UPD_DISCARD i arg e l = d.flashDo .unstage ∧
    d.cmdApply Obj.SEC_ATTEST i arg e l = { d.setReg Obj.SEC_ATTEST_STATE 0 1 with sec := { d.sec with nonce := arg } } ∧
    d.cmdApply Obj.SEC_KEY_REVOKE i arg e l = d.modNv (fun v => { v with keyState := v.keyState.set i 2 }) ∧
    d.cmdApply Obj.SEC_LIFECYCLE_SET i arg e l = d.modNv (fun x => { x with lifecycleNext := beNat arg })

/-- A COUNT_CLEAR leaves its counters at 0 and every other register as it was, and takes nothing but CNT_SAT_LIST entries from the rest
of the device (R460). -/
def Obligations.CountClears : Prop :=
  ∀ (d : Dev) (c i e : Nat) (arg : Bytes) (l : Bool), smWf keyDefault d.regs = true → countClear c i ≠ [] →
    (∀ k ∈ countClear c i, smGet (d.cmdApply c i arg e l).regs k (keyDefault k) = 0) ∧
    (∀ k, k ∉ countClear c i → smGet (d.cmdApply c i arg e l).regs k (keyDefault k) = smGet d.regs k (keyDefault k)) ∧
    smWf keyDefault (d.cmdApply c i arg e l).regs = true ∧
    (∃ m s, d.cmdApply c i arg e l = { d with regs := m, flt := { d.flt with sat := s } } ∧ s.Sublist d.flt.sat)
end

