-- ==== Sys2Proof/Laws/Bytes.lean ====
section
/-! SUPPORT. Bytes and numbers: the big-endian and little-endian encodings read back. -/

namespace Sys2Proof.Machine

@[simp] theorem beBytes_length (n v : Nat) : (beBytes n v).length = n := by
  induction n with
  | zero => rfl
  | succ n ih => simp [beBytes, ih]

theorem beNat_lt (b : Bytes) : beNat b < 256 ^ b.length := by
  induction b with
  | nil => simp [beNat]
  | cons x r ih =>
    have hx : x.toNat < 256 := x.isLt
    have : x.toNat * 256 ^ r.length + 256 ^ r.length ≤ 256 * 256 ^ r.length := by
      rw [← Nat.succ_mul]; exact Nat.mul_le_mul_right _ hx
    simp only [beNat, List.length_cons, Nat.pow_succ]
    omega

/-- `n` bytes hold a number's residue. -/
theorem beNat_beBytes (n v : Nat) : beNat (beBytes n v) = v % 256 ^ n := by
  induction n with
  | zero => simp [beBytes, beNat, Nat.mod_one]
  | succ n ih =>
    have e : v % 256 ^ (n + 1) = v % 256 ^ n + 256 ^ n * (v / 256 ^ n % 256) := by rw [Nat.pow_succ, Nat.mod_mul]
    have h8 : (2 : Nat) ^ 8 = 256 := by decide
    simp only [beBytes, beNat, beBytes_length, ih, BitVec.toNat_ofNat, h8, e]
    rw [Nat.mul_comm (256 ^ n), Nat.add_comm]

/-- Only the residue counts. -/
theorem beBytes_mod (n v : Nat) : beBytes n (v % 256 ^ n) = beBytes n v := by
  have key : ∀ n m v : Nat, n ≤ m → beBytes n (v % 256 ^ m) = beBytes n v := by
    intro n
    induction n with
    | zero => intros; rfl
    | succ n ih =>
      intro m v h
      simp only [beBytes]
      rw [ih m v (by omega)]
      congr 1
      apply BitVec.eq_of_toNat_eq
      simp only [BitVec.toNat_ofNat]
      obtain ⟨k, rfl⟩ : ∃ k, m = n + 1 + k := ⟨m - (n + 1), by omega⟩
      have e : 256 ^ (n + 1 + k) = 256 ^ n * (256 * 256 ^ k) := by rw [Nat.pow_add, Nat.pow_succ, Nat.mul_assoc]
      rw [e, Nat.mod_mul_right_div_self]
      show v / 256 ^ n % (256 * 256 ^ k) % 256 = v / 256 ^ n % 256
      exact Nat.mod_mul_right_mod _ _ _
  exact key n n v (Nat.le_refl n)

/-- A byte string reads back from its number. -/
theorem beBytes_beNat (b : Bytes) : beBytes b.length (beNat b) = b := by
  induction b with
  | nil => rfl
  | cons x r ih =>
    have hr := beNat_lt r
    have hp : 0 < 256 ^ r.length := Nat.pow_pos (by decide)
    have h1 : (x.toNat * 256 ^ r.length + beNat r) / 256 ^ r.length = x.toNat := by
      rw [Nat.mul_comm, Nat.mul_add_div hp, Nat.div_eq_of_lt hr, Nat.add_zero]
    have h2 : (x.toNat * 256 ^ r.length + beNat r) % 256 ^ r.length = beNat r := by
      rw [Nat.mul_comm, Nat.mul_add_mod, Nat.mod_eq_of_lt hr]
    simp only [beNat, List.length_cons, beBytes, h1]
    rw [← beBytes_mod, h2, ih]
    simp

theorem beNat_append (a b : Bytes) : beNat (a ++ b) = beNat a * 256 ^ b.length + beNat b := by
  induction a with
  | nil => simp [beNat]
  | cons x r ih =>
    simp only [List.cons_append, beNat, ih, List.length_append, Nat.pow_add, Nat.add_mul, Nat.mul_assoc]
    omega

@[simp] theorem leBytes_length (n v : Nat) : (leBytes n v).length = n := by
  induction n generalizing v with
  | zero => rfl
  | succ n ih => simp [leBytes, ih]

end Sys2Proof.Machine
end

