-- ==== Sys2Proof/Laws/Sparse.lean ====
section
/-! SUPPORT. The sparse maps: reading back what was written, leaving every other key alone, and keeping the canonical form. -/

namespace Sys2Proof.Machine

variable {α : Type}

/-- Below the listed keys a map reads as the default. -/
theorem smGet_of_above {m : SMap α} {k : Nat} {d : α} (h : smAbove k m = true) : smGet m k d = d := by
  induction m with
  | nil => rfl
  | cons a m ih =>
    obtain ⟨j, v⟩ := a
    simp only [smAbove, Bool.and_eq_true, decide_eq_true_eq] at h
    have h1 : ¬ j = k := by omega
    simp [smGet, h1, h.1]

/-- Keys above `k` are above every smaller key. -/
theorem smAbove_mono {m : SMap α} {j k : Nat} (hjk : j ≤ k) (h : smAbove k m = true) : smAbove j m = true := by
  induction m with
  | nil => rfl
  | cons a m ih =>
    obtain ⟨l, v⟩ := a
    simp only [smAbove, Bool.and_eq_true, decide_eq_true_eq] at h ⊢
    exact ⟨by omega, ih h.2⟩

variable [DecidableEq α]

/-- A write at a key above `j` leaves every key above `j`. -/
theorem smAbove_smSet {m : SMap α} {j k : Nat} (v d : α) (hjk : j < k) (h : smAbove j m = true) :
    smAbove j (smSet m k v d) = true := by
  induction m with
  | nil => by_cases hv : v = d <;> simp [smSet, hv, smAbove, hjk]
  | cons a m ih =>
    obtain ⟨l, u⟩ := a
    simp only [smAbove, Bool.and_eq_true, decide_eq_true_eq] at h
    by_cases h1 : k < l
    · by_cases hv : v = d <;> simp [smSet, h1, hv, smAbove, h.1, h.2, hjk]
    · by_cases h2 : l = k
      · by_cases hv : v = d <;> simp [smSet, h2, hv, smAbove, h.2, hjk]
      · simp [smSet, h1, h2, smAbove, h.1, ih h.2]

/-- Writing keeps the canonical form. -/
theorem smWf_smSet {m : SMap α} {d : Nat → α} (k : Nat) (v : α) (h : smWf d m = true) : smWf d (smSet m k v (d k)) = true := by
  induction m with
  | nil => by_cases hv : v = d k <;> simp [smSet, hv, smWf, smAbove]
  | cons a m ih =>
    obtain ⟨l, u⟩ := a
    have h' := h
    simp only [smWf, Bool.and_eq_true, decide_eq_true_eq] at h
    by_cases h1 : k < l
    · by_cases hv : v = d k
      · simpa [smSet, h1, hv] using h'
      · have : smAbove k m = true := smAbove_mono (by omega) h.1.2
        simpa [smSet, h1, hv, smWf, smAbove, this] using h'
    · by_cases h2 : l = k
      · subst h2
        by_cases hv : v = d l
        · simp [smSet, hv, h.2]
        · simp [smSet, hv, smWf, h.1.2, h.2]
      · have : smAbove l (smSet m k v (d k)) = true := smAbove_smSet _ _ (by omega) h.1.2
        simp [smSet, h1, h2, smWf, h.1.1, ih h.2, this]

/-- A canonical map reads back what was written. -/
theorem smGet_smSet_same {m : SMap α} {d : Nat → α} (k : Nat) (v : α) (h : smWf d m = true) :
    smGet (smSet m k v (d k)) k (d k) = v := by
  induction m with
  | nil => by_cases hv : v = d k <;> simp [smSet, hv, smGet]
  | cons a m ih =>
    obtain ⟨l, u⟩ := a
    simp only [smWf, Bool.and_eq_true, decide_eq_true_eq] at h
    by_cases h1 : k < l
    · have : ¬ l = k := by omega
      by_cases hv : v = d k <;> simp [smSet, h1, hv, smGet, this]
    · by_cases h2 : l = k
      · subst h2
        by_cases hv : v = d l
        · simp [smSet, hv, smGet_of_above h.1.2]
        · simp [smSet, hv, smGet]
      · simp [smSet, h1, h2, smGet, ih h.2]

/-- Another value than the default is read back from any map. -/
theorem smGet_smSet_of_ne {m : SMap α} {k : Nat} {v d : α} (hv : v ≠ d) : smGet (smSet m k v d) k d = v := by
  induction m with
  | nil => simp [smSet, hv, smGet]
  | cons a m ih =>
    obtain ⟨l, u⟩ := a
    by_cases h1 : k < l
    · simp [smSet, h1, hv, smGet]
    · by_cases h2 : l = k
      · simp [smSet, h2, hv, smGet]
      · simp [smSet, h1, h2, smGet, ih]

/-- Writing another value than the default leaves every other key of any map alone. -/
theorem smGet_smSet_other_of_ne {m : SMap α} {j k : Nat} {v d : α} (hv : v ≠ d) (hjk : j ≠ k) (e : α) :
    smGet (smSet m k v d) j e = smGet m j e := by
  induction m with
  | nil => simp [smSet, hv, smGet, Ne.symm hjk]
  | cons a m ih =>
    obtain ⟨l, u⟩ := a
    by_cases h1 : k < l
    · simp only [smSet, h1, if_true, hv, if_false, smGet, Ne.symm hjk]
      by_cases h3 : j < k
      · have h4 : ¬ l = j := by omega
        have h5 : j < l := by omega
        simp [h3, h4, h5]
      · simp [h3]
    · by_cases h2 : l = k
      · subst h2
        simp [smSet, hv, smGet, Ne.symm hjk]
      · simp only [smSet, h1, if_false, h2, smGet, ih]

/-- A write leaves every other key of a canonical map alone. -/
theorem smGet_smSet_other {m : SMap α} {d : Nat → α} {j k : Nat} (v : α) (hjk : j ≠ k) (h : smWf d m = true) (e : α) :
    smGet (smSet m k v (d k)) j e = smGet m j e := by
  induction m with
  | nil =>
    by_cases hv : v = d k
    · simp [smSet, hv, smGet]
    · simp [smSet, hv, smGet, Ne.symm hjk]
  | cons a m ih =>
    obtain ⟨l, u⟩ := a
    simp only [smWf, Bool.and_eq_true, decide_eq_true_eq] at h
    by_cases h1 : k < l
    · by_cases hv : v = d k
      · simp [smSet, h1, hv]
      · simp only [smSet, h1, if_true, hv, if_false, smGet, Ne.symm hjk]
        by_cases h3 : j < k
        · have h4 : ¬ l = j := by omega
          have h5 : j < l := by omega
          simp [h3, h4, h5]
        · simp [h3]
    · by_cases h2 : l = k
      · subst h2
        by_cases hv : v = d l
        · simp only [smSet, Nat.lt_irrefl, if_false, hv, if_true, smGet, Ne.symm hjk]
          by_cases h3 : j < l
          · simp [h3, smGet_of_above (smAbove_mono (Nat.le_of_lt h3) h.1.2)]
          · simp [h3]
        · simp [smSet, hv, smGet, Ne.symm hjk]
      · simp only [smSet, h1, if_false, h2, smGet]
        split
        · rfl
        · split
          · rfl
          · exact ih h.2

end Sys2Proof.Machine
end

