-- ==== Sys2Proof/Laws/State.lean ====
section
/-! SUPPORT. The small lemmas of the state: for each update of the block, the field that it writes, and every field and reading that it
leaves alone. -/

namespace Sys2Proof.Machine

/-! ### setReg -/

@[simp] theorem Dev.setReg_regs (d : Dev) (n i v : Nat) : (d.setReg n i v).regs = smSet d.regs (objKey n i) v (keyDefault (objKey n i)) := rfl
@[simp] theorem Dev.setReg_blobs (d : Dev) (n i v : Nat) : (d.setReg n i v).blobs = d.blobs := rfl
@[simp] theorem Dev.setReg_time (d : Dev) (n i v : Nat) : (d.setReg n i v).time = d.time := rfl
@[simp] theorem Dev.setReg_freeN (d : Dev) (n i v : Nat) : (d.setReg n i v).freeN = d.freeN := rfl
@[simp] theorem Dev.setReg_nv (d : Dev) (n i v : Nat) : (d.setReg n i v).nv = d.nv := rfl
@[simp] theorem Dev.setReg_life (d : Dev) (n i v : Nat) : (d.setReg n i v).life = d.life := rfl
@[simp] theorem Dev.setReg_ref (d : Dev) (n i v : Nat) : (d.setReg n i v).ref = d.ref := rfl
@[simp] theorem Dev.setReg_synth (d : Dev) (n i v : Nat) : (d.setReg n i v).synth = d.synth := rfl
@[simp] theorem Dev.setReg_clk (d : Dev) (n i v : Nat) : (d.setReg n i v).clk = d.clk := rfl
@[simp] theorem Dev.setReg_lanes (d : Dev) (n i v : Nat) : (d.setReg n i v).lanes = d.lanes := rfl
@[simp] theorem Dev.setReg_ltx (d : Dev) (n i v : Nat) : (d.setReg n i v).ltx = d.ltx := rfl
@[simp] theorem Dev.setReg_groups (d : Dev) (n i v : Nat) : (d.setReg n i v).groups = d.groups := rfl
@[simp] theorem Dev.setReg_flt (d : Dev) (n i v : Nat) : (d.setReg n i v).flt = d.flt := rfl
@[simp] theorem Dev.setReg_trailRam (d : Dev) (n i v : Nat) : (d.setReg n i v).trailRam = d.trailRam := rfl
@[simp] theorem Dev.setReg_macs (d : Dev) (n i v : Nat) : (d.setReg n i v).macs = d.macs := rfl
@[simp] theorem Dev.setReg_ch (d : Dev) (n i v : Nat) : (d.setReg n i v).ch = d.ch := rfl
@[simp] theorem Dev.setReg_tw (d : Dev) (n i v : Nat) : (d.setReg n i v).tw = d.tw := rfl
@[simp] theorem Dev.setReg_rf (d : Dev) (n i v : Nat) : (d.setReg n i v).rf = d.rf := rfl
@[simp] theorem Dev.setReg_sec (d : Dev) (n i v : Nat) : (d.setReg n i v).sec = d.sec := rfl
@[simp] theorem Dev.setReg_dbg (d : Dev) (n i v : Nat) : (d.setReg n i v).dbg = d.dbg := rfl
@[simp] theorem Dev.setReg_bus (d : Dev) (n i v : Nat) : (d.setReg n i v).bus = d.bus := rfl
@[simp] theorem Dev.setReg_broken (d : Dev) (n i v : Nat) : (d.setReg n i v).broken = d.broken := rfl
@[simp] theorem Dev.setReg_ins (d : Dev) (n i v : Nat) : (d.setReg n i v).ins = d.ins := rfl
@[simp] theorem Dev.setReg_mesh (d : Dev) (n i v : Nat) : (d.setReg n i v).mesh = d.mesh := rfl
@[simp] theorem Dev.setReg_outs (d : Dev) (n i v : Nat) : (d.setReg n i v).outs = d.outs := rfl
@[simp] theorem Dev.setReg_hampers (d : Dev) (n i v : Nat) : (d.setReg n i v).hampers = d.hampers := rfl
@[simp] theorem Dev.setReg_engines (d : Dev) (n i v : Nat) : (d.setReg n i v).engines = d.engines := rfl
@[simp] theorem Dev.setReg_canopies (d : Dev) (n i v : Nat) : (d.setReg n i v).canopies = d.canopies := rfl
@[simp] theorem Dev.setReg_inserters (d : Dev) (n i v : Nat) : (d.setReg n i v).inserters = d.inserters := rfl
@[simp] theorem Dev.setReg_cn (d : Dev) (n i v : Nat) : (d.setReg n i v).cn = d.cn := rfl
@[simp] theorem Dev.setReg_stores (d : Dev) (n i v : Nat) : (d.setReg n i v).stores = d.stores := rfl
@[simp] theorem Dev.setReg_legs (d : Dev) (n i v : Nat) : (d.setReg n i v).legs = d.legs := rfl
@[simp] theorem Dev.setReg_aos (d : Dev) (n i v : Nat) : (d.setReg n i v).aos = d.aos := rfl
@[simp] theorem Dev.setReg_audioMesh (d : Dev) (n i v : Nat) : (d.setReg n i v).audioMesh = d.audioMesh := rfl
@[simp] theorem Dev.setReg_mix (d : Dev) (n i v : Nat) : (d.setReg n i v).mix = d.mix := rfl
@[simp] theorem Dev.setReg_aps (d : Dev) (n i v : Nat) : (d.setReg n i v).aps = d.aps := rfl
@[simp] theorem Dev.setReg_fm (d : Dev) (n i v : Nat) : (d.setReg n i v).fm = d.fm := rfl
@[simp] theorem Dev.setReg_now (d : Dev) (n i v : Nat) : (d.setReg n i v).now = d.now := rfl
@[simp] theorem Dev.setReg_clock (d : Dev) (n i v : Nat) : (d.setReg n i v).clock = d.clock := rfl

/-! ### setBlob -/

@[simp] theorem Dev.setBlob_blobs (d : Dev) (n i : Nat) (v : Bytes) : (d.setBlob n i v).blobs = smSet d.blobs (objKey n i) v [] := rfl
@[simp] theorem Dev.setBlob_regs (d : Dev) (n i : Nat) (v : Bytes) : (d.setBlob n i v).regs = d.regs := rfl
@[simp] theorem Dev.setBlob_time (d : Dev) (n i : Nat) (v : Bytes) : (d.setBlob n i v).time = d.time := rfl
@[simp] theorem Dev.setBlob_freeN (d : Dev) (n i : Nat) (v : Bytes) : (d.setBlob n i v).freeN = d.freeN := rfl
@[simp] theorem Dev.setBlob_nv (d : Dev) (n i : Nat) (v : Bytes) : (d.setBlob n i v).nv = d.nv := rfl
@[simp] theorem Dev.setBlob_life (d : Dev) (n i : Nat) (v : Bytes) : (d.setBlob n i v).life = d.life := rfl
@[simp] theorem Dev.setBlob_ref (d : Dev) (n i : Nat) (v : Bytes) : (d.setBlob n i v).ref = d.ref := rfl
@[simp] theorem Dev.setBlob_synth (d : Dev) (n i : Nat) (v : Bytes) : (d.setBlob n i v).synth = d.synth := rfl
@[simp] theorem Dev.setBlob_clk (d : Dev) (n i : Nat) (v : Bytes) : (d.setBlob n i v).clk = d.clk := rfl
@[simp] theorem Dev.setBlob_lanes (d : Dev) (n i : Nat) (v : Bytes) : (d.setBlob n i v).lanes = d.lanes := rfl
@[simp] theorem Dev.setBlob_ltx (d : Dev) (n i : Nat) (v : Bytes) : (d.setBlob n i v).ltx = d.ltx := rfl
@[simp] theorem Dev.setBlob_groups (d : Dev) (n i : Nat) (v : Bytes) : (d.setBlob n i v).groups = d.groups := rfl
@[simp] theorem Dev.setBlob_flt (d : Dev) (n i : Nat) (v : Bytes) : (d.setBlob n i v).flt = d.flt := rfl
@[simp] theorem Dev.setBlob_trailRam (d : Dev) (n i : Nat) (v : Bytes) : (d.setBlob n i v).trailRam = d.trailRam := rfl
@[simp] theorem Dev.setBlob_macs (d : Dev) (n i : Nat) (v : Bytes) : (d.setBlob n i v).macs = d.macs := rfl
@[simp] theorem Dev.setBlob_ch (d : Dev) (n i : Nat) (v : Bytes) : (d.setBlob n i v).ch = d.ch := rfl
@[simp] theorem Dev.setBlob_tw (d : Dev) (n i : Nat) (v : Bytes) : (d.setBlob n i v).tw = d.tw := rfl
@[simp] theorem Dev.setBlob_rf (d : Dev) (n i : Nat) (v : Bytes) : (d.setBlob n i v).rf = d.rf := rfl
@[simp] theorem Dev.setBlob_sec (d : Dev) (n i : Nat) (v : Bytes) : (d.setBlob n i v).sec = d.sec := rfl
@[simp] theorem Dev.setBlob_dbg (d : Dev) (n i : Nat) (v : Bytes) : (d.setBlob n i v).dbg = d.dbg := rfl
@[simp] theorem Dev.setBlob_bus (d : Dev) (n i : Nat) (v : Bytes) : (d.setBlob n i v).bus = d.bus := rfl
@[simp] theorem Dev.setBlob_broken (d : Dev) (n i : Nat) (v : Bytes) : (d.setBlob n i v).broken = d.broken := rfl
@[simp] theorem Dev.setBlob_ins (d : Dev) (n i : Nat) (v : Bytes) : (d.setBlob n i v).ins = d.ins := rfl
@[simp] theorem Dev.setBlob_mesh (d : Dev) (n i : Nat) (v : Bytes) : (d.setBlob n i v).mesh = d.mesh := rfl
@[simp] theorem Dev.setBlob_outs (d : Dev) (n i : Nat) (v : Bytes) : (d.setBlob n i v).outs = d.outs := rfl
@[simp] theorem Dev.setBlob_hampers (d : Dev) (n i : Nat) (v : Bytes) : (d.setBlob n i v).hampers = d.hampers := rfl
@[simp] theorem Dev.setBlob_engines (d : Dev) (n i : Nat) (v : Bytes) : (d.setBlob n i v).engines = d.engines := rfl
@[simp] theorem Dev.setBlob_canopies (d : Dev) (n i : Nat) (v : Bytes) : (d.setBlob n i v).canopies = d.canopies := rfl
@[simp] theorem Dev.setBlob_inserters (d : Dev) (n i : Nat) (v : Bytes) : (d.setBlob n i v).inserters = d.inserters := rfl
@[simp] theorem Dev.setBlob_cn (d : Dev) (n i : Nat) (v : Bytes) : (d.setBlob n i v).cn = d.cn := rfl
@[simp] theorem Dev.setBlob_stores (d : Dev) (n i : Nat) (v : Bytes) : (d.setBlob n i v).stores = d.stores := rfl
@[simp] theorem Dev.setBlob_legs (d : Dev) (n i : Nat) (v : Bytes) : (d.setBlob n i v).legs = d.legs := rfl
@[simp] theorem Dev.setBlob_aos (d : Dev) (n i : Nat) (v : Bytes) : (d.setBlob n i v).aos = d.aos := rfl
@[simp] theorem Dev.setBlob_audioMesh (d : Dev) (n i : Nat) (v : Bytes) : (d.setBlob n i v).audioMesh = d.audioMesh := rfl
@[simp] theorem Dev.setBlob_mix (d : Dev) (n i : Nat) (v : Bytes) : (d.setBlob n i v).mix = d.mix := rfl
@[simp] theorem Dev.setBlob_aps (d : Dev) (n i : Nat) (v : Bytes) : (d.setBlob n i v).aps = d.aps := rfl
@[simp] theorem Dev.setBlob_fm (d : Dev) (n i : Nat) (v : Bytes) : (d.setBlob n i v).fm = d.fm := rfl
@[simp] theorem Dev.setBlob_reg (d : Dev) (n i : Nat) (v : Bytes) (o j : Nat) : (d.setBlob n i v).reg o j = d.reg o j := rfl
@[simp] theorem Dev.setBlob_flag (d : Dev) (n i : Nat) (v : Bytes) (o j : Nat) : (d.setBlob n i v).flag o j = d.flag o j := rfl
@[simp] theorem Dev.setBlob_now (d : Dev) (n i : Nat) (v : Bytes) : (d.setBlob n i v).now = d.now := rfl
@[simp] theorem Dev.setBlob_clock (d : Dev) (n i : Nat) (v : Bytes) : (d.setBlob n i v).clock = d.clock := rfl

/-! ### modNv -/

@[simp] theorem Dev.modNv_nv (d : Dev) (f : NvX → NvX) : (d.modNv f).nv = f d.nv := rfl
@[simp] theorem Dev.modNv_regs (d : Dev) (f : NvX → NvX) : (d.modNv f).regs = d.regs := rfl
@[simp] theorem Dev.modNv_blobs (d : Dev) (f : NvX → NvX) : (d.modNv f).blobs = d.blobs := rfl
@[simp] theorem Dev.modNv_time (d : Dev) (f : NvX → NvX) : (d.modNv f).time = d.time := rfl
@[simp] theorem Dev.modNv_freeN (d : Dev) (f : NvX → NvX) : (d.modNv f).freeN = d.freeN := rfl
@[simp] theorem Dev.modNv_life (d : Dev) (f : NvX → NvX) : (d.modNv f).life = d.life := rfl
@[simp] theorem Dev.modNv_ref (d : Dev) (f : NvX → NvX) : (d.modNv f).ref = d.ref := rfl
@[simp] theorem Dev.modNv_synth (d : Dev) (f : NvX → NvX) : (d.modNv f).synth = d.synth := rfl
@[simp] theorem Dev.modNv_clk (d : Dev) (f : NvX → NvX) : (d.modNv f).clk = d.clk := rfl
@[simp] theorem Dev.modNv_lanes (d : Dev) (f : NvX → NvX) : (d.modNv f).lanes = d.lanes := rfl
@[simp] theorem Dev.modNv_ltx (d : Dev) (f : NvX → NvX) : (d.modNv f).ltx = d.ltx := rfl
@[simp] theorem Dev.modNv_groups (d : Dev) (f : NvX → NvX) : (d.modNv f).groups = d.groups := rfl
@[simp] theorem Dev.modNv_flt (d : Dev) (f : NvX → NvX) : (d.modNv f).flt = d.flt := rfl
@[simp] theorem Dev.modNv_trailRam (d : Dev) (f : NvX → NvX) : (d.modNv f).trailRam = d.trailRam := rfl
@[simp] theorem Dev.modNv_macs (d : Dev) (f : NvX → NvX) : (d.modNv f).macs = d.macs := rfl
@[simp] theorem Dev.modNv_ch (d : Dev) (f : NvX → NvX) : (d.modNv f).ch = d.ch := rfl
@[simp] theorem Dev.modNv_tw (d : Dev) (f : NvX → NvX) : (d.modNv f).tw = d.tw := rfl
@[simp] theorem Dev.modNv_rf (d : Dev) (f : NvX → NvX) : (d.modNv f).rf = d.rf := rfl
@[simp] theorem Dev.modNv_sec (d : Dev) (f : NvX → NvX) : (d.modNv f).sec = d.sec := rfl
@[simp] theorem Dev.modNv_dbg (d : Dev) (f : NvX → NvX) : (d.modNv f).dbg = d.dbg := rfl
@[simp] theorem Dev.modNv_bus (d : Dev) (f : NvX → NvX) : (d.modNv f).bus = d.bus := rfl
@[simp] theorem Dev.modNv_broken (d : Dev) (f : NvX → NvX) : (d.modNv f).broken = d.broken := rfl
@[simp] theorem Dev.modNv_ins (d : Dev) (f : NvX → NvX) : (d.modNv f).ins = d.ins := rfl
@[simp] theorem Dev.modNv_mesh (d : Dev) (f : NvX → NvX) : (d.modNv f).mesh = d.mesh := rfl
@[simp] theorem Dev.modNv_outs (d : Dev) (f : NvX → NvX) : (d.modNv f).outs = d.outs := rfl
@[simp] theorem Dev.modNv_hampers (d : Dev) (f : NvX → NvX) : (d.modNv f).hampers = d.hampers := rfl
@[simp] theorem Dev.modNv_engines (d : Dev) (f : NvX → NvX) : (d.modNv f).engines = d.engines := rfl
@[simp] theorem Dev.modNv_canopies (d : Dev) (f : NvX → NvX) : (d.modNv f).canopies = d.canopies := rfl
@[simp] theorem Dev.modNv_inserters (d : Dev) (f : NvX → NvX) : (d.modNv f).inserters = d.inserters := rfl
@[simp] theorem Dev.modNv_cn (d : Dev) (f : NvX → NvX) : (d.modNv f).cn = d.cn := rfl
@[simp] theorem Dev.modNv_stores (d : Dev) (f : NvX → NvX) : (d.modNv f).stores = d.stores := rfl
@[simp] theorem Dev.modNv_legs (d : Dev) (f : NvX → NvX) : (d.modNv f).legs = d.legs := rfl
@[simp] theorem Dev.modNv_aos (d : Dev) (f : NvX → NvX) : (d.modNv f).aos = d.aos := rfl
@[simp] theorem Dev.modNv_audioMesh (d : Dev) (f : NvX → NvX) : (d.modNv f).audioMesh = d.audioMesh := rfl
@[simp] theorem Dev.modNv_mix (d : Dev) (f : NvX → NvX) : (d.modNv f).mix = d.mix := rfl
@[simp] theorem Dev.modNv_aps (d : Dev) (f : NvX → NvX) : (d.modNv f).aps = d.aps := rfl
@[simp] theorem Dev.modNv_fm (d : Dev) (f : NvX → NvX) : (d.modNv f).fm = d.fm := rfl
@[simp] theorem Dev.modNv_reg (d : Dev) (f : NvX → NvX) (o j : Nat) : (d.modNv f).reg o j = d.reg o j := rfl
@[simp] theorem Dev.modNv_flag (d : Dev) (f : NvX → NvX) (o j : Nat) : (d.modNv f).flag o j = d.flag o j := rfl
@[simp] theorem Dev.modNv_now (d : Dev) (f : NvX → NvX) : (d.modNv f).now = d.now := rfl
@[simp] theorem Dev.modNv_clock (d : Dev) (f : NvX → NvX) : (d.modNv f).clock = d.clock := rfl

/-! ### modLife -/

@[simp] theorem Dev.modLife_life (d : Dev) (f : LifeX → LifeX) : (d.modLife f).life = f d.life := rfl
@[simp] theorem Dev.modLife_regs (d : Dev) (f : LifeX → LifeX) : (d.modLife f).regs = d.regs := rfl
@[simp] theorem Dev.modLife_blobs (d : Dev) (f : LifeX → LifeX) : (d.modLife f).blobs = d.blobs := rfl
@[simp] theorem Dev.modLife_time (d : Dev) (f : LifeX → LifeX) : (d.modLife f).time = d.time := rfl
@[simp] theorem Dev.modLife_freeN (d : Dev) (f : LifeX → LifeX) : (d.modLife f).freeN = d.freeN := rfl
@[simp] theorem Dev.modLife_nv (d : Dev) (f : LifeX → LifeX) : (d.modLife f).nv = d.nv := rfl
@[simp] theorem Dev.modLife_ref (d : Dev) (f : LifeX → LifeX) : (d.modLife f).ref = d.ref := rfl
@[simp] theorem Dev.modLife_synth (d : Dev) (f : LifeX → LifeX) : (d.modLife f).synth = d.synth := rfl
@[simp] theorem Dev.modLife_clk (d : Dev) (f : LifeX → LifeX) : (d.modLife f).clk = d.clk := rfl
@[simp] theorem Dev.modLife_lanes (d : Dev) (f : LifeX → LifeX) : (d.modLife f).lanes = d.lanes := rfl
@[simp] theorem Dev.modLife_ltx (d : Dev) (f : LifeX → LifeX) : (d.modLife f).ltx = d.ltx := rfl
@[simp] theorem Dev.modLife_groups (d : Dev) (f : LifeX → LifeX) : (d.modLife f).groups = d.groups := rfl
@[simp] theorem Dev.modLife_flt (d : Dev) (f : LifeX → LifeX) : (d.modLife f).flt = d.flt := rfl
@[simp] theorem Dev.modLife_trailRam (d : Dev) (f : LifeX → LifeX) : (d.modLife f).trailRam = d.trailRam := rfl
@[simp] theorem Dev.modLife_macs (d : Dev) (f : LifeX → LifeX) : (d.modLife f).macs = d.macs := rfl
@[simp] theorem Dev.modLife_ch (d : Dev) (f : LifeX → LifeX) : (d.modLife f).ch = d.ch := rfl
@[simp] theorem Dev.modLife_tw (d : Dev) (f : LifeX → LifeX) : (d.modLife f).tw = d.tw := rfl
@[simp] theorem Dev.modLife_rf (d : Dev) (f : LifeX → LifeX) : (d.modLife f).rf = d.rf := rfl
@[simp] theorem Dev.modLife_sec (d : Dev) (f : LifeX → LifeX) : (d.modLife f).sec = d.sec := rfl
@[simp] theorem Dev.modLife_dbg (d : Dev) (f : LifeX → LifeX) : (d.modLife f).dbg = d.dbg := rfl
@[simp] theorem Dev.modLife_bus (d : Dev) (f : LifeX → LifeX) : (d.modLife f).bus = d.bus := rfl
@[simp] theorem Dev.modLife_broken (d : Dev) (f : LifeX → LifeX) : (d.modLife f).broken = d.broken := rfl
@[simp] theorem Dev.modLife_ins (d : Dev) (f : LifeX → LifeX) : (d.modLife f).ins = d.ins := rfl
@[simp] theorem Dev.modLife_mesh (d : Dev) (f : LifeX → LifeX) : (d.modLife f).mesh = d.mesh := rfl
@[simp] theorem Dev.modLife_outs (d : Dev) (f : LifeX → LifeX) : (d.modLife f).outs = d.outs := rfl
@[simp] theorem Dev.modLife_hampers (d : Dev) (f : LifeX → LifeX) : (d.modLife f).hampers = d.hampers := rfl
@[simp] theorem Dev.modLife_engines (d : Dev) (f : LifeX → LifeX) : (d.modLife f).engines = d.engines := rfl
@[simp] theorem Dev.modLife_canopies (d : Dev) (f : LifeX → LifeX) : (d.modLife f).canopies = d.canopies := rfl
@[simp] theorem Dev.modLife_inserters (d : Dev) (f : LifeX → LifeX) : (d.modLife f).inserters = d.inserters := rfl
@[simp] theorem Dev.modLife_cn (d : Dev) (f : LifeX → LifeX) : (d.modLife f).cn = d.cn := rfl
@[simp] theorem Dev.modLife_stores (d : Dev) (f : LifeX → LifeX) : (d.modLife f).stores = d.stores := rfl
@[simp] theorem Dev.modLife_legs (d : Dev) (f : LifeX → LifeX) : (d.modLife f).legs = d.legs := rfl
@[simp] theorem Dev.modLife_aos (d : Dev) (f : LifeX → LifeX) : (d.modLife f).aos = d.aos := rfl
@[simp] theorem Dev.modLife_audioMesh (d : Dev) (f : LifeX → LifeX) : (d.modLife f).audioMesh = d.audioMesh := rfl
@[simp] theorem Dev.modLife_mix (d : Dev) (f : LifeX → LifeX) : (d.modLife f).mix = d.mix := rfl
@[simp] theorem Dev.modLife_aps (d : Dev) (f : LifeX → LifeX) : (d.modLife f).aps = d.aps := rfl
@[simp] theorem Dev.modLife_fm (d : Dev) (f : LifeX → LifeX) : (d.modLife f).fm = d.fm := rfl
@[simp] theorem Dev.modLife_reg (d : Dev) (f : LifeX → LifeX) (o j : Nat) : (d.modLife f).reg o j = d.reg o j := rfl
@[simp] theorem Dev.modLife_flag (d : Dev) (f : LifeX → LifeX) (o j : Nat) : (d.modLife f).flag o j = d.flag o j := rfl
@[simp] theorem Dev.modLife_now (d : Dev) (f : LifeX → LifeX) : (d.modLife f).now = d.now := rfl
@[simp] theorem Dev.modLife_clock (d : Dev) (f : LifeX → LifeX) : (d.modLife f).clock = d.clock := rfl

/-! ### modRef -/

@[simp] theorem Dev.modRef_ref (d : Dev) (f : RefX → RefX) : (d.modRef f).ref = f d.ref := rfl
@[simp] theorem Dev.modRef_regs (d : Dev) (f : RefX → RefX) : (d.modRef f).regs = d.regs := rfl
@[simp] theorem Dev.modRef_blobs (d : Dev) (f : RefX → RefX) : (d.modRef f).blobs = d.blobs := rfl
@[simp] theorem Dev.modRef_time (d : Dev) (f : RefX → RefX) : (d.modRef f).time = d.time := rfl
@[simp] theorem Dev.modRef_freeN (d : Dev) (f : RefX → RefX) : (d.modRef f).freeN = d.freeN := rfl
@[simp] theorem Dev.modRef_nv (d : Dev) (f : RefX → RefX) : (d.modRef f).nv = d.nv := rfl
@[simp] theorem Dev.modRef_life (d : Dev) (f : RefX → RefX) : (d.modRef f).life = d.life := rfl
@[simp] theorem Dev.modRef_synth (d : Dev) (f : RefX → RefX) : (d.modRef f).synth = d.synth := rfl
@[simp] theorem Dev.modRef_clk (d : Dev) (f : RefX → RefX) : (d.modRef f).clk = d.clk := rfl
@[simp] theorem Dev.modRef_lanes (d : Dev) (f : RefX → RefX) : (d.modRef f).lanes = d.lanes := rfl
@[simp] theorem Dev.modRef_ltx (d : Dev) (f : RefX → RefX) : (d.modRef f).ltx = d.ltx := rfl
@[simp] theorem Dev.modRef_groups (d : Dev) (f : RefX → RefX) : (d.modRef f).groups = d.groups := rfl
@[simp] theorem Dev.modRef_flt (d : Dev) (f : RefX → RefX) : (d.modRef f).flt = d.flt := rfl
@[simp] theorem Dev.modRef_trailRam (d : Dev) (f : RefX → RefX) : (d.modRef f).trailRam = d.trailRam := rfl
@[simp] theorem Dev.modRef_macs (d : Dev) (f : RefX → RefX) : (d.modRef f).macs = d.macs := rfl
@[simp] theorem Dev.modRef_ch (d : Dev) (f : RefX → RefX) : (d.modRef f).ch = d.ch := rfl
@[simp] theorem Dev.modRef_tw (d : Dev) (f : RefX → RefX) : (d.modRef f).tw = d.tw := rfl
@[simp] theorem Dev.modRef_rf (d : Dev) (f : RefX → RefX) : (d.modRef f).rf = d.rf := rfl
@[simp] theorem Dev.modRef_sec (d : Dev) (f : RefX → RefX) : (d.modRef f).sec = d.sec := rfl
@[simp] theorem Dev.modRef_dbg (d : Dev) (f : RefX → RefX) : (d.modRef f).dbg = d.dbg := rfl
@[simp] theorem Dev.modRef_bus (d : Dev) (f : RefX → RefX) : (d.modRef f).bus = d.bus := rfl
@[simp] theorem Dev.modRef_broken (d : Dev) (f : RefX → RefX) : (d.modRef f).broken = d.broken := rfl
@[simp] theorem Dev.modRef_ins (d : Dev) (f : RefX → RefX) : (d.modRef f).ins = d.ins := rfl
@[simp] theorem Dev.modRef_mesh (d : Dev) (f : RefX → RefX) : (d.modRef f).mesh = d.mesh := rfl
@[simp] theorem Dev.modRef_outs (d : Dev) (f : RefX → RefX) : (d.modRef f).outs = d.outs := rfl
@[simp] theorem Dev.modRef_hampers (d : Dev) (f : RefX → RefX) : (d.modRef f).hampers = d.hampers := rfl
@[simp] theorem Dev.modRef_engines (d : Dev) (f : RefX → RefX) : (d.modRef f).engines = d.engines := rfl
@[simp] theorem Dev.modRef_canopies (d : Dev) (f : RefX → RefX) : (d.modRef f).canopies = d.canopies := rfl
@[simp] theorem Dev.modRef_inserters (d : Dev) (f : RefX → RefX) : (d.modRef f).inserters = d.inserters := rfl
@[simp] theorem Dev.modRef_cn (d : Dev) (f : RefX → RefX) : (d.modRef f).cn = d.cn := rfl
@[simp] theorem Dev.modRef_stores (d : Dev) (f : RefX → RefX) : (d.modRef f).stores = d.stores := rfl
@[simp] theorem Dev.modRef_legs (d : Dev) (f : RefX → RefX) : (d.modRef f).legs = d.legs := rfl
@[simp] theorem Dev.modRef_aos (d : Dev) (f : RefX → RefX) : (d.modRef f).aos = d.aos := rfl
@[simp] theorem Dev.modRef_audioMesh (d : Dev) (f : RefX → RefX) : (d.modRef f).audioMesh = d.audioMesh := rfl
@[simp] theorem Dev.modRef_mix (d : Dev) (f : RefX → RefX) : (d.modRef f).mix = d.mix := rfl
@[simp] theorem Dev.modRef_aps (d : Dev) (f : RefX → RefX) : (d.modRef f).aps = d.aps := rfl
@[simp] theorem Dev.modRef_fm (d : Dev) (f : RefX → RefX) : (d.modRef f).fm = d.fm := rfl
@[simp] theorem Dev.modRef_reg (d : Dev) (f : RefX → RefX) (o j : Nat) : (d.modRef f).reg o j = d.reg o j := rfl
@[simp] theorem Dev.modRef_flag (d : Dev) (f : RefX → RefX) (o j : Nat) : (d.modRef f).flag o j = d.flag o j := rfl
@[simp] theorem Dev.modRef_now (d : Dev) (f : RefX → RefX) : (d.modRef f).now = d.now := rfl
@[simp] theorem Dev.modRef_clock (d : Dev) (f : RefX → RefX) : (d.modRef f).clock = d.clock := rfl

/-! ### modClk -/

@[simp] theorem Dev.modClk_clk (d : Dev) (f : ClockX → ClockX) : (d.modClk f).clk = f d.clk := rfl
@[simp] theorem Dev.modClk_regs (d : Dev) (f : ClockX → ClockX) : (d.modClk f).regs = d.regs := rfl
@[simp] theorem Dev.modClk_blobs (d : Dev) (f : ClockX → ClockX) : (d.modClk f).blobs = d.blobs := rfl
@[simp] theorem Dev.modClk_time (d : Dev) (f : ClockX → ClockX) : (d.modClk f).time = d.time := rfl
@[simp] theorem Dev.modClk_freeN (d : Dev) (f : ClockX → ClockX) : (d.modClk f).freeN = d.freeN := rfl
@[simp] theorem Dev.modClk_nv (d : Dev) (f : ClockX → ClockX) : (d.modClk f).nv = d.nv := rfl
@[simp] theorem Dev.modClk_life (d : Dev) (f : ClockX → ClockX) : (d.modClk f).life = d.life := rfl
@[simp] theorem Dev.modClk_ref (d : Dev) (f : ClockX → ClockX) : (d.modClk f).ref = d.ref := rfl
@[simp] theorem Dev.modClk_synth (d : Dev) (f : ClockX → ClockX) : (d.modClk f).synth = d.synth := rfl
@[simp] theorem Dev.modClk_lanes (d : Dev) (f : ClockX → ClockX) : (d.modClk f).lanes = d.lanes := rfl
@[simp] theorem Dev.modClk_ltx (d : Dev) (f : ClockX → ClockX) : (d.modClk f).ltx = d.ltx := rfl
@[simp] theorem Dev.modClk_groups (d : Dev) (f : ClockX → ClockX) : (d.modClk f).groups = d.groups := rfl
@[simp] theorem Dev.modClk_flt (d : Dev) (f : ClockX → ClockX) : (d.modClk f).flt = d.flt := rfl
@[simp] theorem Dev.modClk_trailRam (d : Dev) (f : ClockX → ClockX) : (d.modClk f).trailRam = d.trailRam := rfl
@[simp] theorem Dev.modClk_macs (d : Dev) (f : ClockX → ClockX) : (d.modClk f).macs = d.macs := rfl
@[simp] theorem Dev.modClk_ch (d : Dev) (f : ClockX → ClockX) : (d.modClk f).ch = d.ch := rfl
@[simp] theorem Dev.modClk_tw (d : Dev) (f : ClockX → ClockX) : (d.modClk f).tw = d.tw := rfl
@[simp] theorem Dev.modClk_rf (d : Dev) (f : ClockX → ClockX) : (d.modClk f).rf = d.rf := rfl
@[simp] theorem Dev.modClk_sec (d : Dev) (f : ClockX → ClockX) : (d.modClk f).sec = d.sec := rfl
@[simp] theorem Dev.modClk_dbg (d : Dev) (f : ClockX → ClockX) : (d.modClk f).dbg = d.dbg := rfl
@[simp] theorem Dev.modClk_bus (d : Dev) (f : ClockX → ClockX) : (d.modClk f).bus = d.bus := rfl
@[simp] theorem Dev.modClk_broken (d : Dev) (f : ClockX → ClockX) : (d.modClk f).broken = d.broken := rfl
@[simp] theorem Dev.modClk_ins (d : Dev) (f : ClockX → ClockX) : (d.modClk f).ins = d.ins := rfl
@[simp] theorem Dev.modClk_mesh (d : Dev) (f : ClockX → ClockX) : (d.modClk f).mesh = d.mesh := rfl
@[simp] theorem Dev.modClk_outs (d : Dev) (f : ClockX → ClockX) : (d.modClk f).outs = d.outs := rfl
@[simp] theorem Dev.modClk_hampers (d : Dev) (f : ClockX → ClockX) : (d.modClk f).hampers = d.hampers := rfl
@[simp] theorem Dev.modClk_engines (d : Dev) (f : ClockX → ClockX) : (d.modClk f).engines = d.engines := rfl
@[simp] theorem Dev.modClk_canopies (d : Dev) (f : ClockX → ClockX) : (d.modClk f).canopies = d.canopies := rfl
@[simp] theorem Dev.modClk_inserters (d : Dev) (f : ClockX → ClockX) : (d.modClk f).inserters = d.inserters := rfl
@[simp] theorem Dev.modClk_cn (d : Dev) (f : ClockX → ClockX) : (d.modClk f).cn = d.cn := rfl
@[simp] theorem Dev.modClk_stores (d : Dev) (f : ClockX → ClockX) : (d.modClk f).stores = d.stores := rfl
@[simp] theorem Dev.modClk_legs (d : Dev) (f : ClockX → ClockX) : (d.modClk f).legs = d.legs := rfl
@[simp] theorem Dev.modClk_aos (d : Dev) (f : ClockX → ClockX) : (d.modClk f).aos = d.aos := rfl
@[simp] theorem Dev.modClk_audioMesh (d : Dev) (f : ClockX → ClockX) : (d.modClk f).audioMesh = d.audioMesh := rfl
@[simp] theorem Dev.modClk_mix (d : Dev) (f : ClockX → ClockX) : (d.modClk f).mix = d.mix := rfl
@[simp] theorem Dev.modClk_aps (d : Dev) (f : ClockX → ClockX) : (d.modClk f).aps = d.aps := rfl
@[simp] theorem Dev.modClk_fm (d : Dev) (f : ClockX → ClockX) : (d.modClk f).fm = d.fm := rfl
@[simp] theorem Dev.modClk_reg (d : Dev) (f : ClockX → ClockX) (o j : Nat) : (d.modClk f).reg o j = d.reg o j := rfl
@[simp] theorem Dev.modClk_flag (d : Dev) (f : ClockX → ClockX) (o j : Nat) : (d.modClk f).flag o j = d.flag o j := rfl
@[simp] theorem Dev.modClk_now (d : Dev) (f : ClockX → ClockX) : (d.modClk f).now = d.now := rfl
@[simp] theorem Dev.modClk_clock (d : Dev) (f : ClockX → ClockX) : (d.modClk f).clock = d.clock := rfl

/-! ### setLane -/

@[simp] theorem Dev.setLane_lanes (d : Dev) (l : Nat) (x : LaneX) : (d.setLane l x).lanes = smSet d.lanes l x {} := rfl
@[simp] theorem Dev.setLane_regs (d : Dev) (l : Nat) (x : LaneX) : (d.setLane l x).regs = d.regs := rfl
@[simp] theorem Dev.setLane_blobs (d : Dev) (l : Nat) (x : LaneX) : (d.setLane l x).blobs = d.blobs := rfl
@[simp] theorem Dev.setLane_time (d : Dev) (l : Nat) (x : LaneX) : (d.setLane l x).time = d.time := rfl
@[simp] theorem Dev.setLane_freeN (d : Dev) (l : Nat) (x : LaneX) : (d.setLane l x).freeN = d.freeN := rfl
@[simp] theorem Dev.setLane_nv (d : Dev) (l : Nat) (x : LaneX) : (d.setLane l x).nv = d.nv := rfl
@[simp] theorem Dev.setLane_life (d : Dev) (l : Nat) (x : LaneX) : (d.setLane l x).life = d.life := rfl
@[simp] theorem Dev.setLane_ref (d : Dev) (l : Nat) (x : LaneX) : (d.setLane l x).ref = d.ref := rfl
@[simp] theorem Dev.setLane_synth (d : Dev) (l : Nat) (x : LaneX) : (d.setLane l x).synth = d.synth := rfl
@[simp] theorem Dev.setLane_clk (d : Dev) (l : Nat) (x : LaneX) : (d.setLane l x).clk = d.clk := rfl
@[simp] theorem Dev.setLane_ltx (d : Dev) (l : Nat) (x : LaneX) : (d.setLane l x).ltx = d.ltx := rfl
@[simp] theorem Dev.setLane_groups (d : Dev) (l : Nat) (x : LaneX) : (d.setLane l x).groups = d.groups := rfl
@[simp] theorem Dev.setLane_flt (d : Dev) (l : Nat) (x : LaneX) : (d.setLane l x).flt = d.flt := rfl
@[simp] theorem Dev.setLane_trailRam (d : Dev) (l : Nat) (x : LaneX) : (d.setLane l x).trailRam = d.trailRam := rfl
@[simp] theorem Dev.setLane_macs (d : Dev) (l : Nat) (x : LaneX) : (d.setLane l x).macs = d.macs := rfl
@[simp] theorem Dev.setLane_ch (d : Dev) (l : Nat) (x : LaneX) : (d.setLane l x).ch = d.ch := rfl
@[simp] theorem Dev.setLane_tw (d : Dev) (l : Nat) (x : LaneX) : (d.setLane l x).tw = d.tw := rfl
@[simp] theorem Dev.setLane_rf (d : Dev) (l : Nat) (x : LaneX) : (d.setLane l x).rf = d.rf := rfl
@[simp] theorem Dev.setLane_sec (d : Dev) (l : Nat) (x : LaneX) : (d.setLane l x).sec = d.sec := rfl
@[simp] theorem Dev.setLane_dbg (d : Dev) (l : Nat) (x : LaneX) : (d.setLane l x).dbg = d.dbg := rfl
@[simp] theorem Dev.setLane_bus (d : Dev) (l : Nat) (x : LaneX) : (d.setLane l x).bus = d.bus := rfl
@[simp] theorem Dev.setLane_broken (d : Dev) (l : Nat) (x : LaneX) : (d.setLane l x).broken = d.broken := rfl
@[simp] theorem Dev.setLane_ins (d : Dev) (l : Nat) (x : LaneX) : (d.setLane l x).ins = d.ins := rfl
@[simp] theorem Dev.setLane_mesh (d : Dev) (l : Nat) (x : LaneX) : (d.setLane l x).mesh = d.mesh := rfl
@[simp] theorem Dev.setLane_outs (d : Dev) (l : Nat) (x : LaneX) : (d.setLane l x).outs = d.outs := rfl
@[simp] theorem Dev.setLane_hampers (d : Dev) (l : Nat) (x : LaneX) : (d.setLane l x).hampers = d.hampers := rfl
@[simp] theorem Dev.setLane_engines (d : Dev) (l : Nat) (x : LaneX) : (d.setLane l x).engines = d.engines := rfl
@[simp] theorem Dev.setLane_canopies (d : Dev) (l : Nat) (x : LaneX) : (d.setLane l x).canopies = d.canopies := rfl
@[simp] theorem Dev.setLane_inserters (d : Dev) (l : Nat) (x : LaneX) : (d.setLane l x).inserters = d.inserters := rfl
@[simp] theorem Dev.setLane_cn (d : Dev) (l : Nat) (x : LaneX) : (d.setLane l x).cn = d.cn := rfl
@[simp] theorem Dev.setLane_stores (d : Dev) (l : Nat) (x : LaneX) : (d.setLane l x).stores = d.stores := rfl
@[simp] theorem Dev.setLane_legs (d : Dev) (l : Nat) (x : LaneX) : (d.setLane l x).legs = d.legs := rfl
@[simp] theorem Dev.setLane_aos (d : Dev) (l : Nat) (x : LaneX) : (d.setLane l x).aos = d.aos := rfl
@[simp] theorem Dev.setLane_audioMesh (d : Dev) (l : Nat) (x : LaneX) : (d.setLane l x).audioMesh = d.audioMesh := rfl
@[simp] theorem Dev.setLane_mix (d : Dev) (l : Nat) (x : LaneX) : (d.setLane l x).mix = d.mix := rfl
@[simp] theorem Dev.setLane_aps (d : Dev) (l : Nat) (x : LaneX) : (d.setLane l x).aps = d.aps := rfl
@[simp] theorem Dev.setLane_fm (d : Dev) (l : Nat) (x : LaneX) : (d.setLane l x).fm = d.fm := rfl
@[simp] theorem Dev.setLane_reg (d : Dev) (l : Nat) (x : LaneX) (o j : Nat) : (d.setLane l x).reg o j = d.reg o j := rfl
@[simp] theorem Dev.setLane_flag (d : Dev) (l : Nat) (x : LaneX) (o j : Nat) : (d.setLane l x).flag o j = d.flag o j := rfl
@[simp] theorem Dev.setLane_now (d : Dev) (l : Nat) (x : LaneX) : (d.setLane l x).now = d.now := rfl
@[simp] theorem Dev.setLane_clock (d : Dev) (l : Nat) (x : LaneX) : (d.setLane l x).clock = d.clock := rfl

/-! ### setTx -/

@[simp] theorem Dev.setTx_ltx (d : Dev) (l : Nat) (x : LaneTx) : (d.setTx l x).ltx = smSet d.ltx l x {} := rfl
@[simp] theorem Dev.setTx_regs (d : Dev) (l : Nat) (x : LaneTx) : (d.setTx l x).regs = d.regs := rfl
@[simp] theorem Dev.setTx_blobs (d : Dev) (l : Nat) (x : LaneTx) : (d.setTx l x).blobs = d.blobs := rfl
@[simp] theorem Dev.setTx_time (d : Dev) (l : Nat) (x : LaneTx) : (d.setTx l x).time = d.time := rfl
@[simp] theorem Dev.setTx_freeN (d : Dev) (l : Nat) (x : LaneTx) : (d.setTx l x).freeN = d.freeN := rfl
@[simp] theorem Dev.setTx_nv (d : Dev) (l : Nat) (x : LaneTx) : (d.setTx l x).nv = d.nv := rfl
@[simp] theorem Dev.setTx_life (d : Dev) (l : Nat) (x : LaneTx) : (d.setTx l x).life = d.life := rfl
@[simp] theorem Dev.setTx_ref (d : Dev) (l : Nat) (x : LaneTx) : (d.setTx l x).ref = d.ref := rfl
@[simp] theorem Dev.setTx_synth (d : Dev) (l : Nat) (x : LaneTx) : (d.setTx l x).synth = d.synth := rfl
@[simp] theorem Dev.setTx_clk (d : Dev) (l : Nat) (x : LaneTx) : (d.setTx l x).clk = d.clk := rfl
@[simp] theorem Dev.setTx_lanes (d : Dev) (l : Nat) (x : LaneTx) : (d.setTx l x).lanes = d.lanes := rfl
@[simp] theorem Dev.setTx_groups (d : Dev) (l : Nat) (x : LaneTx) : (d.setTx l x).groups = d.groups := rfl
@[simp] theorem Dev.setTx_flt (d : Dev) (l : Nat) (x : LaneTx) : (d.setTx l x).flt = d.flt := rfl
@[simp] theorem Dev.setTx_trailRam (d : Dev) (l : Nat) (x : LaneTx) : (d.setTx l x).trailRam = d.trailRam := rfl
@[simp] theorem Dev.setTx_macs (d : Dev) (l : Nat) (x : LaneTx) : (d.setTx l x).macs = d.macs := rfl
@[simp] theorem Dev.setTx_ch (d : Dev) (l : Nat) (x : LaneTx) : (d.setTx l x).ch = d.ch := rfl
@[simp] theorem Dev.setTx_tw (d : Dev) (l : Nat) (x : LaneTx) : (d.setTx l x).tw = d.tw := rfl
@[simp] theorem Dev.setTx_rf (d : Dev) (l : Nat) (x : LaneTx) : (d.setTx l x).rf = d.rf := rfl
@[simp] theorem Dev.setTx_sec (d : Dev) (l : Nat) (x : LaneTx) : (d.setTx l x).sec = d.sec := rfl
@[simp] theorem Dev.setTx_dbg (d : Dev) (l : Nat) (x : LaneTx) : (d.setTx l x).dbg = d.dbg := rfl
@[simp] theorem Dev.setTx_bus (d : Dev) (l : Nat) (x : LaneTx) : (d.setTx l x).bus = d.bus := rfl
@[simp] theorem Dev.setTx_broken (d : Dev) (l : Nat) (x : LaneTx) : (d.setTx l x).broken = d.broken := rfl
@[simp] theorem Dev.setTx_ins (d : Dev) (l : Nat) (x : LaneTx) : (d.setTx l x).ins = d.ins := rfl
@[simp] theorem Dev.setTx_mesh (d : Dev) (l : Nat) (x : LaneTx) : (d.setTx l x).mesh = d.mesh := rfl
@[simp] theorem Dev.setTx_outs (d : Dev) (l : Nat) (x : LaneTx) : (d.setTx l x).outs = d.outs := rfl
@[simp] theorem Dev.setTx_hampers (d : Dev) (l : Nat) (x : LaneTx) : (d.setTx l x).hampers = d.hampers := rfl
@[simp] theorem Dev.setTx_engines (d : Dev) (l : Nat) (x : LaneTx) : (d.setTx l x).engines = d.engines := rfl
@[simp] theorem Dev.setTx_canopies (d : Dev) (l : Nat) (x : LaneTx) : (d.setTx l x).canopies = d.canopies := rfl
@[simp] theorem Dev.setTx_inserters (d : Dev) (l : Nat) (x : LaneTx) : (d.setTx l x).inserters = d.inserters := rfl
@[simp] theorem Dev.setTx_cn (d : Dev) (l : Nat) (x : LaneTx) : (d.setTx l x).cn = d.cn := rfl
@[simp] theorem Dev.setTx_stores (d : Dev) (l : Nat) (x : LaneTx) : (d.setTx l x).stores = d.stores := rfl
@[simp] theorem Dev.setTx_legs (d : Dev) (l : Nat) (x : LaneTx) : (d.setTx l x).legs = d.legs := rfl
@[simp] theorem Dev.setTx_aos (d : Dev) (l : Nat) (x : LaneTx) : (d.setTx l x).aos = d.aos := rfl
@[simp] theorem Dev.setTx_audioMesh (d : Dev) (l : Nat) (x : LaneTx) : (d.setTx l x).audioMesh = d.audioMesh := rfl
@[simp] theorem Dev.setTx_mix (d : Dev) (l : Nat) (x : LaneTx) : (d.setTx l x).mix = d.mix := rfl
@[simp] theorem Dev.setTx_aps (d : Dev) (l : Nat) (x : LaneTx) : (d.setTx l x).aps = d.aps := rfl
@[simp] theorem Dev.setTx_fm (d : Dev) (l : Nat) (x : LaneTx) : (d.setTx l x).fm = d.fm := rfl
@[simp] theorem Dev.setTx_reg (d : Dev) (l : Nat) (x : LaneTx) (o j : Nat) : (d.setTx l x).reg o j = d.reg o j := rfl
@[simp] theorem Dev.setTx_flag (d : Dev) (l : Nat) (x : LaneTx) (o j : Nat) : (d.setTx l x).flag o j = d.flag o j := rfl
@[simp] theorem Dev.setTx_now (d : Dev) (l : Nat) (x : LaneTx) : (d.setTx l x).now = d.now := rfl
@[simp] theorem Dev.setTx_clock (d : Dev) (l : Nat) (x : LaneTx) : (d.setTx l x).clock = d.clock := rfl

/-! ### setGroup -/

@[simp] theorem Dev.setGroup_groups (d : Dev) (g : Nat) (x : GroupX) : (d.setGroup g x).groups = smSet d.groups g x {} := rfl
@[simp] theorem Dev.setGroup_regs (d : Dev) (g : Nat) (x : GroupX) : (d.setGroup g x).regs = d.regs := rfl
@[simp] theorem Dev.setGroup_blobs (d : Dev) (g : Nat) (x : GroupX) : (d.setGroup g x).blobs = d.blobs := rfl
@[simp] theorem Dev.setGroup_time (d : Dev) (g : Nat) (x : GroupX) : (d.setGroup g x).time = d.time := rfl
@[simp] theorem Dev.setGroup_freeN (d : Dev) (g : Nat) (x : GroupX) : (d.setGroup g x).freeN = d.freeN := rfl
@[simp] theorem Dev.setGroup_nv (d : Dev) (g : Nat) (x : GroupX) : (d.setGroup g x).nv = d.nv := rfl
@[simp] theorem Dev.setGroup_life (d : Dev) (g : Nat) (x : GroupX) : (d.setGroup g x).life = d.life := rfl
@[simp] theorem Dev.setGroup_ref (d : Dev) (g : Nat) (x : GroupX) : (d.setGroup g x).ref = d.ref := rfl
@[simp] theorem Dev.setGroup_synth (d : Dev) (g : Nat) (x : GroupX) : (d.setGroup g x).synth = d.synth := rfl
@[simp] theorem Dev.setGroup_clk (d : Dev) (g : Nat) (x : GroupX) : (d.setGroup g x).clk = d.clk := rfl
@[simp] theorem Dev.setGroup_lanes (d : Dev) (g : Nat) (x : GroupX) : (d.setGroup g x).lanes = d.lanes := rfl
@[simp] theorem Dev.setGroup_ltx (d : Dev) (g : Nat) (x : GroupX) : (d.setGroup g x).ltx = d.ltx := rfl
@[simp] theorem Dev.setGroup_flt (d : Dev) (g : Nat) (x : GroupX) : (d.setGroup g x).flt = d.flt := rfl
@[simp] theorem Dev.setGroup_trailRam (d : Dev) (g : Nat) (x : GroupX) : (d.setGroup g x).trailRam = d.trailRam := rfl
@[simp] theorem Dev.setGroup_macs (d : Dev) (g : Nat) (x : GroupX) : (d.setGroup g x).macs = d.macs := rfl
@[simp] theorem Dev.setGroup_ch (d : Dev) (g : Nat) (x : GroupX) : (d.setGroup g x).ch = d.ch := rfl
@[simp] theorem Dev.setGroup_tw (d : Dev) (g : Nat) (x : GroupX) : (d.setGroup g x).tw = d.tw := rfl
@[simp] theorem Dev.setGroup_rf (d : Dev) (g : Nat) (x : GroupX) : (d.setGroup g x).rf = d.rf := rfl
@[simp] theorem Dev.setGroup_sec (d : Dev) (g : Nat) (x : GroupX) : (d.setGroup g x).sec = d.sec := rfl
@[simp] theorem Dev.setGroup_dbg (d : Dev) (g : Nat) (x : GroupX) : (d.setGroup g x).dbg = d.dbg := rfl
@[simp] theorem Dev.setGroup_bus (d : Dev) (g : Nat) (x : GroupX) : (d.setGroup g x).bus = d.bus := rfl
@[simp] theorem Dev.setGroup_broken (d : Dev) (g : Nat) (x : GroupX) : (d.setGroup g x).broken = d.broken := rfl
@[simp] theorem Dev.setGroup_ins (d : Dev) (g : Nat) (x : GroupX) : (d.setGroup g x).ins = d.ins := rfl
@[simp] theorem Dev.setGroup_mesh (d : Dev) (g : Nat) (x : GroupX) : (d.setGroup g x).mesh = d.mesh := rfl
@[simp] theorem Dev.setGroup_outs (d : Dev) (g : Nat) (x : GroupX) : (d.setGroup g x).outs = d.outs := rfl
@[simp] theorem Dev.setGroup_hampers (d : Dev) (g : Nat) (x : GroupX) : (d.setGroup g x).hampers = d.hampers := rfl
@[simp] theorem Dev.setGroup_engines (d : Dev) (g : Nat) (x : GroupX) : (d.setGroup g x).engines = d.engines := rfl
@[simp] theorem Dev.setGroup_canopies (d : Dev) (g : Nat) (x : GroupX) : (d.setGroup g x).canopies = d.canopies := rfl
@[simp] theorem Dev.setGroup_inserters (d : Dev) (g : Nat) (x : GroupX) : (d.setGroup g x).inserters = d.inserters := rfl
@[simp] theorem Dev.setGroup_cn (d : Dev) (g : Nat) (x : GroupX) : (d.setGroup g x).cn = d.cn := rfl
@[simp] theorem Dev.setGroup_stores (d : Dev) (g : Nat) (x : GroupX) : (d.setGroup g x).stores = d.stores := rfl
@[simp] theorem Dev.setGroup_legs (d : Dev) (g : Nat) (x : GroupX) : (d.setGroup g x).legs = d.legs := rfl
@[simp] theorem Dev.setGroup_aos (d : Dev) (g : Nat) (x : GroupX) : (d.setGroup g x).aos = d.aos := rfl
@[simp] theorem Dev.setGroup_audioMesh (d : Dev) (g : Nat) (x : GroupX) : (d.setGroup g x).audioMesh = d.audioMesh := rfl
@[simp] theorem Dev.setGroup_mix (d : Dev) (g : Nat) (x : GroupX) : (d.setGroup g x).mix = d.mix := rfl
@[simp] theorem Dev.setGroup_aps (d : Dev) (g : Nat) (x : GroupX) : (d.setGroup g x).aps = d.aps := rfl
@[simp] theorem Dev.setGroup_fm (d : Dev) (g : Nat) (x : GroupX) : (d.setGroup g x).fm = d.fm := rfl
@[simp] theorem Dev.setGroup_reg (d : Dev) (g : Nat) (x : GroupX) (o j : Nat) : (d.setGroup g x).reg o j = d.reg o j := rfl
@[simp] theorem Dev.setGroup_flag (d : Dev) (g : Nat) (x : GroupX) (o j : Nat) : (d.setGroup g x).flag o j = d.flag o j := rfl
@[simp] theorem Dev.setGroup_now (d : Dev) (g : Nat) (x : GroupX) : (d.setGroup g x).now = d.now := rfl
@[simp] theorem Dev.setGroup_clock (d : Dev) (g : Nat) (x : GroupX) : (d.setGroup g x).clock = d.clock := rfl

/-! ### setMac -/

@[simp] theorem Dev.setMac_macs (d : Dev) (m : Nat) (x : MacX) : (d.setMac m x).macs = smSet d.macs m x {} := rfl
@[simp] theorem Dev.setMac_regs (d : Dev) (m : Nat) (x : MacX) : (d.setMac m x).regs = d.regs := rfl
@[simp] theorem Dev.setMac_blobs (d : Dev) (m : Nat) (x : MacX) : (d.setMac m x).blobs = d.blobs := rfl
@[simp] theorem Dev.setMac_time (d : Dev) (m : Nat) (x : MacX) : (d.setMac m x).time = d.time := rfl
@[simp] theorem Dev.setMac_freeN (d : Dev) (m : Nat) (x : MacX) : (d.setMac m x).freeN = d.freeN := rfl
@[simp] theorem Dev.setMac_nv (d : Dev) (m : Nat) (x : MacX) : (d.setMac m x).nv = d.nv := rfl
@[simp] theorem Dev.setMac_life (d : Dev) (m : Nat) (x : MacX) : (d.setMac m x).life = d.life := rfl
@[simp] theorem Dev.setMac_ref (d : Dev) (m : Nat) (x : MacX) : (d.setMac m x).ref = d.ref := rfl
@[simp] theorem Dev.setMac_synth (d : Dev) (m : Nat) (x : MacX) : (d.setMac m x).synth = d.synth := rfl
@[simp] theorem Dev.setMac_clk (d : Dev) (m : Nat) (x : MacX) : (d.setMac m x).clk = d.clk := rfl
@[simp] theorem Dev.setMac_lanes (d : Dev) (m : Nat) (x : MacX) : (d.setMac m x).lanes = d.lanes := rfl
@[simp] theorem Dev.setMac_ltx (d : Dev) (m : Nat) (x : MacX) : (d.setMac m x).ltx = d.ltx := rfl
@[simp] theorem Dev.setMac_groups (d : Dev) (m : Nat) (x : MacX) : (d.setMac m x).groups = d.groups := rfl
@[simp] theorem Dev.setMac_flt (d : Dev) (m : Nat) (x : MacX) : (d.setMac m x).flt = d.flt := rfl
@[simp] theorem Dev.setMac_trailRam (d : Dev) (m : Nat) (x : MacX) : (d.setMac m x).trailRam = d.trailRam := rfl
@[simp] theorem Dev.setMac_ch (d : Dev) (m : Nat) (x : MacX) : (d.setMac m x).ch = d.ch := rfl
@[simp] theorem Dev.setMac_tw (d : Dev) (m : Nat) (x : MacX) : (d.setMac m x).tw = d.tw := rfl
@[simp] theorem Dev.setMac_rf (d : Dev) (m : Nat) (x : MacX) : (d.setMac m x).rf = d.rf := rfl
@[simp] theorem Dev.setMac_sec (d : Dev) (m : Nat) (x : MacX) : (d.setMac m x).sec = d.sec := rfl
@[simp] theorem Dev.setMac_dbg (d : Dev) (m : Nat) (x : MacX) : (d.setMac m x).dbg = d.dbg := rfl
@[simp] theorem Dev.setMac_bus (d : Dev) (m : Nat) (x : MacX) : (d.setMac m x).bus = d.bus := rfl
@[simp] theorem Dev.setMac_broken (d : Dev) (m : Nat) (x : MacX) : (d.setMac m x).broken = d.broken := rfl
@[simp] theorem Dev.setMac_ins (d : Dev) (m : Nat) (x : MacX) : (d.setMac m x).ins = d.ins := rfl
@[simp] theorem Dev.setMac_mesh (d : Dev) (m : Nat) (x : MacX) : (d.setMac m x).mesh = d.mesh := rfl
@[simp] theorem Dev.setMac_outs (d : Dev) (m : Nat) (x : MacX) : (d.setMac m x).outs = d.outs := rfl
@[simp] theorem Dev.setMac_hampers (d : Dev) (m : Nat) (x : MacX) : (d.setMac m x).hampers = d.hampers := rfl
@[simp] theorem Dev.setMac_engines (d : Dev) (m : Nat) (x : MacX) : (d.setMac m x).engines = d.engines := rfl
@[simp] theorem Dev.setMac_canopies (d : Dev) (m : Nat) (x : MacX) : (d.setMac m x).canopies = d.canopies := rfl
@[simp] theorem Dev.setMac_inserters (d : Dev) (m : Nat) (x : MacX) : (d.setMac m x).inserters = d.inserters := rfl
@[simp] theorem Dev.setMac_cn (d : Dev) (m : Nat) (x : MacX) : (d.setMac m x).cn = d.cn := rfl
@[simp] theorem Dev.setMac_stores (d : Dev) (m : Nat) (x : MacX) : (d.setMac m x).stores = d.stores := rfl
@[simp] theorem Dev.setMac_legs (d : Dev) (m : Nat) (x : MacX) : (d.setMac m x).legs = d.legs := rfl
@[simp] theorem Dev.setMac_aos (d : Dev) (m : Nat) (x : MacX) : (d.setMac m x).aos = d.aos := rfl
@[simp] theorem Dev.setMac_audioMesh (d : Dev) (m : Nat) (x : MacX) : (d.setMac m x).audioMesh = d.audioMesh := rfl
@[simp] theorem Dev.setMac_mix (d : Dev) (m : Nat) (x : MacX) : (d.setMac m x).mix = d.mix := rfl
@[simp] theorem Dev.setMac_aps (d : Dev) (m : Nat) (x : MacX) : (d.setMac m x).aps = d.aps := rfl
@[simp] theorem Dev.setMac_fm (d : Dev) (m : Nat) (x : MacX) : (d.setMac m x).fm = d.fm := rfl
@[simp] theorem Dev.setMac_reg (d : Dev) (m : Nat) (x : MacX) (o j : Nat) : (d.setMac m x).reg o j = d.reg o j := rfl
@[simp] theorem Dev.setMac_flag (d : Dev) (m : Nat) (x : MacX) (o j : Nat) : (d.setMac m x).flag o j = d.flag o j := rfl
@[simp] theorem Dev.setMac_now (d : Dev) (m : Nat) (x : MacX) : (d.setMac m x).now = d.now := rfl
@[simp] theorem Dev.setMac_clock (d : Dev) (m : Nat) (x : MacX) : (d.setMac m x).clock = d.clock := rfl

/-! ### modCh -/

@[simp] theorem Dev.modCh_ch (d : Dev) (f : ChanX → ChanX) : (d.modCh f).ch = f d.ch := rfl
@[simp] theorem Dev.modCh_regs (d : Dev) (f : ChanX → ChanX) : (d.modCh f).regs = d.regs := rfl
@[simp] theorem Dev.modCh_blobs (d : Dev) (f : ChanX → ChanX) : (d.modCh f).blobs = d.blobs := rfl
@[simp] theorem Dev.modCh_time (d : Dev) (f : ChanX → ChanX) : (d.modCh f).time = d.time := rfl
@[simp] theorem Dev.modCh_freeN (d : Dev) (f : ChanX → ChanX) : (d.modCh f).freeN = d.freeN := rfl
@[simp] theorem Dev.modCh_nv (d : Dev) (f : ChanX → ChanX) : (d.modCh f).nv = d.nv := rfl
@[simp] theorem Dev.modCh_life (d : Dev) (f : ChanX → ChanX) : (d.modCh f).life = d.life := rfl
@[simp] theorem Dev.modCh_ref (d : Dev) (f : ChanX → ChanX) : (d.modCh f).ref = d.ref := rfl
@[simp] theorem Dev.modCh_synth (d : Dev) (f : ChanX → ChanX) : (d.modCh f).synth = d.synth := rfl
@[simp] theorem Dev.modCh_clk (d : Dev) (f : ChanX → ChanX) : (d.modCh f).clk = d.clk := rfl
@[simp] theorem Dev.modCh_lanes (d : Dev) (f : ChanX → ChanX) : (d.modCh f).lanes = d.lanes := rfl
@[simp] theorem Dev.modCh_ltx (d : Dev) (f : ChanX → ChanX) : (d.modCh f).ltx = d.ltx := rfl
@[simp] theorem Dev.modCh_groups (d : Dev) (f : ChanX → ChanX) : (d.modCh f).groups = d.groups := rfl
@[simp] theorem Dev.modCh_flt (d : Dev) (f : ChanX → ChanX) : (d.modCh f).flt = d.flt := rfl
@[simp] theorem Dev.modCh_trailRam (d : Dev) (f : ChanX → ChanX) : (d.modCh f).trailRam = d.trailRam := rfl
@[simp] theorem Dev.modCh_macs (d : Dev) (f : ChanX → ChanX) : (d.modCh f).macs = d.macs := rfl
@[simp] theorem Dev.modCh_tw (d : Dev) (f : ChanX → ChanX) : (d.modCh f).tw = d.tw := rfl
@[simp] theorem Dev.modCh_rf (d : Dev) (f : ChanX → ChanX) : (d.modCh f).rf = d.rf := rfl
@[simp] theorem Dev.modCh_sec (d : Dev) (f : ChanX → ChanX) : (d.modCh f).sec = d.sec := rfl
@[simp] theorem Dev.modCh_dbg (d : Dev) (f : ChanX → ChanX) : (d.modCh f).dbg = d.dbg := rfl
@[simp] theorem Dev.modCh_bus (d : Dev) (f : ChanX → ChanX) : (d.modCh f).bus = d.bus := rfl
@[simp] theorem Dev.modCh_broken (d : Dev) (f : ChanX → ChanX) : (d.modCh f).broken = d.broken := rfl
@[simp] theorem Dev.modCh_ins (d : Dev) (f : ChanX → ChanX) : (d.modCh f).ins = d.ins := rfl
@[simp] theorem Dev.modCh_mesh (d : Dev) (f : ChanX → ChanX) : (d.modCh f).mesh = d.mesh := rfl
@[simp] theorem Dev.modCh_outs (d : Dev) (f : ChanX → ChanX) : (d.modCh f).outs = d.outs := rfl
@[simp] theorem Dev.modCh_hampers (d : Dev) (f : ChanX → ChanX) : (d.modCh f).hampers = d.hampers := rfl
@[simp] theorem Dev.modCh_engines (d : Dev) (f : ChanX → ChanX) : (d.modCh f).engines = d.engines := rfl
@[simp] theorem Dev.modCh_canopies (d : Dev) (f : ChanX → ChanX) : (d.modCh f).canopies = d.canopies := rfl
@[simp] theorem Dev.modCh_inserters (d : Dev) (f : ChanX → ChanX) : (d.modCh f).inserters = d.inserters := rfl
@[simp] theorem Dev.modCh_cn (d : Dev) (f : ChanX → ChanX) : (d.modCh f).cn = d.cn := rfl
@[simp] theorem Dev.modCh_stores (d : Dev) (f : ChanX → ChanX) : (d.modCh f).stores = d.stores := rfl
@[simp] theorem Dev.modCh_legs (d : Dev) (f : ChanX → ChanX) : (d.modCh f).legs = d.legs := rfl
@[simp] theorem Dev.modCh_aos (d : Dev) (f : ChanX → ChanX) : (d.modCh f).aos = d.aos := rfl
@[simp] theorem Dev.modCh_audioMesh (d : Dev) (f : ChanX → ChanX) : (d.modCh f).audioMesh = d.audioMesh := rfl
@[simp] theorem Dev.modCh_mix (d : Dev) (f : ChanX → ChanX) : (d.modCh f).mix = d.mix := rfl
@[simp] theorem Dev.modCh_aps (d : Dev) (f : ChanX → ChanX) : (d.modCh f).aps = d.aps := rfl
@[simp] theorem Dev.modCh_fm (d : Dev) (f : ChanX → ChanX) : (d.modCh f).fm = d.fm := rfl
@[simp] theorem Dev.modCh_reg (d : Dev) (f : ChanX → ChanX) (o j : Nat) : (d.modCh f).reg o j = d.reg o j := rfl
@[simp] theorem Dev.modCh_flag (d : Dev) (f : ChanX → ChanX) (o j : Nat) : (d.modCh f).flag o j = d.flag o j := rfl
@[simp] theorem Dev.modCh_now (d : Dev) (f : ChanX → ChanX) : (d.modCh f).now = d.now := rfl
@[simp] theorem Dev.modCh_clock (d : Dev) (f : ChanX → ChanX) : (d.modCh f).clock = d.clock := rfl

/-! ### modTw -/

@[simp] theorem Dev.modTw_tw (d : Dev) (f : TwinX → TwinX) : (d.modTw f).tw = f d.tw := rfl
@[simp] theorem Dev.modTw_regs (d : Dev) (f : TwinX → TwinX) : (d.modTw f).regs = d.regs := rfl
@[simp] theorem Dev.modTw_blobs (d : Dev) (f : TwinX → TwinX) : (d.modTw f).blobs = d.blobs := rfl
@[simp] theorem Dev.modTw_time (d : Dev) (f : TwinX → TwinX) : (d.modTw f).time = d.time := rfl
@[simp] theorem Dev.modTw_freeN (d : Dev) (f : TwinX → TwinX) : (d.modTw f).freeN = d.freeN := rfl
@[simp] theorem Dev.modTw_nv (d : Dev) (f : TwinX → TwinX) : (d.modTw f).nv = d.nv := rfl
@[simp] theorem Dev.modTw_life (d : Dev) (f : TwinX → TwinX) : (d.modTw f).life = d.life := rfl
@[simp] theorem Dev.modTw_ref (d : Dev) (f : TwinX → TwinX) : (d.modTw f).ref = d.ref := rfl
@[simp] theorem Dev.modTw_synth (d : Dev) (f : TwinX → TwinX) : (d.modTw f).synth = d.synth := rfl
@[simp] theorem Dev.modTw_clk (d : Dev) (f : TwinX → TwinX) : (d.modTw f).clk = d.clk := rfl
@[simp] theorem Dev.modTw_lanes (d : Dev) (f : TwinX → TwinX) : (d.modTw f).lanes = d.lanes := rfl
@[simp] theorem Dev.modTw_ltx (d : Dev) (f : TwinX → TwinX) : (d.modTw f).ltx = d.ltx := rfl
@[simp] theorem Dev.modTw_groups (d : Dev) (f : TwinX → TwinX) : (d.modTw f).groups = d.groups := rfl
@[simp] theorem Dev.modTw_flt (d : Dev) (f : TwinX → TwinX) : (d.modTw f).flt = d.flt := rfl
@[simp] theorem Dev.modTw_trailRam (d : Dev) (f : TwinX → TwinX) : (d.modTw f).trailRam = d.trailRam := rfl
@[simp] theorem Dev.modTw_macs (d : Dev) (f : TwinX → TwinX) : (d.modTw f).macs = d.macs := rfl
@[simp] theorem Dev.modTw_ch (d : Dev) (f : TwinX → TwinX) : (d.modTw f).ch = d.ch := rfl
@[simp] theorem Dev.modTw_rf (d : Dev) (f : TwinX → TwinX) : (d.modTw f).rf = d.rf := rfl
@[simp] theorem Dev.modTw_sec (d : Dev) (f : TwinX → TwinX) : (d.modTw f).sec = d.sec := rfl
@[simp] theorem Dev.modTw_dbg (d : Dev) (f : TwinX → TwinX) : (d.modTw f).dbg = d.dbg := rfl
@[simp] theorem Dev.modTw_bus (d : Dev) (f : TwinX → TwinX) : (d.modTw f).bus = d.bus := rfl
@[simp] theorem Dev.modTw_broken (d : Dev) (f : TwinX → TwinX) : (d.modTw f).broken = d.broken := rfl
@[simp] theorem Dev.modTw_ins (d : Dev) (f : TwinX → TwinX) : (d.modTw f).ins = d.ins := rfl
@[simp] theorem Dev.modTw_mesh (d : Dev) (f : TwinX → TwinX) : (d.modTw f).mesh = d.mesh := rfl
@[simp] theorem Dev.modTw_outs (d : Dev) (f : TwinX → TwinX) : (d.modTw f).outs = d.outs := rfl
@[simp] theorem Dev.modTw_hampers (d : Dev) (f : TwinX → TwinX) : (d.modTw f).hampers = d.hampers := rfl
@[simp] theorem Dev.modTw_engines (d : Dev) (f : TwinX → TwinX) : (d.modTw f).engines = d.engines := rfl
@[simp] theorem Dev.modTw_canopies (d : Dev) (f : TwinX → TwinX) : (d.modTw f).canopies = d.canopies := rfl
@[simp] theorem Dev.modTw_inserters (d : Dev) (f : TwinX → TwinX) : (d.modTw f).inserters = d.inserters := rfl
@[simp] theorem Dev.modTw_cn (d : Dev) (f : TwinX → TwinX) : (d.modTw f).cn = d.cn := rfl
@[simp] theorem Dev.modTw_stores (d : Dev) (f : TwinX → TwinX) : (d.modTw f).stores = d.stores := rfl
@[simp] theorem Dev.modTw_legs (d : Dev) (f : TwinX → TwinX) : (d.modTw f).legs = d.legs := rfl
@[simp] theorem Dev.modTw_aos (d : Dev) (f : TwinX → TwinX) : (d.modTw f).aos = d.aos := rfl
@[simp] theorem Dev.modTw_audioMesh (d : Dev) (f : TwinX → TwinX) : (d.modTw f).audioMesh = d.audioMesh := rfl
@[simp] theorem Dev.modTw_mix (d : Dev) (f : TwinX → TwinX) : (d.modTw f).mix = d.mix := rfl
@[simp] theorem Dev.modTw_aps (d : Dev) (f : TwinX → TwinX) : (d.modTw f).aps = d.aps := rfl
@[simp] theorem Dev.modTw_fm (d : Dev) (f : TwinX → TwinX) : (d.modTw f).fm = d.fm := rfl
@[simp] theorem Dev.modTw_reg (d : Dev) (f : TwinX → TwinX) (o j : Nat) : (d.modTw f).reg o j = d.reg o j := rfl
@[simp] theorem Dev.modTw_flag (d : Dev) (f : TwinX → TwinX) (o j : Nat) : (d.modTw f).flag o j = d.flag o j := rfl
@[simp] theorem Dev.modTw_now (d : Dev) (f : TwinX → TwinX) : (d.modTw f).now = d.now := rfl
@[simp] theorem Dev.modTw_clock (d : Dev) (f : TwinX → TwinX) : (d.modTw f).clock = d.clock := rfl

/-! ### modRf -/

@[simp] theorem Dev.modRf_rf (d : Dev) (f : RefereeX → RefereeX) : (d.modRf f).rf = f d.rf := rfl
@[simp] theorem Dev.modRf_regs (d : Dev) (f : RefereeX → RefereeX) : (d.modRf f).regs = d.regs := rfl
@[simp] theorem Dev.modRf_blobs (d : Dev) (f : RefereeX → RefereeX) : (d.modRf f).blobs = d.blobs := rfl
@[simp] theorem Dev.modRf_time (d : Dev) (f : RefereeX → RefereeX) : (d.modRf f).time = d.time := rfl
@[simp] theorem Dev.modRf_freeN (d : Dev) (f : RefereeX → RefereeX) : (d.modRf f).freeN = d.freeN := rfl
@[simp] theorem Dev.modRf_nv (d : Dev) (f : RefereeX → RefereeX) : (d.modRf f).nv = d.nv := rfl
@[simp] theorem Dev.modRf_life (d : Dev) (f : RefereeX → RefereeX) : (d.modRf f).life = d.life := rfl
@[simp] theorem Dev.modRf_ref (d : Dev) (f : RefereeX → RefereeX) : (d.modRf f).ref = d.ref := rfl
@[simp] theorem Dev.modRf_synth (d : Dev) (f : RefereeX → RefereeX) : (d.modRf f).synth = d.synth := rfl
@[simp] theorem Dev.modRf_clk (d : Dev) (f : RefereeX → RefereeX) : (d.modRf f).clk = d.clk := rfl
@[simp] theorem Dev.modRf_lanes (d : Dev) (f : RefereeX → RefereeX) : (d.modRf f).lanes = d.lanes := rfl
@[simp] theorem Dev.modRf_ltx (d : Dev) (f : RefereeX → RefereeX) : (d.modRf f).ltx = d.ltx := rfl
@[simp] theorem Dev.modRf_groups (d : Dev) (f : RefereeX → RefereeX) : (d.modRf f).groups = d.groups := rfl
@[simp] theorem Dev.modRf_flt (d : Dev) (f : RefereeX → RefereeX) : (d.modRf f).flt = d.flt := rfl
@[simp] theorem Dev.modRf_trailRam (d : Dev) (f : RefereeX → RefereeX) : (d.modRf f).trailRam = d.trailRam := rfl
@[simp] theorem Dev.modRf_macs (d : Dev) (f : RefereeX → RefereeX) : (d.modRf f).macs = d.macs := rfl
@[simp] theorem Dev.modRf_ch (d : Dev) (f : RefereeX → RefereeX) : (d.modRf f).ch = d.ch := rfl
@[simp] theorem Dev.modRf_tw (d : Dev) (f : RefereeX → RefereeX) : (d.modRf f).tw = d.tw := rfl
@[simp] theorem Dev.modRf_sec (d : Dev) (f : RefereeX → RefereeX) : (d.modRf f).sec = d.sec := rfl
@[simp] theorem Dev.modRf_dbg (d : Dev) (f : RefereeX → RefereeX) : (d.modRf f).dbg = d.dbg := rfl
@[simp] theorem Dev.modRf_bus (d : Dev) (f : RefereeX → RefereeX) : (d.modRf f).bus = d.bus := rfl
@[simp] theorem Dev.modRf_broken (d : Dev) (f : RefereeX → RefereeX) : (d.modRf f).broken = d.broken := rfl
@[simp] theorem Dev.modRf_ins (d : Dev) (f : RefereeX → RefereeX) : (d.modRf f).ins = d.ins := rfl
@[simp] theorem Dev.modRf_mesh (d : Dev) (f : RefereeX → RefereeX) : (d.modRf f).mesh = d.mesh := rfl
@[simp] theorem Dev.modRf_outs (d : Dev) (f : RefereeX → RefereeX) : (d.modRf f).outs = d.outs := rfl
@[simp] theorem Dev.modRf_hampers (d : Dev) (f : RefereeX → RefereeX) : (d.modRf f).hampers = d.hampers := rfl
@[simp] theorem Dev.modRf_engines (d : Dev) (f : RefereeX → RefereeX) : (d.modRf f).engines = d.engines := rfl
@[simp] theorem Dev.modRf_canopies (d : Dev) (f : RefereeX → RefereeX) : (d.modRf f).canopies = d.canopies := rfl
@[simp] theorem Dev.modRf_inserters (d : Dev) (f : RefereeX → RefereeX) : (d.modRf f).inserters = d.inserters := rfl
@[simp] theorem Dev.modRf_cn (d : Dev) (f : RefereeX → RefereeX) : (d.modRf f).cn = d.cn := rfl
@[simp] theorem Dev.modRf_stores (d : Dev) (f : RefereeX → RefereeX) : (d.modRf f).stores = d.stores := rfl
@[simp] theorem Dev.modRf_legs (d : Dev) (f : RefereeX → RefereeX) : (d.modRf f).legs = d.legs := rfl
@[simp] theorem Dev.modRf_aos (d : Dev) (f : RefereeX → RefereeX) : (d.modRf f).aos = d.aos := rfl
@[simp] theorem Dev.modRf_audioMesh (d : Dev) (f : RefereeX → RefereeX) : (d.modRf f).audioMesh = d.audioMesh := rfl
@[simp] theorem Dev.modRf_mix (d : Dev) (f : RefereeX → RefereeX) : (d.modRf f).mix = d.mix := rfl
@[simp] theorem Dev.modRf_aps (d : Dev) (f : RefereeX → RefereeX) : (d.modRf f).aps = d.aps := rfl
@[simp] theorem Dev.modRf_fm (d : Dev) (f : RefereeX → RefereeX) : (d.modRf f).fm = d.fm := rfl
@[simp] theorem Dev.modRf_reg (d : Dev) (f : RefereeX → RefereeX) (o j : Nat) : (d.modRf f).reg o j = d.reg o j := rfl
@[simp] theorem Dev.modRf_flag (d : Dev) (f : RefereeX → RefereeX) (o j : Nat) : (d.modRf f).flag o j = d.flag o j := rfl
@[simp] theorem Dev.modRf_now (d : Dev) (f : RefereeX → RefereeX) : (d.modRf f).now = d.now := rfl
@[simp] theorem Dev.modRf_clock (d : Dev) (f : RefereeX → RefereeX) : (d.modRf f).clock = d.clock := rfl

/-! ### modDbg -/

@[simp] theorem Dev.modDbg_dbg (d : Dev) (f : DbgX → DbgX) : (d.modDbg f).dbg = f d.dbg := rfl
@[simp] theorem Dev.modDbg_regs (d : Dev) (f : DbgX → DbgX) : (d.modDbg f).regs = d.regs := rfl
@[simp] theorem Dev.modDbg_blobs (d : Dev) (f : DbgX → DbgX) : (d.modDbg f).blobs = d.blobs := rfl
@[simp] theorem Dev.modDbg_time (d : Dev) (f : DbgX → DbgX) : (d.modDbg f).time = d.time := rfl
@[simp] theorem Dev.modDbg_freeN (d : Dev) (f : DbgX → DbgX) : (d.modDbg f).freeN = d.freeN := rfl
@[simp] theorem Dev.modDbg_nv (d : Dev) (f : DbgX → DbgX) : (d.modDbg f).nv = d.nv := rfl
@[simp] theorem Dev.modDbg_life (d : Dev) (f : DbgX → DbgX) : (d.modDbg f).life = d.life := rfl
@[simp] theorem Dev.modDbg_ref (d : Dev) (f : DbgX → DbgX) : (d.modDbg f).ref = d.ref := rfl
@[simp] theorem Dev.modDbg_synth (d : Dev) (f : DbgX → DbgX) : (d.modDbg f).synth = d.synth := rfl
@[simp] theorem Dev.modDbg_clk (d : Dev) (f : DbgX → DbgX) : (d.modDbg f).clk = d.clk := rfl
@[simp] theorem Dev.modDbg_lanes (d : Dev) (f : DbgX → DbgX) : (d.modDbg f).lanes = d.lanes := rfl
@[simp] theorem Dev.modDbg_ltx (d : Dev) (f : DbgX → DbgX) : (d.modDbg f).ltx = d.ltx := rfl
@[simp] theorem Dev.modDbg_groups (d : Dev) (f : DbgX → DbgX) : (d.modDbg f).groups = d.groups := rfl
@[simp] theorem Dev.modDbg_flt (d : Dev) (f : DbgX → DbgX) : (d.modDbg f).flt = d.flt := rfl
@[simp] theorem Dev.modDbg_trailRam (d : Dev) (f : DbgX → DbgX) : (d.modDbg f).trailRam = d.trailRam := rfl
@[simp] theorem Dev.modDbg_macs (d : Dev) (f : DbgX → DbgX) : (d.modDbg f).macs = d.macs := rfl
@[simp] theorem Dev.modDbg_ch (d : Dev) (f : DbgX → DbgX) : (d.modDbg f).ch = d.ch := rfl
@[simp] theorem Dev.modDbg_tw (d : Dev) (f : DbgX → DbgX) : (d.modDbg f).tw = d.tw := rfl
@[simp] theorem Dev.modDbg_rf (d : Dev) (f : DbgX → DbgX) : (d.modDbg f).rf = d.rf := rfl
@[simp] theorem Dev.modDbg_sec (d : Dev) (f : DbgX → DbgX) : (d.modDbg f).sec = d.sec := rfl
@[simp] theorem Dev.modDbg_bus (d : Dev) (f : DbgX → DbgX) : (d.modDbg f).bus = d.bus := rfl
@[simp] theorem Dev.modDbg_broken (d : Dev) (f : DbgX → DbgX) : (d.modDbg f).broken = d.broken := rfl
@[simp] theorem Dev.modDbg_ins (d : Dev) (f : DbgX → DbgX) : (d.modDbg f).ins = d.ins := rfl
@[simp] theorem Dev.modDbg_mesh (d : Dev) (f : DbgX → DbgX) : (d.modDbg f).mesh = d.mesh := rfl
@[simp] theorem Dev.modDbg_outs (d : Dev) (f : DbgX → DbgX) : (d.modDbg f).outs = d.outs := rfl
@[simp] theorem Dev.modDbg_hampers (d : Dev) (f : DbgX → DbgX) : (d.modDbg f).hampers = d.hampers := rfl
@[simp] theorem Dev.modDbg_engines (d : Dev) (f : DbgX → DbgX) : (d.modDbg f).engines = d.engines := rfl
@[simp] theorem Dev.modDbg_canopies (d : Dev) (f : DbgX → DbgX) : (d.modDbg f).canopies = d.canopies := rfl
@[simp] theorem Dev.modDbg_inserters (d : Dev) (f : DbgX → DbgX) : (d.modDbg f).inserters = d.inserters := rfl
@[simp] theorem Dev.modDbg_cn (d : Dev) (f : DbgX → DbgX) : (d.modDbg f).cn = d.cn := rfl
@[simp] theorem Dev.modDbg_stores (d : Dev) (f : DbgX → DbgX) : (d.modDbg f).stores = d.stores := rfl
@[simp] theorem Dev.modDbg_legs (d : Dev) (f : DbgX → DbgX) : (d.modDbg f).legs = d.legs := rfl
@[simp] theorem Dev.modDbg_aos (d : Dev) (f : DbgX → DbgX) : (d.modDbg f).aos = d.aos := rfl
@[simp] theorem Dev.modDbg_audioMesh (d : Dev) (f : DbgX → DbgX) : (d.modDbg f).audioMesh = d.audioMesh := rfl
@[simp] theorem Dev.modDbg_mix (d : Dev) (f : DbgX → DbgX) : (d.modDbg f).mix = d.mix := rfl
@[simp] theorem Dev.modDbg_aps (d : Dev) (f : DbgX → DbgX) : (d.modDbg f).aps = d.aps := rfl
@[simp] theorem Dev.modDbg_fm (d : Dev) (f : DbgX → DbgX) : (d.modDbg f).fm = d.fm := rfl
@[simp] theorem Dev.modDbg_reg (d : Dev) (f : DbgX → DbgX) (o j : Nat) : (d.modDbg f).reg o j = d.reg o j := rfl
@[simp] theorem Dev.modDbg_flag (d : Dev) (f : DbgX → DbgX) (o j : Nat) : (d.modDbg f).flag o j = d.flag o j := rfl
@[simp] theorem Dev.modDbg_now (d : Dev) (f : DbgX → DbgX) : (d.modDbg f).now = d.now := rfl
@[simp] theorem Dev.modDbg_clock (d : Dev) (f : DbgX → DbgX) : (d.modDbg f).clock = d.clock := rfl

/-! ### modBus -/

@[simp] theorem Dev.modBus_bus (d : Dev) (f : BusX → BusX) : (d.modBus f).bus = f d.bus := rfl
@[simp] theorem Dev.modBus_regs (d : Dev) (f : BusX → BusX) : (d.modBus f).regs = d.regs := rfl
@[simp] theorem Dev.modBus_blobs (d : Dev) (f : BusX → BusX) : (d.modBus f).blobs = d.blobs := rfl
@[simp] theorem Dev.modBus_time (d : Dev) (f : BusX → BusX) : (d.modBus f).time = d.time := rfl
@[simp] theorem Dev.modBus_freeN (d : Dev) (f : BusX → BusX) : (d.modBus f).freeN = d.freeN := rfl
@[simp] theorem Dev.modBus_nv (d : Dev) (f : BusX → BusX) : (d.modBus f).nv = d.nv := rfl
@[simp] theorem Dev.modBus_life (d : Dev) (f : BusX → BusX) : (d.modBus f).life = d.life := rfl
@[simp] theorem Dev.modBus_ref (d : Dev) (f : BusX → BusX) : (d.modBus f).ref = d.ref := rfl
@[simp] theorem Dev.modBus_synth (d : Dev) (f : BusX → BusX) : (d.modBus f).synth = d.synth := rfl
@[simp] theorem Dev.modBus_clk (d : Dev) (f : BusX → BusX) : (d.modBus f).clk = d.clk := rfl
@[simp] theorem Dev.modBus_lanes (d : Dev) (f : BusX → BusX) : (d.modBus f).lanes = d.lanes := rfl
@[simp] theorem Dev.modBus_ltx (d : Dev) (f : BusX → BusX) : (d.modBus f).ltx = d.ltx := rfl
@[simp] theorem Dev.modBus_groups (d : Dev) (f : BusX → BusX) : (d.modBus f).groups = d.groups := rfl
@[simp] theorem Dev.modBus_flt (d : Dev) (f : BusX → BusX) : (d.modBus f).flt = d.flt := rfl
@[simp] theorem Dev.modBus_trailRam (d : Dev) (f : BusX → BusX) : (d.modBus f).trailRam = d.trailRam := rfl
@[simp] theorem Dev.modBus_macs (d : Dev) (f : BusX → BusX) : (d.modBus f).macs = d.macs := rfl
@[simp] theorem Dev.modBus_ch (d : Dev) (f : BusX → BusX) : (d.modBus f).ch = d.ch := rfl
@[simp] theorem Dev.modBus_tw (d : Dev) (f : BusX → BusX) : (d.modBus f).tw = d.tw := rfl
@[simp] theorem Dev.modBus_rf (d : Dev) (f : BusX → BusX) : (d.modBus f).rf = d.rf := rfl
@[simp] theorem Dev.modBus_sec (d : Dev) (f : BusX → BusX) : (d.modBus f).sec = d.sec := rfl
@[simp] theorem Dev.modBus_dbg (d : Dev) (f : BusX → BusX) : (d.modBus f).dbg = d.dbg := rfl
@[simp] theorem Dev.modBus_broken (d : Dev) (f : BusX → BusX) : (d.modBus f).broken = d.broken := rfl
@[simp] theorem Dev.modBus_ins (d : Dev) (f : BusX → BusX) : (d.modBus f).ins = d.ins := rfl
@[simp] theorem Dev.modBus_mesh (d : Dev) (f : BusX → BusX) : (d.modBus f).mesh = d.mesh := rfl
@[simp] theorem Dev.modBus_outs (d : Dev) (f : BusX → BusX) : (d.modBus f).outs = d.outs := rfl
@[simp] theorem Dev.modBus_hampers (d : Dev) (f : BusX → BusX) : (d.modBus f).hampers = d.hampers := rfl
@[simp] theorem Dev.modBus_engines (d : Dev) (f : BusX → BusX) : (d.modBus f).engines = d.engines := rfl
@[simp] theorem Dev.modBus_canopies (d : Dev) (f : BusX → BusX) : (d.modBus f).canopies = d.canopies := rfl
@[simp] theorem Dev.modBus_inserters (d : Dev) (f : BusX → BusX) : (d.modBus f).inserters = d.inserters := rfl
@[simp] theorem Dev.modBus_cn (d : Dev) (f : BusX → BusX) : (d.modBus f).cn = d.cn := rfl
@[simp] theorem Dev.modBus_stores (d : Dev) (f : BusX → BusX) : (d.modBus f).stores = d.stores := rfl
@[simp] theorem Dev.modBus_legs (d : Dev) (f : BusX → BusX) : (d.modBus f).legs = d.legs := rfl
@[simp] theorem Dev.modBus_aos (d : Dev) (f : BusX → BusX) : (d.modBus f).aos = d.aos := rfl
@[simp] theorem Dev.modBus_audioMesh (d : Dev) (f : BusX → BusX) : (d.modBus f).audioMesh = d.audioMesh := rfl
@[simp] theorem Dev.modBus_mix (d : Dev) (f : BusX → BusX) : (d.modBus f).mix = d.mix := rfl
@[simp] theorem Dev.modBus_aps (d : Dev) (f : BusX → BusX) : (d.modBus f).aps = d.aps := rfl
@[simp] theorem Dev.modBus_fm (d : Dev) (f : BusX → BusX) : (d.modBus f).fm = d.fm := rfl
@[simp] theorem Dev.modBus_reg (d : Dev) (f : BusX → BusX) (o j : Nat) : (d.modBus f).reg o j = d.reg o j := rfl
@[simp] theorem Dev.modBus_flag (d : Dev) (f : BusX → BusX) (o j : Nat) : (d.modBus f).flag o j = d.flag o j := rfl
@[simp] theorem Dev.modBus_now (d : Dev) (f : BusX → BusX) : (d.modBus f).now = d.now := rfl
@[simp] theorem Dev.modBus_clock (d : Dev) (f : BusX → BusX) : (d.modBus f).clock = d.clock := rfl

/-! ### setInp -/

@[simp] theorem Dev.setInp_ins (d : Dev) (p : Nat) (x : InX) : (d.setInp p x).ins = smSet d.ins p x {} := rfl
@[simp] theorem Dev.setInp_regs (d : Dev) (p : Nat) (x : InX) : (d.setInp p x).regs = d.regs := rfl
@[simp] theorem Dev.setInp_blobs (d : Dev) (p : Nat) (x : InX) : (d.setInp p x).blobs = d.blobs := rfl
@[simp] theorem Dev.setInp_time (d : Dev) (p : Nat) (x : InX) : (d.setInp p x).time = d.time := rfl
@[simp] theorem Dev.setInp_freeN (d : Dev) (p : Nat) (x : InX) : (d.setInp p x).freeN = d.freeN := rfl
@[simp] theorem Dev.setInp_nv (d : Dev) (p : Nat) (x : InX) : (d.setInp p x).nv = d.nv := rfl
@[simp] theorem Dev.setInp_life (d : Dev) (p : Nat) (x : InX) : (d.setInp p x).life = d.life := rfl
@[simp] theorem Dev.setInp_ref (d : Dev) (p : Nat) (x : InX) : (d.setInp p x).ref = d.ref := rfl
@[simp] theorem Dev.setInp_synth (d : Dev) (p : Nat) (x : InX) : (d.setInp p x).synth = d.synth := rfl
@[simp] theorem Dev.setInp_clk (d : Dev) (p : Nat) (x : InX) : (d.setInp p x).clk = d.clk := rfl
@[simp] theorem Dev.setInp_lanes (d : Dev) (p : Nat) (x : InX) : (d.setInp p x).lanes = d.lanes := rfl
@[simp] theorem Dev.setInp_ltx (d : Dev) (p : Nat) (x : InX) : (d.setInp p x).ltx = d.ltx := rfl
@[simp] theorem Dev.setInp_groups (d : Dev) (p : Nat) (x : InX) : (d.setInp p x).groups = d.groups := rfl
@[simp] theorem Dev.setInp_flt (d : Dev) (p : Nat) (x : InX) : (d.setInp p x).flt = d.flt := rfl
@[simp] theorem Dev.setInp_trailRam (d : Dev) (p : Nat) (x : InX) : (d.setInp p x).trailRam = d.trailRam := rfl
@[simp] theorem Dev.setInp_macs (d : Dev) (p : Nat) (x : InX) : (d.setInp p x).macs = d.macs := rfl
@[simp] theorem Dev.setInp_ch (d : Dev) (p : Nat) (x : InX) : (d.setInp p x).ch = d.ch := rfl
@[simp] theorem Dev.setInp_tw (d : Dev) (p : Nat) (x : InX) : (d.setInp p x).tw = d.tw := rfl
@[simp] theorem Dev.setInp_rf (d : Dev) (p : Nat) (x : InX) : (d.setInp p x).rf = d.rf := rfl
@[simp] theorem Dev.setInp_sec (d : Dev) (p : Nat) (x : InX) : (d.setInp p x).sec = d.sec := rfl
@[simp] theorem Dev.setInp_dbg (d : Dev) (p : Nat) (x : InX) : (d.setInp p x).dbg = d.dbg := rfl
@[simp] theorem Dev.setInp_bus (d : Dev) (p : Nat) (x : InX) : (d.setInp p x).bus = d.bus := rfl
@[simp] theorem Dev.setInp_broken (d : Dev) (p : Nat) (x : InX) : (d.setInp p x).broken = d.broken := rfl
@[simp] theorem Dev.setInp_mesh (d : Dev) (p : Nat) (x : InX) : (d.setInp p x).mesh = d.mesh := rfl
@[simp] theorem Dev.setInp_outs (d : Dev) (p : Nat) (x : InX) : (d.setInp p x).outs = d.outs := rfl
@[simp] theorem Dev.setInp_hampers (d : Dev) (p : Nat) (x : InX) : (d.setInp p x).hampers = d.hampers := rfl
@[simp] theorem Dev.setInp_engines (d : Dev) (p : Nat) (x : InX) : (d.setInp p x).engines = d.engines := rfl
@[simp] theorem Dev.setInp_canopies (d : Dev) (p : Nat) (x : InX) : (d.setInp p x).canopies = d.canopies := rfl
@[simp] theorem Dev.setInp_inserters (d : Dev) (p : Nat) (x : InX) : (d.setInp p x).inserters = d.inserters := rfl
@[simp] theorem Dev.setInp_cn (d : Dev) (p : Nat) (x : InX) : (d.setInp p x).cn = d.cn := rfl
@[simp] theorem Dev.setInp_stores (d : Dev) (p : Nat) (x : InX) : (d.setInp p x).stores = d.stores := rfl
@[simp] theorem Dev.setInp_legs (d : Dev) (p : Nat) (x : InX) : (d.setInp p x).legs = d.legs := rfl
@[simp] theorem Dev.setInp_aos (d : Dev) (p : Nat) (x : InX) : (d.setInp p x).aos = d.aos := rfl
@[simp] theorem Dev.setInp_audioMesh (d : Dev) (p : Nat) (x : InX) : (d.setInp p x).audioMesh = d.audioMesh := rfl
@[simp] theorem Dev.setInp_mix (d : Dev) (p : Nat) (x : InX) : (d.setInp p x).mix = d.mix := rfl
@[simp] theorem Dev.setInp_aps (d : Dev) (p : Nat) (x : InX) : (d.setInp p x).aps = d.aps := rfl
@[simp] theorem Dev.setInp_fm (d : Dev) (p : Nat) (x : InX) : (d.setInp p x).fm = d.fm := rfl
@[simp] theorem Dev.setInp_reg (d : Dev) (p : Nat) (x : InX) (o j : Nat) : (d.setInp p x).reg o j = d.reg o j := rfl
@[simp] theorem Dev.setInp_flag (d : Dev) (p : Nat) (x : InX) (o j : Nat) : (d.setInp p x).flag o j = d.flag o j := rfl
@[simp] theorem Dev.setInp_now (d : Dev) (p : Nat) (x : InX) : (d.setInp p x).now = d.now := rfl
@[simp] theorem Dev.setInp_clock (d : Dev) (p : Nat) (x : InX) : (d.setInp p x).clock = d.clock := rfl

/-! ### setOut -/

@[simp] theorem Dev.setOut_outs (d : Dev) (p : Nat) (x : OutX) : (d.setOut p x).outs = smSet d.outs p x {} := rfl
@[simp] theorem Dev.setOut_regs (d : Dev) (p : Nat) (x : OutX) : (d.setOut p x).regs = d.regs := rfl
@[simp] theorem Dev.setOut_blobs (d : Dev) (p : Nat) (x : OutX) : (d.setOut p x).blobs = d.blobs := rfl
@[simp] theorem Dev.setOut_time (d : Dev) (p : Nat) (x : OutX) : (d.setOut p x).time = d.time := rfl
@[simp] theorem Dev.setOut_freeN (d : Dev) (p : Nat) (x : OutX) : (d.setOut p x).freeN = d.freeN := rfl
@[simp] theorem Dev.setOut_nv (d : Dev) (p : Nat) (x : OutX) : (d.setOut p x).nv = d.nv := rfl
@[simp] theorem Dev.setOut_life (d : Dev) (p : Nat) (x : OutX) : (d.setOut p x).life = d.life := rfl
@[simp] theorem Dev.setOut_ref (d : Dev) (p : Nat) (x : OutX) : (d.setOut p x).ref = d.ref := rfl
@[simp] theorem Dev.setOut_synth (d : Dev) (p : Nat) (x : OutX) : (d.setOut p x).synth = d.synth := rfl
@[simp] theorem Dev.setOut_clk (d : Dev) (p : Nat) (x : OutX) : (d.setOut p x).clk = d.clk := rfl
@[simp] theorem Dev.setOut_lanes (d : Dev) (p : Nat) (x : OutX) : (d.setOut p x).lanes = d.lanes := rfl
@[simp] theorem Dev.setOut_ltx (d : Dev) (p : Nat) (x : OutX) : (d.setOut p x).ltx = d.ltx := rfl
@[simp] theorem Dev.setOut_groups (d : Dev) (p : Nat) (x : OutX) : (d.setOut p x).groups = d.groups := rfl
@[simp] theorem Dev.setOut_flt (d : Dev) (p : Nat) (x : OutX) : (d.setOut p x).flt = d.flt := rfl
@[simp] theorem Dev.setOut_trailRam (d : Dev) (p : Nat) (x : OutX) : (d.setOut p x).trailRam = d.trailRam := rfl
@[simp] theorem Dev.setOut_macs (d : Dev) (p : Nat) (x : OutX) : (d.setOut p x).macs = d.macs := rfl
@[simp] theorem Dev.setOut_ch (d : Dev) (p : Nat) (x : OutX) : (d.setOut p x).ch = d.ch := rfl
@[simp] theorem Dev.setOut_tw (d : Dev) (p : Nat) (x : OutX) : (d.setOut p x).tw = d.tw := rfl
@[simp] theorem Dev.setOut_rf (d : Dev) (p : Nat) (x : OutX) : (d.setOut p x).rf = d.rf := rfl
@[simp] theorem Dev.setOut_sec (d : Dev) (p : Nat) (x : OutX) : (d.setOut p x).sec = d.sec := rfl
@[simp] theorem Dev.setOut_dbg (d : Dev) (p : Nat) (x : OutX) : (d.setOut p x).dbg = d.dbg := rfl
@[simp] theorem Dev.setOut_bus (d : Dev) (p : Nat) (x : OutX) : (d.setOut p x).bus = d.bus := rfl
@[simp] theorem Dev.setOut_broken (d : Dev) (p : Nat) (x : OutX) : (d.setOut p x).broken = d.broken := rfl
@[simp] theorem Dev.setOut_ins (d : Dev) (p : Nat) (x : OutX) : (d.setOut p x).ins = d.ins := rfl
@[simp] theorem Dev.setOut_mesh (d : Dev) (p : Nat) (x : OutX) : (d.setOut p x).mesh = d.mesh := rfl
@[simp] theorem Dev.setOut_hampers (d : Dev) (p : Nat) (x : OutX) : (d.setOut p x).hampers = d.hampers := rfl
@[simp] theorem Dev.setOut_engines (d : Dev) (p : Nat) (x : OutX) : (d.setOut p x).engines = d.engines := rfl
@[simp] theorem Dev.setOut_canopies (d : Dev) (p : Nat) (x : OutX) : (d.setOut p x).canopies = d.canopies := rfl
@[simp] theorem Dev.setOut_inserters (d : Dev) (p : Nat) (x : OutX) : (d.setOut p x).inserters = d.inserters := rfl
@[simp] theorem Dev.setOut_cn (d : Dev) (p : Nat) (x : OutX) : (d.setOut p x).cn = d.cn := rfl
@[simp] theorem Dev.setOut_stores (d : Dev) (p : Nat) (x : OutX) : (d.setOut p x).stores = d.stores := rfl
@[simp] theorem Dev.setOut_legs (d : Dev) (p : Nat) (x : OutX) : (d.setOut p x).legs = d.legs := rfl
@[simp] theorem Dev.setOut_aos (d : Dev) (p : Nat) (x : OutX) : (d.setOut p x).aos = d.aos := rfl
@[simp] theorem Dev.setOut_audioMesh (d : Dev) (p : Nat) (x : OutX) : (d.setOut p x).audioMesh = d.audioMesh := rfl
@[simp] theorem Dev.setOut_mix (d : Dev) (p : Nat) (x : OutX) : (d.setOut p x).mix = d.mix := rfl
@[simp] theorem Dev.setOut_aps (d : Dev) (p : Nat) (x : OutX) : (d.setOut p x).aps = d.aps := rfl
@[simp] theorem Dev.setOut_fm (d : Dev) (p : Nat) (x : OutX) : (d.setOut p x).fm = d.fm := rfl
@[simp] theorem Dev.setOut_reg (d : Dev) (p : Nat) (x : OutX) (o j : Nat) : (d.setOut p x).reg o j = d.reg o j := rfl
@[simp] theorem Dev.setOut_flag (d : Dev) (p : Nat) (x : OutX) (o j : Nat) : (d.setOut p x).flag o j = d.flag o j := rfl
@[simp] theorem Dev.setOut_now (d : Dev) (p : Nat) (x : OutX) : (d.setOut p x).now = d.now := rfl
@[simp] theorem Dev.setOut_clock (d : Dev) (p : Nat) (x : OutX) : (d.setOut p x).clock = d.clock := rfl

/-! ### setEngine -/

@[simp] theorem Dev.setEngine_engines (d : Dev) (n : Nat) (x : EngineX) : (d.setEngine n x).engines = smSet d.engines n x {} := rfl
@[simp] theorem Dev.setEngine_regs (d : Dev) (n : Nat) (x : EngineX) : (d.setEngine n x).regs = d.regs := rfl
@[simp] theorem Dev.setEngine_blobs (d : Dev) (n : Nat) (x : EngineX) : (d.setEngine n x).blobs = d.blobs := rfl
@[simp] theorem Dev.setEngine_time (d : Dev) (n : Nat) (x : EngineX) : (d.setEngine n x).time = d.time := rfl
@[simp] theorem Dev.setEngine_freeN (d : Dev) (n : Nat) (x : EngineX) : (d.setEngine n x).freeN = d.freeN := rfl
@[simp] theorem Dev.setEngine_nv (d : Dev) (n : Nat) (x : EngineX) : (d.setEngine n x).nv = d.nv := rfl
@[simp] theorem Dev.setEngine_life (d : Dev) (n : Nat) (x : EngineX) : (d.setEngine n x).life = d.life := rfl
@[simp] theorem Dev.setEngine_ref (d : Dev) (n : Nat) (x : EngineX) : (d.setEngine n x).ref = d.ref := rfl
@[simp] theorem Dev.setEngine_synth (d : Dev) (n : Nat) (x : EngineX) : (d.setEngine n x).synth = d.synth := rfl
@[simp] theorem Dev.setEngine_clk (d : Dev) (n : Nat) (x : EngineX) : (d.setEngine n x).clk = d.clk := rfl
@[simp] theorem Dev.setEngine_lanes (d : Dev) (n : Nat) (x : EngineX) : (d.setEngine n x).lanes = d.lanes := rfl
@[simp] theorem Dev.setEngine_ltx (d : Dev) (n : Nat) (x : EngineX) : (d.setEngine n x).ltx = d.ltx := rfl
@[simp] theorem Dev.setEngine_groups (d : Dev) (n : Nat) (x : EngineX) : (d.setEngine n x).groups = d.groups := rfl
@[simp] theorem Dev.setEngine_flt (d : Dev) (n : Nat) (x : EngineX) : (d.setEngine n x).flt = d.flt := rfl
@[simp] theorem Dev.setEngine_trailRam (d : Dev) (n : Nat) (x : EngineX) : (d.setEngine n x).trailRam = d.trailRam := rfl
@[simp] theorem Dev.setEngine_macs (d : Dev) (n : Nat) (x : EngineX) : (d.setEngine n x).macs = d.macs := rfl
@[simp] theorem Dev.setEngine_ch (d : Dev) (n : Nat) (x : EngineX) : (d.setEngine n x).ch = d.ch := rfl
@[simp] theorem Dev.setEngine_tw (d : Dev) (n : Nat) (x : EngineX) : (d.setEngine n x).tw = d.tw := rfl
@[simp] theorem Dev.setEngine_rf (d : Dev) (n : Nat) (x : EngineX) : (d.setEngine n x).rf = d.rf := rfl
@[simp] theorem Dev.setEngine_sec (d : Dev) (n : Nat) (x : EngineX) : (d.setEngine n x).sec = d.sec := rfl
@[simp] theorem Dev.setEngine_dbg (d : Dev) (n : Nat) (x : EngineX) : (d.setEngine n x).dbg = d.dbg := rfl
@[simp] theorem Dev.setEngine_bus (d : Dev) (n : Nat) (x : EngineX) : (d.setEngine n x).bus = d.bus := rfl
@[simp] theorem Dev.setEngine_broken (d : Dev) (n : Nat) (x : EngineX) : (d.setEngine n x).broken = d.broken := rfl
@[simp] theorem Dev.setEngine_ins (d : Dev) (n : Nat) (x : EngineX) : (d.setEngine n x).ins = d.ins := rfl
@[simp] theorem Dev.setEngine_mesh (d : Dev) (n : Nat) (x : EngineX) : (d.setEngine n x).mesh = d.mesh := rfl
@[simp] theorem Dev.setEngine_outs (d : Dev) (n : Nat) (x : EngineX) : (d.setEngine n x).outs = d.outs := rfl
@[simp] theorem Dev.setEngine_hampers (d : Dev) (n : Nat) (x : EngineX) : (d.setEngine n x).hampers = d.hampers := rfl
@[simp] theorem Dev.setEngine_canopies (d : Dev) (n : Nat) (x : EngineX) : (d.setEngine n x).canopies = d.canopies := rfl
@[simp] theorem Dev.setEngine_inserters (d : Dev) (n : Nat) (x : EngineX) : (d.setEngine n x).inserters = d.inserters := rfl
@[simp] theorem Dev.setEngine_cn (d : Dev) (n : Nat) (x : EngineX) : (d.setEngine n x).cn = d.cn := rfl
@[simp] theorem Dev.setEngine_stores (d : Dev) (n : Nat) (x : EngineX) : (d.setEngine n x).stores = d.stores := rfl
@[simp] theorem Dev.setEngine_legs (d : Dev) (n : Nat) (x : EngineX) : (d.setEngine n x).legs = d.legs := rfl
@[simp] theorem Dev.setEngine_aos (d : Dev) (n : Nat) (x : EngineX) : (d.setEngine n x).aos = d.aos := rfl
@[simp] theorem Dev.setEngine_audioMesh (d : Dev) (n : Nat) (x : EngineX) : (d.setEngine n x).audioMesh = d.audioMesh := rfl
@[simp] theorem Dev.setEngine_mix (d : Dev) (n : Nat) (x : EngineX) : (d.setEngine n x).mix = d.mix := rfl
@[simp] theorem Dev.setEngine_aps (d : Dev) (n : Nat) (x : EngineX) : (d.setEngine n x).aps = d.aps := rfl
@[simp] theorem Dev.setEngine_fm (d : Dev) (n : Nat) (x : EngineX) : (d.setEngine n x).fm = d.fm := rfl
@[simp] theorem Dev.setEngine_reg (d : Dev) (n : Nat) (x : EngineX) (o j : Nat) : (d.setEngine n x).reg o j = d.reg o j := rfl
@[simp] theorem Dev.setEngine_flag (d : Dev) (n : Nat) (x : EngineX) (o j : Nat) : (d.setEngine n x).flag o j = d.flag o j := rfl
@[simp] theorem Dev.setEngine_now (d : Dev) (n : Nat) (x : EngineX) : (d.setEngine n x).now = d.now := rfl
@[simp] theorem Dev.setEngine_clock (d : Dev) (n : Nat) (x : EngineX) : (d.setEngine n x).clock = d.clock := rfl

/-! ### setCanopy -/

@[simp] theorem Dev.setCanopy_canopies (d : Dev) (g : Nat) (x : CanopyX) : (d.setCanopy g x).canopies = smSet d.canopies g x {} := rfl
@[simp] theorem Dev.setCanopy_regs (d : Dev) (g : Nat) (x : CanopyX) : (d.setCanopy g x).regs = d.regs := rfl
@[simp] theorem Dev.setCanopy_blobs (d : Dev) (g : Nat) (x : CanopyX) : (d.setCanopy g x).blobs = d.blobs := rfl
@[simp] theorem Dev.setCanopy_time (d : Dev) (g : Nat) (x : CanopyX) : (d.setCanopy g x).time = d.time := rfl
@[simp] theorem Dev.setCanopy_freeN (d : Dev) (g : Nat) (x : CanopyX) : (d.setCanopy g x).freeN = d.freeN := rfl
@[simp] theorem Dev.setCanopy_nv (d : Dev) (g : Nat) (x : CanopyX) : (d.setCanopy g x).nv = d.nv := rfl
@[simp] theorem Dev.setCanopy_life (d : Dev) (g : Nat) (x : CanopyX) : (d.setCanopy g x).life = d.life := rfl
@[simp] theorem Dev.setCanopy_ref (d : Dev) (g : Nat) (x : CanopyX) : (d.setCanopy g x).ref = d.ref := rfl
@[simp] theorem Dev.setCanopy_synth (d : Dev) (g : Nat) (x : CanopyX) : (d.setCanopy g x).synth = d.synth := rfl
@[simp] theorem Dev.setCanopy_clk (d : Dev) (g : Nat) (x : CanopyX) : (d.setCanopy g x).clk = d.clk := rfl
@[simp] theorem Dev.setCanopy_lanes (d : Dev) (g : Nat) (x : CanopyX) : (d.setCanopy g x).lanes = d.lanes := rfl
@[simp] theorem Dev.setCanopy_ltx (d : Dev) (g : Nat) (x : CanopyX) : (d.setCanopy g x).ltx = d.ltx := rfl
@[simp] theorem Dev.setCanopy_groups (d : Dev) (g : Nat) (x : CanopyX) : (d.setCanopy g x).groups = d.groups := rfl
@[simp] theorem Dev.setCanopy_flt (d : Dev) (g : Nat) (x : CanopyX) : (d.setCanopy g x).flt = d.flt := rfl
@[simp] theorem Dev.setCanopy_trailRam (d : Dev) (g : Nat) (x : CanopyX) : (d.setCanopy g x).trailRam = d.trailRam := rfl
@[simp] theorem Dev.setCanopy_macs (d : Dev) (g : Nat) (x : CanopyX) : (d.setCanopy g x).macs = d.macs := rfl
@[simp] theorem Dev.setCanopy_ch (d : Dev) (g : Nat) (x : CanopyX) : (d.setCanopy g x).ch = d.ch := rfl
@[simp] theorem Dev.setCanopy_tw (d : Dev) (g : Nat) (x : CanopyX) : (d.setCanopy g x).tw = d.tw := rfl
@[simp] theorem Dev.setCanopy_rf (d : Dev) (g : Nat) (x : CanopyX) : (d.setCanopy g x).rf = d.rf := rfl
@[simp] theorem Dev.setCanopy_sec (d : Dev) (g : Nat) (x : CanopyX) : (d.setCanopy g x).sec = d.sec := rfl
@[simp] theorem Dev.setCanopy_dbg (d : Dev) (g : Nat) (x : CanopyX) : (d.setCanopy g x).dbg = d.dbg := rfl
@[simp] theorem Dev.setCanopy_bus (d : Dev) (g : Nat) (x : CanopyX) : (d.setCanopy g x).bus = d.bus := rfl
@[simp] theorem Dev.setCanopy_broken (d : Dev) (g : Nat) (x : CanopyX) : (d.setCanopy g x).broken = d.broken := rfl
@[simp] theorem Dev.setCanopy_ins (d : Dev) (g : Nat) (x : CanopyX) : (d.setCanopy g x).ins = d.ins := rfl
@[simp] theorem Dev.setCanopy_mesh (d : Dev) (g : Nat) (x : CanopyX) : (d.setCanopy g x).mesh = d.mesh := rfl
@[simp] theorem Dev.setCanopy_outs (d : Dev) (g : Nat) (x : CanopyX) : (d.setCanopy g x).outs = d.outs := rfl
@[simp] theorem Dev.setCanopy_hampers (d : Dev) (g : Nat) (x : CanopyX) : (d.setCanopy g x).hampers = d.hampers := rfl
@[simp] theorem Dev.setCanopy_engines (d : Dev) (g : Nat) (x : CanopyX) : (d.setCanopy g x).engines = d.engines := rfl
@[simp] theorem Dev.setCanopy_inserters (d : Dev) (g : Nat) (x : CanopyX) : (d.setCanopy g x).inserters = d.inserters := rfl
@[simp] theorem Dev.setCanopy_cn (d : Dev) (g : Nat) (x : CanopyX) : (d.setCanopy g x).cn = d.cn := rfl
@[simp] theorem Dev.setCanopy_stores (d : Dev) (g : Nat) (x : CanopyX) : (d.setCanopy g x).stores = d.stores := rfl
@[simp] theorem Dev.setCanopy_legs (d : Dev) (g : Nat) (x : CanopyX) : (d.setCanopy g x).legs = d.legs := rfl
@[simp] theorem Dev.setCanopy_aos (d : Dev) (g : Nat) (x : CanopyX) : (d.setCanopy g x).aos = d.aos := rfl
@[simp] theorem Dev.setCanopy_audioMesh (d : Dev) (g : Nat) (x : CanopyX) : (d.setCanopy g x).audioMesh = d.audioMesh := rfl
@[simp] theorem Dev.setCanopy_mix (d : Dev) (g : Nat) (x : CanopyX) : (d.setCanopy g x).mix = d.mix := rfl
@[simp] theorem Dev.setCanopy_aps (d : Dev) (g : Nat) (x : CanopyX) : (d.setCanopy g x).aps = d.aps := rfl
@[simp] theorem Dev.setCanopy_fm (d : Dev) (g : Nat) (x : CanopyX) : (d.setCanopy g x).fm = d.fm := rfl
@[simp] theorem Dev.setCanopy_reg (d : Dev) (g : Nat) (x : CanopyX) (o j : Nat) : (d.setCanopy g x).reg o j = d.reg o j := rfl
@[simp] theorem Dev.setCanopy_flag (d : Dev) (g : Nat) (x : CanopyX) (o j : Nat) : (d.setCanopy g x).flag o j = d.flag o j := rfl
@[simp] theorem Dev.setCanopy_now (d : Dev) (g : Nat) (x : CanopyX) : (d.setCanopy g x).now = d.now := rfl
@[simp] theorem Dev.setCanopy_clock (d : Dev) (g : Nat) (x : CanopyX) : (d.setCanopy g x).clock = d.clock := rfl

/-! ### setInserter -/

@[simp] theorem Dev.setInserter_inserters (d : Dev) (n : Nat) (x : InserterX) : (d.setInserter n x).inserters = smSet d.inserters n x {} := rfl
@[simp] theorem Dev.setInserter_regs (d : Dev) (n : Nat) (x : InserterX) : (d.setInserter n x).regs = d.regs := rfl
@[simp] theorem Dev.setInserter_blobs (d : Dev) (n : Nat) (x : InserterX) : (d.setInserter n x).blobs = d.blobs := rfl
@[simp] theorem Dev.setInserter_time (d : Dev) (n : Nat) (x : InserterX) : (d.setInserter n x).time = d.time := rfl
@[simp] theorem Dev.setInserter_freeN (d : Dev) (n : Nat) (x : InserterX) : (d.setInserter n x).freeN = d.freeN := rfl
@[simp] theorem Dev.setInserter_nv (d : Dev) (n : Nat) (x : InserterX) : (d.setInserter n x).nv = d.nv := rfl
@[simp] theorem Dev.setInserter_life (d : Dev) (n : Nat) (x : InserterX) : (d.setInserter n x).life = d.life := rfl
@[simp] theorem Dev.setInserter_ref (d : Dev) (n : Nat) (x : InserterX) : (d.setInserter n x).ref = d.ref := rfl
@[simp] theorem Dev.setInserter_synth (d : Dev) (n : Nat) (x : InserterX) : (d.setInserter n x).synth = d.synth := rfl
@[simp] theorem Dev.setInserter_clk (d : Dev) (n : Nat) (x : InserterX) : (d.setInserter n x).clk = d.clk := rfl
@[simp] theorem Dev.setInserter_lanes (d : Dev) (n : Nat) (x : InserterX) : (d.setInserter n x).lanes = d.lanes := rfl
@[simp] theorem Dev.setInserter_ltx (d : Dev) (n : Nat) (x : InserterX) : (d.setInserter n x).ltx = d.ltx := rfl
@[simp] theorem Dev.setInserter_groups (d : Dev) (n : Nat) (x : InserterX) : (d.setInserter n x).groups = d.groups := rfl
@[simp] theorem Dev.setInserter_flt (d : Dev) (n : Nat) (x : InserterX) : (d.setInserter n x).flt = d.flt := rfl
@[simp] theorem Dev.setInserter_trailRam (d : Dev) (n : Nat) (x : InserterX) : (d.setInserter n x).trailRam = d.trailRam := rfl
@[simp] theorem Dev.setInserter_macs (d : Dev) (n : Nat) (x : InserterX) : (d.setInserter n x).macs = d.macs := rfl
@[simp] theorem Dev.setInserter_ch (d : Dev) (n : Nat) (x : InserterX) : (d.setInserter n x).ch = d.ch := rfl
@[simp] theorem Dev.setInserter_tw (d : Dev) (n : Nat) (x : InserterX) : (d.setInserter n x).tw = d.tw := rfl
@[simp] theorem Dev.setInserter_rf (d : Dev) (n : Nat) (x : InserterX) : (d.setInserter n x).rf = d.rf := rfl
@[simp] theorem Dev.setInserter_sec (d : Dev) (n : Nat) (x : InserterX) : (d.setInserter n x).sec = d.sec := rfl
@[simp] theorem Dev.setInserter_dbg (d : Dev) (n : Nat) (x : InserterX) : (d.setInserter n x).dbg = d.dbg := rfl
@[simp] theorem Dev.setInserter_bus (d : Dev) (n : Nat) (x : InserterX) : (d.setInserter n x).bus = d.bus := rfl
@[simp] theorem Dev.setInserter_broken (d : Dev) (n : Nat) (x : InserterX) : (d.setInserter n x).broken = d.broken := rfl
@[simp] theorem Dev.setInserter_ins (d : Dev) (n : Nat) (x : InserterX) : (d.setInserter n x).ins = d.ins := rfl
@[simp] theorem Dev.setInserter_mesh (d : Dev) (n : Nat) (x : InserterX) : (d.setInserter n x).mesh = d.mesh := rfl
@[simp] theorem Dev.setInserter_outs (d : Dev) (n : Nat) (x : InserterX) : (d.setInserter n x).outs = d.outs := rfl
@[simp] theorem Dev.setInserter_hampers (d : Dev) (n : Nat) (x : InserterX) : (d.setInserter n x).hampers = d.hampers := rfl
@[simp] theorem Dev.setInserter_engines (d : Dev) (n : Nat) (x : InserterX) : (d.setInserter n x).engines = d.engines := rfl
@[simp] theorem Dev.setInserter_canopies (d : Dev) (n : Nat) (x : InserterX) : (d.setInserter n x).canopies = d.canopies := rfl
@[simp] theorem Dev.setInserter_cn (d : Dev) (n : Nat) (x : InserterX) : (d.setInserter n x).cn = d.cn := rfl
@[simp] theorem Dev.setInserter_stores (d : Dev) (n : Nat) (x : InserterX) : (d.setInserter n x).stores = d.stores := rfl
@[simp] theorem Dev.setInserter_legs (d : Dev) (n : Nat) (x : InserterX) : (d.setInserter n x).legs = d.legs := rfl
@[simp] theorem Dev.setInserter_aos (d : Dev) (n : Nat) (x : InserterX) : (d.setInserter n x).aos = d.aos := rfl
@[simp] theorem Dev.setInserter_audioMesh (d : Dev) (n : Nat) (x : InserterX) : (d.setInserter n x).audioMesh = d.audioMesh := rfl
@[simp] theorem Dev.setInserter_mix (d : Dev) (n : Nat) (x : InserterX) : (d.setInserter n x).mix = d.mix := rfl
@[simp] theorem Dev.setInserter_aps (d : Dev) (n : Nat) (x : InserterX) : (d.setInserter n x).aps = d.aps := rfl
@[simp] theorem Dev.setInserter_fm (d : Dev) (n : Nat) (x : InserterX) : (d.setInserter n x).fm = d.fm := rfl
@[simp] theorem Dev.setInserter_reg (d : Dev) (n : Nat) (x : InserterX) (o j : Nat) : (d.setInserter n x).reg o j = d.reg o j := rfl
@[simp] theorem Dev.setInserter_flag (d : Dev) (n : Nat) (x : InserterX) (o j : Nat) : (d.setInserter n x).flag o j = d.flag o j := rfl
@[simp] theorem Dev.setInserter_now (d : Dev) (n : Nat) (x : InserterX) : (d.setInserter n x).now = d.now := rfl
@[simp] theorem Dev.setInserter_clock (d : Dev) (n : Nat) (x : InserterX) : (d.setInserter n x).clock = d.clock := rfl

/-! ### setStore -/

@[simp] theorem Dev.setStore_stores (d : Dev) (k : Nat) (x : StoreX) : (d.setStore k x).stores = smSet d.stores k x {} := rfl
@[simp] theorem Dev.setStore_regs (d : Dev) (k : Nat) (x : StoreX) : (d.setStore k x).regs = d.regs := rfl
@[simp] theorem Dev.setStore_blobs (d : Dev) (k : Nat) (x : StoreX) : (d.setStore k x).blobs = d.blobs := rfl
@[simp] theorem Dev.setStore_time (d : Dev) (k : Nat) (x : StoreX) : (d.setStore k x).time = d.time := rfl
@[simp] theorem Dev.setStore_freeN (d : Dev) (k : Nat) (x : StoreX) : (d.setStore k x).freeN = d.freeN := rfl
@[simp] theorem Dev.setStore_nv (d : Dev) (k : Nat) (x : StoreX) : (d.setStore k x).nv = d.nv := rfl
@[simp] theorem Dev.setStore_life (d : Dev) (k : Nat) (x : StoreX) : (d.setStore k x).life = d.life := rfl
@[simp] theorem Dev.setStore_ref (d : Dev) (k : Nat) (x : StoreX) : (d.setStore k x).ref = d.ref := rfl
@[simp] theorem Dev.setStore_synth (d : Dev) (k : Nat) (x : StoreX) : (d.setStore k x).synth = d.synth := rfl
@[simp] theorem Dev.setStore_clk (d : Dev) (k : Nat) (x : StoreX) : (d.setStore k x).clk = d.clk := rfl
@[simp] theorem Dev.setStore_lanes (d : Dev) (k : Nat) (x : StoreX) : (d.setStore k x).lanes = d.lanes := rfl
@[simp] theorem Dev.setStore_ltx (d : Dev) (k : Nat) (x : StoreX) : (d.setStore k x).ltx = d.ltx := rfl
@[simp] theorem Dev.setStore_groups (d : Dev) (k : Nat) (x : StoreX) : (d.setStore k x).groups = d.groups := rfl
@[simp] theorem Dev.setStore_flt (d : Dev) (k : Nat) (x : StoreX) : (d.setStore k x).flt = d.flt := rfl
@[simp] theorem Dev.setStore_trailRam (d : Dev) (k : Nat) (x : StoreX) : (d.setStore k x).trailRam = d.trailRam := rfl
@[simp] theorem Dev.setStore_macs (d : Dev) (k : Nat) (x : StoreX) : (d.setStore k x).macs = d.macs := rfl
@[simp] theorem Dev.setStore_ch (d : Dev) (k : Nat) (x : StoreX) : (d.setStore k x).ch = d.ch := rfl
@[simp] theorem Dev.setStore_tw (d : Dev) (k : Nat) (x : StoreX) : (d.setStore k x).tw = d.tw := rfl
@[simp] theorem Dev.setStore_rf (d : Dev) (k : Nat) (x : StoreX) : (d.setStore k x).rf = d.rf := rfl
@[simp] theorem Dev.setStore_sec (d : Dev) (k : Nat) (x : StoreX) : (d.setStore k x).sec = d.sec := rfl
@[simp] theorem Dev.setStore_dbg (d : Dev) (k : Nat) (x : StoreX) : (d.setStore k x).dbg = d.dbg := rfl
@[simp] theorem Dev.setStore_bus (d : Dev) (k : Nat) (x : StoreX) : (d.setStore k x).bus = d.bus := rfl
@[simp] theorem Dev.setStore_broken (d : Dev) (k : Nat) (x : StoreX) : (d.setStore k x).broken = d.broken := rfl
@[simp] theorem Dev.setStore_ins (d : Dev) (k : Nat) (x : StoreX) : (d.setStore k x).ins = d.ins := rfl
@[simp] theorem Dev.setStore_mesh (d : Dev) (k : Nat) (x : StoreX) : (d.setStore k x).mesh = d.mesh := rfl
@[simp] theorem Dev.setStore_outs (d : Dev) (k : Nat) (x : StoreX) : (d.setStore k x).outs = d.outs := rfl
@[simp] theorem Dev.setStore_hampers (d : Dev) (k : Nat) (x : StoreX) : (d.setStore k x).hampers = d.hampers := rfl
@[simp] theorem Dev.setStore_engines (d : Dev) (k : Nat) (x : StoreX) : (d.setStore k x).engines = d.engines := rfl
@[simp] theorem Dev.setStore_canopies (d : Dev) (k : Nat) (x : StoreX) : (d.setStore k x).canopies = d.canopies := rfl
@[simp] theorem Dev.setStore_inserters (d : Dev) (k : Nat) (x : StoreX) : (d.setStore k x).inserters = d.inserters := rfl
@[simp] theorem Dev.setStore_cn (d : Dev) (k : Nat) (x : StoreX) : (d.setStore k x).cn = d.cn := rfl
@[simp] theorem Dev.setStore_legs (d : Dev) (k : Nat) (x : StoreX) : (d.setStore k x).legs = d.legs := rfl
@[simp] theorem Dev.setStore_aos (d : Dev) (k : Nat) (x : StoreX) : (d.setStore k x).aos = d.aos := rfl
@[simp] theorem Dev.setStore_audioMesh (d : Dev) (k : Nat) (x : StoreX) : (d.setStore k x).audioMesh = d.audioMesh := rfl
@[simp] theorem Dev.setStore_mix (d : Dev) (k : Nat) (x : StoreX) : (d.setStore k x).mix = d.mix := rfl
@[simp] theorem Dev.setStore_aps (d : Dev) (k : Nat) (x : StoreX) : (d.setStore k x).aps = d.aps := rfl
@[simp] theorem Dev.setStore_fm (d : Dev) (k : Nat) (x : StoreX) : (d.setStore k x).fm = d.fm := rfl
@[simp] theorem Dev.setStore_reg (d : Dev) (k : Nat) (x : StoreX) (o j : Nat) : (d.setStore k x).reg o j = d.reg o j := rfl
@[simp] theorem Dev.setStore_flag (d : Dev) (k : Nat) (x : StoreX) (o j : Nat) : (d.setStore k x).flag o j = d.flag o j := rfl
@[simp] theorem Dev.setStore_now (d : Dev) (k : Nat) (x : StoreX) : (d.setStore k x).now = d.now := rfl
@[simp] theorem Dev.setStore_clock (d : Dev) (k : Nat) (x : StoreX) : (d.setStore k x).clock = d.clock := rfl

/-! ### setLeg -/

@[simp] theorem Dev.setLeg_legs (d : Dev) (k : Nat) (x : LegX) : (d.setLeg k x).legs = smSet d.legs k x {} := rfl
@[simp] theorem Dev.setLeg_regs (d : Dev) (k : Nat) (x : LegX) : (d.setLeg k x).regs = d.regs := rfl
@[simp] theorem Dev.setLeg_blobs (d : Dev) (k : Nat) (x : LegX) : (d.setLeg k x).blobs = d.blobs := rfl
@[simp] theorem Dev.setLeg_time (d : Dev) (k : Nat) (x : LegX) : (d.setLeg k x).time = d.time := rfl
@[simp] theorem Dev.setLeg_freeN (d : Dev) (k : Nat) (x : LegX) : (d.setLeg k x).freeN = d.freeN := rfl
@[simp] theorem Dev.setLeg_nv (d : Dev) (k : Nat) (x : LegX) : (d.setLeg k x).nv = d.nv := rfl
@[simp] theorem Dev.setLeg_life (d : Dev) (k : Nat) (x : LegX) : (d.setLeg k x).life = d.life := rfl
@[simp] theorem Dev.setLeg_ref (d : Dev) (k : Nat) (x : LegX) : (d.setLeg k x).ref = d.ref := rfl
@[simp] theorem Dev.setLeg_synth (d : Dev) (k : Nat) (x : LegX) : (d.setLeg k x).synth = d.synth := rfl
@[simp] theorem Dev.setLeg_clk (d : Dev) (k : Nat) (x : LegX) : (d.setLeg k x).clk = d.clk := rfl
@[simp] theorem Dev.setLeg_lanes (d : Dev) (k : Nat) (x : LegX) : (d.setLeg k x).lanes = d.lanes := rfl
@[simp] theorem Dev.setLeg_ltx (d : Dev) (k : Nat) (x : LegX) : (d.setLeg k x).ltx = d.ltx := rfl
@[simp] theorem Dev.setLeg_groups (d : Dev) (k : Nat) (x : LegX) : (d.setLeg k x).groups = d.groups := rfl
@[simp] theorem Dev.setLeg_flt (d : Dev) (k : Nat) (x : LegX) : (d.setLeg k x).flt = d.flt := rfl
@[simp] theorem Dev.setLeg_trailRam (d : Dev) (k : Nat) (x : LegX) : (d.setLeg k x).trailRam = d.trailRam := rfl
@[simp] theorem Dev.setLeg_macs (d : Dev) (k : Nat) (x : LegX) : (d.setLeg k x).macs = d.macs := rfl
@[simp] theorem Dev.setLeg_ch (d : Dev) (k : Nat) (x : LegX) : (d.setLeg k x).ch = d.ch := rfl
@[simp] theorem Dev.setLeg_tw (d : Dev) (k : Nat) (x : LegX) : (d.setLeg k x).tw = d.tw := rfl
@[simp] theorem Dev.setLeg_rf (d : Dev) (k : Nat) (x : LegX) : (d.setLeg k x).rf = d.rf := rfl
@[simp] theorem Dev.setLeg_sec (d : Dev) (k : Nat) (x : LegX) : (d.setLeg k x).sec = d.sec := rfl
@[simp] theorem Dev.setLeg_dbg (d : Dev) (k : Nat) (x : LegX) : (d.setLeg k x).dbg = d.dbg := rfl
@[simp] theorem Dev.setLeg_bus (d : Dev) (k : Nat) (x : LegX) : (d.setLeg k x).bus = d.bus := rfl
@[simp] theorem Dev.setLeg_broken (d : Dev) (k : Nat) (x : LegX) : (d.setLeg k x).broken = d.broken := rfl
@[simp] theorem Dev.setLeg_ins (d : Dev) (k : Nat) (x : LegX) : (d.setLeg k x).ins = d.ins := rfl
@[simp] theorem Dev.setLeg_mesh (d : Dev) (k : Nat) (x : LegX) : (d.setLeg k x).mesh = d.mesh := rfl
@[simp] theorem Dev.setLeg_outs (d : Dev) (k : Nat) (x : LegX) : (d.setLeg k x).outs = d.outs := rfl
@[simp] theorem Dev.setLeg_hampers (d : Dev) (k : Nat) (x : LegX) : (d.setLeg k x).hampers = d.hampers := rfl
@[simp] theorem Dev.setLeg_engines (d : Dev) (k : Nat) (x : LegX) : (d.setLeg k x).engines = d.engines := rfl
@[simp] theorem Dev.setLeg_canopies (d : Dev) (k : Nat) (x : LegX) : (d.setLeg k x).canopies = d.canopies := rfl
@[simp] theorem Dev.setLeg_inserters (d : Dev) (k : Nat) (x : LegX) : (d.setLeg k x).inserters = d.inserters := rfl
@[simp] theorem Dev.setLeg_cn (d : Dev) (k : Nat) (x : LegX) : (d.setLeg k x).cn = d.cn := rfl
@[simp] theorem Dev.setLeg_stores (d : Dev) (k : Nat) (x : LegX) : (d.setLeg k x).stores = d.stores := rfl
@[simp] theorem Dev.setLeg_aos (d : Dev) (k : Nat) (x : LegX) : (d.setLeg k x).aos = d.aos := rfl
@[simp] theorem Dev.setLeg_audioMesh (d : Dev) (k : Nat) (x : LegX) : (d.setLeg k x).audioMesh = d.audioMesh := rfl
@[simp] theorem Dev.setLeg_mix (d : Dev) (k : Nat) (x : LegX) : (d.setLeg k x).mix = d.mix := rfl
@[simp] theorem Dev.setLeg_aps (d : Dev) (k : Nat) (x : LegX) : (d.setLeg k x).aps = d.aps := rfl
@[simp] theorem Dev.setLeg_fm (d : Dev) (k : Nat) (x : LegX) : (d.setLeg k x).fm = d.fm := rfl
@[simp] theorem Dev.setLeg_reg (d : Dev) (k : Nat) (x : LegX) (o j : Nat) : (d.setLeg k x).reg o j = d.reg o j := rfl
@[simp] theorem Dev.setLeg_flag (d : Dev) (k : Nat) (x : LegX) (o j : Nat) : (d.setLeg k x).flag o j = d.flag o j := rfl
@[simp] theorem Dev.setLeg_now (d : Dev) (k : Nat) (x : LegX) : (d.setLeg k x).now = d.now := rfl
@[simp] theorem Dev.setLeg_clock (d : Dev) (k : Nat) (x : LegX) : (d.setLeg k x).clock = d.clock := rfl

/-! ### setAo -/

@[simp] theorem Dev.setAo_aos (d : Dev) (a : Nat) (x : AoX) : (d.setAo a x).aos = smSet d.aos a x {} := rfl
@[simp] theorem Dev.setAo_regs (d : Dev) (a : Nat) (x : AoX) : (d.setAo a x).regs = d.regs := rfl
@[simp] theorem Dev.setAo_blobs (d : Dev) (a : Nat) (x : AoX) : (d.setAo a x).blobs = d.blobs := rfl
@[simp] theorem Dev.setAo_time (d : Dev) (a : Nat) (x : AoX) : (d.setAo a x).time = d.time := rfl
@[simp] theorem Dev.setAo_freeN (d : Dev) (a : Nat) (x : AoX) : (d.setAo a x).freeN = d.freeN := rfl
@[simp] theorem Dev.setAo_nv (d : Dev) (a : Nat) (x : AoX) : (d.setAo a x).nv = d.nv := rfl
@[simp] theorem Dev.setAo_life (d : Dev) (a : Nat) (x : AoX) : (d.setAo a x).life = d.life := rfl
@[simp] theorem Dev.setAo_ref (d : Dev) (a : Nat) (x : AoX) : (d.setAo a x).ref = d.ref := rfl
@[simp] theorem Dev.setAo_synth (d : Dev) (a : Nat) (x : AoX) : (d.setAo a x).synth = d.synth := rfl
@[simp] theorem Dev.setAo_clk (d : Dev) (a : Nat) (x : AoX) : (d.setAo a x).clk = d.clk := rfl
@[simp] theorem Dev.setAo_lanes (d : Dev) (a : Nat) (x : AoX) : (d.setAo a x).lanes = d.lanes := rfl
@[simp] theorem Dev.setAo_ltx (d : Dev) (a : Nat) (x : AoX) : (d.setAo a x).ltx = d.ltx := rfl
@[simp] theorem Dev.setAo_groups (d : Dev) (a : Nat) (x : AoX) : (d.setAo a x).groups = d.groups := rfl
@[simp] theorem Dev.setAo_flt (d : Dev) (a : Nat) (x : AoX) : (d.setAo a x).flt = d.flt := rfl
@[simp] theorem Dev.setAo_trailRam (d : Dev) (a : Nat) (x : AoX) : (d.setAo a x).trailRam = d.trailRam := rfl
@[simp] theorem Dev.setAo_macs (d : Dev) (a : Nat) (x : AoX) : (d.setAo a x).macs = d.macs := rfl
@[simp] theorem Dev.setAo_ch (d : Dev) (a : Nat) (x : AoX) : (d.setAo a x).ch = d.ch := rfl
@[simp] theorem Dev.setAo_tw (d : Dev) (a : Nat) (x : AoX) : (d.setAo a x).tw = d.tw := rfl
@[simp] theorem Dev.setAo_rf (d : Dev) (a : Nat) (x : AoX) : (d.setAo a x).rf = d.rf := rfl
@[simp] theorem Dev.setAo_sec (d : Dev) (a : Nat) (x : AoX) : (d.setAo a x).sec = d.sec := rfl
@[simp] theorem Dev.setAo_dbg (d : Dev) (a : Nat) (x : AoX) : (d.setAo a x).dbg = d.dbg := rfl
@[simp] theorem Dev.setAo_bus (d : Dev) (a : Nat) (x : AoX) : (d.setAo a x).bus = d.bus := rfl
@[simp] theorem Dev.setAo_broken (d : Dev) (a : Nat) (x : AoX) : (d.setAo a x).broken = d.broken := rfl
@[simp] theorem Dev.setAo_ins (d : Dev) (a : Nat) (x : AoX) : (d.setAo a x).ins = d.ins := rfl
@[simp] theorem Dev.setAo_mesh (d : Dev) (a : Nat) (x : AoX) : (d.setAo a x).mesh = d.mesh := rfl
@[simp] theorem Dev.setAo_outs (d : Dev) (a : Nat) (x : AoX) : (d.setAo a x).outs = d.outs := rfl
@[simp] theorem Dev.setAo_hampers (d : Dev) (a : Nat) (x : AoX) : (d.setAo a x).hampers = d.hampers := rfl
@[simp] theorem Dev.setAo_engines (d : Dev) (a : Nat) (x : AoX) : (d.setAo a x).engines = d.engines := rfl
@[simp] theorem Dev.setAo_canopies (d : Dev) (a : Nat) (x : AoX) : (d.setAo a x).canopies = d.canopies := rfl
@[simp] theorem Dev.setAo_inserters (d : Dev) (a : Nat) (x : AoX) : (d.setAo a x).inserters = d.inserters := rfl
@[simp] theorem Dev.setAo_cn (d : Dev) (a : Nat) (x : AoX) : (d.setAo a x).cn = d.cn := rfl
@[simp] theorem Dev.setAo_stores (d : Dev) (a : Nat) (x : AoX) : (d.setAo a x).stores = d.stores := rfl
@[simp] theorem Dev.setAo_legs (d : Dev) (a : Nat) (x : AoX) : (d.setAo a x).legs = d.legs := rfl
@[simp] theorem Dev.setAo_audioMesh (d : Dev) (a : Nat) (x : AoX) : (d.setAo a x).audioMesh = d.audioMesh := rfl
@[simp] theorem Dev.setAo_mix (d : Dev) (a : Nat) (x : AoX) : (d.setAo a x).mix = d.mix := rfl
@[simp] theorem Dev.setAo_aps (d : Dev) (a : Nat) (x : AoX) : (d.setAo a x).aps = d.aps := rfl
@[simp] theorem Dev.setAo_fm (d : Dev) (a : Nat) (x : AoX) : (d.setAo a x).fm = d.fm := rfl
@[simp] theorem Dev.setAo_reg (d : Dev) (a : Nat) (x : AoX) (o j : Nat) : (d.setAo a x).reg o j = d.reg o j := rfl
@[simp] theorem Dev.setAo_flag (d : Dev) (a : Nat) (x : AoX) (o j : Nat) : (d.setAo a x).flag o j = d.flag o j := rfl
@[simp] theorem Dev.setAo_now (d : Dev) (a : Nat) (x : AoX) : (d.setAo a x).now = d.now := rfl
@[simp] theorem Dev.setAo_clock (d : Dev) (a : Nat) (x : AoX) : (d.setAo a x).clock = d.clock := rfl

/-! ### setAp -/

@[simp] theorem Dev.setAp_aps (d : Dev) (n : Nat) (x : ApX) : (d.setAp n x).aps = smSet d.aps n x {} := rfl
@[simp] theorem Dev.setAp_regs (d : Dev) (n : Nat) (x : ApX) : (d.setAp n x).regs = d.regs := rfl
@[simp] theorem Dev.setAp_blobs (d : Dev) (n : Nat) (x : ApX) : (d.setAp n x).blobs = d.blobs := rfl
@[simp] theorem Dev.setAp_time (d : Dev) (n : Nat) (x : ApX) : (d.setAp n x).time = d.time := rfl
@[simp] theorem Dev.setAp_freeN (d : Dev) (n : Nat) (x : ApX) : (d.setAp n x).freeN = d.freeN := rfl
@[simp] theorem Dev.setAp_nv (d : Dev) (n : Nat) (x : ApX) : (d.setAp n x).nv = d.nv := rfl
@[simp] theorem Dev.setAp_life (d : Dev) (n : Nat) (x : ApX) : (d.setAp n x).life = d.life := rfl
@[simp] theorem Dev.setAp_ref (d : Dev) (n : Nat) (x : ApX) : (d.setAp n x).ref = d.ref := rfl
@[simp] theorem Dev.setAp_synth (d : Dev) (n : Nat) (x : ApX) : (d.setAp n x).synth = d.synth := rfl
@[simp] theorem Dev.setAp_clk (d : Dev) (n : Nat) (x : ApX) : (d.setAp n x).clk = d.clk := rfl
@[simp] theorem Dev.setAp_lanes (d : Dev) (n : Nat) (x : ApX) : (d.setAp n x).lanes = d.lanes := rfl
@[simp] theorem Dev.setAp_ltx (d : Dev) (n : Nat) (x : ApX) : (d.setAp n x).ltx = d.ltx := rfl
@[simp] theorem Dev.setAp_groups (d : Dev) (n : Nat) (x : ApX) : (d.setAp n x).groups = d.groups := rfl
@[simp] theorem Dev.setAp_flt (d : Dev) (n : Nat) (x : ApX) : (d.setAp n x).flt = d.flt := rfl
@[simp] theorem Dev.setAp_trailRam (d : Dev) (n : Nat) (x : ApX) : (d.setAp n x).trailRam = d.trailRam := rfl
@[simp] theorem Dev.setAp_macs (d : Dev) (n : Nat) (x : ApX) : (d.setAp n x).macs = d.macs := rfl
@[simp] theorem Dev.setAp_ch (d : Dev) (n : Nat) (x : ApX) : (d.setAp n x).ch = d.ch := rfl
@[simp] theorem Dev.setAp_tw (d : Dev) (n : Nat) (x : ApX) : (d.setAp n x).tw = d.tw := rfl
@[simp] theorem Dev.setAp_rf (d : Dev) (n : Nat) (x : ApX) : (d.setAp n x).rf = d.rf := rfl
@[simp] theorem Dev.setAp_sec (d : Dev) (n : Nat) (x : ApX) : (d.setAp n x).sec = d.sec := rfl
@[simp] theorem Dev.setAp_dbg (d : Dev) (n : Nat) (x : ApX) : (d.setAp n x).dbg = d.dbg := rfl
@[simp] theorem Dev.setAp_bus (d : Dev) (n : Nat) (x : ApX) : (d.setAp n x).bus = d.bus := rfl
@[simp] theorem Dev.setAp_broken (d : Dev) (n : Nat) (x : ApX) : (d.setAp n x).broken = d.broken := rfl
@[simp] theorem Dev.setAp_ins (d : Dev) (n : Nat) (x : ApX) : (d.setAp n x).ins = d.ins := rfl
@[simp] theorem Dev.setAp_mesh (d : Dev) (n : Nat) (x : ApX) : (d.setAp n x).mesh = d.mesh := rfl
@[simp] theorem Dev.setAp_outs (d : Dev) (n : Nat) (x : ApX) : (d.setAp n x).outs = d.outs := rfl
@[simp] theorem Dev.setAp_hampers (d : Dev) (n : Nat) (x : ApX) : (d.setAp n x).hampers = d.hampers := rfl
@[simp] theorem Dev.setAp_engines (d : Dev) (n : Nat) (x : ApX) : (d.setAp n x).engines = d.engines := rfl
@[simp] theorem Dev.setAp_canopies (d : Dev) (n : Nat) (x : ApX) : (d.setAp n x).canopies = d.canopies := rfl
@[simp] theorem Dev.setAp_inserters (d : Dev) (n : Nat) (x : ApX) : (d.setAp n x).inserters = d.inserters := rfl
@[simp] theorem Dev.setAp_cn (d : Dev) (n : Nat) (x : ApX) : (d.setAp n x).cn = d.cn := rfl
@[simp] theorem Dev.setAp_stores (d : Dev) (n : Nat) (x : ApX) : (d.setAp n x).stores = d.stores := rfl
@[simp] theorem Dev.setAp_legs (d : Dev) (n : Nat) (x : ApX) : (d.setAp n x).legs = d.legs := rfl
@[simp] theorem Dev.setAp_aos (d : Dev) (n : Nat) (x : ApX) : (d.setAp n x).aos = d.aos := rfl
@[simp] theorem Dev.setAp_audioMesh (d : Dev) (n : Nat) (x : ApX) : (d.setAp n x).audioMesh = d.audioMesh := rfl
@[simp] theorem Dev.setAp_mix (d : Dev) (n : Nat) (x : ApX) : (d.setAp n x).mix = d.mix := rfl
@[simp] theorem Dev.setAp_fm (d : Dev) (n : Nat) (x : ApX) : (d.setAp n x).fm = d.fm := rfl
@[simp] theorem Dev.setAp_reg (d : Dev) (n : Nat) (x : ApX) (o j : Nat) : (d.setAp n x).reg o j = d.reg o j := rfl
@[simp] theorem Dev.setAp_flag (d : Dev) (n : Nat) (x : ApX) (o j : Nat) : (d.setAp n x).flag o j = d.flag o j := rfl
@[simp] theorem Dev.setAp_now (d : Dev) (n : Nat) (x : ApX) : (d.setAp n x).now = d.now := rfl
@[simp] theorem Dev.setAp_clock (d : Dev) (n : Nat) (x : ApX) : (d.setAp n x).clock = d.clock := rfl

/-! ### modFm -/

@[simp] theorem Dev.modFm_fm (d : Dev) (f : FmX → FmX) : (d.modFm f).fm = f d.fm := rfl
@[simp] theorem Dev.modFm_regs (d : Dev) (f : FmX → FmX) : (d.modFm f).regs = d.regs := rfl
@[simp] theorem Dev.modFm_blobs (d : Dev) (f : FmX → FmX) : (d.modFm f).blobs = d.blobs := rfl
@[simp] theorem Dev.modFm_time (d : Dev) (f : FmX → FmX) : (d.modFm f).time = d.time := rfl
@[simp] theorem Dev.modFm_freeN (d : Dev) (f : FmX → FmX) : (d.modFm f).freeN = d.freeN := rfl
@[simp] theorem Dev.modFm_nv (d : Dev) (f : FmX → FmX) : (d.modFm f).nv = d.nv := rfl
@[simp] theorem Dev.modFm_life (d : Dev) (f : FmX → FmX) : (d.modFm f).life = d.life := rfl
@[simp] theorem Dev.modFm_ref (d : Dev) (f : FmX → FmX) : (d.modFm f).ref = d.ref := rfl
@[simp] theorem Dev.modFm_synth (d : Dev) (f : FmX → FmX) : (d.modFm f).synth = d.synth := rfl
@[simp] theorem Dev.modFm_clk (d : Dev) (f : FmX → FmX) : (d.modFm f).clk = d.clk := rfl
@[simp] theorem Dev.modFm_lanes (d : Dev) (f : FmX → FmX) : (d.modFm f).lanes = d.lanes := rfl
@[simp] theorem Dev.modFm_ltx (d : Dev) (f : FmX → FmX) : (d.modFm f).ltx = d.ltx := rfl
@[simp] theorem Dev.modFm_groups (d : Dev) (f : FmX → FmX) : (d.modFm f).groups = d.groups := rfl
@[simp] theorem Dev.modFm_flt (d : Dev) (f : FmX → FmX) : (d.modFm f).flt = d.flt := rfl
@[simp] theorem Dev.modFm_trailRam (d : Dev) (f : FmX → FmX) : (d.modFm f).trailRam = d.trailRam := rfl
@[simp] theorem Dev.modFm_macs (d : Dev) (f : FmX → FmX) : (d.modFm f).macs = d.macs := rfl
@[simp] theorem Dev.modFm_ch (d : Dev) (f : FmX → FmX) : (d.modFm f).ch = d.ch := rfl
@[simp] theorem Dev.modFm_tw (d : Dev) (f : FmX → FmX) : (d.modFm f).tw = d.tw := rfl
@[simp] theorem Dev.modFm_rf (d : Dev) (f : FmX → FmX) : (d.modFm f).rf = d.rf := rfl
@[simp] theorem Dev.modFm_sec (d : Dev) (f : FmX → FmX) : (d.modFm f).sec = d.sec := rfl
@[simp] theorem Dev.modFm_dbg (d : Dev) (f : FmX → FmX) : (d.modFm f).dbg = d.dbg := rfl
@[simp] theorem Dev.modFm_bus (d : Dev) (f : FmX → FmX) : (d.modFm f).bus = d.bus := rfl
@[simp] theorem Dev.modFm_broken (d : Dev) (f : FmX → FmX) : (d.modFm f).broken = d.broken := rfl
@[simp] theorem Dev.modFm_ins (d : Dev) (f : FmX → FmX) : (d.modFm f).ins = d.ins := rfl
@[simp] theorem Dev.modFm_mesh (d : Dev) (f : FmX → FmX) : (d.modFm f).mesh = d.mesh := rfl
@[simp] theorem Dev.modFm_outs (d : Dev) (f : FmX → FmX) : (d.modFm f).outs = d.outs := rfl
@[simp] theorem Dev.modFm_hampers (d : Dev) (f : FmX → FmX) : (d.modFm f).hampers = d.hampers := rfl
@[simp] theorem Dev.modFm_engines (d : Dev) (f : FmX → FmX) : (d.modFm f).engines = d.engines := rfl
@[simp] theorem Dev.modFm_canopies (d : Dev) (f : FmX → FmX) : (d.modFm f).canopies = d.canopies := rfl
@[simp] theorem Dev.modFm_inserters (d : Dev) (f : FmX → FmX) : (d.modFm f).inserters = d.inserters := rfl
@[simp] theorem Dev.modFm_cn (d : Dev) (f : FmX → FmX) : (d.modFm f).cn = d.cn := rfl
@[simp] theorem Dev.modFm_stores (d : Dev) (f : FmX → FmX) : (d.modFm f).stores = d.stores := rfl
@[simp] theorem Dev.modFm_legs (d : Dev) (f : FmX → FmX) : (d.modFm f).legs = d.legs := rfl
@[simp] theorem Dev.modFm_aos (d : Dev) (f : FmX → FmX) : (d.modFm f).aos = d.aos := rfl
@[simp] theorem Dev.modFm_audioMesh (d : Dev) (f : FmX → FmX) : (d.modFm f).audioMesh = d.audioMesh := rfl
@[simp] theorem Dev.modFm_mix (d : Dev) (f : FmX → FmX) : (d.modFm f).mix = d.mix := rfl
@[simp] theorem Dev.modFm_aps (d : Dev) (f : FmX → FmX) : (d.modFm f).aps = d.aps := rfl
@[simp] theorem Dev.modFm_reg (d : Dev) (f : FmX → FmX) (o j : Nat) : (d.modFm f).reg o j = d.reg o j := rfl
@[simp] theorem Dev.modFm_flag (d : Dev) (f : FmX → FmX) (o j : Nat) : (d.modFm f).flag o j = d.flag o j := rfl
@[simp] theorem Dev.modFm_now (d : Dev) (f : FmX → FmX) : (d.modFm f).now = d.now := rfl
@[simp] theorem Dev.modFm_clock (d : Dev) (f : FmX → FmX) : (d.modFm f).clock = d.clock := rfl

/-! ### ask -/

@[simp] theorem Dev.ask_regs (d : Dev) (r : Reaction) : (d.ask r).regs = d.regs := rfl
@[simp] theorem Dev.ask_blobs (d : Dev) (r : Reaction) : (d.ask r).blobs = d.blobs := rfl
@[simp] theorem Dev.ask_time (d : Dev) (r : Reaction) : (d.ask r).time = d.time := rfl
@[simp] theorem Dev.ask_freeN (d : Dev) (r : Reaction) : (d.ask r).freeN = d.freeN := rfl
@[simp] theorem Dev.ask_nv (d : Dev) (r : Reaction) : (d.ask r).nv = d.nv := rfl
@[simp] theorem Dev.ask_life (d : Dev) (r : Reaction) : (d.ask r).life = d.life := rfl
@[simp] theorem Dev.ask_ref (d : Dev) (r : Reaction) : (d.ask r).ref = d.ref := rfl
@[simp] theorem Dev.ask_synth (d : Dev) (r : Reaction) : (d.ask r).synth = d.synth := rfl
@[simp] theorem Dev.ask_clk (d : Dev) (r : Reaction) : (d.ask r).clk = d.clk := rfl
@[simp] theorem Dev.ask_lanes (d : Dev) (r : Reaction) : (d.ask r).lanes = d.lanes := rfl
@[simp] theorem Dev.ask_ltx (d : Dev) (r : Reaction) : (d.ask r).ltx = d.ltx := rfl
@[simp] theorem Dev.ask_groups (d : Dev) (r : Reaction) : (d.ask r).groups = d.groups := rfl
@[simp] theorem Dev.ask_trailRam (d : Dev) (r : Reaction) : (d.ask r).trailRam = d.trailRam := rfl
@[simp] theorem Dev.ask_macs (d : Dev) (r : Reaction) : (d.ask r).macs = d.macs := rfl
@[simp] theorem Dev.ask_ch (d : Dev) (r : Reaction) : (d.ask r).ch = d.ch := rfl
@[simp] theorem Dev.ask_tw (d : Dev) (r : Reaction) : (d.ask r).tw = d.tw := rfl
@[simp] theorem Dev.ask_rf (d : Dev) (r : Reaction) : (d.ask r).rf = d.rf := rfl
@[simp] theorem Dev.ask_sec (d : Dev) (r : Reaction) : (d.ask r).sec = d.sec := rfl
@[simp] theorem Dev.ask_dbg (d : Dev) (r : Reaction) : (d.ask r).dbg = d.dbg := rfl
@[simp] theorem Dev.ask_bus (d : Dev) (r : Reaction) : (d.ask r).bus = d.bus := rfl
@[simp] theorem Dev.ask_broken (d : Dev) (r : Reaction) : (d.ask r).broken = d.broken := rfl
@[simp] theorem Dev.ask_ins (d : Dev) (r : Reaction) : (d.ask r).ins = d.ins := rfl
@[simp] theorem Dev.ask_mesh (d : Dev) (r : Reaction) : (d.ask r).mesh = d.mesh := rfl
@[simp] theorem Dev.ask_outs (d : Dev) (r : Reaction) : (d.ask r).outs = d.outs := rfl
@[simp] theorem Dev.ask_hampers (d : Dev) (r : Reaction) : (d.ask r).hampers = d.hampers := rfl
@[simp] theorem Dev.ask_engines (d : Dev) (r : Reaction) : (d.ask r).engines = d.engines := rfl
@[simp] theorem Dev.ask_canopies (d : Dev) (r : Reaction) : (d.ask r).canopies = d.canopies := rfl
@[simp] theorem Dev.ask_inserters (d : Dev) (r : Reaction) : (d.ask r).inserters = d.inserters := rfl
@[simp] theorem Dev.ask_cn (d : Dev) (r : Reaction) : (d.ask r).cn = d.cn := rfl
@[simp] theorem Dev.ask_stores (d : Dev) (r : Reaction) : (d.ask r).stores = d.stores := rfl
@[simp] theorem Dev.ask_legs (d : Dev) (r : Reaction) : (d.ask r).legs = d.legs := rfl
@[simp] theorem Dev.ask_aos (d : Dev) (r : Reaction) : (d.ask r).aos = d.aos := rfl
@[simp] theorem Dev.ask_audioMesh (d : Dev) (r : Reaction) : (d.ask r).audioMesh = d.audioMesh := rfl
@[simp] theorem Dev.ask_mix (d : Dev) (r : Reaction) : (d.ask r).mix = d.mix := rfl
@[simp] theorem Dev.ask_aps (d : Dev) (r : Reaction) : (d.ask r).aps = d.aps := rfl
@[simp] theorem Dev.ask_fm (d : Dev) (r : Reaction) : (d.ask r).fm = d.fm := rfl
@[simp] theorem Dev.ask_reg (d : Dev) (r : Reaction) (o j : Nat) : (d.ask r).reg o j = d.reg o j := rfl
@[simp] theorem Dev.ask_flag (d : Dev) (r : Reaction) (o j : Nat) : (d.ask r).flag o j = d.flag o j := rfl
@[simp] theorem Dev.ask_now (d : Dev) (r : Reaction) : (d.ask r).now = d.now := rfl
@[simp] theorem Dev.ask_clock (d : Dev) (r : Reaction) : (d.ask r).clock = d.clock := rfl

/-! ### passTo: time passes, and nothing else -/

theorem Dev.passTo_frame (d : Dev) (at_ : Nat) : ∃ t, d.passTo at_ = { d with time := t } := by
  unfold Dev.passTo
  split
  · exact ⟨_, rfl⟩
  · exact ⟨_, rfl⟩

@[simp] theorem Dev.passTo_regs (d : Dev) (at_ : Nat) : (d.passTo at_).regs = d.regs := by
  obtain ⟨_, h⟩ := d.passTo_frame at_; rw [h]
@[simp] theorem Dev.passTo_blobs (d : Dev) (at_ : Nat) : (d.passTo at_).blobs = d.blobs := by
  obtain ⟨_, h⟩ := d.passTo_frame at_; rw [h]
@[simp] theorem Dev.passTo_freeN (d : Dev) (at_ : Nat) : (d.passTo at_).freeN = d.freeN := by
  obtain ⟨_, h⟩ := d.passTo_frame at_; rw [h]
@[simp] theorem Dev.passTo_nv (d : Dev) (at_ : Nat) : (d.passTo at_).nv = d.nv := by
  obtain ⟨_, h⟩ := d.passTo_frame at_; rw [h]
@[simp] theorem Dev.passTo_life (d : Dev) (at_ : Nat) : (d.passTo at_).life = d.life := by
  obtain ⟨_, h⟩ := d.passTo_frame at_; rw [h]
@[simp] theorem Dev.passTo_ref (d : Dev) (at_ : Nat) : (d.passTo at_).ref = d.ref := by
  obtain ⟨_, h⟩ := d.passTo_frame at_; rw [h]
@[simp] theorem Dev.passTo_synth (d : Dev) (at_ : Nat) : (d.passTo at_).synth = d.synth := by
  obtain ⟨_, h⟩ := d.passTo_frame at_; rw [h]
@[simp] theorem Dev.passTo_clk (d : Dev) (at_ : Nat) : (d.passTo at_).clk = d.clk := by
  obtain ⟨_, h⟩ := d.passTo_frame at_; rw [h]
@[simp] theorem Dev.passTo_lanes (d : Dev) (at_ : Nat) : (d.passTo at_).lanes = d.lanes := by
  obtain ⟨_, h⟩ := d.passTo_frame at_; rw [h]
@[simp] theorem Dev.passTo_ltx (d : Dev) (at_ : Nat) : (d.passTo at_).ltx = d.ltx := by
  obtain ⟨_, h⟩ := d.passTo_frame at_; rw [h]
@[simp] theorem Dev.passTo_groups (d : Dev) (at_ : Nat) : (d.passTo at_).groups = d.groups := by
  obtain ⟨_, h⟩ := d.passTo_frame at_; rw [h]
@[simp] theorem Dev.passTo_flt (d : Dev) (at_ : Nat) : (d.passTo at_).flt = d.flt := by
  obtain ⟨_, h⟩ := d.passTo_frame at_; rw [h]
@[simp] theorem Dev.passTo_trailRam (d : Dev) (at_ : Nat) : (d.passTo at_).trailRam = d.trailRam := by
  obtain ⟨_, h⟩ := d.passTo_frame at_; rw [h]
@[simp] theorem Dev.passTo_macs (d : Dev) (at_ : Nat) : (d.passTo at_).macs = d.macs := by
  obtain ⟨_, h⟩ := d.passTo_frame at_; rw [h]
@[simp] theorem Dev.passTo_ch (d : Dev) (at_ : Nat) : (d.passTo at_).ch = d.ch := by
  obtain ⟨_, h⟩ := d.passTo_frame at_; rw [h]
@[simp] theorem Dev.passTo_tw (d : Dev) (at_ : Nat) : (d.passTo at_).tw = d.tw := by
  obtain ⟨_, h⟩ := d.passTo_frame at_; rw [h]
@[simp] theorem Dev.passTo_rf (d : Dev) (at_ : Nat) : (d.passTo at_).rf = d.rf := by
  obtain ⟨_, h⟩ := d.passTo_frame at_; rw [h]
@[simp] theorem Dev.passTo_sec (d : Dev) (at_ : Nat) : (d.passTo at_).sec = d.sec := by
  obtain ⟨_, h⟩ := d.passTo_frame at_; rw [h]
@[simp] theorem Dev.passTo_dbg (d : Dev) (at_ : Nat) : (d.passTo at_).dbg = d.dbg := by
  obtain ⟨_, h⟩ := d.passTo_frame at_; rw [h]
@[simp] theorem Dev.passTo_bus (d : Dev) (at_ : Nat) : (d.passTo at_).bus = d.bus := by
  obtain ⟨_, h⟩ := d.passTo_frame at_; rw [h]
@[simp] theorem Dev.passTo_broken (d : Dev) (at_ : Nat) : (d.passTo at_).broken = d.broken := by
  obtain ⟨_, h⟩ := d.passTo_frame at_; rw [h]
@[simp] theorem Dev.passTo_ins (d : Dev) (at_ : Nat) : (d.passTo at_).ins = d.ins := by
  obtain ⟨_, h⟩ := d.passTo_frame at_; rw [h]
@[simp] theorem Dev.passTo_mesh (d : Dev) (at_ : Nat) : (d.passTo at_).mesh = d.mesh := by
  obtain ⟨_, h⟩ := d.passTo_frame at_; rw [h]
@[simp] theorem Dev.passTo_outs (d : Dev) (at_ : Nat) : (d.passTo at_).outs = d.outs := by
  obtain ⟨_, h⟩ := d.passTo_frame at_; rw [h]
@[simp] theorem Dev.passTo_hampers (d : Dev) (at_ : Nat) : (d.passTo at_).hampers = d.hampers := by
  obtain ⟨_, h⟩ := d.passTo_frame at_; rw [h]
@[simp] theorem Dev.passTo_engines (d : Dev) (at_ : Nat) : (d.passTo at_).engines = d.engines := by
  obtain ⟨_, h⟩ := d.passTo_frame at_; rw [h]
@[simp] theorem Dev.passTo_canopies (d : Dev) (at_ : Nat) : (d.passTo at_).canopies = d.canopies := by
  obtain ⟨_, h⟩ := d.passTo_frame at_; rw [h]
@[simp] theorem Dev.passTo_inserters (d : Dev) (at_ : Nat) : (d.passTo at_).inserters = d.inserters := by
  obtain ⟨_, h⟩ := d.passTo_frame at_; rw [h]
@[simp] theorem Dev.passTo_cn (d : Dev) (at_ : Nat) : (d.passTo at_).cn = d.cn := by
  obtain ⟨_, h⟩ := d.passTo_frame at_; rw [h]
@[simp] theorem Dev.passTo_stores (d : Dev) (at_ : Nat) : (d.passTo at_).stores = d.stores := by
  obtain ⟨_, h⟩ := d.passTo_frame at_; rw [h]
@[simp] theorem Dev.passTo_legs (d : Dev) (at_ : Nat) : (d.passTo at_).legs = d.legs := by
  obtain ⟨_, h⟩ := d.passTo_frame at_; rw [h]
@[simp] theorem Dev.passTo_aos (d : Dev) (at_ : Nat) : (d.passTo at_).aos = d.aos := by
  obtain ⟨_, h⟩ := d.passTo_frame at_; rw [h]
@[simp] theorem Dev.passTo_audioMesh (d : Dev) (at_ : Nat) : (d.passTo at_).audioMesh = d.audioMesh := by
  obtain ⟨_, h⟩ := d.passTo_frame at_; rw [h]
@[simp] theorem Dev.passTo_mix (d : Dev) (at_ : Nat) : (d.passTo at_).mix = d.mix := by
  obtain ⟨_, h⟩ := d.passTo_frame at_; rw [h]
@[simp] theorem Dev.passTo_aps (d : Dev) (at_ : Nat) : (d.passTo at_).aps = d.aps := by
  obtain ⟨_, h⟩ := d.passTo_frame at_; rw [h]
@[simp] theorem Dev.passTo_fm (d : Dev) (at_ : Nat) : (d.passTo at_).fm = d.fm := by
  obtain ⟨_, h⟩ := d.passTo_frame at_; rw [h]
@[simp] theorem Dev.passTo_reg (d : Dev) (at_ : Nat) (o j : Nat) : (d.passTo at_).reg o j = d.reg o j := by
  unfold Dev.reg; rw [Dev.passTo_regs]
@[simp] theorem Dev.passTo_flag (d : Dev) (at_ : Nat) (o j : Nat) : (d.passTo at_).flag o j = d.flag o j := by
  unfold Dev.flag; rw [Dev.passTo_reg]

/-! ### passToMt: time passes, and nothing else -/

theorem Dev.passToMt_frame (d : Dev) (e : Nat) : ∃ t, d.passToMt e = { d with time := t } := by
  have h : ∀ (l : List Nat) (d : Dev), ∃ t, l.foldl (fun d _ =>
      if d.now < e then { d with time := d.time.pass ((e - d.now + 4 * subNs - 1) / (4 * subNs)) } else d) d = { d with time := t } := by
    intro l
    induction l with
    | nil => exact fun d => ⟨_, rfl⟩
    | cons _ l ih =>
      intro d
      rw [List.foldl_cons]
      split
      · obtain ⟨t, h⟩ := ih { d with time := d.time.pass ((e - d.now + 4 * subNs - 1) / (4 * subNs)) }
        exact ⟨t, h⟩
      · exact ih d
  exact h _ d

@[simp] theorem Dev.passToMt_regs (d : Dev) (e : Nat) : (d.passToMt e).regs = d.regs := by
  obtain ⟨_, h⟩ := d.passToMt_frame e; rw [h]
@[simp] theorem Dev.passToMt_blobs (d : Dev) (e : Nat) : (d.passToMt e).blobs = d.blobs := by
  obtain ⟨_, h⟩ := d.passToMt_frame e; rw [h]
@[simp] theorem Dev.passToMt_freeN (d : Dev) (e : Nat) : (d.passToMt e).freeN = d.freeN := by
  obtain ⟨_, h⟩ := d.passToMt_frame e; rw [h]
@[simp] theorem Dev.passToMt_nv (d : Dev) (e : Nat) : (d.passToMt e).nv = d.nv := by
  obtain ⟨_, h⟩ := d.passToMt_frame e; rw [h]
@[simp] theorem Dev.passToMt_life (d : Dev) (e : Nat) : (d.passToMt e).life = d.life := by
  obtain ⟨_, h⟩ := d.passToMt_frame e; rw [h]
@[simp] theorem Dev.passToMt_ref (d : Dev) (e : Nat) : (d.passToMt e).ref = d.ref := by
  obtain ⟨_, h⟩ := d.passToMt_frame e; rw [h]
@[simp] theorem Dev.passToMt_synth (d : Dev) (e : Nat) : (d.passToMt e).synth = d.synth := by
  obtain ⟨_, h⟩ := d.passToMt_frame e; rw [h]
@[simp] theorem Dev.passToMt_clk (d : Dev) (e : Nat) : (d.passToMt e).clk = d.clk := by
  obtain ⟨_, h⟩ := d.passToMt_frame e; rw [h]
@[simp] theorem Dev.passToMt_lanes (d : Dev) (e : Nat) : (d.passToMt e).lanes = d.lanes := by
  obtain ⟨_, h⟩ := d.passToMt_frame e; rw [h]
@[simp] theorem Dev.passToMt_ltx (d : Dev) (e : Nat) : (d.passToMt e).ltx = d.ltx := by
  obtain ⟨_, h⟩ := d.passToMt_frame e; rw [h]
@[simp] theorem Dev.passToMt_groups (d : Dev) (e : Nat) : (d.passToMt e).groups = d.groups := by
  obtain ⟨_, h⟩ := d.passToMt_frame e; rw [h]
@[simp] theorem Dev.passToMt_flt (d : Dev) (e : Nat) : (d.passToMt e).flt = d.flt := by
  obtain ⟨_, h⟩ := d.passToMt_frame e; rw [h]
@[simp] theorem Dev.passToMt_trailRam (d : Dev) (e : Nat) : (d.passToMt e).trailRam = d.trailRam := by
  obtain ⟨_, h⟩ := d.passToMt_frame e; rw [h]
@[simp] theorem Dev.passToMt_macs (d : Dev) (e : Nat) : (d.passToMt e).macs = d.macs := by
  obtain ⟨_, h⟩ := d.passToMt_frame e; rw [h]
@[simp] theorem Dev.passToMt_ch (d : Dev) (e : Nat) : (d.passToMt e).ch = d.ch := by
  obtain ⟨_, h⟩ := d.passToMt_frame e; rw [h]
@[simp] theorem Dev.passToMt_tw (d : Dev) (e : Nat) : (d.passToMt e).tw = d.tw := by
  obtain ⟨_, h⟩ := d.passToMt_frame e; rw [h]
@[simp] theorem Dev.passToMt_rf (d : Dev) (e : Nat) : (d.passToMt e).rf = d.rf := by
  obtain ⟨_, h⟩ := d.passToMt_frame e; rw [h]
@[simp] theorem Dev.passToMt_sec (d : Dev) (e : Nat) : (d.passToMt e).sec = d.sec := by
  obtain ⟨_, h⟩ := d.passToMt_frame e; rw [h]
@[simp] theorem Dev.passToMt_dbg (d : Dev) (e : Nat) : (d.passToMt e).dbg = d.dbg := by
  obtain ⟨_, h⟩ := d.passToMt_frame e; rw [h]
@[simp] theorem Dev.passToMt_bus (d : Dev) (e : Nat) : (d.passToMt e).bus = d.bus := by
  obtain ⟨_, h⟩ := d.passToMt_frame e; rw [h]
@[simp] theorem Dev.passToMt_broken (d : Dev) (e : Nat) : (d.passToMt e).broken = d.broken := by
  obtain ⟨_, h⟩ := d.passToMt_frame e; rw [h]
@[simp] theorem Dev.passToMt_ins (d : Dev) (e : Nat) : (d.passToMt e).ins = d.ins := by
  obtain ⟨_, h⟩ := d.passToMt_frame e; rw [h]
@[simp] theorem Dev.passToMt_mesh (d : Dev) (e : Nat) : (d.passToMt e).mesh = d.mesh := by
  obtain ⟨_, h⟩ := d.passToMt_frame e; rw [h]
@[simp] theorem Dev.passToMt_outs (d : Dev) (e : Nat) : (d.passToMt e).outs = d.outs := by
  obtain ⟨_, h⟩ := d.passToMt_frame e; rw [h]
@[simp] theorem Dev.passToMt_hampers (d : Dev) (e : Nat) : (d.passToMt e).hampers = d.hampers := by
  obtain ⟨_, h⟩ := d.passToMt_frame e; rw [h]
@[simp] theorem Dev.passToMt_engines (d : Dev) (e : Nat) : (d.passToMt e).engines = d.engines := by
  obtain ⟨_, h⟩ := d.passToMt_frame e; rw [h]
@[simp] theorem Dev.passToMt_canopies (d : Dev) (e : Nat) : (d.passToMt e).canopies = d.canopies := by
  obtain ⟨_, h⟩ := d.passToMt_frame e; rw [h]
@[simp] theorem Dev.passToMt_inserters (d : Dev) (e : Nat) : (d.passToMt e).inserters = d.inserters := by
  obtain ⟨_, h⟩ := d.passToMt_frame e; rw [h]
@[simp] theorem Dev.passToMt_cn (d : Dev) (e : Nat) : (d.passToMt e).cn = d.cn := by
  obtain ⟨_, h⟩ := d.passToMt_frame e; rw [h]
@[simp] theorem Dev.passToMt_stores (d : Dev) (e : Nat) : (d.passToMt e).stores = d.stores := by
  obtain ⟨_, h⟩ := d.passToMt_frame e; rw [h]
@[simp] theorem Dev.passToMt_legs (d : Dev) (e : Nat) : (d.passToMt e).legs = d.legs := by
  obtain ⟨_, h⟩ := d.passToMt_frame e; rw [h]
@[simp] theorem Dev.passToMt_aos (d : Dev) (e : Nat) : (d.passToMt e).aos = d.aos := by
  obtain ⟨_, h⟩ := d.passToMt_frame e; rw [h]
@[simp] theorem Dev.passToMt_audioMesh (d : Dev) (e : Nat) : (d.passToMt e).audioMesh = d.audioMesh := by
  obtain ⟨_, h⟩ := d.passToMt_frame e; rw [h]
@[simp] theorem Dev.passToMt_mix (d : Dev) (e : Nat) : (d.passToMt e).mix = d.mix := by
  obtain ⟨_, h⟩ := d.passToMt_frame e; rw [h]
@[simp] theorem Dev.passToMt_aps (d : Dev) (e : Nat) : (d.passToMt e).aps = d.aps := by
  obtain ⟨_, h⟩ := d.passToMt_frame e; rw [h]
@[simp] theorem Dev.passToMt_fm (d : Dev) (e : Nat) : (d.passToMt e).fm = d.fm := by
  obtain ⟨_, h⟩ := d.passToMt_frame e; rw [h]
@[simp] theorem Dev.passToMt_reg (d : Dev) (e : Nat) (o j : Nat) : (d.passToMt e).reg o j = d.reg o j := by
  unfold Dev.reg; rw [Dev.passToMt_regs]
@[simp] theorem Dev.passToMt_flag (d : Dev) (e : Nat) (o j : Nat) : (d.passToMt e).flag o j = d.flag o j := by
  unfold Dev.flag; rw [Dev.passToMt_reg]

/-- The clock comes to the time named, and never goes back. -/
theorem Dev.passTo_clock (d : Dev) (at_ : Nat) : at_ ≤ (d.passTo at_).clock ∧ d.clock ≤ (d.passTo at_).clock := by
  unfold Dev.passTo
  split
  · have h : ∀ n, ({ d with time := d.time.pass n } : Dev).clock = d.clock + 4 * n := fun _ => rfl
    rw [h]
    omega
  · rename_i h
    exact ⟨Nat.le_of_not_lt h, Nat.le_refl _⟩

/-! ### The state after a command -/

@[simp] theorem State.after_dev (s : State) (d : Dev) : (s.after d).dev = Dev.finish s.dev d := rfl
@[simp] theorem State.after_pending (s : State) (d : Dev) : (s.after d).pending = s.pending := rfl
@[simp] theorem State.idle_pending (s : State) : s.idle.pending = s.pending := rfl
@[simp] theorem State.idle_dev (s : State) : s.idle.dev = s.dev.idle := rfl

end Sys2Proof.Machine
end

