-- ==== Sys2Proof/Laws/Ops.lean ====
section
/-! SUPPORT. What the shared operations over the block can do: registers read back, and events, counters, latches and lines touch nothing
but the registers, the subscriptions, the Trail Log and the collector. -/

namespace Sys2Proof.Machine

/-! ### The register file -/

theorem objKey_injective {n m i j : Nat} (hi : i < 65536) (hj : j < 65536) (h : objKey n i = objKey m j) : n = m ∧ i = j := by
  unfold objKey at h; omega

/-- The register list is in canonical form. -/
abbrev Dev.regsWf (d : Dev) : Prop := smWf keyDefault d.regs = true

theorem Dev.setReg_wf {d : Dev} (h : d.regsWf) (n i v : Nat) : (d.setReg n i v).regsWf := smWf_smSet _ _ h

theorem Dev.setReg_reg {d : Dev} (h : d.regsWf) (n i v : Nat) : (d.setReg n i v).reg n i = v := smGet_smSet_same _ _ h

theorem Dev.setReg_reg_other {d : Dev} (h : d.regsWf) {n m i j : Nat} (v : Nat) (hi : i < 65536) (hj : j < 65536)
    (hne : m ≠ n ∨ j ≠ i) : (d.setReg n i v).reg m j = d.reg m j :=
  smGet_smSet_other v (fun e => by have := objKey_injective hj hi e; omega) h _

/-- A value that is not the default reads back from any register list. -/
theorem Dev.setReg_reg_of_ne {d : Dev} {n i v : Nat} (hv : v ≠ keyDefault (objKey n i)) : (d.setReg n i v).reg n i = v :=
  smGet_smSet_of_ne hv

/-! ### Records and counters -/

/-- A report touches registers and subscriptions only. -/
theorem Dev.publish_frame (d : Dev) (p : Nat → Bool) (e : EvRec) :
    ∃ r c, d.publish p e = { d with regs := r, ch := c } := by
  unfold Dev.publish
  generalize gatherAll d Obj.SUB_OWN d.ch.subOwn p e = a
  generalize (if d.acts then gatherAll d Obj.SUB_PAIR d.ch.subPair p e else (d.ch.subPair, 0)) = b
  obtain ⟨own, n⟩ := a
  obtain ⟨pair, m⟩ := b
  dsimp only
  split
  · exact ⟨_, _, rfl⟩
  · exact ⟨_, _, rfl⟩

theorem Dev.addTrail_frame (d : Dev) (code sev flags : Nat) (ref : Ref) (data : Bytes) :
    ∃ r t, d.addTrail code sev flags ref data = { d with regs := r, trailRam := t } := ⟨_, _, rfl⟩

/-- An event touches registers, subscriptions and the Trail Log only. -/
theorem Dev.event_frame (d : Dev) (code : Nat) (ref : Ref) (data : Bytes) :
    ∃ r c t, d.event code ref data = { d with regs := r, ch := c, trailRam := t } := by
  obtain ⟨r, c, h⟩ := d.publish_frame (fun rec => subWants rec code (eventSeverity code))
    { code, sev := eventSeverity code, time := d.now, ref, data }
  unfold Dev.event
  dsimp only
  rw [h]
  split
  · exact ⟨_, _, _, rfl⟩
  · exact ⟨_, _, _, rfl⟩

/-- Of the registers, a report can raise CH_EVENTS_DROPPED alone. -/
theorem Dev.publish_reg {d : Dev} (h : d.regsWf) (p : Nat → Bool) (e : EvRec) :
    (d.publish p e).regsWf ∧
    ∀ m j, j < 65536 → m ≠ Obj.CH_EVENTS_DROPPED → (d.publish p e).reg m j = d.reg m j := by
  unfold Dev.publish
  generalize gatherAll d Obj.SUB_OWN d.ch.subOwn p e = a
  generalize (if d.acts then gatherAll d Obj.SUB_PAIR d.ch.subPair p e else (d.ch.subPair, 0)) = b
  obtain ⟨own, n⟩ := a
  obtain ⟨pair, k⟩ := b
  dsimp only
  split
  · exact ⟨h, fun _ _ _ _ => rfl⟩
  · exact ⟨Dev.setReg_wf (d := { d with ch := _ }) h _ _ _,
      fun m j hj hm => Dev.setReg_reg_other (d := { d with ch := _ }) h _ (by decide) hj (.inl hm)⟩

/-- Of the registers, an event can change CH_EVENTS_DROPPED and TRAIL_NEXT_SEQ alone. -/
theorem Dev.event_reg {d : Dev} (h : d.regsWf) (code : Nat) (ref : Ref) (data : Bytes) :
    (d.event code ref data).regsWf ∧
    ∀ m j, j < 65536 → m ≠ Obj.CH_EVENTS_DROPPED → m ≠ Obj.TRAIL_NEXT_SEQ → (d.event code ref data).reg m j = d.reg m j := by
  unfold Dev.event
  dsimp only
  have k := Dev.publish_reg h (fun rec => subWants rec code (eventSeverity code))
    { code, sev := eventSeverity code, time := d.now, ref, data }
  generalize Dev.publish d _ _ = e at k ⊢
  split
  · refine ⟨Dev.setReg_wf (d := { e with trailRam := _ }) k.1 _ _ _, fun m j hj h1 h2 => ?_⟩
    exact (Dev.setReg_reg_other (d := { e with trailRam := _ }) k.1 _ (by decide) hj (.inl h2)).trans (k.2 m j hj h1)
  · exact ⟨k.1, fun m j hj h1 _ => k.2 m j hj h1⟩

theorem Dev.saturated_frame (d : Dev) (n i : Nat) :
    ∃ r c t s, d.saturated n i = { d with regs := r, ch := c, trailRam := t, flt := { d.flt with sat := s } } := by
  have h0 : ∃ s, (if refBits (refOf n i) ∈ d.flt.sat then d
      else { d with flt := { d.flt with sat := d.flt.sat ++ [refBits (refOf n i)] } }) = { d with flt := { d.flt with sat := s } } := by
    split
    · exact ⟨_, rfl⟩
    · exact ⟨_, rfl⟩
  obtain ⟨s, h0⟩ := h0
  unfold Dev.saturated
  dsimp only
  rw [h0]
  split
  · obtain ⟨r, c, t, h⟩ := Dev.event_frame ((({ d with flt := { d.flt with sat := s } } : Dev)).setReg Obj.LANE_SAT i
      (setBit ((({ d with flt := { d.flt with sat := s } } : Dev)).reg Obj.LANE_SAT i)
        (if n = Obj.LANE_PRBS_ERR then 16 else n % 16) true)) 0x3001 (refOf n i) []
    exact ⟨r, c, t, s, h⟩
  · split
    · obtain ⟨r, c, t, h⟩ := Dev.event_frame ((({ d with flt := { d.flt with sat := s } } : Dev)).setReg Obj.MG_SAT i
        (setBit ((({ d with flt := { d.flt with sat := s } } : Dev)).reg Obj.MG_SAT i)
          (if n = Obj.MG_PLCA_ENTRIES then 31 else if n % 256 < 0x60 then n % 16 else 16 + n % 16) true)) 0x4804 (refOf n i) []
      exact ⟨r, c, t, s, h⟩
    · obtain ⟨r, c, t, h⟩ := Dev.event_frame ({ d with flt := { d.flt with sat := s } } : Dev) 0x4144 (refOf n i) []
      exact ⟨r, c, t, s, h⟩

/-- A counter touches registers and the reports of its saturation only. -/
theorem Dev.count_frame (d : Dev) (n i k : Nat) :
    ∃ r c t s, d.count n i k = { d with regs := r, ch := c, trailRam := t, flt := { d.flt with sat := s } } := by
  unfold Dev.count
  dsimp only
  split
  · exact ⟨_, _, _, _, rfl⟩
  · split
    · exact ⟨_, _, _, _, rfl⟩
    · obtain ⟨r, c, t, s, h⟩ := Dev.saturated_frame (d.setReg n i 0xFFFFFFFF) n i
      exact ⟨r, c, t, s, h⟩

/-! ### The collector -/

/-- Two devices that differ in nothing but the registers, the subscriptions, the Trail Log, the collector and FATAL seen. -/
def Dev.SameBut (d e : Dev) : Prop :=
  ∃ r c t f b, e = { d with regs := r, ch := c, trailRam := t, flt := f, life := { d.life with fatalSeen := b } }

theorem Dev.SameBut.refl (d : Dev) : d.SameBut d := ⟨_, _, _, _, _, rfl⟩

theorem Dev.SameBut.trans {d e f : Dev} (h : d.SameBut e) (k : e.SameBut f) : d.SameBut f := by
  obtain ⟨_, _, _, _, _, rfl⟩ := h
  obtain ⟨_, _, _, _, _, rfl⟩ := k
  exact ⟨_, _, _, _, _, rfl⟩

theorem Dev.sameBut_of_frame {d e : Dev} (h : ∃ r c t f, e = { d with regs := r, ch := c, trailRam := t, flt := f }) : d.SameBut e := by
  obtain ⟨_, _, _, _, rfl⟩ := h
  exact ⟨_, _, _, _, _, rfl⟩

theorem Dev.count_sameBut (d : Dev) (n i k : Nat) : d.SameBut (d.count n i k) := by
  obtain ⟨r, c, t, s, h⟩ := d.count_frame n i k
  exact Dev.sameBut_of_frame ⟨r, c, t, _, h⟩

theorem Dev.event_sameBut (d : Dev) (code : Nat) (ref : Ref) (data : Bytes) : d.SameBut (d.event code ref data) := by
  obtain ⟨r, c, t, h⟩ := d.event_frame code ref data
  exact Dev.sameBut_of_frame ⟨r, c, t, d.flt, h⟩

theorem Dev.publish_sameBut (d : Dev) (p : Nat → Bool) (e : EvRec) : d.SameBut (d.publish p e) := by
  obtain ⟨r, c, h⟩ := d.publish_frame p e
  exact Dev.sameBut_of_frame ⟨r, c, d.trailRam, d.flt, h⟩

theorem Dev.setReg_sameBut (d : Dev) (n i v : Nat) : d.SameBut (d.setReg n i v) := ⟨_, _, _, _, _, rfl⟩

theorem Dev.latchEntry_sameBut (d : Dev) (s : Nat) (data : Bytes) : d.SameBut (d.latchEntry s data) := by
  unfold Dev.latchEntry
  dsimp only
  split
  · exact ⟨_, _, _, _, _, rfl⟩
  · exact .refl d

/-- Two devices that differ in nothing but the collector. -/
theorem Dev.sameBut_of_flt {d e : Dev} (h : ∃ f, e = { d with flt := f }) : d.SameBut e := by
  obtain ⟨_, rfl⟩ := h
  exact ⟨_, _, _, _, _, rfl⟩

theorem Dev.reactService_flt (d : Dev) (s : Nat) : ∃ f, d.reactService s = { d with flt := f } := by
  have step : ∀ (b : Prop) [Decidable b] (x y : Dev), (∃ f, x = { d with flt := f }) → (∃ f, y = { d with flt := f }) →
      ∃ f, (if b then x else y) = { d with flt := f } := by
    intro b _ x y hx hy
    split
    · exact hx
    · exact hy
  unfold Dev.reactService
  dsimp only
  refine step _ _ _ ⟨_, rfl⟩ ?_
  have h1 : ∃ f, (if 2 ≤ d.actSeverity s then d.alarm s else d) = { d with flt := f } := step _ _ _ ⟨_, rfl⟩ ⟨_, rfl⟩
  generalize (if 2 ≤ d.actSeverity s then d.alarm s else d) = e at h1 ⊢
  obtain ⟨f, rfl⟩ := h1
  generalize hx : (bitOf _ _ || bitOf _ _ || bitOf _ _) = done
  have h2 : ∃ g, (if (decide (3 ≤ d.actSeverity s) && decide (d.actSeverity s ≤ 5) && !done) = true
      then ({ d with flt := f } : Dev).joinTimer s else { d with flt := f }) = { d with flt := g } :=
    step _ _ _ ⟨_, rfl⟩ ⟨_, rfl⟩
  obtain ⟨g, h2⟩ := h2
  rw [h2]
  exact step _ _ _ ⟨_, rfl⟩ ⟨_, rfl⟩

theorem Dev.reactFixed_flt (d : Dev) (s : Nat) : ∃ f, d.reactFixed s = { d with flt := f } := by
  unfold Dev.reactFixed
  dsimp only
  have h1 : ∃ f, (if 1 ≤ d.reg Obj.FLT_CLASS s then d.alarm s else d) = { d with flt := f } := by
    split
    · exact ⟨_, rfl⟩
    · exact ⟨_, rfl⟩
  generalize (if 1 ≤ d.reg Obj.FLT_CLASS s then d.alarm s else d) = e at h1 ⊢
  obtain ⟨f, rfl⟩ := h1
  split
  · exact ⟨_, rfl⟩
  · split <;> split <;> (try split) <;> exact ⟨_, rfl⟩

/-- A latch touches the registers, the subscriptions, the Trail Log and the collector, and notes a source of class FATAL. -/
theorem Dev.latch_sameBut (d : Dev) (s : Nat) : d.SameBut (d.latch s) := by
  unfold Dev.latch
  dsimp only
  have h1 := (d.setReg_sameBut Obj.FLT_LATCHED (s / 32) (setBit (d.reg Obj.FLT_LATCHED (s / 32)) (s % 32) true)).trans
    (Dev.count_sameBut _ Obj.FLT_COUNT s 1)
  generalize Dev.count _ Obj.FLT_COUNT s 1 = e at h1 ⊢
  have h2 : d.SameBut (if e.reg Obj.FLT_CLASS s = 2 then { e with life := { e.life with fatalSeen := true } } else e) := by
    split
    · exact h1.trans ⟨_, _, _, _, _, rfl⟩
    · exact h1
  generalize (if e.reg Obj.FLT_CLASS s = 2 then ({ e with life := { e.life with fatalSeen := true } } : Dev) else e) = e at h2 ⊢
  split
  · have h3 := h2.trans (Dev.latchEntry_sameBut e s [BitVec.ofNat 8 (boolNat (e.fltLive s))])
    generalize Dev.latchEntry e s _ = x at h3 ⊢
    split
    · have h4 := h3.trans (Dev.publish_sameBut x (fun rec => subWants rec (0x4000 + s) (e.latchSeverity s))
        { code := 0x4000 + s, sev := e.latchSeverity s, time := x.now, ref := x.fltRef s,
          data := [BitVec.ofNat 8 (boolNat (e.fltLive s))] })
      generalize Dev.publish x _ _ = y at h4 ⊢
      split
      · exact h4.trans (Dev.sameBut_of_flt (y.reactFixed_flt s))
      · exact h4.trans (Dev.sameBut_of_flt (y.reactService_flt s))
    · split
      · exact h3.trans (Dev.sameBut_of_flt (x.reactFixed_flt s))
      · exact h3.trans (Dev.sameBut_of_flt (x.reactService_flt s))
  · exact h2

/-- A line touches what a latch touches. -/
theorem Dev.setLine_sameBut (d : Dev) (s : Nat) (b : Bool) (c : Option Channel) : d.SameBut (d.setLine s b c) := by
  unfold Dev.setLine
  dsimp only
  split
  · exact .refl d
  · split
    · split
      · exact ⟨_, _, _, _, _, rfl⟩
      · exact (Dev.sameBut_of_flt ⟨_, rfl⟩).trans (Dev.latch_sameBut _ s)
    · exact ⟨_, _, _, _, _, rfl⟩

/-- A pulse touches what a latch touches. -/
theorem Dev.pulse_sameBut (d : Dev) (s : Nat) (c : Option Channel) : d.SameBut (d.pulse s c) := by
  unfold Dev.pulse
  dsimp only
  split
  · exact ⟨_, _, _, _, _, rfl⟩
  · exact (Dev.sameBut_of_flt ⟨_, rfl⟩).trans (Dev.latch_sameBut _ s)

end Sys2Proof.Machine
end

