-- ==== Sys2Proof/Laws/Memory.lean ====
section
/-! SUPPORT. The addressed memories: frame memory by 32-byte units, and control RAM by bytes. Each operation keeps the canonical form, a
unit or byte that was written reads back, and every other one is left alone. -/

namespace Sys2Proof.Machine

theorem memWf_reset : State.reset.dev.memWf := by decide

/-! ### Frame memory -/

theorem Dev.fmUnit_setFmUnit {d : Dev} (u : Nat) {b : Bytes} (h : b.length = 32) : (d.setFmUnit u b).fmUnit u = b := by
  have h1 : smGet (smSet d.fm.cells u (beNat b + 1) 0) u 0 = beNat b + 1 := smGet_smSet_of_ne (by omega)
  have h2 : (d.setFmUnit u b).fmUnit u = beBytes 32 (beNat b) := by
    unfold Dev.fmUnit Dev.setFmUnit Dev.modFm
    dsimp only
    rw [h1]
  rw [h2, ← h, beBytes_beNat]

theorem Dev.fmUnit_setFmUnit_other (d : Dev) {u v : Nat} (b : Bytes) (hne : v ≠ u) :
    (d.setFmUnit u b).fmUnit v = d.fmUnit v := by
  have : smGet (smSet d.fm.cells u (beNat b + 1) 0) v 0 = smGet d.fm.cells v 0 :=
    smGet_smSet_other_of_ne (by omega) hne 0
  unfold Dev.fmUnit Dev.setFmUnit Dev.modFm
  dsimp only
  rw [this]

theorem Dev.setFmUnit_memWf {d : Dev} (h : d.memWf) (u : Nat) (b : Bytes) : (d.setFmUnit u b).memWf :=
  ⟨smWf_smSet (d := fun _ => 0) _ _ h.1, h.2⟩

theorem Dev.writeUnit_memWf {d : Dev} (h : d.memWf) (q : FmReq) (u : Nat) : (d.writeUnit q u).memWf := by
  unfold Dev.writeUnit
  dsimp only
  split
  · exact Dev.setFmUnit_memWf h _ _
  · split
    · exact h
    · exact Dev.setFmUnit_memWf h _ _

/-- What remains of a canonical list is canonical. -/
theorem smAbove_filter {α : Type} {m : SMap α} {k : Nat} (p : Nat × α → Bool) (h : smAbove k m = true) :
    smAbove k (m.filter p) = true := by
  induction m with
  | nil => rfl
  | cons a m ih =>
    obtain ⟨j, v⟩ := a
    simp only [smAbove, Bool.and_eq_true, decide_eq_true_eq] at h
    by_cases hp : p (j, v) = true
    · simp [hp, smAbove, h.1, ih h.2]
    · simp [hp, ih h.2]

theorem smWf_filter {α : Type} [DecidableEq α] {m : SMap α} {d : Nat → α} (p : Nat × α → Bool) (h : smWf d m = true) :
    smWf d (m.filter p) = true := by
  induction m with
  | nil => rfl
  | cons a m ih =>
    obtain ⟨j, v⟩ := a
    simp only [smWf, Bool.and_eq_true, decide_eq_true_eq] at h
    by_cases hp : p (j, v) = true
    · simp [hp, smWf, h.1.1, smAbove_filter p h.1.2, ih h.2]
    · simp [hp, ih h.2]

theorem Dev.SameBut.memWf {d e : Dev} (h : d.SameBut e) (k : d.memWf) : e.memWf := by
  obtain ⟨_, _, _, _, _, rfl⟩ := h
  exact k

theorem Dev.SameBut.fm {d e : Dev} (h : d.SameBut e) : e.fm = d.fm := by
  obtain ⟨_, _, _, _, _, rfl⟩ := h
  rfl

theorem Dev.fmRetire_memWf {d : Dev} (h : d.memWf) (pc : Nat) : (d.fmRetire pc).memWf := by
  unfold Dev.fmRetire
  dsimp only
  split
  · exact h
  · split
    · exact (Dev.setLine_sameBut _ _ _ _).memWf h
    · exact (Dev.setLine_sameBut _ _ _ _).memWf ⟨smWf_filter _ h.1, h.2⟩

/-! ### Control RAM -/

/-- The bytes that a transaction writes, at the addresses whose strobe is set, keep the canonical form. -/
theorem ramWrite_wf (a : Nat) (xs : List (Nat × Byte × Bool)) :
    ∀ m : SMap (Option Byte), smWf (fun _ => none) m = true →
      smWf (fun _ => none) (xs.foldl (fun m x => if x.2.2 then smSet m (a + x.1) (some x.2.1) none else m) m) = true := by
  induction xs with
  | nil => intro m h; exact h
  | cons x xs ih =>
    intro m h
    rw [List.foldl_cons]
    apply ih
    split
    · exact smWf_smSet (d := fun _ => none) _ _ h
    · exact h

/-- A byte of control RAM that was written reads back. -/
theorem Dev.ramAt_write (d : Dev) (a : Nat) (b : Byte) :
    (d.modBus (fun x => { x with ram := smSet x.ram a (some b) none })).ramAt a = b := by
  unfold Dev.ramAt Dev.modBus
  dsimp only
  rw [smGet_smSet_of_ne (by simp)]
  rfl

theorem Dev.ramAt_write_other (d : Dev) {a x : Nat} (b : Byte) (hne : x ≠ a) :
    (d.modBus (fun y => { y with ram := smSet y.ram a (some b) none })).ramAt x = d.ramAt x := by
  unfold Dev.ramAt Dev.modBus
  dsimp only
  rw [smGet_smSet_other_of_ne (by simp) hne]

end Sys2Proof.Machine
end

