-- ==== Sys2Proof/Laws/Step.lean ====
section
/-! SUPPORT. What a step can do, said once: the four shapes of an outcome, and what the end of a command keeps. -/

namespace Sys2Proof.Machine

/-! ### The shapes of an outcome -/

theorem State.run_shape (f : Dev → Dev) (s : State) : ∃ d, s.run f = .next { s with dev := Dev.finish s.dev d } := ⟨_, rfl⟩

/-- A command that reaches a running device alone does nothing to a held one. -/
theorem State.live_shape (f : Dev → Dev) (s : State) :
    s.live f = .next s ∨ ∃ d, s.live f = .next { s with dev := Dev.finish s.dev d } := by
  unfold State.live
  split
  · exact .inl rfl
  · exact .inr ⟨_, rfl⟩

theorem State.live_of_held {f : Dev → Dev} {s : State} (h : s.dev.life.held = true) : s.live f = .next s := if_pos h

theorem State.live_of_running {f : Dev → Dev} {s : State} (h : s.dev.life.held = false) : s.live f = .next (s.after (f s.dev)) := by
  unfold State.live
  rw [h]
  rfl

/-- Every command leaves the state as it is, or ends a change of the block, or takes its power, or is a transaction that is refused. -/
theorem exec_shape (c : Instr) (s : State) :
    exec c s = .next s ∨ (∃ d, exec c s = .next { s with dev := Dev.finish s.dev d }) ∨
    (c = .powerOn ∧ exec c s = .next { s with dev := Dev.finish s.dev.powerOn s.dev.powerOn }) ∨
    (∃ t, c = .busTransaction t ∧ s.dev.life.held = false ∧ s.dev.busTransact t = none ∧ exec c s = .refused .undocumentedWindow) := by
  cases c
  case powerOn => exact .inr (.inr (.inl ⟨rfl, rfl⟩))
  case busTransaction t =>
    show execBusTransaction t s = _ ∨ (∃ d, execBusTransaction t s = _) ∨ (_ ∧ execBusTransaction t s = _) ∨
      (∃ u, _ ∧ _ ∧ _ ∧ execBusTransaction t s = _)
    unfold execBusTransaction
    split
    · exact .inl rfl
    · rename_i hh
      split
      · exact .inr (.inl ⟨_, rfl⟩)
      · exact .inr (.inr (.inr ⟨t, rfl, by simpa using hh, by assumption, rfl⟩))
  all_goals first
    | exact .inr (.inl ⟨_, rfl⟩)
    | exact (State.live_shape _ s).elim .inl (fun h => .inr (.inl h))

/-! ### The end of a command -/

/-- The end of a command puts latch and phase in agreement, and keeps a lockout that was latched before (R455). -/
theorem Dev.finish_lockout (o d : Dev) :
    (Dev.finish o d).lockoutAgrees ∧ (o.nv.lockout = true → (Dev.finish o d).lockedOut) := by
  have k : ∀ e : Dev, (o.keepLockout e).lockoutAgrees ∧ (o.nv.lockout = true → (o.keepLockout e).lockedOut) := by
    intro e
    unfold Dev.keepLockout Dev.lockoutAgrees Dev.lockedOut Dev.modNv Dev.modLife
    cases o.nv.lockout <;> cases h2 : e.nv.lockout <;> simp [h2]
  unfold Dev.finish
  dsimp only
  split
  · exact k _
  · exact k _

/-- A device that RESET_N or a supply holds stays held, where no release waits behind the TAP. -/
theorem Dev.finish_held {o d : Dev} (h1 : d.life.held = true) (h2 : d.life.resetCause < 2) (h3 : d.dbg.releaseHeld = false) :
    (Dev.finish o d).life.held = true := by
  unfold Dev.finish Dev.followBalls
  simp only [h3, Bool.false_and, h1, h2, Bool.false_eq_true, if_false, decide_true, Bool.and_self, if_true]
  unfold Dev.keepLockout Dev.modNv Dev.modLife
  split <;> simp [h1]

end Sys2Proof.Machine
end

