-- ==== Sys2Proof/Tests/Slice0.lean ====
section
/-! SUPPORT. Tests. A witness for the hypotheses of each statement, one conjunct for each clause; an ill-formed command for each check of
WellFormed; and values that the spec prints: check values, example messages and words, tables of worked numbers. -/

namespace Sys2Proof.Tests

set_option Elab.async false

open Sys2Proof Sys2Proof.Machine

/-! ### Small states -/

/-- A device that nothing holds, with registers written. -/
def devWith (rs : List (Nat × Nat × Nat)) : Dev := rs.foldl (fun d x => d.setReg x.1 x.2.1 x.2.2) { life := { held := false } }

/-- The same in a life-cycle phase. -/
def devIn (p : Phase) : Dev := { life := { held := false, phase := p } }

/-- A request by a port, its payload of `n` bytes. -/
def reqOf (p : Port) (n : Nat) (toPair : Bool := false) : Req :=
  { port := p, src := 0, toPair, tag := none, version := 1, response := false, more := false, late := false, senderB := false, resv := 0
    status := 0, count := 1, reqId := 7, length := BitVec.ofNat 16 n, segOffset := 0, total := BitVec.ofNat 32 n }

def readLane : Payload := .read [refOf Obj.LANE_STATE 5]

/-! ### Witnesses: states and operands that meet the hypotheses of each statement, clause by clause -/

theorem test_witness_StepRunsTheFront : State.reset.pending = [] ∧ State.reset.dev.life.held = true ∧ (devWith []).life.held = false := by
  decide +kernel

theorem test_witness_HeldDeviceStandsStill :
    State.reset.dev.life.held = true ∧ reachesHeld .storeRecord = false ∧ State.reset.dev.life.resetCause < 2 ∧
    State.reset.dev.dbg.releaseHeld = false ∧ Instr.storeRecord ≠ .resetNRelease ∧ (∃ t, exec .storeRecord State.reset = .next t) :=
  ⟨by decide +kernel, by decide +kernel, by decide +kernel, by decide +kernel, by decide, ⟨_, rfl⟩⟩

def lockedDev : Dev := { nv := { lockout := true }, life := { phase := .lockout, held := false } }

theorem test_witness_LockoutHolds :
    (∃ t, step { dev := lockedDev, pending := [.storeRecord] } = .next t) ∧ (lockedDev.nv.lockout = true → lockedDev.life.phase = .lockout) ∧
    (lockedDev.nv.lockout = true ∧ lockedDev.life.phase = .lockout) ∧ (∀ rest, [Instr.storeRecord] ≠ .powerOn :: rest) :=
  ⟨⟨_, rfl⟩, by decide +kernel, by decide +kernel, by simp⟩

theorem test_witness_MessagesReadBack :
    payloadParses (reqOf .mgA 8).count.toNat readLane = true ∧ (reqOf .mgA 8).length.toNat = (payloadBytes readLane).length := by
  decide +kernel

theorem test_witness_PortPositions :
    ((1023 : Nat) < 1024 ∧ ((devWith []).group 15).move = .none ∧ (devWith []).reg Obj.LANE_SPARE_FOR 15 ≠ 15) ∧
    (((devWith [(Obj.LANE_SPARE_FOR, 0, 0)]).group 0).move = .none ∧ (devWith [(Obj.LANE_SPARE_FOR, 0, 0)]).reg Obj.LANE_SPARE_FOR 0 = 0) ∧
    16 ≤ (devWith []).reg Obj.LANE_SPARE_FOR 0 := by
  decide +kernel

theorem test_witness_RegistersAndCounters :
    (smWf keyDefault (devWith [(Obj.LANE_SAT, 0, 1)]).regs = true ∧ (devWith []).reg Obj.LANE_RETRAINS 0 + 1 < 0xFFFFFFFF ∧
      Obj.LANE_RETRAINS ≠ Obj.LANE_SAT) ∧
    (devWith [(Obj.LANE_RETRAINS, 0, 0xFFFFFFFF)]).reg Obj.LANE_RETRAINS 0 = 0xFFFFFFFF ∧
    ((devWith [(Obj.LANE_RETRAINS, 0, 0xFFFFFFFE)]).reg Obj.LANE_RETRAINS 0 < 0xFFFFFFFF ∧
      0xFFFFFFFF ≤ (devWith [(Obj.LANE_RETRAINS, 0, 0xFFFFFFFE)]).reg Obj.LANE_RETRAINS 0 + 1 ∧
      Obj.LANE_RETRAINS ∉ [Obj.LANE_SAT, Obj.MG_SAT, Obj.TRAIL_NEXT_SEQ, Obj.CH_EVENTS_DROPPED]) := by
  decide +kernel

theorem test_witness_NothingElseFollows :
    (devWith []).syncLines = devWith [] ∧ (devWith []).flt.todo = [] ∧ (devWith []).dbg.releaseHeld = false ∧ (devWith []).lanes = [] ∧
    (devWith []).outs = [] ∧ ((devWith []).devState = 5 ↔ (devWith []).life.activeSince.isSome = true) ∧
    (devWith []).avsHold = devWith [] ∧ (devWith []).nv.lockout = false ∧
    ((∀ k < 16, subLive ((devWith []).reg Obj.SUB_OWN k) 1 = false) ∧ (devWith []).acts = false) := by
  decide +kernel

def bootDev (a b : Bool) (boot : List BootRec) : Dev :=
  { life := { held := true }, nv := { boot, slots := [{ manifestGood := a, firstStageGood := a }, { manifestGood := b, firstStageGood := b }] } }

def boot0 : BootRec := ⟨1, 0, 1, 0, 1, 0, 0, 1⟩

/-- The device of R496 while its ROM reads the boot record. -/
def bootSeen (d : Dev) : Dev := ((d.modLife (fun x => { x with held := false })).latch Flt.RESET_SEEN).makeIdentity.bootTrial

theorem test_witness_ResetRelease :
    ({ dbg := { tap := .highz } } : Dev).ballsTaken = true ∧ ({ lockedDev with life := { phase := .lockout } } : Dev).ballsTaken = false ∧
    ((bootDev true true [boot0]).nv.lifecycle ≤ 2 ∧ (bootSeen (bootDev true true [boot0])).bootRec = some boot0 ∧
      (bootSeen (bootDev true true [boot0])).slotBoots 0 = true) ∧
    ((bootSeen (bootDev false true [boot0])).slotBoots 0 = false ∧ (bootSeen (bootDev false true [boot0])).slotBoots 1 = true ∧
      boot0.prevStoreArea < 2) ∧
    ((bootSeen (bootDev false false [boot0])).slotBoots 0 = false ∧ (bootSeen (bootDev false false [boot0])).slotBoots 1 = false) ∧
    (bootSeen (bootDev false false [])).bootRec = none := by
  decide +kernel

/-- A device in self-test whose store holds a FORMAT record and then `marks`. -/
def storeDev (marks : List StoreRec) (trial : Bool) : Dev :=
  let f : StoreRec := { kind := 1, set := 0, body := List.replicate 22 0 }
  { life := { held := false, phase := .selfTest, trial }, nv := { refereeDuty := true, stores := [f :: marks, []], gainLog := [f] } }

theorem test_witness_StartUpTrialsAndAttestation :
    ((storeDev [⟨4, 0, [], true⟩] false).trained = true ∧ (storeDev [⟨4, 0, [], true⟩] false).migrate.life.trial = false ∧
      (storeDev [⟨4, 0, [], true⟩] false).migrate.storeCheck = 0) ∧
    (storeDev [] false).migrate.storeCheck = 5 ∧
    ((storeDev [⟨9, 0, [], true⟩] false).migrate.storeCheck ≠ 0 ∧ (storeDev [⟨9, 0, [], true⟩] false).migrate.storeCheck ≠ 5) ∧
    ((storeDev [⟨9, 0, [], true⟩] true).migrate.life.trial = true ∧ (storeDev [⟨9, 0, [], true⟩] true).migrate.storeCheck ≠ 0 ∧
      (storeDev [⟨9, 0, [], true⟩] true).migrate.storeCheck ≠ 5) ∧
    ((devWith [(Obj.FM_PC_STATE, 3, pcTraining)]).pcState 3 = pcTraining ∧
      smGet (devWith [(Obj.FM_PC_STATE, 3, pcTraining)]).fm.attempts 3 0 + 1 < 3) := by
  decide +kernel

/-- A trial image in STANDBY that is HOT, with the store areas of its record. -/
def trialDev (prev : Nat) : Dev :=
  ({ life := { held := false, phase := .running, trial := true, trialEnd := 9 }
     nv := { boot := [⟨1, 0, 1, 0, prev, 1, 0, 1⟩] } } : Dev).setReg Obj.TWIN_STATE 0 twHot

theorem test_witness_Trials :
    (devWith []).trialMet = false ∧ ((trialDev 0).trialMet = true ∧ (trialDev 0).bootRec = some ⟨1, 0, 1, 0, 0, 1, 0, 1⟩) ∧
    ((trialDev 1).trialMet = true ∧ (trialDev 1).bootRec = some ⟨1, 0, 1, 0, 1, 1, 0, 1⟩ ∧ (trialDev 1).life.storeArea = 0) ∧
    (({ life := { held := false, trial := true, trialEnd := 0 } } : Dev).life.trialEnd ≤ (devWith []).clock) ∧
    (devWith []).life.trial = false ∧ (devWith []).reg Obj.SEC_ATTEST_STATE ≠ 1 ∧
    (devWith [(Obj.SEC_ATTEST_STATE, 0, 1)]).reg Obj.SEC_ATTEST_STATE = 1 := by
  decide +kernel

/-- A device with an active reference input `i` in a state, whose gates have been whole, out of LOCAL_OSC's loss. -/
def refDevIn (i st : Nat) : Dev :=
  (devWith [(Obj.REF_STATUS, i, st)]).modRef (fun r => { r with active := 31, gateRun := [(i, 10)], gateFresh := [(i, 10)] })

theorem test_witness_ReferenceMonitoring :
    (lossGap 0 ≤ 27 * 25600 ∧ 27 * 0 < lossGap 4) ∧ (refDevIn 1 rfDisabled).refState 1 = rfDisabled ∧ (refDevIn 1 rfQualified).refState 1 ≠ rfDisabled ∧
    (({ ref := { loscLost := true } } : Dev).ref.loscLost = true ∧ bitOf (devWith []).ref.active 0 = false) ∧
    (((refDevIn 1 rfAbsent).gateCount 1).refState 1 = rfAbsent ∧ gateFull 1 ≤ smGet ((refDevIn 1 rfAbsent).gateCount 1).ref.gateFresh 1 0 ∧
      bitOf ((refDevIn 1 rfAbsent).gateCount 1).ref.active 1 = true ∧ ((refDevIn 1 rfAbsent).gateCount 1).ref.loscLost = false) ∧
    (((refDevIn 1 rfDisqualified).gateCount 1).refState 1 = rfDisqualified ∧
      gateFull 1 ≤ smGet ((refDevIn 1 rfDisqualified).gateCount 1).ref.gateRun 1 0 ∧
      (0 : Int).natAbs ≤ 1000 * (refDevIn 1 rfDisqualified).reg Obj.REF_ACCEPT 1 ∧ (refDevIn 1 rfDisqualified).reg Obj.REF_WTR 1 ≠ 0 ∧
      ((refDevIn 1 rfDisqualified).setRef 1 rfRestoring).reg Obj.REF_WTR 1 = (refDevIn 1 rfDisqualified).reg Obj.REF_WTR 1) ∧
    (¬ (90000000 : Int).natAbs ≤ 1000 * (devWith []).reg Obj.REF_ACCEPT 1 ∧ ¬ (90000000 : Int).natAbs ≤ 1000 * (devWith []).reg Obj.REF_REJECT 1 ∧
      (0 : Int).natAbs ≤ 1000 * (devWith []).reg Obj.REF_REJECT 1) ∧
    ((refDevIn 1 rfRestoring).refState 1 = rfRestoring ∧ (refDevIn 1 rfRestoring).ref.loscLost = false) ∧
    (devWith []).refState 1 ≠ rfRestoring ∧
    ((devWith [(Obj.SEL_MODE, 0, smSwitching), (Obj.SEL_CURRENT, 0, 1), (Obj.REF_STATUS, 1, rfQualified)]).selMode = smSwitching ∧
      (devWith [(Obj.SEL_CURRENT, 0, 1), (Obj.REF_STATUS, 1, rfQualified)]).refState 1 = rfQualified ∧ (devWith []).ref.evalDue = false ∧
      ({ ref := { evalDue := true } } : Dev).ref.evalDue = true ∧ (devWith [(Obj.SEL_CURRENT, 0, 1)]).refState 1 ≠ rfQualified) ∧
    (devWith []).selMode ≠ smSwitching := by
  decide +kernel

/-- A time-of-day message whose TCRC checks (Table 2.2). -/
def todMsg : BitVec 128 :=
  let v := 0x5444 * 2 ^ 112 + 2 ^ 104 + 5 * 2 ^ 48
  BitVec.ofNat 128 (v + todCrc v)

theorem test_witness_TimeOfDayAndThermos :
    (({ time := { clock := 100000000 }, ref := { ppsAt := some 0 } } : Dev).ref.ppsAt = some 0 ∧
      0 + 100000000 ≤ ({ time := { clock := 100000000 } } : Dev).clock ∧ ({ time := { clock := 100000000 } } : Dev).clock ≤ 0 + 800000000 ∧
      todGood todMsg.toNat = true) ∧
    todGood (todMsg.toNat + 1) = false ∧ ((devWith []).ref.todNext = none ∧ (devWith []).ref.stepArmed = false) ∧
    (({ ref := { todNext := some 5, stepArmed := true } } : Dev).ref.todNext = some 5 ∧
      (devWith [(Obj.REF_STATUS, 4, rfQualified)]).refState 4 = rfQualified) ∧
    (devWith []).selMode ≠ smLocked ∧
    ((devWith [(Obj.SEL_MODE, 0, smLocked)]).selMode = smLocked ∧ (devWith []).ref.loscLost = false ∧
      (devWith []).ref.recent.length < 5 ∧ (devWith []).ref.spoiledAt = none) ∧
    (({ ref := { loscFrom := some 0 } } : Dev).ref.loscStable = false ∧ ({ ref := { loscFrom := some 0 } } : Dev).ref.loscFrom = some 0) ∧
    ((devWith []).selMode ≠ smHoldover ∧ (devWith []).ref.edgeRoot ≠ .localOsc ∧
      ({ ref := { edgeRoot := .localOsc } } : Dev).ref.edgeRoot = .localOsc ∧ (devWith []).laneRefNow = 255 ∧
      (devWith [(Obj.REF_STATUS, 0, rfQualified)]).laneRefNow ≠ 255) := by
  decide +kernel
theorem test_witness_SynthesiserEvents :
    ({ synth := { captured := some [{}] } } : Dev).synth.captured = some [{}] ∧ (devWith []).synth.captured = none ∧
    (devWith [(Obj.CLKOUT_FSYNC_MODE, 3, 2)]).fsyncArmed 3 = true ∧ (∀ n, n < 4 → (devWith []).fsyncArmed n = false) ∧
    (({ synth := { resetAt := some 9 } } : Dev).synth.resetAt = some 9 ∧
      ∀ n, n < 4 → (devWith ((List.range 4).map (fun n => (Obj.CLKOUT_FSYNC_MODE, n, 2)))).reg Obj.CLKOUT_FSYNC_MODE n = 2) ∧
    (devWith []).synth.resetAt = none := by
  decide +kernel

/-- A device whose gate 36 waits to close. -/
def gateDev : Dev := (devWith []).modClk (fun x => { x with waiting := [(36, 100000)] })

/-- The same gate with a control bus access in flight through it. -/
def busyGateDev : Dev :=
  { (devWith []).modClk (fun x => { x with waiting := [(19, 100000)] }) with
    bus := { waiting := [(10, [⟨0, 0, 0, 19⟩])] } }

theorem test_witness_GatesAndCoreVoltage :
    (busyGateDev.gateWaits 19 = true ∧ busyGateDev.gateBusy 19 = true) ∧
    (gateDev.gateWaits 36 = true ∧ gateDev.gateBusy 36 = false ∧ (gateDev.takeHeld 36).1 = []) ∧
    ((devWith []).avsLatched = false ∧ (devWith []).flag Obj.AVS_ENABLE = true) ∧
    (let d := ((devWith []).setReg Obj.AVS_MARGIN 0 8).setLine Flt.AVS_MARGIN false;
      d.avsLatched = false ∧ d.flag Obj.AVS_ENABLE = true ∧ (d.reg Obj.AVS_MARGIN_TARGET : Int) ≤ 8 ∧
      (8 : Int) ≤ d.reg Obj.AVS_MARGIN_TARGET + 4) ∧
    (let d := (((devWith []).modClk (fun x => { x with above := 99 })).setReg Obj.AVS_MARGIN 0 255).setLine Flt.AVS_MARGIN false;
      d.avsLatched = false ∧ d.flag Obj.AVS_ENABLE = true ∧ (d.reg Obj.AVS_MARGIN_TARGET : Int) + 4 < 255 ∧ d.clk.above = 99 ∧
      600 < d.reg Obj.AVS_VREQ) ∧
    (devWith []).gateWaits 0 = false ∧ (devIn .running).life.phase ≠ .booting := by
  decide +kernel

/-- A device with the lane reference of input 0 and pair `l` in a state. -/
def laneDev (l st : Nat) : Dev := devWith [(Obj.LANE_REF, 0, 0), (Obj.LANE_STATE, l, st)]

/-- A training word of lane identity `id` (Table 3.3). -/
def trainWordOf (id : Nat) : Nat := trainingEncode false 0 0 id

theorem test_witness_LaneTraining :
    ((laneDev 273 lnDetect).laneState 273 = lnDetect ∧ (laneDev 273 lnDetect).laneRefOk = true ∧
      ((laneDev 273 lnDetect).lane 273).termHits = 0 ∧
      (((laneDev 273 lnDetect).modLane 273 (fun x => { x with termHits := 1 })).lane 273).termHits = 0 + 1) ∧
    (laneDev 0 lnTrain).laneState 0 ≠ lnDetect ∧ trainingValid 0 = false ∧ trainingValid (trainWordOf 5) = true ∧
    ((laneDev 0 lnTrain).laneState 0 = lnTrain ∧ (laneDev 0 lnActive).laneState 0 = lnActive) ∧
    (let x := (laneDev 0 lnTrain).modLane 0 (fun x => { x with neg := { x.neg with answered := true, cleared := true } });
      (x.lane 0).neg.answered = true ∧ (x.lane 0).neg.cleared = true) ∧
    ((laneDev 0 lnTrain).lane 0).neg.answered = false := by
  decide +kernel

/-- A pair that was charged as often as LANE_RETRY_LIMIT allows. -/
def chargedDev (st : Nat) : Dev := (laneDev 16 st).modLane 16 (fun x => { x with charged := [0, 0, 0] })

theorem test_witness_LaneTimeouts :
    ((laneDev 0 lnTrain).lane 0).gotWord = false ∧
    ((laneDev 16 lnLock).chargedIn 16 < (laneDev 16 lnLock).reg Obj.LANE_RETRY_LIMIT ∧ (laneDev 16 lnLock).laneState 16 = lnLock ∧
      (laneDev 16 lnExchange).laneState 16 = lnExchange) ∧
    ((chargedDev lnTrain).reg Obj.LANE_RETRY_LIMIT ≤ (chargedDev lnTrain).chargedIn 16 ∧ (chargedDev lnTrain).laneState 16 = lnTrain ∧
      (chargedDev lnLock).laneState 16 = lnLock ∧ (chargedDev lnExchange).laneState 16 = lnExchange) ∧
    (laneDev 0 lnActive).laneState 0 ∈ [lnTrain, lnLock, lnExchange, lnActive] ∧
    ((devWith [(Obj.LANE_STATE, 7, lnFail), (Obj.LANE_FAIL_REASON, 7, 4)]).laneState 7 = lnFail ∧
      (devWith [(Obj.LANE_STATE, 7, lnFail), (Obj.LANE_FAIL_REASON, 7, 4)]).reg Obj.LANE_FAIL_REASON 7 ∈ [3, 4]) ∧
    (laneDev 7 lnTest).laneState 7 ∈ [lnOff, lnDetect, lnTest] := by
  decide +kernel

/-- Group 15 with its lane 15, the lane that asks and the spare in states; the spare carries `n`. -/
def groupDev (asked spare carries : Nat) : Dev :=
  devWith [(Obj.LANE_STATE, 255, lnActive), (Obj.LANE_STATE, 270, asked), (Obj.LANE_STATE, spareOf 15, spare),
    (Obj.LANE_EN, spareOf 15, 1), (Obj.LANE_SPARE_FOR, 15, carries)]

/-- A group in a move, before anything was answered. -/
def moveDev (m : Move) : Dev := (groupDev lnActive lnActive 15).setGroup 15 { (devWith []).group 15 with move := m }

theorem test_witness_SparesAndRetirement :
    ((groupDev lnActive lnOff 255).laneState 255 = lnActive ∧ (255 : Nat) < 272 ∧ 17 * laneGroup 255 + 15 = 270) ∧
    ((groupDev lnActive lnOff 255).laneState 270 ∉ [lnOff, lnTest, lnFail] ∧ (groupDev lnActive lnOff 255).spareFree 15 15 = true ∧
      (groupDev lnActive lnOff 3).spareFree 15 15 = false) ∧
    (groupDev lnTest lnOff 255).laneState 270 ∈ [lnOff, lnTest] ∧
    ((groupDev lnFail lnActive 15).laneState 270 = lnFail ∧ (groupDev lnFail lnActive 15).reg Obj.LANE_SPARE_FOR 15 = 15) ∧
    (groupDev lnFail lnActive 3).reg Obj.LANE_SPARE_FOR 15 ≠ 15 ∧
    ((moveDev (.takeover 15)).moveLane 15 = some (spareOf 15, 15) ∧ ((moveDev (.takeover 15)).group 15).acked = false ∧
      ((moveDev (.takeover 15)).group 15).goSeen = false ∧ ((moveDev (.takeover 15)).group 15).unanswered = true) ∧
    (((moveDev (.bringUp 0)).group 15).move = .bringUp 0 ∧ ((moveDev (.release 0)).group 15).move = .release 0 ∧
      ((moveDev (.release 0)).group 15).unanswered = true) ∧
    ((devWith []).group 0).move = .none ∧ 16 ≤ (devWith []).spareLane 0 ∧ (devWith [(Obj.LANE_SPARE_FOR, 0, 15)]).spareLane 0 < 16 := by
  decide +kernel

theorem test_witness_RamblerLaneChecks :
    ((groupDev lnActive lnOff 255).laneState (spareOf 15) = lnOff ∧ (groupDev lnActive lnOff 255).flag Obj.LANE_EN (spareOf 15) = true ∧
      (groupDev lnActive lnOff 255).reg Obj.LANE_SPARE_CHECK ≠ 0 ∧ (devWith []).nv.refereeDuty = false ∧
      (∀ h, h < 16 → ((groupDev lnActive lnOff 255).group h).checking = false)) ∧
    (let d := (groupDev lnActive lnActive 255).setGroup 15 { (devWith []).group 15 with checking := true };
      (∃ h, h < 16 ∧ (d.group h).checking = true) ∧ (d.group 15).checking = true ∧ d.reg Obj.LANE_EYE_MIN ≤ d.reg Obj.LANE_EYE_MIN ∧
      d.reg Obj.LANE_PRBS_ERR (spareOf 15) = (d.group 15).checkFrom ∧
      ((((d.setGroup 15 { d.group 15 with checking := false, checkFailed := false }).setReg Obj.LANE_EYE_HEIGHT (spareOf 15) 30).setReg
        Obj.LANE_EYE_WIDTH (spareOf 15) 0).marginLine 15).laneState (spareOf 15) ≠ lnFail) ∧
    (groupDev lnActive lnActive 255).laneState (spareOf 15) ≠ lnOff ∧
    ((laneDev 272 lnActive).laneState 272 = lnActive ∧ (laneDev 271 lnActive).laneState 271 = lnActive ∧
      0 < (laneDev 271 lnActive).reg Obj.LANE_EYE_MIN) ∧
    ((laneDev 0 lnTest).laneState 0 = lnTest ∧ ((laneDev 0 lnTest).lane 0).testSeed < (patternTaps 0).1 ∧
      ((laneDev 0 lnTest).lane 0).testErrs < 32 ∧ ((laneDev 0 lnTest).lane 0).testBits < 1024) ∧
    (let x := (((laneDev 0 lnTest).modLane 0 (fun x => { x with testSeed := 31, testErrs := 32, testReg := 1 })).lane 0);
      let y := (((laneDev 0 lnTest).modLane 0 (fun x => { x with testSeed := 31, testBits := 1023, testReg := 1 })).lane 0);
      (patternTaps 0).1 ≤ x.testSeed ∧ (laneDev 0 lnTest).flag Obj.LANE_PRBS_LOCK 0 = false ∧ 32 ≤ (x.checkBit (patternTaps 0) 0).1.testErrs ∧
      (y.checkBit (patternTaps 0) 0).1.testErrs < 32 ∧ (y.checkBit (patternTaps 0) 0).1.testBits = 1024 ∧
      (({ y with testBits := 5 } : LaneX).checkBit (patternTaps 0) 0).1.testBits ≠ 1024) := by
  decide +kernel

/-- A CAP body that suits pair 272 of a device on side A, and one with another VERSION (Table 4.10). -/
def capBody (version : Nat) : BitVec 160 :=
  BitVec.ofNat 160 (version * 2 ^ 152 + 0 * 2 ^ 144 + ((devWith []).laneIdentity 272 / 512) * 2 ^ 137 +
    ((devWith []).laneIdentity 272 / 32 % 16) * 2 ^ 133 + ((devWith []).laneIdentity 272 % 32) * 2 ^ 128 + 1522 * 2 ^ 112)

/-- Pair 272 in a state with cycle lock. -/
def lockedPair (st : Nat) : Dev := (laneDev 272 st).modLane 272 (fun x => { x with cycleLock := true })

theorem test_witness_LaneServiceMessages :
    ((lockedPair lnExchange).lane 272).cycleLock = true ∧ (lockedPair lnExchange).laneState 272 ∈ [lnExchange, lnActive] ∧
    (lockedPair lnExchange).capResult 272 (capBody 1).toNat = 0 ∧ (lockedPair lnExchange).capResult 272 (capBody 2).toNat = 1 ∧
    fld (0xFF : BitVec 16).toNat 15 8 = 0 ∧ fld (0x100 : BitVec 16).toNat 15 8 ≠ 0 ∧ ((devWith []).lane 272).cycleLock = false ∧
    (laneDev 271 lnActive).laneState 271 = lnActive ∧ (laneDev 271 lnExchange).laneState 271 ≠ lnActive ∧
    bitOf (2 : BitVec 80).toNat 0 = false ∧ bitOf (1 : BitVec 80).toNat 0 = true := by
  decide +kernel

/-- What a transmitter with its scrambler at 0 sends for a header and payload. -/
def wireOf (h : Nat) (payload : Bytes) : WireBasket := { blocks := withSync (scramble 0 (blocksOf h payload)).1, steady := true }

/-- The header of a RASTER Basket with VALID 1, COUNT 204 and 256 zero bytes (Table 4.1), its HCRC worked out by hand. -/
def rasterHead : Nat := 0x2800CC0000007358

/-- The same Basket with an invalid sync header. -/
def badWire : WireBasket := { wireOf rasterHead (List.replicate 256 0) with
  blocks := (wireOf rasterHead (List.replicate 256 0)).blocks.take 32 ++ [(0, 0)] }

theorem crcNorm_append (w p c : Nat) (a b : Bytes) : crcNorm w p c (a ++ b) = crcNorm w p (crcNorm w p c a) b := by
  induction a generalizing c with
  | nil => rfl
  | cons x a h => exact h _

/-- R123: the HCRC, worked out a part at a time. -/
theorem test_raster_hcrc : hcrc (rasterHead / 65536) (List.replicate 256 0) = rasterHead % 65536 := by
  have e : beBytes 6 (rasterHead / 65536) ++ List.replicate 256 (0 : Byte) = (beBytes 6 (rasterHead / 65536) ++ List.replicate 64 0) ++
      (List.replicate 64 0 ++ (List.replicate 64 0 ++ List.replicate 64 0)) := by decide +kernel
  unfold hcrc crc16
  rw [e, crcNorm_append, show crcNorm 16 0x1021 0xFFFF (beBytes 6 (rasterHead / 65536) ++ List.replicate 64 0) = 0x5813 by decide +kernel,
    crcNorm_append, show crcNorm 16 0x1021 0x5813 (List.replicate 64 0) = 0x6f0a by decide +kernel,
    crcNorm_append, show crcNorm 16 0x1021 0x6f0a (List.replicate 64 0) = 0xaa9c by decide +kernel]
  decide +kernel

/-- A pair in block and cycle lock at a position. -/
def lockedLane (l st pos : Nat) : Dev :=
  (laneDev l st).modLane l (fun x => { x with blockLock := true, cycleLock := true, live := true, pos })

/-- The pair after the sync headers of a Basket. -/
def headed (d : Dev) (l : Nat) (w : WireBasket) : Dev := d.setLane l ((d.lane l).headersIn w).1

/-- 33 blocks whose sync headers are all invalid, after a Basket whose headers stood off their places. -/
def lostWire : WireBasket := { blocks := List.replicate 33 (0, 0), steady := true }

theorem test_witness_BasketsInAndOut :
    ((laneDev 0 lnTest).laneState 0 ∈ [lnOff, lnDetect, lnTest, lnFail] ∧ (laneDev 0 lnTrain).laneState 0 = lnTrain) ∧
    ((lockedLane 0 lnLock 0).laneState 0 ∈ [lnLock, lnExchange, lnActive] ∧ (((lockedLane 0 lnLock 0).lane 0).headersIn lostWire).2 = true ∧
      (lockedLane 0 lnLock 0).laneState 0 ≠ lnActive ∧ (lockedLane 0 lnActive 0).laneState 0 = lnActive) ∧
    ((((lockedLane 0 lnExchange 0).lane 0).headersIn badWire).2 = false ∧ ((lockedLane 0 lnExchange 0).lane 0).blockLock = true ∧
      trainingValid ((badWire.blocks.map (·.2.toNat)).headD 0) = false ∧
      (basketOf (descramble 0 (badWire.blocks.map (·.2.toNat))).1).type ≠ tyIdle ∧
      ((headed (lockedLane 0 lnExchange 0) 0 badWire).lane 0).goodBasket false badWire (descramble 0 (badWire.blocks.map (·.2.toNat))).1 = false) := by
  decide +kernel

theorem test_witness_RasterBasketIn :
    let w := wireOf rasterHead (List.replicate 256 0); let d := headed (lockedLane 0 lnActive 3) 0 w; let e := d.countBasket 0 (wireErrors w) false
    let blocks := (descramble 0 (w.blocks.map (·.2.toNat))).1
    ((((lockedLane 0 lnActive 3).lane 0).headersIn w).2 = false ∧ trainingValid ((w.blocks.map (·.2.toNat)).headD 0) = false ∧
      (basketOf blocks).type = tyRaster ∧ (d.lane 0).cycleLock = true ∧
      (d.lane 0).live = true ∧ (e.lane 0).winBad < e.reg Obj.LANE_HCRC_LIMIT ∧ e.portIn 0 (3 % 4) = some 3 ∧ e.reg Obj.IN_TRANSPORT 3 = 0) ∧
    (d.lane 0).goodBasket false w blocks = true := by
  intro w d e blocks
  refine ⟨by decide +kernel, ?_⟩
  have p : hcrc (blocks.headD 0 / 65536) (basketOf blocks).payload = rasterHead % 65536 := by
    rw [show (basketOf blocks).payload = List.replicate 256 0 by decide +kernel, show blocks.headD 0 = rasterHead by decide +kernel]
    exact test_raster_hcrc
  simp only [LaneX.goodBasket, p]
  decide +kernel

theorem test_witness_SlotsAndInputs :
    (laneDev 0 lnFail).laneState 0 ∈ [lnOff, lnDetect, lnFail] ∧
    ((laneDev 271 lnExchange).laneState 271 = lnExchange ∧ ((laneDev 271 lnExchange).tx 271).pos < 16) ∧
    (devWith []).takeRx 1023 = none ∧
    (let d := (laneDev 0 lnActive).modLane 0 (fun x => { x with rx := [⟨0, 0, 0, { valid := true }⟩, ⟨1, 0, 0, {}⟩] });
      let f := d.setReg Obj.IN_FORMAT 0 5;
      ((f.takeRx 0).map (fun x => (x.1.holes, x.1.basket.valid)) = some (0, true)) ∧
      ((f.takeRx 1).map (fun x => (x.1.holes, x.1.basket.valid)) = some (0, false)) ∧
      (fmtOf (linkCode (f.reg Obj.IN_FORMAT (f.inBase 0)) (f.flag Obj.IN_GANG (f.inBase 0)))).isSome = true) ∧
    ((∀ g, g < 16 → (devWith []).tapOn g = false) ∧ ((devWith []).inp ((devWith []).inBase 1023)).mode = 0 ∧
      (devWith []).reg Obj.IN_TRANSPORT ((devWith []).inBase 1023) = 0 ∧ ((devWith []).inp 1023).q = [] ∧
      (∀ g, g < 16 → bitOf ((devWith ((List.range 16).map (fun k => (Obj.XP_SOURCE, 64 * k, 5)))).subMask 5) g = true)) := by
  decide +kernel

/-- An output with a take of `e` pending. -/
def takeDev (e : Nat) : Dev := (devWith [(Obj.OUT_FORMAT, 7, 5)]).modOut 7 (fun x => { x with pend := some ⟨1, e, false, none⟩ })

theorem test_witness_OutputFramesAndSwitchPoints :
    fmtOf ((devWith []).outFormat 0) = none ∧
    (let d := (devWith [(Obj.OUT_FORMAT, 1023, 5)]).modOut 1023 (fun x => { x with started := true, fmt := 5 });
      (fmtOf (d.outFormat 1023)).isSome = true ∧
      ((((d.phaseDue (d.reg Obj.XP_SOURCE 1023)).fsSettle (d.reg Obj.XP_SOURCE 1023) d.now)).out 1023).started = true ∧
      d.reg Obj.OUT_TRANSPORT 1023 = 0) ∧
    (devWith [(Obj.OUT_GANG, 0, 1)]).outGangMember 3 = true ∧
    ((takeDev 0).outGangMember 7 = false ∧ (fmtOf ((takeDev 0).outFormat 7)).isSome = true ∧
      ((takeDev 0).switchLine 7 ((takeDev 0).outFormat 7) false).isSome = true ∧ (((takeDev 0).out 7).pend).isSome = true ∧
      (takeDev 0).takeReady ⟨1, 0, false, none⟩ = true ∧ ((takeDev 0).out 7).swDone = none) := by
  decide +kernel

theorem test_witness_SwitchPointTimes :
    (((fmtOf 5).map (fun f => decide (f.ex 0 ≤ f.ex ((takeDev 0).out 7).start + (takeDev 0).lineWord 7 5 7 * (takeDev 0).outTw 7 f))) = some true) ∧
    (((fmtOf 5).map (fun f => decide (f.ex ((takeDev 0).out 7).start + (takeDev 0).lineWord 7 5 7 * (takeDev 0).outTw 7 f <
      f.ex (msMt 100)))) = some true) ∧
    (let d := { devWith [(Obj.HAMPER_STATE, 255, hsArmed)] with hampers := [(255, some ⟨0, false, []⟩)] };
      (d.hamper 255).isSome = true ∧ d.reg Obj.HAMPER_STATE 255 = hsArmed) ∧
    (devWith []).hamper 0 = none := by
  decide +kernel

/-- A frame sync at input 1023 with a frame held after frame `last`. -/
def syncDev (last : Nat) (p : Phase := .running) : Dev :=
  ({ life := { held := false, phase := p } } : Dev).modInp 1023 (fun x => { x with
    mode := 1, costFmt := 5, last := some ⟨last, 0, 5, []⟩, held := [⟨8, 0, 5, []⟩] })

/-- A standby that is HOT. -/
def standby (d : Dev) : Dev := d.setReg Obj.TWIN_STATE 0 twHot

theorem test_witness_FrameSyncDecisions :
    ((syncDev 7).reg Obj.IN_TRANSPORT 1023 = 0 ∧ ((syncDev 7).inp 1023).mode = 1 ∧ ((syncDev 7).inp 1023).filled = none ∧
      ((syncDev 7).inp 1023).writing = none) ∧
    (((syncDev 7).modInp 1023 (fun x => { x with writing := some ⟨9, 0, 5, []⟩ })).inp 1023).writing = some ⟨9, 0, 5, []⟩ ∧
    (((syncDev 7).modInp 1023 (fun x => { x with filled := some ⟨9, 0, 5, []⟩ })).inp 1023).filled = some ⟨9, 0, 5, []⟩ ∧
    (((devWith []).inp 0).wait = none ∧ ((devWith []).inp 0).mode ≠ 1) ∧
    (((devWith []).modInp 3 (fun x => { x with wait := some ⟨0, 0, 0, none, 0, 0, false⟩ })).inp 3).wait = some ⟨0, 0, 0, none, 0, 0, false⟩ ∧
    (((syncDev 7).inp 1023).wait = none ∧ (fmtOf ((syncDev 7).inp 1023).costFmt).isSome = true ∧ (syncDev 7).follows = false ∧
      ((syncDev 7).inp 1023).last = some ⟨7, 0, 5, []⟩ ∧ ((syncDev 7).inp 1023).held.head? = some ⟨8, 0, 5, []⟩ ∧
      ((syncDev 7).inp 1023).stepped = false ∧ 8 = 7 + 1) ∧
    (((syncDev 6).inp 1023).last = some ⟨6, 0, 5, []⟩ ∧ 6 + 1 < 8) ∧
    (((syncDev 8).inp 1023).last = some ⟨8, 0, 5, []⟩ ∧ ((syncDev 8).inp 1023).missed + 1 < (syncDev 8).reg Obj.FS_LOSS_HOLD 1023) ∧
    ((standby (syncDev 7)).follows = true ∧ smGet ((standby (syncDev 7)).inp 1023).mirrored (0 % 2 ^ 32 + 1) (0, 0) = (0, 0)) := by
  decide +kernel

/-- Engine 63 assigned to output 1023 of a format. -/
def engineDev (fmt st : Nat) : Dev :=
  let d := devWith [(Obj.OUT_FORMAT, 1023, fmt), (Obj.CE_STATE, 63, st)]
  d.setEngine 63 { d.engine 63 with out := 1023 }

theorem test_witness_EnginesAndUnitChecks :
    1024 ≤ ((devWith []).engine 0).out ∧ (engineDev 5 ceRetired).reg Obj.CE_STATE 63 = ceRetired ∧
    (((engineDev 0 ceIdle).engine 63).out < 1024 ∧ (engineDev 0 ceIdle).reg Obj.CE_STATE 63 ≠ ceRetired ∧
      fmtOf ((engineDev 0 ceIdle).outFormat ((engineDev 0 ceIdle).engine 63).out) = none) ∧
    fmtOf ((engineDev 5 ceIdle).outFormat ((engineDev 5 ceIdle).engine 63).out) ≠ none ∧
    ((devWith []).checkErrors ((devWith []).engine 63).errors).2 = false ∧ ((devWith []).checkErrors ((devWith []).inserter 127).errors).2 = false ∧
    ((devWith []).checkErrors ((devWith []).ap 31).errors).2 = false := by
  decide +kernel

/-- Canopy sync 15 of source 5 with a frame being written. -/
def canopyDev (w : Option Frame) : Dev :=
  let d := devWith [(Obj.CI_ON, 127, 1), (Obj.CANOPY_SOURCE, 15, 5), (Obj.CANOPY_SYNC_STATE, 15, cyRunning), (Obj.IN_FORMAT, 5, 5)]
  d.setCanopy 15 { d.canopy 15 with writing := w, bufs := [⟨4, 0, 5, []⟩] }

theorem test_witness_CanopySyncs :
    (devWith []).syncRuns 0 = false ∧ ((canopyDev none).syncRuns 15 = true ∧ (canopyDev none).generated ((canopyDev none).reg Obj.CANOPY_SOURCE 15) = false ∧
      ((canopyDev none).canopy 15).writing = none) ∧
    ((canopyDev (some ⟨5, 0, 5, []⟩)).canopy 15).writing = some ⟨5, 0, 5, []⟩ ∧
    (((canopyDev none).canopy (127 / 8)).bufs.head? = some ⟨4, 0, 5, []⟩ ∧ (canopyDev none).follows = false ∧
      (standby { canopyDev none with life := { held := false, phase := .running } }).follows = true) ∧
    ((devWith []).canopy (0 / 8)).bufs = [] ∧
    (let d := { (canopyDev none).setReg Obj.CANOPY_LOSS_HOLD 15 0 with time := { mt := 9 } };
      d.canopyState 15 ∈ [cyRunning, cyHold] ∧ (d.canopy 15).lastAt + d.reg Obj.CANOPY_LOSS_HOLD 15 * d.canopyPeriod 15 ≤ d.now) ∧
    (devWith []).canopyState 0 ∉ [cyRunning, cyHold] := by
  decide +kernel

/-- A frame on the Canopy port to an address, around a body. -/
def cnTo (addr : Nat) (body : Bytes) : CanopyFrame := { bytes := cnFrameBytes addr body, idle := true, gap := false, stopError := false }

theorem test_witness_CanopyPort :
    (devIn .running).portOpen .cn = true ∧ cnBody { cnTo 3 (List.replicate 16 7) with stopError := true } = none ∧
    ((cnBody (cnTo 3 (List.replicate 16 7))).isSome = true ∧ (3 : Nat) ∈ [3, 1 + boolNat (devIn .running).nv.sideB]) ∧
    ((cnBody (cnTo 2 (List.replicate 16 7))).isSome = true ∧ (2 : Nat) ∉ [3, 1 + boolNat (devIn .running).nv.sideB]) ∧
    (devWith [(Obj.GATE_STATE, 35, 0)]).portOpen .cn = false ∧ (devWith []).ch.cnReply = none ∧
    (({ ch := { cnReply := some [1] } } : Dev).ch.cnReply = some [1] ∧
      (∀ x ∈ ({ ch := { cnReply := some [1] } } : Dev).ch.deferred, x.port ≠ .cn)) := by
  decide +kernel

/-- AO 37375 with source `ai` and what it has got. -/
def aoDev (ai : Nat) (got : SMap Block) (now : Nat := 0) : Dev :=
  let d : Dev := { time := { mt := now }, mix := { made := [(0, [])] } }
  d.setAo 37375 { d.ao 37375 with srcs := [(0, ai)], got }

def ones : Block := { present := 0xFFFF, samples := List.replicate 16 (-1) }

theorem test_witness_AudioBlocks :
    (devWith []).aoOffset 0 = none ∧ ((aoDev 33280 []).aoOffset 37375).isSome = true ∧
    (([].take 4).filter ((devWith []).audioSub · (aoNode 37375))).filterMap
      (fun ai => ((devWith []).aiBlock ai 0).map (fun b => (ai, b))) = [] ∧
    (([33280].take 4).filter ((aoDev 33280 []).audioSub · (aoNode 37375))).filterMap
      (fun ai => ((aoDev 33280 []).aiBlock ai 0).map (fun b => (ai, b))) ≠ [] ∧
    (ones.present < 65536 ∧ ones.samples.length = 16 ∧ (∀ v ∈ ones.samples, -8388608 ≤ v ∧ v < 8388608) ∧
      (∀ i, i < 16 → bitOf ones.present i = false → ones.samples.getD i 0 = 0)) ∧
    (((aoDev 5 []).ao 37375).sources 7).contains 5 = true ∧ 5 ≠ aiSilence := by
  decide +kernel

theorem test_witness_AudioDeadlines :
    (let d := aoDev 33280 [] (msMt 100); d.blockDeadline 37375 0 0 < d.now) ∧
    (let d := aoDev 33280 []; d.now ≤ d.blockDeadline 37375 400 500000 ∧ smGet (d.ao 37375).decided 400 0 = 0) ∧
    (let d := (devWith []).setAo 37375 { decided := [(3, 1)] }; smGet (d.ao 37375).decided 3 0 ≠ 0) ∧
    (let d := aoDev 33280 [(33280, ones)] (msMt 100);
      smGet (d.ao 37375).decided 0 0 = 0 ∧ d.blockDeadline 37375 0 0 ≤ d.now ∧ d.follows = false ∧ d.blockHere 37375 0 = true) ∧
    (let d := aoDev 5 [] (msMt 100); d.blockHere 37375 1 = false ∧ ((d.decideBlock 37375 1 false).aoPrune 37375 0).acts = false) := by
  decide +kernel

/-- A mixer whose Media Time is past its block 0, with gains and outputs made. -/
def mixDev (gain : SMap Nat) (made : List (Nat × SMap Block)) : Dev := { time := { mt := msMt 100 }, mix := { gain, made } }

theorem test_witness_Mixer :
    (devWith []).now < blockTime 9 + (devWith []).reg Obj.MIX_IN_OFFSET * subNs ∧
    (mixDev [] [(2, [])]).mix.made.any (fun m => m.1 == 0 + 2) = true ∧
    (blockTime 0 + (mixDev [] []).reg Obj.MIX_IN_OFFSET * subNs ≤ (mixDev [] []).now ∧
      (mixDev [] []).mix.made.any (fun m => m.1 == 0 + 2) = false ∧ (mixDev [] []).mix.gain = [] ∧ (mixDev [] []).mix.armedE = none) ∧
    (let d := (mixDev [(4096 * 4095 + 1, 0x8000)] []).mixTake 0;
      d.mix.gain = [(4096 * 4095 + 1, 0x8000)] ∧ d.mix.bad = [] ∧
      (∀ v ∈ (List.range 16).map (fun k => mixTerm (d.miSample 1 0 k) (rampGain (toInt 16 0x8000) (toInt 16 0x8000) k)),
        mixClamp (mixRound v) = mixRound v)) ∧
    ((devWith []).gateOn 33 = true ∧ ({ life := { gainDirty := [4095] } } : Dev).life.gainDirty ≠ [] ∧ (devWith []).life.gainDirty = []) := by
  decide +kernel

/-- TDM port 31 in a mode and state, at a Media Time. -/
def apDev (mode st : Nat) (x : ApX) (now : Nat := 0) : Dev :=
  (({ time := { mt := now } } : Dev).setReg Obj.AP_MODE 31 mode |>.setReg Obj.AP_STATE 31 st).setAp 31 x

theorem test_witness_TdmMaster :
    ((apDev 0 apOff {}).apMaster 31 = true ∧ ((apDev 0 apOff {}).apSettle 31).ap 31 = {} ∧ ({} : ApX).on = none) ∧
    (let d := (apDev 0 apLead { on := some 0 } (msMt 100)).apSettle 31;
      (d.ap 31).on = some 0 ∧ 0 ≤ sampleNear d.now - 1 ∧ d.apState 31 ≠ apRetired) ∧
    (let d := apDev 0 apLead { on := some 0 } (msMt 100);
      d.apState 31 = apLead ∧ (d.ap 31).off = none ∧ (d.ap 31).on = some 0 ∧ sampleTime (0 + 1024) ≤ d.now) ∧
    (apDev 0 apOff {}).apState 31 ≠ apLead ∧ ((apDev 0 apOff {}).ap 31).off = none ∧
    (let d := apDev 0 apStopping { on := some 0, off := some 9 } (msMt 100);
      (d.ap 31).off = some 9 ∧ d.apState 31 ≠ apRetired ∧ sampleTime (9 + 65) ≤ d.now) := by
  decide +kernel

theorem test_witness_TdmSlave :
    ((apDev 1 apQualifying { det := apQualifying, clean := 4800 }).apMaster 31 = false ∧
      ((apDev 1 apQualifying { det := apQualifying, clean := 4800 }).ap 31).det = apQualifying ∧
      4800 ≤ ((apDev 1 apQualifying { det := apQualifying, clean := 4800 }).ap 31).clean) ∧
    ((apDev 1 apQualifying { clean := 4799 }).ap 31).clean < 4800 ∧ ((apDev 1 apRunning { det := apRunning }).ap 31).det ∉ [apOff, apLost] ∧
    ((apDev 1 apLost { det := apLost }).ap 31).det ∈ [apOff, apLost] ∧
    (let d := apDev 1 apRunning {}; d.apMaster 31 = false ∧ d.apState 31 = apRunning ∧ (d.ap 31).anchorDue = false ∧ d.follows = false ∧
      ((d.count Obj.AP_SLIPS 31).pulse Flt.AP_SLIP).follows = false) ∧
    usMt 5 < (((sampleTime 48 + usMt 6 : Nat) : Int) - ((sampleTime 48 : Nat) : Int)).natAbs := by
  decide +kernel

/-- A request of 32 bytes at an offset. -/
def fmReq (c : Fin 6) (w : Bool) (off : BitVec 36) (len : Nat) : FmReq :=
  { cls := c, inst := 0, write := w, offset := off, len, data := List.replicate len 1, ecc := .clean, odecc := 0 }

/-- Every pseudo-channel in a state. -/
def pcDev (st : Nat) : Dev := devWith ((List.range 64).map (fun k => (Obj.FM_PC_STATE, k, st)))

theorem test_witness_FrameMemoryRequests :
    (fmInRegion (fmReq 0 true 0x7FFFFFFE0 64) = false ∧ fmInRegion (fmReq 3 true 0xB40000000 32) = true) ∧
    ((4 : Nat) ≤ (fmReq 4 true 0xBD0000000 32).cls.val ∧ 0xBD0000000 ≤ (fmReq 4 true 0xBD0000000 32).offset.toNat ∧
      (fmReq 4 true 0xBD0000000 32).inst ≠ 7) ∧
    ((fmReq 5 true 0xBCFFFFFE0 0x30000020).offset.toNat < 0xBD0000000 ∧ 0xC00000000 < (0xBCFFFFFE0 : BitVec 36).toNat + 0x30000021) ∧
    ((fmReq 5 true 0xBCFFFFFE0 32).offset.toNat < 0xBD0000000 ∧ (0xBCFFFFFE0 : BitVec 36).toNat + 32 ≤ 0xC00000000) ∧
    (devWith []).pcServes 0 = false ∧
    (let d := pcDev pcActive; let q := fmReq 5 true 0x40 32;
      d.pcServes (d.fmCoord q.offset.toNat).pc = true ∧ (d.fmQueue (d.fmCoord q.offset.toNat).pc true).length < 64 ∧
      (d.takeTokens 5 32).isSome = true ∧ (d.setReg Obj.FM_CLASS_BUDGET 5 0).takeTokens 5 32 = none ∧
      (d.setReg Obj.FM_CLASS_BUDGET 0 0).takeTokens 0 32 = none) ∧
    ((fmReq 5 true 0x40 32).offset.toNat = 32 * 2 ∧ (fmReq 5 true 0x40 32).data.length = 32) ∧
    ((fmReq 5 true 0x41 16).offset.toNat = 32 * 2 + 1 ∧ ({ fm := { poison := [2] } } : Dev).fmPoisoned 2 = true) ∧
    (devWith []).fmPoisoned 2 = false := by
  decide +kernel

/-- Bank `k` of a memory that serves. -/
def bankDev (k : Nat) (x : BankX) : Dev := (pcDev pcActive).setBank k x

theorem test_witness_FrameMemoryBanks :
    ((devWith []).fm.writeback.contains 5 = false ∧ ({ fm := { writeback := [5] } } : Dev).fm.writeback.contains 5 = true ∧
      ((devWith []).takeTokens 5 32).isSome = true) ∧
    (devWith []).pcServes 63 = false ∧
    (let d := ((bankDev 3071 {}).setReg Obj.FM_REF_DEBT_MAX 63 8).passTo ((bankDev 3071 {}).bank 3071).tickAt;
      d.pcServes 63 = true ∧ (d.bank 3071).debt + 1 ≤ d.reg Obj.FM_REF_DEBT_MAX 63 ∧ d.fmHot 63 = false ∧
      (d.bank 3071).debt + 1 ≤ d.reg Obj.FM_REF_POSTPONE) ∧
    ((bankDev 3071 {}).setReg Obj.FM_HOT 1 1).fmHot 63 = true ∧
    ((devWith []).flag Obj.FM_HOT 1 = false ∧
      (((devWith []).setSreg 8 Obj.FM_TEMP 1 86).setLine (Flt.HBM_OVERTEMP + 1) (decide ((100 : Int) ≤ 86))).flag Obj.FM_HOT 1 = false ∧
      (((devWith []).setSreg 8 Obj.FM_TEMP 1 85).setLine (Flt.HBM_OVERTEMP + 1) (decide ((100 : Int) ≤ 85))).flag Obj.FM_HOT 1 = false) ∧
    ((bankDev 3071 {}).bank (48 * 63 + 47)).open_ = 0 ∧
    ((bankDev 3071 { open_ := 1 }).reg Obj.FM_PAGE_IDLE ≠ 0 ∧ ((bankDev 3071 { open_ := 1 }).bank (48 * 63 + 47)).open_ ≠ 0) := by
  decide +kernel

/-- A memory that retrains pseudo-channel 63 at a step. -/
def retrainDev (step : Nat) : Dev :=
  { pcDev pcActive with time := { clock := 1000000000000 }, fm := { retrain := 64, retrainStep := step } }

theorem test_witness_FrameMemoryRetrains :
    (let d := { pcDev pcActive with time := { clock := 10000000000000 } };
      d.fm.retrain = 0 ∧ d.fm.retrainAt + d.reg Obj.FM_RETRAIN_GAP * 1000000000 ≤ d.clock ∧ (d.nextRetrain).isSome = true) ∧
    ((retrainDev 0).fm.retrain ≠ 0 ∧ (devWith []).clock < (devWith []).fm.retrainAt + (devWith []).reg Obj.FM_RETRAIN_GAP * 1000000000) ∧
    (let d := retrainDev 255;
      d.fm.retrain = 63 + 1 ∧ d.fm.banks.any (fun kv => kv.1 / 48 == 63 && decide (6 ≤ kv.2.debt)) = false ∧ (d.fmQueue 63 false).length < 48 ∧
      d.fm.stepAt + 10000 ≤ d.clock ∧ (d.takeTokens 5 retrainBytes).isSome = true ∧ d.fm.retrainStep = 255 ∧
      d.reg Obj.FM_EYE_MIN ≤ 100000 ∧ (retrainDev 254).fm.retrainStep + 1 < 256) ∧
    (devWith []).fm.copying = 0 ∧ ({ fm := { copying := 64 } } : Dev).fm.copying = 63 + 1 ∧
    ((devWith [(Obj.FM_CLASS_BUDGET, 5, 0)]).takeTokens 5 32 = none ∧ ((pcDev pcActive).takeTokens 5 32).isSome = true ∧
      (pcDev pcActive).reg Obj.FM_SCRUB_POS + 32 < 51539607552 ∧
      (pcDev pcActive).pcServes ((pcDev pcActive).fmCoord ((pcDev pcActive).reg Obj.FM_SCRUB_POS)).pc = true ∧
      (pcDev pcActive).fmPoisoned 0 = false ∧ 51539607552 ≤ (devWith [(Obj.FM_SCRUB_POS, 0, 51539607520)]).reg Obj.FM_SCRUB_POS + 32 ∧
      (((devWith [(Obj.FM_SCRUB_POS, 0, 51539607520)]).setReg Obj.FM_SCRUB_POS 0 0).count Obj.FM_SCRUB_PASSES).reg Obj.FM_SCRUB_POS = 0) := by
  decide +kernel

/-- A device in a TWIN_STATE, with a lease that ends at `e` where one runs. -/
def twinDev (st : Nat) (lease : Option Nat) (rs : List (Nat × Nat × Nat) := []) : Dev :=
  ((devWith rs).setReg Obj.TWIN_STATE 0 st).modTw (fun x => { x with leaseEnd := lease })

/-- An Ethernet frame around an IPv4 packet of protocol 17 with `pl`. -/
def udpFrame (pl : Bytes) : Bytes :=
  let ip0 : Bytes := [0x45, 0] ++ beBytes 2 (28 + pl.length) ++ [0, 0, 0x40, 0, 64, 17]
  let body := List.replicate 12 2 ++ [0x08, 0x00] ++ ip0 ++ beBytes 2 (ipChecksum (ip0 ++ [0, 0] ++ List.replicate 8 9)) ++
    List.replicate 8 9 ++ [0, 5, 0, 6] ++ beBytes 2 (8 + pl.length) ++ [0, 0] ++ pl
  body ++ leBytes 4 (crc32 body)

def rtp12 : Bytes := [0x80, 96, 0, 1, 0, 0, 0, 0, 0, 0, 0, 7]

theorem test_witness_ReceiveFlows :
    ((devWith []).inp (64 * 15 + 63)).frames = [] ∧
    (let d := (devWith [(Obj.IN_TRANSPORT, 1023, 1)]).modInp 1023 (fun x => { x with frames := [(0, [])] });
      (d.inp 1023).frames = [(0, [])] ∧ (d.modInp 1023 (fun x => { x with frames := [] })).reg Obj.IN_TRANSPORT 1023 = 1) ∧
    (devWith []).reg Obj.IN_TRANSPORT 1023 ≠ 1 ∧ parseUdp [1, 2, 3, 4, 5] = .badFcs ∧
    parseUdp ([1] ++ leBytes 4 (crc32 [1])) = .badHdr ∧ parseUdp (udpFrame rtp12) = .good 0x09090909 6 rtp12 ∧
    ((devWith []).trueOf Obj.RF_ENABLE).find? (fun f => (devWith []).reg Obj.RF_PORT f == 1023) = none ∧
    (let d := devWith [(Obj.RF_ENABLE, 4095, 1), (Obj.RF_PORT, 4095, 1023), (Obj.RF_DST_IP, 4095, 0x09090909), (Obj.RF_DST_UDP, 4095, 6)];
      (d.trueOf Obj.RF_ENABLE).find? (fun f => d.reg Obj.RF_PORT f == 1023 && d.reg Obj.RF_DST_IP f == 0x09090909 &&
        d.reg Obj.RF_DST_UDP f == 6 && (!d.flag Obj.RF_MATCH_SSRC f || d.reg Obj.RF_SSRC f == byteField rtp12 8 4)) = some 4095) ∧
    (parseRtp [0x80] = none ∧ (parseRtp rtp12).map (·.pt) = some 96 ∧ (devWith [(Obj.RF_PT, 4095, 97)]).reg Obj.RF_PT 4095 ≠ 96 ∧
      (devWith [(Obj.RF_PT, 4095, 0)]).reg Obj.RF_PT 4095 = 0) := by
  decide +kernel

theorem test_witness_LegsAndPositions :
    (let d := { devWith [(Obj.RF_ENABLE, 4095, 1), (Obj.RF_LEG_STATE, 4095, 1)] with time := { clock := 10000000 } };
      d.flag Obj.RF_ENABLE 4095 = true ∧ d.reg Obj.RF_LEG_STATE 4095 = 1 ∧ (d.leg 4095).lastAt + 10000000 ≤ d.clock) ∧
    (devWith []).clock < ((devWith []).leg 4095).lastAt + 10000000 ∧ (devWith []).flag Obj.RF_ENABLE 0 = false ∧
    (let d := { devWith [(Obj.RF_ENABLE, 0, 1), (Obj.RF_ESSENCE, 0, 1), (Obj.RF_CHANNELS, 0, 1)] with time := { mt := msMt 100 } };
      d.flag Obj.RF_ENABLE 0 = true ∧ smGet (d.store (d.storeOwner 0)).decided 0 0 = 0 ∧ d.deadline 0 0 ≤ d.now ∧ d.follows = false ∧
      smGet (d.store (d.storeOwner 0)).legs 0 0 = 0 ∧ (d.decidePosition 0 0 false).acts = false) ∧
    (devWith []).tfState 2047 ≠ 1 ∧ (devWith []).pipeRuns = false ∧ (devIn .running).pipeRuns = true ∧
    (devWith [(Obj.TF_ENABLE, 2047, 1), (Obj.TF_ESSENCE, 2047, 1)]).reg Obj.TF_ESSENCE 2047 = 1 := by
  decide +kernel

theorem test_witness_LeaseOfTheDayPass :
    ((twinDev twAlone none).heeds = true ∧ lbCode 0x00010000 = 0 ∧ (twinDev twAlone none).holds = false ∧
      (twinDev twAlone none).twinState ∈ [twAlone, twHot] ∧ (twinDev twActive none).twinState = twActive) ∧
    lbCode 0x00010300 ≠ 0 ∧
    (let d := twinDev twActive (some 9) [(Obj.DP_LEASE_NO, 0, 1)];
      d.tw.leaseEnd = some 9 ∧ d.heeds = true ∧ d.holds = true ∧ lbCode 0x00010100 = 1 ∧ lbNo 0x00010100 = d.reg Obj.DP_LEASE_NO ∧
      lbNo 0x00020100 ≠ d.reg Obj.DP_LEASE_NO ∧ lbCode 0x00010200 ≤ 2 ∧ d.twinState = twActive) ∧
    (devWith []).tw.leaseEnd = none ∧ (devWith []).holds = false := by
  decide +kernel

/-- The referee with a holder in a phase. -/
def refereeDev (p : RefPhase) : Dev :=
  (twinDev twReferee none).modRf (fun x => { x with phase := p, holder := 1, leaseNo := 7, devB := { heard := some 0, state := twActive } })

theorem test_witness_RefereeProcedure :
    ((refereeDev .waiting).twinState = twReferee ∧ (refereeDev .waiting).rf.holder = 1 ∧ lbNo 0x00070000 = (refereeDev .waiting).rf.leaseNo ∧
      (refereeDev .waiting).rf.phase = .waiting ∧ (refereeDev .granted).rf.phase ≠ .idle ∧ lbCode 0x00070200 ≤ 2) ∧
    ((devWith []).twinState ≠ twReferee ∧ lbNo 0x00080000 ≠ (refereeDev .waiting).rf.leaseNo) ∧ (refereeDev .granted).rf.phase ≠ .waiting ∧
    (let d := (((refereeDev .granted).passTo (refereeDev .granted).rf.tickAt).modRf (fun x => { x with
        tickAt := max (refereeDev .granted).clock (refereeDev .granted).rf.tickAt + 3000 })).refSettle.refEvaluate;
      d.rf.phase = .granted ∧ [tw0, tw1].any (fun l => ((d.sendSvc (272 + d.rf.holder) 0x40 (leaseBody d.rf.leaseNo 1 0)).tx l).svc.any
        (fun m => m.1 == 0x149)) = false) ∧
    ((refereeDev .granted).rf.dev 0).heard = none ∧ ((refereeDev .granted).rf.dev 1).heard = some 0 ∧
    (let d := (twinDev twReferee none).modRf (fun x => { x with devB := { heard := some 0, state := twAlone } });
      d.rf.phase = .idle ∧ d.refChoice = some 1) := by
  decide +kernel

theorem test_witness_Verdicts :
    (let d := (twinDev twHot none).setReg Obj.TWIN_HOLDER 0 1;
      (twinDev twHot none).heeds = true ∧ lbCode 0x00000101 = 1 ∧ bitOf (lbFlags 0x00000101) (boolNat (devWith []).nv.sideB) = true ∧
      d.twinState ∈ [twHot, twJoining]) ∧
    (let d := (twinDev twAlone none).setReg Obj.TWIN_HOLDER 0 1;
      bitOf (lbFlags 0x00000100) 0 = false ∧ d.twinState = twAlone ∧ 1 = 1 - boolNat (devWith []).nv.sideB) ∧
    ((twinDev twActive none).setReg Obj.TWIN_HOLDER 0 255).twinState ∉ [twHot, twJoining, twAlone] ∧ lbCode 0x00000200 ∉ [0, 1, 255] := by
  decide +kernel

/-- A member whose twin links are ACTIVE. -/
def pairDev (st : Nat) (rs : List (Nat × Nat × Nat) := []) : Dev :=
  twinDev st none ([(Obj.LANE_STATE, tw0, lnActive), (Obj.LANE_STATE, tw1, lnActive)] ++ rs)

theorem test_witness_RollCalls :
    (refereeDev .idle).twinState = twReferee ∧
    (({ tw := { solo := true } } : Dev).heeds = false ∧ ({ tw := { solo := true } } : Dev).twinState ≠ twReferee) ∧
    (let d := ((pairDev twHot).modTw (fun x => { x with roll := some (0, 0) })).setReg Obj.PEER_STATE 0 0;
      let diff := 4 * toInt 32 ((fld 0 39 8 + 2 ^ 32 - fourNs (pairDev twHot).now % 2 ^ 32) % 2 ^ 32) + 250;
      (pairDev twHot).heeds = true ∧ (pairDev twHot).laneState tw0 = lnActive ∧ diff.natAbs ≤ d.reg Obj.TWIN_MT_LIMIT ∧
      (d.setSreg 32 Obj.TWIN_MT_DIFF 0 diff).reg Obj.TWIN_MT_LIMIT = d.reg Obj.TWIN_MT_LIMIT) ∧
    (devWith []).twinState ≠ twReferee := by
  decide +kernel

theorem test_witness_MirrorRecords :
    ((pairDev twHot).heeds = true ∧ (pairDev twHot).laneState tw0 = lnActive ∧ 255 ∉ (pairDev twHot).tw.rseqSeen) ∧
    (devWith []).laneState tw0 ≠ lnActive ∧ 3 ∈ ((pairDev twHot).modTw (fun x => { x with rseqSeen := [3] })).tw.rseqSeen ∧
    (let d := (pairDev twHot).modTw (fun x => { x with sealed := [(5, [1, 2])] });
      d.tw.sealed.find? (fun x => x.1 == 5) = some (5, [1, 2]) ∧ d.tw.sealed.find? (fun x => x.1 == 6) = none) ∧
    (let m := messageBytes (reqOf .mgA 8 true) readLane; let x : SealX := { seq := 5, port := .mgA, src := 0, reqId := 7, crc := crc32c m, e := 0 };
      let d := { (pairDev twHot).modTw (fun t => { t with seals := [x] }) with life := { held := false, phase := .running } };
      d.tw.seals.find? (fun z => z.seq == 5 && !z.whole) = some x ∧ (0 : Nat) = x.parts ∧ (1 : Nat) ≠ x.parts ∧
      x.crc = crc32c (x.fetched ++ m) ∧ x.fetched ++ m ≠ [] ∧ d.joinWaits = false ∧ d.follows = true ∧
      (parseMessage x.port x.src true none (x.fetched ++ m)).isSome = true) := by
  decide +kernel

theorem test_witness_Joins :
    (let d := (pairDev twActive).modTw (fun x => { x with leaseEnd := some 9 });
      d.acts = true ∧ ¬ 65535 < d.reg Obj.STORE_FORMAT ∧ d.tw.serving.isSome = false ∧
      ¬ d.reg Obj.TWIN_MT_LIMIT < (d.sreg 32 Obj.TWIN_MT_DIFF).natAbs) ∧
    (pairDev twActive).acts = false ∧
    ((pairDev twJoining).modTw (fun x => { x with join := .requested })).tw.join = .requested ∧ (pairDev twJoining).tw.join ≠ .requested ∧
    (((pairDev twJoining).modTw (fun x => { x with join := .loading })).tw.join = .loading ∧ (pairDev twJoining).tw.nextPart = 0) ∧
    (((pairDev twSuspect).modTw (fun x => { x with rejoinAt := some 5 })).tw.rejoinAt = some 5 ∧ (pairDev twSuspect).twinState = twSuspect) := by
  decide +kernel

theorem test_witness_Copies :
    ((devWith []).tw.rejoinAt = none ∧ (twinDev twHot none).twinState ≠ twSuspect ∧
      ((devWith []).modTw (fun x => { x with join := .filling })).tw.join = .filling ∧ (devWith []).tw.join ≠ .filling) ∧
    ((twinDev twJoining none).modTw (fun x => { x with join := .acked })).joinWaits = true ∧
    (devWith []).ch.copies.find? (fun c => !c.done) = none ∧
    (let d := (devWith []).keepCopy (reqOf .mgB 8 true) readLane;
      d.joinWaits = false ∧ d.ch.copies.find? (fun c => !c.done) = d.ch.copies.head? ∧ (d.ch.copies.map (fun c => (c.req.port, takeCopy c.payload))) = [(.mgB, false)]) ∧
    (((devWith []).keepCopy (reqOf .cn 8 true) readLane).ch.copies.map (fun c => c.req.port)) = [.cn] ∧
    ((devWith []).tw.presV = [] ∧ (devWith []).tw.presA = [] ∧ (devWith []).tw.serving = none ∧ (devWith []).acts = false) ∧
    (let d := (twinDev twActive (some 9)).modTw (fun x => { x with serving := some 0 }); d.tw.serving.isSome = true ∧ d.acts = true) := by
  decide +kernel

/-- A frame of 64 bytes for port A from a source, with the device's EtherType; `wire` its bytes with the FCS. -/
def mgWire (d : Dev) : Bytes :=
  let b := beBytes 6 (d.mgMac 0) ++ beBytes 6 2 ++ beBytes 2 (d.reg Obj.MG_ETHERTYPE) ++ List.replicate 46 0
  b ++ fcsOf b

theorem test_witness_ManagementFrames :
    (devWith [(Obj.GATE_STATE, 31, 0)]).mgOpen 1 = false ∧ (devWith []).mgOpen 0 = true ∧
    ((devWith []).rxFilter 0 true (rxParts [])).isSome = true ∧
    (let f := rxParts (mgWire (devWith []));
      (devWith []).rxFilter 0 false f = none ∧ (devWith []).rxFlags false f = 0 ∧ ceilDiv ((devWith []).rxStored f) 512 = 1 ∧
      isGroup f.da.toNat = false) ∧
    (let b := mgWire (devWith []); let f := rxParts (b ++ [0]);
      (devWith []).rxFlags false f ≠ 0 ∧ bitOf ((devWith []).rxFlags false f) 56 = false ∧
      (devWith [(Obj.MG_DELIVER_ERRORED, 0, 0)]).flag Obj.MG_DELIVER_ERRORED = false) ∧
    (let f : RxFrame := { da := 0, sa := 0, tag := none, etherType := 0, len := 600, fcsErr := false, body := [] };
      (1 : Nat) ≠ 0 ∧ 1 < ceilDiv ((devWith []).rxStored f) 512 ∧ (devWith []).rxFlags false f = 0) := by
  decide +kernel

def txMsg (u : Bool) : TxFrame := { da := 0, tag := none, msg := [], urgent := u }

/-- Port B's MAC with a state. -/
def macDev (x : MacX) (rs : List (Nat × Nat × Nat) := []) : Dev := (devWith rs).setMac 1 x

theorem test_witness_ManagementSending :
    (let y := (macDev { urgent := [txMsg true], normal := [txMsg false] }).mac 1;
      y.flight = none ∧ y.endAt = 0 ∧ y.urgent = [txMsg true] ∧ (macDev y).fits 1 (txMsg true) = true ∧ (macDev y).fits 1 (txMsg false) = true) ∧
    ((macDev { gateEn := true, gateList := (2 ^ 31 + 1000000) :: List.replicate 7 0 } ((Obj.MG_GATE_EN, 1, 1) ::
      (Obj.MG_GATE_LIST, 8, 2 ^ 31 + 1000000) :: (List.range 7).map (fun k => (Obj.MG_GATE_LIST, 9 + k, 0)))).fits 1 (txMsg false) = false) ∧
    (let y : MacX := { flight := some (txMsg true), endAt := 100000 }; let d := (macDev y).passTo (y.endAt + 9600);
      y.method = none ∧ y.waiting = [] ∧ y.normal = [] ∧ (txMsg true).resp = 0 ∧
      (d.setMac 1 { y with flight := none, tries := 0, endAt := 0 }).mac 1 = { y with flight := none, tries := 0, endAt := 0 }) ∧
    ((txMsg true).time ≤ 512 * 100 + 1000000 ∧ 512 * 100 < (txMsg true).time) ∧ ((0 : Nat) < 15 ∧ 15 ≤ ({ tries := 15 } : MacX).tries) := by
  decide +kernel

theorem test_witness_ManagementAccess :
    ((macDev {}).mac 1).backoff = none ∧ ((macDev { backoff := some 5 }).mac 1).backoff = some 5 ∧
    (macDev {} [(Obj.MG_ACCESS_MODE, 1, 1)]).reg Obj.MG_ACCESS_MODE 1 ≠ 0 ∧
    ((macDev {}).reg Obj.MG_ACCESS_MODE 1 = 0 ∧ (macDev {}).reg Obj.MG_ACCESS_STATE 1 = 0 ∧
      ((macDev {}).mac 1).winColl * 10 ≤ (macDev {}).reg Obj.MG_PLCA_ENTER_RATE ∧ 0 < (macDev {}).reg Obj.MG_PLCA_ENTER_TIME) ∧
    (let d := macDev { winColl := 1000000, enterRun := 1000000 };
      d.reg Obj.MG_PLCA_ENTER_RATE < (d.mac 1).winColl * 10 ∧ d.reg Obj.MG_PLCA_ENTER_TIME ≤ ((d.mac 1).enterRun + 1) * 100) ∧
    ((macDev {} [(Obj.MG_PLCA_ID, 1, 3)]).reg Obj.MG_PLCA_ID 1 ≠ 255 ∧ (macDev {} [(Obj.MG_PLCA_ID, 1, 255)]).reg Obj.MG_PLCA_ID 1 = 255) ∧
    (let d := macDev { exitRun := 1000000 } [(Obj.MG_ACCESS_STATE, 1, 1)];
      d.reg Obj.MG_ACCESS_STATE 1 = 1 ∧ (if (d.mac 1).winBeacon then (d.mac 1).winBusy * 10 else 0) < d.reg Obj.MG_PLCA_EXIT_RATE ∧
      d.reg Obj.MG_PLCA_EXIT_TIME * 10 ≤ (d.mac 1).exitRun + 1) := by
  decide +kernel

theorem test_witness_ProtocolTimers :
    ((devWith []).ch.bulks = [] ∧ (devWith []).ch.kept = [] ∧ firstPend (devWith []).ch.pend = none ∧ (devWith []).life.startDue = false) ∧
    (let p : Pend := { e := 4, seq := 0, port := .mgA, act := .writes [] }; let d : Dev := { ch := { pend := [p] } };
      firstPend d.ch.pend = some p ∧
      (firstPend (((d.passToMt p.e).modCh (fun c => { c with pend := c.pend.erase p })).actAt p.e p.act).ch.pend) = none) ∧
    (let d : Dev := { life := { held := false, phase := .layBy, startDue := true } };
      d.life.startDue = true ∧ d.life.phase = .layBy ∧ d.storePending = false) ∧
    (let n := 2 ^ 32 + 3 * 2 ^ 144; let d := (devWith [(Obj.SUB_OWN, 15, n)]).modCh (fun c => { c with
        subOwn := [(15, { recs := [{ code := 3, sev := 0, time := 0, ref := refOf 1 0 }] })] });
      bitOf ((devWith []).reg Obj.SUB_OWN 15) 32 = false ∧ bitOf (d.reg Obj.SUB_OWN 15) 32 = true ∧ fld (d.reg Obj.SUB_OWN 15) 191 144 ≠ 0 ∧
      (smGet d.ch.subOwn 15 {}).recs ≠ [] ∧ (smGet d.ch.subOwn 15 {}).recs.length ≤ 255 ∧ (smGet d.ch.subOwn 15 {}).dropped = 0 ∧
      (smGet d.ch.subOwn 15 {}).changed = false ∧ (smGet (devWith []).ch.subOwn 15 {}).recs = []) := by
  decide +kernel

theorem test_witness_StoreAndTrailRecords :
    ((devWith []).gateOn 33 = true ∧ (devWith [(Obj.GATE_STATE, 33, 0)]).gateOn 33 = false) ∧
    (({ life := { calPending := true } } : Dev).life.calPending = true ∧ (devWith []).life.calPending = false) ∧
    (devWith []).trailRam = [] ∧ (let d : Dev := { trailRam := [⟨0, 0, 0, 0, 0, 0, 0⟩] }; d.trailRam ≠ [] ∧ d.gateOn 33 = true ∧
      d.nv.trail.length + d.trailRam.length ≤ 65536) := by
  decide +kernel

theorem test_witness_FaultLinesAndTimers :
    bitOf (smGet (devWith []).flt.lines (287 / 32) 0) (287 % 32) = false ∧
    bitOf (smGet ((devWith []).setLine 287 true).flt.lines (287 / 32) 0) (287 % 32) = true ∧
    (smGet (devWith []).flt.escEnd 8 0 = 0 ∧ smGet ({ flt := { escEnd := [(8, 100)] } } : Dev).flt.escEnd 8 0 ≠ 0) ∧
    (let d := (devIn .running).setReg Obj.FLT_SEVERITY 9 4; 3 ≤ d.actSeverity 9 ∧ d.actSeverity 9 ≤ 5 ∧ d.fltChan 9 = none ∧
      ({ d with flt := { chans := [(9, some (pcChan 0))] } } : Dev).fltChan 9 = some (pcChan 0)) ∧
    (((devWith []).dbg.cores.getD 3 {}).halted = false ∧
      ((({ dbg := { cores := [{}, {}, {}, { halted := true }] } } : Dev)).dbg.cores.getD 3 {}).halted = true) := by
  decide +kernel

theorem test_witness_RamblerTasks :
    (0 ∉ (devWith []).mix.bad ∧ (devWith []).broken.find? (fun b => b.table == .gain && b.entry == 0) = none) ∧
    (let d : Dev := { broken := [⟨.crosspoint, 1023, [(objKey Obj.XP_SOURCE 1023, 5)]⟩] };
      d.broken.find? (fun b => b.table == .crosspoint && b.entry == 1023) = some ⟨.crosspoint, 1023, [(objKey Obj.XP_SOURCE 1023, 5)]⟩ ∧
      scrubSource .crosspoint = some Flt.XP_TABLE_ECC) ∧
    ((∀ k < 16, subLive ((devWith []).reg Obj.SUB_OWN k) 2 = false) ∧ (devWith []).acts = false) := by
  decide +kernel

theorem test_witness_TapInstructions :
    (State.reset.dev.resetLow = true ∧ (devIn .layBy).life.phase = .layBy) ∧
    ((devIn .running).resetLow = false ∧ (devIn .running).life.phase ∉ [.layBy, .fail, .lockout]) := by
  decide +kernel

/-- A transaction of 4 bytes at an address. -/
def txnOf (w : Bool) (a : BitVec 40) (n : Nat := 4) : BusTxn :=
  { master := 0, id := 0, write := w, addr := a, size := n, beats := 1, data := List.replicate n 7, strobe := List.replicate n true, cram := .clean }

/-- A device with gate 33 waiting. -/
def waitingGate : Dev := { clk := { waiting := [(33, 100)] } }

theorem test_witness_ControlBus :
    (busFormed (txnOf true 0 3) = false ∧ busFormed (txnOf true 0x10000000) = true) ∧
    ([(0x0, 0), (0x10000000, 1), (0x20000000, 3), (0x70000000, 7), (0x80000000, 8), (0x1000000000, 10)].all (fun x =>
      (devWith []).busTarget x.1 == some x.2 && !(devWith []).gateHolds x.1 &&
      ((devWith []).gateOfAddr x.1 == 0 || (devWith []).gateOn ((devWith []).gateOfAddr x.1)))) = true ∧
    ((devWith []).nv.density < 0x2FFFFFFC - 0x20000000 + 4 ∧ 0x20000000 - 0x20000000 + 4 ≤ (devWith []).nv.density) ∧
    (unitWindow 0x40000000 < 59 ∧ unitWindow 0x7F000000 = 63 ∧ 59 ≤ unitWindow 0x7E000000 ∧ unitWindow 0x7E000000 ≠ 63) ∧
    ((devWith []).busTarget 0x30000000 = none ∧ waitingGate.gateHolds 0x20000000 = true ∧
      (devWith [(Obj.GATE_STATE, 33, 0)]).gateOn 33 = false ∧ (devWith []).gateOfAddr 0x20000000 = 33) ∧
    (busWinner 0 [] = none ∧ busWinner 0 [⟨3, 1, 0, 0⟩] = some ⟨3, 1, 0, 0⟩) ∧
    (16 ≤ smGet ({ bus := { open_ := [(3, 16)] } } : Dev).bus.open_ 3 0 ∧ smGet (devWith []).bus.open_ 3 0 < 16) := by
  decide +kernel

/-- A debug module that is reached by DBG_ACCESS, in a TWIN_STATE. -/
def dbgDev (x : DbgX) (tw : Nat := twDetached) : Dev := (({ dbg := { x with tap := .dbgAccess } } : Dev).setReg Obj.TWIN_STATE 0 tw)

theorem test_witness_HaltsAndComparators :
    ((dbgDev {}).dbg.tap = .dbgAccess ∧ (dbgDev {}).gateOn 34 = true ∧ (dbgDev {}).nv.lifecycle ≠ 2 ∧ (dbgDev {}).haltAllowed = true) ∧
    (dbgDev {} twActive).haltAllowed = false ∧ (devWith []).dbg.tap ≠ .dbgAccess ∧
    (((dbgDev {}).setCore 3 { pending := true }).core 3).pending = true ∧ ((dbgDev {}).core 3).pending = false ∧
    (fld 0x14000000 28 24 ≤ 20 ∧ bitOf 0x14000000 31 = false ∧ 20 < fld 0x15000000 28 24) ∧
    ((({ ctrl := 0x80000000, addr := 8 } : Cmp).hit 7 8 0 false = true ∧ ({ ctrl := 0x80000000, addr := 8 } : Cmp).hit 7 9 0 false = false) ∧
      ({ ctrl := 0xC4000000, addr := 0x10 } : Cmp).hit 11 0 0x1F true = true) := by
  decide +kernel

theorem test_witness_DebugAccess :
    (bitOf 0xA0000000 31 = true ∧ fld 0xA0000000 29 28 ≠ 3 ∧ (dbgDev {}).dbg.memAddr % memSize 0xA0000000 = 0 ∧ (dbgDev {}).dbg.memOp = none ∧
      (dbgDev { memAddr := 2 }).dbg.memAddr % memSize 0xA0000000 ≠ 0) ∧
    (fld (dbgDev { memCtrl := 0x08000000 }).dbg.memCtrl 29 28 ≠ 3 ∧ bitOf (dbgDev { memCtrl := 0x08000000 }).dbg.memCtrl 27 = true) ∧
    (bitOf 16 4 = true ∧ 0x1B % 16 ≤ 11) ∧
    (let o : MemOp := { addr := 0x10000000, write := true, size := 4, data := 5 };
      o.held = false ∧ ({ o with held := true } : MemOp).held = true ∧
      ((((devWith []).outstanding 4).modBus (fun b => { b with resp := 255 })).busDo (o.txn .clean)).map (·.bus.resp) = some 0) ∧
    ((bitOf 0x800007FF 31 = true ∧ bitOf 0x800007FF 30 = false ∧ 16 ≤ fld 0x800007FF 11 0 ∧ fld 0x800007FF 11 0 ≤ 2047 ∧
      (dbgDev { tx := List.replicate 2047 0 }).dbg.txBusy = false ∧ (dbgDev {}).dbg.rx = none ∧
      fld 0x800007FF 11 0 ≤ (dbgDev { tx := List.replicate 2047 0 }).dbg.tx.length) ∧
      fld 0x8000000F 11 0 < 16 ∧ bitOf 0x40000000 31 = false ∧ bitOf 0x40000000 30 = true) := by
  decide +kernel

def wArg (idx : BitVec 16) (v : Bytes) : WArg := { apply := 0, resv := 0, indexed := true, index := idx, elements := 1, value := v }
def wOf (n : Nat) (idx : BitVec 16) (v : Bytes) : Payload := .write 0 ⟨argRef n (wArg idx v), v⟩
def cOf (n : Nat) (idx : BitVec 16) (v : Bytes) : Payload := .command 0 (argRef n (wArg idx v)) v

/-- A request that carries a payload, by port A. -/
def reqFor (p : Payload) (pair : Bool := false) : Req := reqOf .mgA (payloadBytes p).length pair

theorem test_witness_MessageIntake :
    (∃ a x b, carriedCommand (.laneRestart (reqFor (cOf Obj.LANE_RESTART 273 [])) (wArg 273 [])) = some (reqFor (cOf Obj.LANE_RESTART 273 []), a, x, b)) ∧
    ((devWith [(Obj.GATE_STATE, 30, 0)]).portOpen .mgA = false ∧ (devWith []).portOpen .mgA = true) ∧
    (pairSent (reqOf .mgA 8 true) = true ∧ (devWith []).acts = false ∧ (devWith []).heeds = true ∧
      ({ tw := { solo := true } } : Dev).heeds = false ∧ (structureStatus (reqFor readLane true) readLane).1 = stOk) ∧
    ((devWith []).keptFor (reqFor readLane) = none ∧
      (((devWith []).answer { kind := kRead, req := reqFor readLane, status := stOk, late := false, count := 1, payload := [], urgent := false }).keptFor
        (reqFor readLane)).isSome = true) ∧
    ({ reqFor readLane with version := 2 } : Req).version ≠ 1 :=
  ⟨⟨_, _, _, rfl⟩, by decide +kernel⟩

theorem test_witness_LocalWrites :
    (let p := wOf Obj.LANE_EN 273 [1]; let r := reqFor p;
      carriedWrite (.laneEnWrite r (wArg 273 [1])) = some (r, 0, ⟨argRef Obj.LANE_EN (wArg 273 [1]), [1]⟩) ∧ (devIn .running).takesUp r p ∧
      38 + 1 ≤ reqLimit r.port ∧
      (devIn .running).judgeWrite r false kWrite 0 [⟨argRef Obj.LANE_EN (wArg 273 [1]), [1]⟩] = .good [⟨Obj.LANE_EN, 273, [1]⟩] false ∧
      (argRef Obj.LANE_EN (wArg 273 [1])).object.toNat ∉ [Obj.GATE_EN, Obj.TAKE] ∧
      [(⟨Obj.LANE_EN, 273, [1]⟩ : Wr)].any (ownPortSetting .mgA) = false) ∧
    (let p := wOf Obj.MG_GATE_EN 0 [0]; let r := reqFor p;
      (devIn .running).takesUp r p ∧
      (devIn .running).judgeWrite r false kWrite 0 [⟨argRef Obj.MG_GATE_EN (wArg 0 [0]), [0]⟩] = .good [⟨Obj.MG_GATE_EN, 0, [0]⟩] false ∧
      [(⟨Obj.MG_GATE_EN, 0, [0]⟩ : Wr)].any (ownPortSetting .mgA) = true) := by
  unfold Dev.takesUp
  decide +kernel

/-- A write of AO_DELAY of element 37375, shared and timed. -/
def delayItem : Item := ⟨argRef Obj.AO_DELAY (wArg 37375 [0, 0, 0, 9]), [0, 0, 0, 9]⟩

theorem test_witness_SharedWrites :
    (let p := Payload.write 0 delayItem; let r := reqFor p;
      carriedWrite (.aoDelayWrite r (wArg 37375 [0, 0, 0, 9])) = some (r, 0, delayItem) ∧ (devIn .running).takesUp r p ∧
      38 + 4 ≤ reqLimit r.port ∧
      (devIn .running).judgeWrite r false kWrite 0 [delayItem] = .good [⟨Obj.AO_DELAY, 37375, [0, 0, 0, 9]⟩] true ∧
      delayItem.ref.object.toNat ≠ Obj.TAKE) ∧
    (timedObj Obj.LANE_EN = false ∧ timedObj Obj.AO_DELAY = true) := by
  unfold Dev.takesUp
  decide +kernel

theorem test_witness_TransferredWrites :
    let it : Item := ⟨⟨BitVec.ofNat 24 Obj.UPD_MANIFEST, 0, false, 0, 0⟩, List.replicate 8192 0⟩; let r := reqOf .mgA 0
    reqLimit r.port < 38 + it.value.length ∧ r.count = 1 ∧ reservedHit r (.bulkWrite (lastPiece 0 { it with value := [] })) = none ∧
    (devIn .running).pieceCheck r (lastPiece 0 { it with value := [] }) = stOk ∧ it.ref.object.toNat ∉ [Obj.GATE_EN, Obj.TAKE] := by
  decide +kernel

theorem test_witness_GateRequests :
    (let p := wOf Obj.GATE_EN 25 [1]; let r := reqFor p;
      (devIn .running).takesUp r p ∧ (devIn .running).gateWaits 25 = false ∧
      (devIn .running).judgeWrite r false kWrite 0 [⟨argRef Obj.GATE_EN (wArg 25 [1]), [1]⟩] = .good [⟨Obj.GATE_EN, 25, [1]⟩] false) ∧
    (let p := wOf Obj.GATE_EN 33 [0]; let r := reqFor p;
      (devIn .running).takesUp r p ∧ (devIn .running).gateBusy 33 = false ∧
      (devIn .running).judgeWrite r false kWrite 0 [⟨argRef Obj.GATE_EN (wArg 33 [0]), [0]⟩] = .good [⟨Obj.GATE_EN, 33, [0]⟩] false) ∧
    (let d : Dev := { dbg := { memOp := some ⟨0x20000000, false, 4, 0, false⟩ } }; d.gateBusy 33 = true) := by
  unfold Dev.takesUp
  decide +kernel

theorem test_witness_RefusedRequests :
    (let p := wOf Obj.LANE_EN 273 [2]; let r := reqFor p; let it : Item := ⟨argRef Obj.LANE_EN (wArg 273 [2]), [2]⟩;
      let d := (devIn .running).noteRefusedDebug r kWrite [it.ref];
      (devIn .running).takesUp r p ∧ d.judgeWrite r false kWrite 0 [it] = .bad stInvalid 0 ∧ stInvalid ≠ stOk ∧ stInvalid ≠ stPartial) ∧
    (let p := cOf Obj.LANE_RESTART 274 []; let r := reqFor p; let x := argRef Obj.LANE_RESTART (wArg 274 []);
      (devIn .running).takesUp r p ∧ (devIn .running).commandStatus r false 0 x [] ≠ stOk ∧ (devIn .running).commandStatus r false 0 x [] ≠ stPartial) := by
  unfold Dev.takesUp
  decide +kernel

theorem test_witness_AcceptedCommands :
    (let p := cOf Obj.MIX_JOURNAL_DISCARD 0 []; let x := { argRef Obj.MIX_JOURNAL_DISCARD (wArg 0 []) with indexed := false, elements := 0 };
      let q := Payload.command 0 x []; let r := reqFor p;
      (devIn .running).takesUp r q ∧ (devIn .running).commandStatus r false 0 x [] = stOk) ∧
    (let p := cOf Obj.LANE_COUNT_CLEAR 273 []; let r := reqFor p; let x := argRef Obj.LANE_COUNT_CLEAR (wArg 273 []);
      carriedCommand (.laneCountClear r (wArg 273 [])) = some (r, 0, x, []) ∧ (devIn .running).takesUp r p ∧
      (devIn .running).commandStatus r false 0 x [] = stOk) := by
  unfold Dev.takesUp
  decide +kernel

theorem test_witness_OtherRequests :
    ((devIn .running).takesUp (reqFor readLane) readLane) ∧
    (let y : Ref := ⟨BitVec.ofNat 24 Obj.UPD_MANIFEST, 0, false, 0, 0⟩;
      (devIn .running).takesUp (reqFor (.bulkRead y 0 274)) (.bulkRead y 0 274) ∧ (devIn .running).readStatus (reqFor (.bulkRead y 0 274)) kBulkRead y = stOk) ∧
    (let p := Payload.writeSet 0 [delayItem]; let r := reqFor p;
      (devIn .running).takesUp r p ∧ (devIn .running).judgeWrite r false kSet 0 [delayItem] = .good [⟨Obj.AO_DELAY, 37375, [0, 0, 0, 9]⟩] true) ∧
    ((devIn .running).takesUp (reqFor (.subscribe [0])) (.subscribe [0]) ∧ (devIn .running).stateAllows kSubscribe Obj.SUB_OWN = true ∧
      pairSent (reqFor (.subscribe [0])) = false) ∧
    ((devIn .running).takesUp (reqFor (.take [0])) (.take [0]) ∧ (devIn .running).loneConflict (reqFor (.take [0])) true = false ∧
      (devIn .running).stateAllows kTake Obj.TAKE = true) := by
  unfold Dev.takesUp
  decide +kernel

theorem test_witness_WritesTakeEffect :
    ((devWith []).reg Obj.CANOPY_SOURCE 15 = 65535 ∧ (devWith []).reg Obj.CANOPY_SOURCE 15 ≠ 5) ∧
    (((devWith []).setReg Obj.FS_MODE 1023 1).modInp 1023 (fun y => { y with costFmt := (devWith []).costFormat 1023 })).reg Obj.FS_STATE 1023 ≠ 5 := by
  decide +kernel

theorem test_witness_CountClears :
    smWf keyDefault (devWith [(Obj.LANE_HCRC_ERR, 273, 7)]).regs = true ∧ countClear Obj.LANE_COUNT_CLEAR 273 ≠ [] ∧
    countClear Obj.DP_RELEASE 0 = [] := by
  decide +kernel

theorem test_witness_DeviceIdentification : (devWith []).nv.stepping = 1 ∨ ({ nv := { stepping := 1 } } : Dev).nv.stepping = 1 := by
  decide +kernel

/-! ### Ill-formed commands, one for each check of WellFormed -/

theorem test_wf_streams :
    (Instr.basketReceived 0 true [(1, 0)]).wf = false ∧ (Instr.positionDeadline 0 0 (2 ^ 32)).wf = false ∧
    (Instr.audioBlockArrival 0 ⟨0, []⟩).wf = false ∧ (Instr.audioBlockArrival 0 ⟨0, [1, 2, 3, 4, 5]⟩).wf = false ∧
    (Instr.tdmFrame 0 ⟨512, 1, 0, []⟩).wf = false ∧ (Instr.fmCeWriteback 1610612736).wf = false ∧ (Instr.lanePrbsLock 0 7 128).wf = false ∧
    (Instr.fmRequest ⟨{ fmReq 0 false 0 0 with data := [] }, []⟩).wf = false ∧
    (Instr.fmRequest ⟨{ fmReq 0 true 0 32 with data := [1] }, []⟩).wf = false := by
  decide +kernel

theorem test_wf_records :
    (Instr.sealReceived 65536 0).wf = false ∧ (Instr.phaseReceived 65536 0 0 0 0).wf = false ∧
    (Instr.fsDecisionReceived 65536 0 0 0 0).wf = false ∧ (Instr.canopySelectReceived 65536 0 0 0).wf = false ∧
    (Instr.tdmEventReceived 65536 0 0 0).wf = false ∧ (Instr.videoPresenceReceived 65536 0 true []).wf = false ∧
    (Instr.videoPresenceReceived 0 0 true (List.replicate 42 (0, 0, 0))).wf = false ∧
    (Instr.videoPresenceReceived 0 0 true [(65536, 0, 0)]).wf = false ∧ (Instr.videoPresenceReceived 0 0 true [(0, 256, 0)]).wf = false ∧
    (Instr.videoPresenceReceived 0 0 true [(0, 0, 2 ^ 24)]).wf = false ∧ (Instr.audioPresenceReceived 65536 0 true []).wf = false ∧
    (Instr.audioPresenceReceived 0 0 true (List.replicate 62 (0, 0))).wf = false ∧
    (Instr.audioPresenceReceived 0 0 true [(65536, 0)]).wf = false ∧ (Instr.audioPresenceReceived 0 0 true [(0, 65536)]).wf = false ∧
    (Instr.writeCopyReceived 0 0 true []).wf = false ∧ (Instr.writeCopyReceived 0 0 true (List.replicate 246 0)).wf = false := by
  decide +kernel

theorem test_wf_units :
    (Instr.mgFrameReceived 0 ⟨[], false, false, 257⟩).wf = false ∧ (Instr.tableScrub .gain 4096 .clean false).wf = false ∧
    (Instr.tableEntryRestore .crosspoint 1024).wf = false ∧ (Instr.temperatureSample [none]).wf = false ∧
    (Instr.busTransaction { txnOf true 0 with data := [] }).wf = false ∧ (Instr.busTransaction { txnOf true 0 with strobe := [] }).wf = false ∧
    (Instr.busGrant 0 [(1, 0), (1, 4)]).wf = false ∧ (Instr.dmMemAccessDone ⟨0, List.replicate 17 0, .clean⟩).wf = false := by
  decide +kernel

theorem test_wf_payloads : fits 65536 = false ∧ fits 65535 = true := by decide

/-- A payload of more than 65,535 bytes does not fit LENGTH. -/
theorem test_wf_messages (recs : List (BitVec 128)) (refs : List Ref) (subs : List (BitVec 256)) (b : BulkPiece) (it : Item)
    (h1 : recs.length = 4096) (h2 : refs.length = 8192) (h3 : subs.length = 2048) (h4 : b.data.length = 65500)
    (h5 : it.value.length = 65512) :
    (Instr.take (reqOf .mgA 0) recs).wf = false ∧ (Instr.read (reqOf .mgA 0) refs).wf = false ∧ (Instr.subscribe (reqOf .mgA 0) subs).wf = false ∧
    (Instr.bulkWrite (reqOf .mgA 0) b).wf = false ∧ (Instr.objectWrite (reqOf .mgA 0) 0 it).wf = false ∧
    (Instr.writeSet (reqOf .mgA 0) 0 [it]).wf = false := by
  simp [Instr.wf, fits, h1, h2, h3, h4, h5]

/-! ### Values that the spec's own text gives -/

def nineBytes : Bytes := [0x31, 0x32, 0x33, 0x34, 0x35, 0x36, 0x37, 0x38, 0x39]

/-- The check values of R123, R377, R432 and R356. -/
theorem test_crc_check_values :
    crc16 nineBytes = 0x29B1 ∧ crc32 nineBytes = 0xCBF43926 ∧ crc32c nineBytes = 0xE3069283 ∧ crc64 nineBytes = 0x6C40DF5F0B497347 ∧
    crc32 nineBytes % 512 = 0x126 := by
  decide +kernel

/-- The request of Table 12.11: header, and the two items. -/
theorem test_request_bytes :
    let item := fun (n : BitVec 16) (v : Bytes) => (⟨argRef Obj.SHUF_SRC (wArg n v), v⟩ : Item)
    messageBytes { reqOf .mgA 36 true with count := 2, reqId := 0x1A2B } (.writeSet 0 [item 32823 [0x10, 0x45], item 32822 [0x80, 0x03]]) =
      [0x13, 0, 0, 2, 0, 0, 0x1A, 0x2B, 0, 0x24, 0, 0, 0, 0, 0, 0x24] ++ List.replicate 12 0 ++
      [0x28, 0, 1, 1, 0x80, 0x37, 0, 1, 0, 2, 0x10, 0x45] ++ [0x28, 0, 1, 1, 0x80, 0x36, 0, 1, 0, 2, 0x80, 0x03] := by
  decide +kernel

/-- The words of the example under R129: XYZ with F 0, V 1, H 1, and line 7. -/
theorem test_timing_words : xyzWord 0 1 1 = 0x2D8 ∧ lineWord0 7 = 0x21C ∧ lineWord1 7 = 0x200 := by decide

/-- What the scrambler sends, the descrambler gives back, whatever its register held (R89). -/
theorem test_scrambler_round_trip :
    (descramble 12345 (scramble 12345 [0x123456789ABCDEF0, 7, 2 ^ 64 - 1]).1).1 = [0x123456789ABCDEF0, 7, 2 ^ 64 - 1] ∧
    ((descramble 0 (scramble 12345 [0x123456789ABCDEF0, 7, 2 ^ 64 - 1]).1).1).drop 1 = [7, 2 ^ 64 - 1] := by
  decide +kernel

/-- Table 8.8: the ramp samples of MO_5. -/
theorem test_mixer_ramp :
    (rampGain 0x2000 0x1000 7 = 6144 ∧ rampGain 0 0x4000 7 = 8192 ∧ rampGain 0x2000 0x1000 15 = 4096 ∧ rampGain 0 0x4000 15 = 16384) ∧
    mixTerm 1000000 6144 + mixTerm (-400000) 8192 = 179200000 ∧ mixRound 179200000 = 350000 ∧
    mixTerm 1000000 4096 + mixTerm (-400000) 16384 = -153600000 ∧ mixRound (-153600000) = -300000 ∧
    mixClamp (mixRound (mixTerm 8000000 0x4000)) = 8388607 := by
  decide +kernel

/-- The address of the example under R313, with the default masks. -/
theorem test_address_example :
    coordOf (fun k => (devWith []).reg Obj.FM_HASH_MASK k) 0x234567880 = { pc := 31, sid := 2, bank := 11, row := 3009, col := 4 } := by
  decide +kernel

/-- The one-block example of FIPS 180-4: the digest of "abc". -/
theorem test_sha256_abc :
    beNat (sha256 [0x61, 0x62, 0x63]) = 0xBA7816BF8F01CFEA414140DE5DAE2223B00361A396177A9CB410FF61F20015AD := by
  decide +kernel

/-- A manifest of six empty components, each with the SHA-256 of nothing. -/
def emptyManifest : Bytes :=
  List.replicate 40 0 ++ (List.replicate 6 (List.replicate 8 (0 : Byte) ++
    beBytes 32 0xE3B0C44298FC1C149AFBF4C8996FB92427AE41E4649B934CA495991B7852B855 ++ List.replicate 8 0)).flatten

theorem test_witness_CommandsTakeEffect :
    (({ nv := { slots := [{}, { manifest := emptyManifest }] } } : Dev).activateSlot.1 = true) := by
  decide +kernel

end Sys2Proof.Tests
end

section
/-! The family of "The fabric and its namespaces": the places of ports on lanes (R26, R27), and closing gates with the core voltage loop
(R13 to R15, R76, R77, R547). -/

namespace Sys2Proof.Machine

/-! ### Lane indices -/

theorem laneGroup_lane (g : Nat) {l : Nat} (hl : l < 17) : laneGroup (17 * g + l) = g := by
  unfold laneGroup; omega

theorem laneNo_lane (g : Nat) {l : Nat} (hl : l < 17) : laneNo (17 * g + l) = l := by
  unfold laneNo; omega

theorem isTwin_lane {g l : Nat} (hg : g < 16) (hl : l < 17) : isTwin (17 * g + l) = false := by
  unfold isTwin
  exact decide_eq_false (by omega)

@[simp] theorem laneGroup_spareOf (g : Nat) : laneGroup (spareOf g) = g := laneGroup_lane g (by decide)

@[simp] theorem laneNo_spareOf (g : Nat) : laneNo (spareOf g) = 16 := laneNo_lane g (by decide)

theorem isTwin_spareOf {g : Nat} (hg : g < 16) : isTwin (spareOf g) = false := isTwin_lane hg (by decide)

/-! ### Slots and ports -/

/-- Slot `s` of a pair other than a spare belongs to the lane's port, where the lane's slots are on its own line. -/
theorem Dev.slotPort_lane (d : Dev) {g l : Nat} (s : Nat) (moved : GroupX → Bool) (hg : g < 16) (hl : l < 16) :
    d.slotPort (17 * g + l) s moved =
      if d.slotPair g l moved = some (17 * g + l) then some (64 * g + 4 * l + s) else none := by
  have hk : ¬ l = 16 := by omega
  have hn : ¬ 16 ≤ l := by omega
  simp [Dev.slotPort, laneGroup_lane g (l := l) (by omega), laneNo_lane g (l := l) (by omega),
    isTwin_lane hg (l := l) (by omega), hk, hn]

/-- Slot `s` of a spare belongs to the port of the lane that the spare is for, where that lane's slots are on the spare's line. -/
theorem Dev.slotPort_spare (d : Dev) {g : Nat} (s : Nat) (moved : GroupX → Bool) (hg : g < 16) :
    d.slotPort (spareOf g) s moved =
      if 16 ≤ d.spareLane g then none
      else if d.slotPair g (d.spareLane g) moved = some (spareOf g) then some (64 * g + 4 * d.spareLane g + s) else none := by
  simp [Dev.slotPort, isTwin_spareOf hg]

/-! ### A group with no move under way -/

section
variable {d : Dev} {g : Nat} (hm : (d.group g).move = .none)
include hm

theorem Dev.slotPair_of_idle (k : Nat) (moved : GroupX → Bool) :
    d.slotPair g k moved = if d.reg Obj.LANE_SPARE_FOR g = k then some (spareOf g) else some (17 * g + k) := by
  simp [Dev.slotPair, hm]

theorem Dev.spareLane_of_idle : d.spareLane g = d.reg Obj.LANE_SPARE_FOR g := by
  simp [Dev.spareLane, hm]

/-- A lane has its own four ports, or none while the spare carries it. -/
theorem Dev.slotPort_lane_of_idle {l : Nat} (s : Nat) (moved : GroupX → Bool) (hg : g < 16) (hl : l < 16) :
    d.slotPort (17 * g + l) s moved = if d.reg Obj.LANE_SPARE_FOR g = l then none else some (64 * g + 4 * l + s) := by
  rw [Dev.slotPort_lane d s moved hg hl, Dev.slotPair_of_idle hm]
  have hne : ¬ spareOf g = 17 * g + l := by unfold spareOf; omega
  split <;> simp [hne]

/-- A spare has the four ports of the lane that it carries, or none. -/
theorem Dev.slotPort_spare_of_idle (s : Nat) (moved : GroupX → Bool) (hg : g < 16) :
    d.slotPort (spareOf g) s moved =
      if 16 ≤ d.reg Obj.LANE_SPARE_FOR g then none else some (64 * g + 4 * d.reg Obj.LANE_SPARE_FOR g + s) := by
  simp [Dev.slotPort_spare d s moved hg, Dev.slotPair_of_idle hm, Dev.spareLane_of_idle hm]

/-- A lane that the spare does not carry, in both directions. -/
theorem Dev.ports_of_own_lane {l : Nat} (s : Nat) (hg : g < 16) (hl : l < 16) (hs : d.reg Obj.LANE_SPARE_FOR g ≠ l) :
    d.portOf (17 * g + l) s = some (64 * g + 4 * l + s) ∧ d.portIn (17 * g + l) s = some (64 * g + 4 * l + s) := by
  have h := fun moved => Dev.slotPort_lane_of_idle hm s moved hg hl
  simp only [if_neg hs] at h
  exact ⟨h _, h _⟩

/-- A lane that the spare carries, in both directions. -/
theorem Dev.ports_of_carried_lane {l : Nat} (s : Nat) (hg : g < 16) (hl : l < 16) (hs : d.reg Obj.LANE_SPARE_FOR g = l) :
    d.portOf (17 * g + l) s = none ∧ d.portIn (17 * g + l) s = none := by
  have h := fun moved => Dev.slotPort_lane_of_idle hm s moved hg hl
  simp only [if_pos hs] at h
  exact ⟨h _, h _⟩

/-- A spare that carries a lane, in both directions. -/
theorem Dev.ports_of_carrying_spare {l : Nat} (s : Nat) (hg : g < 16) (hl : l < 16) (hs : d.reg Obj.LANE_SPARE_FOR g = l) :
    d.portOf (spareOf g) s = some (64 * g + 4 * l + s) ∧ d.portIn (spareOf g) s = some (64 * g + 4 * l + s) := by
  have h := fun moved => Dev.slotPort_spare_of_idle hm s moved hg
  simp only [hs, if_neg (Nat.not_le.mpr hl)] at h
  exact ⟨h _, h _⟩

/-- A spare that carries no lane, in both directions. -/
theorem Dev.ports_of_free_spare (s : Nat) (hg : g < 16) (hs : 16 ≤ d.reg Obj.LANE_SPARE_FOR g) :
    d.portOf (spareOf g) s = none ∧ d.portIn (spareOf g) s = none := by
  have h := fun moved => Dev.slotPort_spare_of_idle hm s moved hg
  simp only [if_pos hs] at h
  exact ⟨h _, h _⟩

end

/-- Settles O9: with no move under way LANE_SPARE_FOR alone says whether a lane's slots are on its own line or on the spare's, and the port's
number splits into group, lane and slot by division. -/
theorem portPositions : Obligations.PortPositions := by
  unfold Obligations.PortPositions
  refine ⟨?fromPort, ?fromSlot, ?freeSpare⟩
  case fromPort =>
    intro d p g l s hp hg hl hs hm
    have hp' : 64 * g + 4 * l + s = p := by omega
    have hg' : g < 16 := by omega
    have hl' : l < 16 := by omega
    refine ⟨fun hown => ?_, fun hcarried => ?_⟩
    · obtain ⟨hout, hin⟩ := Dev.ports_of_own_lane hm s hg' hl' hown
      exact ⟨hp' ▸ hout, hp' ▸ hin, hp'⟩
    · obtain ⟨hout, hin⟩ := Dev.ports_of_carrying_spare hm s hg' hl' hcarried
      exact ⟨hp' ▸ hout, hp' ▸ hin, Dev.ports_of_carried_lane hm s hg' hl' hcarried⟩
  case fromSlot =>
    intro d g l s hg hl hs hm hown
    obtain ⟨hout, hin⟩ := Dev.ports_of_own_lane hm s hg hl hown
    exact ⟨hout, hin, by omega, by omega, by omega⟩
  case freeSpare =>
    intro d g s hg hm hfree
    exact Dev.ports_of_free_spare hm s hg hfree

/-! ### The end of a waiting close -/

/-- Nothing ends where no close waits. -/
theorem Dev.gateClose_of_not_waiting {d : Dev} {g : Nat} (hw : d.gateWaits g = false) :
    d.gateCloseDone g = d ∧ d.gateCloseLate g = d := by
  simp [Dev.gateCloseDone, Dev.gateCloseLate, hw]

/-- A gate with accesses in flight does not close. -/
theorem Dev.gateCloseDone_of_busy {d : Dev} {g : Nat} (hb : d.gateBusy g = true) : d.gateCloseDone g = d := by
  simp [Dev.gateCloseDone, hb]

section
variable {d e : Dev} {g : Nat} {ts : List BusTxn} (hg : g ≠ 34) (hw : d.gateWaits g = true)
include hg hw

/-- A waiting gate with nothing in flight closes, and what it held fails. -/
theorem Dev.gateCloseDone_of_waiting (hb : d.gateBusy g = false) (ht : d.takeHeld g = (ts, e)) :
    d.gateCloseDone g = ts.foldl (fun d t => d.busFail t 2)
      ((((e.gateSet g false).gateEnded g stOk).persist [objKey Obj.GATE_EN g]).memHeldFail g) := by
  simp [Dev.gateCloseDone, hw, hb, ht, hg]

/-- A gate whose wait has run out stays open, and what it held proceeds. -/
theorem Dev.gateCloseLate_of_waiting (ht : (d.passTo (smGet d.clk.waiting g 0)).takeHeld g = (ts, e)) :
    d.gateCloseLate g = ts.foldl (fun d t => (d.busDo t).getD d)
      ((((e.gateSet g true).gateEnded g stBusy).persist [objKey Obj.GATE_EN g]).memHeldGo g) := by
  simp [Dev.gateCloseLate, hw, ht, hg]

end

/-! ### The core voltage -/

/-- The device once an evaluation has stored its margin and set the line of AVS_MARGIN (R13). -/
def Dev.marginNoted (d : Dev) (m : Int) : Dev :=
  (d.setReg Obj.AVS_MARGIN 0 (clampInt 0 255 m).toNat).setLine Flt.AVS_MARGIN (decide (m < 4))

/-- Below 4 % the highest voltage is requested at once (R15). -/
theorem Dev.avsEvaluate_of_low (d : Dev) {m : Int} (hm : m < 4) : d.avsEvaluate m = (d.marginNoted m).avsRequest 800 := by
  simp [Dev.avsEvaluate, Dev.marginNoted, hm, vHigh]

section
variable {d : Dev} {m : Int} (hm : 4 ≤ m) (hl : (d.marginNoted m).avsLatched = false)
  (he : (d.marginNoted m).flag Obj.AVS_ENABLE = true)
include hm hl he

/-- A margin within 4 % above the target ends the run of evaluations above it (R14). -/
theorem Dev.avsEvaluate_of_within (hlo : ((d.marginNoted m).reg Obj.AVS_MARGIN_TARGET : Int) ≤ m)
    (hhi : m ≤ (d.marginNoted m).reg Obj.AVS_MARGIN_TARGET + 4) :
    d.avsEvaluate m = (d.marginNoted m).modClk (fun x => { x with above := 0 }) := by
  unfold Dev.avsEvaluate
  rw [← Dev.marginNoted]
  simp [hl, he, Int.not_lt.mpr hm, Int.not_lt.mpr hlo, Int.not_lt.mpr hhi]

/-- The hundredth evaluation in a row that stands more than 4 % above the target lowers the voltage by one step (R14). -/
theorem Dev.avsEvaluate_of_hundredth_above (hhi : ((d.marginNoted m).reg Obj.AVS_MARGIN_TARGET : Int) + 4 < m)
    (hn : (d.marginNoted m).clk.above = 99) (hv : 600 < (d.marginNoted m).reg Obj.AVS_VREQ) :
    d.avsEvaluate m =
      ((d.marginNoted m).modClk (fun x => { x with above := 0 })).avsRequest ((d.marginNoted m).reg Obj.AVS_VREQ - 5) := by
  have hlo : ¬ m < (d.marginNoted m).reg Obj.AVS_MARGIN_TARGET := by omega
  unfold Dev.avsEvaluate
  rw [← Dev.marginNoted]
  simp [hl, he, Int.not_lt.mpr hm, hlo, hhi, hn, vLow, vStep, hv]

end

/-- Once the ROM has reached step 5 a transaction counts its failures in a row, and the third raises AVS_BUS (R547). -/
theorem Dev.avsTransaction_of_failed {d : Dev} (hp : d.life.phase ≠ .booting) (cmd : AvsCmd) (v : BitVec 16) :
    d.avsTransaction cmd false v =
      (d.modClk (fun x => { x with busFails := d.clk.busFails + 1 })).setLine Flt.AVS_BUS (decide (3 ≤ d.clk.busFails + 1)) := by
  simp [Dev.avsTransaction, hp]

/-- The device once a transaction has succeeded, before its reading is stored (R547). -/
def Dev.avsBusGood (d : Dev) : Dev := (d.modClk (fun x => { x with busFails := 0 })).setLine Flt.AVS_BUS false

theorem Dev.avsTransaction_readVoltage {d : Dev} (hp : d.life.phase ≠ .booting) (v : BitVec 16) :
    d.avsTransaction .readVoltage true v = d.avsBusGood.setReg Obj.TEL_VCORE 0 v.toNat := by
  simp [Dev.avsTransaction, Dev.avsBusGood, hp]

theorem Dev.avsTransaction_readCurrent {d : Dev} (hp : d.life.phase ≠ .booting) (v : BitVec 16) :
    d.avsTransaction .readCurrent true v = d.avsBusGood.setReg Obj.TEL_ICORE 0 v.toNat := by
  simp [Dev.avsTransaction, Dev.avsBusGood, hp]

/-! ### The four commands in a running device -/

section
variable {s : State} {d : Dev} (h : s.dev.life.held = false)
include h

theorem exec_gateCloseComplete {g : Fin 37} (hd : s.dev.gateCloseDone g.val = d) :
    exec (.gateCloseComplete g) s = .next (s.after d) :=
  hd ▸ State.live_of_running h

theorem exec_gateCloseTimeout {g : Fin 37} (hd : s.dev.gateCloseLate g.val = d) :
    exec (.gateCloseTimeout g) s = .next (s.after d) :=
  hd ▸ State.live_of_running h

theorem exec_avsEvaluation {m : Int} (hd : s.dev.avsEvaluate m = d) : exec (.avsEvaluation m) s = .next (s.after d) :=
  hd ▸ State.live_of_running h

theorem exec_avsbusTransaction {cmd : AvsCmd} {ok : Bool} {v : BitVec 16} (hd : s.dev.avsTransaction cmd ok v = d) :
    exec (.avsbusTransaction cmd ok v) s = .next (s.after d) :=
  hd ▸ State.live_of_running h

end

/-- Settles O19: each command ends in its unit's own operation, whose outcome in each case is the lemma cited. -/
theorem gatesAndCoreVoltage : Obligations.GatesAndCoreVoltage := by
  unfold Obligations.GatesAndCoreVoltage
  refine ⟨?waiting, ?notWaiting, ?evaluation, ?failed, ?good⟩
  case waiting =>
    intro s g ts d h hg hw
    exact ⟨fun hb ht => exec_gateCloseComplete h (Dev.gateCloseDone_of_waiting hg hw hb ht),
      fun hb => exec_gateCloseComplete h (Dev.gateCloseDone_of_busy hb),
      fun ht => exec_gateCloseTimeout h (Dev.gateCloseLate_of_waiting hg hw ht)⟩
  case notWaiting =>
    intro s g h hw
    obtain ⟨hdone, hlate⟩ := Dev.gateClose_of_not_waiting hw
    exact ⟨exec_gateCloseComplete h hdone, exec_gateCloseTimeout h hlate⟩
  case evaluation =>
    intro s m d h _ _ hd
    obtain rfl : d = s.dev.marginNoted m := hd
    exact ⟨fun hm => exec_avsEvaluation h (Dev.avsEvaluate_of_low s.dev hm),
      fun hm hl he hlo hhi => exec_avsEvaluation h (Dev.avsEvaluate_of_within hm hl he hlo hhi),
      fun hm hl he hhi hn hv => exec_avsEvaluation h (Dev.avsEvaluate_of_hundredth_above hm hl he hhi hn hv)⟩
  case failed =>
    intro s cmd v h hp
    exact exec_avsbusTransaction h (Dev.avsTransaction_of_failed hp cmd v)
  case good =>
    intro s v h hp
    exact ⟨exec_avsbusTransaction h (Dev.avsTransaction_readVoltage hp v),
      exec_avsbusTransaction h (Dev.avsTransaction_readCurrent hp v)⟩

end Sys2Proof.Machine
end

section
/-! The family of "Media time and clocks". First the messages that rows of the command table carry: how a WRITE or a COMMAND of a running
device comes to its checks, and what a refusal leaves (R79, R418, R419, R426, R428, R440). -/

namespace Sys2Proof.Machine

/-! ### Rows and the messages they carry -/

/-- Each row that carries a WRITE writes one object of its own; OBJECT_WRITE carries the message itself. -/
theorem exec_of_carriedWrite {i : Instr} {r : Req} {a : BitVec 96} {it : Item} (h : carriedWrite i = some (r, a, it)) :
    (∃ num w, a = w.apply ∧ it = ⟨argRef num w, w.value⟩ ∧ ∀ s, exec i s = s.live (fun d => d.writeRow num r w)) ∨
    i = .objectWrite r a it := by
  unfold carriedWrite at h
  split at h
  case h_37 =>
    cases h
    exact .inr rfl
  case h_38 => cases h
  all_goals
    cases h
    exact .inl ⟨_, _, rfl, rfl, fun _ => rfl⟩

/-- A value that fits into one message goes as a WRITE. -/
theorem Dev.writeRow_of_fits (d : Dev) (num : Nat) {r : Req} {w : WArg} (h : 38 + w.value.length ≤ reqLimit r.port) :
    d.writeRow num r w = d.request r (.write w.apply ⟨argRef num w, w.value⟩) := if_pos h

theorem exec_of_carriedWrite_of_fits {i : Instr} {r : Req} {a : BitVec 96} {it : Item} (h : carriedWrite i = some (r, a, it))
    (hfits : 38 + it.value.length ≤ reqLimit r.port) (s : State) : exec i s = s.live (fun d => d.request r (.write a it)) := by
  obtain ⟨num, w, rfl, rfl, hexec⟩ | rfl := exec_of_carriedWrite h
  · simp only [hexec, Dev.writeRow_of_fits _ num hfits]
  · rfl

/-- Each row that carries a COMMAND is a command of one object. -/
theorem exec_of_carriedCommand {i : Instr} {r : Req} {a : BitVec 96} {x : Ref} {b : Bytes} (h : carriedCommand i = some (r, a, x, b))
    (s : State) : exec i s = s.live (fun d => d.request r (.command a x b)) := by
  unfold carriedCommand at h
  split at h
  case h_45 => cases h
  all_goals
    cases h
    rfl

/-! ### A message that is taken up -/

/-- It is dispatched by its payload, and what comes of it is sent. -/
theorem Dev.request_of_takesUp {d : Dev} {r : Req} {p : Payload} (h : d.takesUp r p) (hkind : kindOf p ≠ kEvent) :
    d.request r p = Dev.reply ((d.noteRefusedDebug r (kindOf p) (payloadRefs p)).dispatch r p) r.port := by
  obtain ⟨-, hopen, hresp, hacts, hkept, hform⟩ := h
  have hheard : (pairSent r && !d.acts) = false := by
    cases hp : pairSent r
    · rfl
    · simp [hacts hp]
  have hexamine : d.examine r p = (d.noteRefusedDebug r (kindOf p) (payloadRefs p)).dispatch r p := by
    unfold Dev.examine
    exact if_neg (not_not_intro hform)
  simp [Dev.request, hopen, hresp, hkind, hheard, hkept, Dev.carryOut, hexamine]

/-- Outside FIELD nothing is refused by R415. -/
theorem Dev.noteRefusedDebug_of_open {d : Dev} {r : Req} (h : r.port = .db → d.nv.lifecycle ≠ 2) (kind : Nat) (refs : List Ref) :
    d.noteRefusedDebug r kind refs = d :=
  if_neg fun ⟨hport, hfield, _⟩ => h hport hfield

/-! ### Refusals -/

/-- The device once a refusal has gone out by `r`'s port: on the Canopy port it counts in CN_REFUSED (R418, R440). -/
def Dev.refused (d : Dev) (kind : Nat) (r : Req) (st fail : Nat) (urgent : Bool) : Dev :=
  if r.port = .cn then (d.answer (refusal kind r st fail urgent)).count Obj.CN_REFUSED else d.answer (refusal kind r st fail urgent)

theorem Dev.reply_refuse (d : Dev) (kind : Nat) (r : Req) {st : Nat} (fail : Nat) (urgent : Bool) (hok : st ≠ stOk)
    (hpartial : st ≠ stPartial) : Dev.reply (refuse d kind r st fail urgent) r.port = d.refused kind r st fail urgent := by
  simp [Dev.reply, refuse, refusal, Dev.refused, hok, hpartial]

/-- A WRITE that its checks refuse leaves what R79, R491 and R494 ask for, and its refusal. -/
theorem Dev.request_write_of_bad {d : Dev} {r : Req} {a : BitVec 96} {it : Item} {st k : Nat} (h : d.takesUp r (.write a it))
    (htake : it.ref.object.toNat ≠ Obj.TAKE) (hok : st ≠ stOk) (hpartial : st ≠ stPartial)
    (hbad : (d.noteRefusedDebug r kWrite [it.ref]).judgeWrite r false kWrite a.toNat [it] = .bad st k) :
    d.request r (.write a it) =
      ((d.noteRefusedDebug r kWrite [it.ref]).writeRefused r [it] st k).refused kWrite r st k false := by
  have hdispatch : (d.noteRefusedDebug r kWrite [it.ref]).dispatch r (.write a it) =
      refuse ((d.noteRefusedDebug r kWrite [it.ref]).writeRefused r [it] st k) kWrite r st k false := by
    simp [Dev.dispatch, htake, Dev.doWrite, hbad]
  rw [Dev.request_of_takesUp h (by simp [kindOf, kWrite, kEvent]), ← Dev.reply_refuse _ _ _ _ _ hok hpartial, ← hdispatch]
  rfl

/-- A COMMAND that its checks refuse leaves what its object's rules ask for, and its refusal. -/
theorem Dev.request_command_of_bad {d c : Dev} {r : Req} {a : BitVec 96} {x : Ref} {b : Bytes} {st : Nat}
    (h : d.takesUp r (.command a x b)) (hc : c = d.noteRefusedDebug r kCommand [x]) (hst : st = c.commandStatus r false a.toNat x b)
    (hok : st ≠ stOk) (hpartial : st ≠ stPartial) :
    d.request r (.command a x b) =
      (if st = c.cmdStatus x.object.toNat x.index.toNat b then c.cmdRefused x.object.toNat else c).refused kCommand r st noFail
        (urgentCommand x.object.toNat) := by
  subst hst
  have hdispatch : c.dispatch r (.command a x b) =
      refuse (if c.commandStatus r false a.toNat x b = c.cmdStatus x.object.toNat x.index.toNat b then c.cmdRefused x.object.toNat else c)
        kCommand r (c.commandStatus r false a.toNat x b) noFail (urgentCommand x.object.toNat) := by
    simp [Dev.dispatch, Dev.doCommand, hok]
  rw [Dev.request_of_takesUp h (by simp [kindOf, kCommand, kEvent]), ← Dev.reply_refuse _ _ _ _ _ hok hpartial, ← hdispatch, hc]
  rfl

/-- Settles O55: every row that carries a WRITE or a COMMAND hands its message to `Dev.request`, and there
`Dev.request_write_of_bad` and `Dev.request_command_of_bad` say what a refusal leaves. -/
theorem refusedRequests : Obligations.RefusedRequests := by
  unfold Obligations.RefusedRequests
  refine ⟨?write, ?command⟩
  case write =>
    intro s i r a it d e st k hi htakes hfits htake hd hbad hok hpartial he
    subst hd he
    rw [exec_of_carriedWrite_of_fits hi hfits, State.live_of_running htakes.1, Dev.request_write_of_bad htakes htake hok hpartial hbad]
    rfl
  case command =>
    intro s i r a x b n st d e hi htakes hn hd hst hok hpartial he
    subst hn he
    rw [exec_of_carriedCommand hi, State.live_of_running htakes.1, Dev.request_command_of_bad htakes hd hst hok hpartial]
    rfl

end Sys2Proof.Machine
end

section
/-! Steps of the block, the instants of audio, and requests on a gate (R57, R58, R60, R66, R76 to R79). -/

namespace Sys2Proof.Machine

/-! ### Steps -/

/-- A command on a running device leaves what its effect leaves. -/
theorem State.live_next {f : Dev → Dev} {s : State} {d : Dev} (h : s.dev.life.held = false) (hd : f s.dev = d) :
    s.live f = .next (s.after d) := hd ▸ State.live_of_running h

theorem step_of_empty {s : State} (h : s.pending = []) : step s = .next { s with dev := s.dev.idle } := by
  simp [step, h, State.idle]

theorem Dev.idle_of_held {d : Dev} (h : d.life.held = true) : d.idle = d := if_pos h

/-- Settles O1: `step` has one case for a queue with a front and one for the empty queue, and `Dev.idle` one for a held device and one for a
running one. -/
theorem stepRunsTheFront : Obligations.StepRunsTheFront := by
  unfold Obligations.StepRunsTheFront
  refine ⟨fun _ _ => rfl, fun _ hq => step_of_empty hq, ?held, ?tick⟩
  case held =>
    intro s hq hheld
    rw [step_of_empty hq, Dev.idle_of_held hheld]
  case tick =>
    intro d hd
    simp [Dev.idle, hd]

/-! ### Audio -/

/-- Settles O10: a truncated quotient is the greatest whole number of units at or before the instant, and sixteen samples of 1/48,000 s are
one block of 1/3000 s. -/
theorem audioInstants : Obligations.AudioInstants := by
  unfold Obligations.AudioInstants
  refine ⟨?sample, ?block, ?first, by decide⟩
  case sample =>
    intro k
    unfold sampleTime
    omega
  case block =>
    intro n
    unfold blockTime
    omega
  case first =>
    intro n
    unfold blockTime sampleTime subSec
    omega

/-! ### What waits at a gate -/

/-- A waiting close is kept in the clock unit's part of the state. -/
theorem Dev.gateWaits_congr {d e : Dev} (h : e.clk.waiting = d.clk.waiting) (g : Nat) : e.gateWaits g = d.gateWaits g := by
  unfold Dev.gateWaits
  rw [h]

@[simp] theorem Dev.persist_clk (d : Dev) (keys : List Nat) : (d.persist keys).clk = d.clk := by
  unfold Dev.persist
  split <;> rfl

@[simp] theorem Dev.copyFollows_clk (d : Dev) (key : Nat) : (d.copyFollows key).clk = d.clk := by
  unfold Dev.copyFollows
  split <;> rfl

@[simp] theorem Dev.flashWrite_clk (d : Dev) (j : FlashJob) : (d.flashWrite j).clk = d.clk := by
  cases j <;> rfl

@[simp] theorem Dev.flashRun_clk (d : Dev) : d.flashRun.clk = d.clk := by
  have h : ∀ (js : List FlashJob) (e : Dev), (js.foldl Dev.flashWrite e).clk = e.clk := by
    intro js
    induction js with
    | nil => exact fun _ => rfl
    | cons j js ih => exact fun e => (ih _).trans (e.flashWrite_clk j)
  exact h _ _

/-- A request that ends OK leaves its RESULT alone. -/
theorem Dev.gateNote_ok (d : Dev) (g : Nat) : d.gateNote g stOk = d.modClk (fun x => { x with result := smSet x.result g 0 0 }) := rfl

/-- An opening leaves what waits. -/
theorem Dev.flashGate_waiting (d : Dev) (g : Nat) : (d.flashGate g).clk.waiting = d.clk.waiting := by
  have h : (d.gateOpen g).clk.waiting = d.clk.waiting := rfl
  unfold Dev.flashGate
  split
  · rw [Dev.flashRun_clk, h]
  · exact h

/-- A gate without accesses in flight closes. -/
theorem Dev.gateClose_of_free {d : Dev} {g : Nat} (h : d.gateBusy g = false) : d.gateClose g = (d.gateSet g false).gateNote g stOk := by
  simp [Dev.gateClose, h]

/-- A gate with accesses in flight waits for at most 100 µs (R77). -/
theorem Dev.gateClose_of_busy {d : Dev} {g : Nat} (h : d.gateBusy g = true) : d.gateClose g =
    ((d.setReg Obj.GATE_EN g 0).setReg Obj.GATE_STATE g gsWaiting).modClk (fun x => { x with
      waiting := smSet x.waiting g (d.clock + 100000) 0 }) := by
  simp [Dev.gateClose, h]

theorem Dev.gateClose_waits {d : Dev} {g : Nat} (hw : d.gateWaits g = false) : (d.gateClose g).gateWaits g = d.gateBusy g := by
  cases hb : d.gateBusy g
  · rw [Dev.gateClose_of_free hb, ← hw]
    rfl
  · have hend : d.clock + 100000 ≠ 0 := by omega
    simp [Dev.gateClose_of_busy hb, Dev.gateWaits, smGet_smSet_of_ne hend]

/-! ### A write that its checks accept -/

/-- The elements of a write of one item, once judged good, are the item's. -/
theorem Dev.itemWrs_of_judged_good {d : Dev} {r : Req} {sealed shared : Bool} {kind apply : Nat} {it : Item} {ws : List Wr}
    (h : d.judgeWrite r sealed kind apply [it] = .good ws shared) : (itemWrs it).getD [] = ws := by
  simp only [Dev.judgeWrite, List.flatMap_cons, List.flatMap_nil, List.append_nil] at h
  iterate 6
    split at h
    · cases h
  injection h

/-- A WRITE that its checks accept is carried out, and what comes of it is sent. -/
theorem Dev.request_write_of_good {d : Dev} {r : Req} {a : BitVec 96} {it : Item} {ws : List Wr} {shared : Bool}
    (h : d.takesUp r (.write a it)) (hfield : r.port = .db → d.nv.lifecycle ≠ 2) (htake : it.ref.object.toNat ≠ Obj.TAKE)
    (hgood : d.judgeWrite r false kWrite a.toNat [it] = .good ws shared) :
    d.request r (.write a it) = Dev.reply (d.acceptWrite r (.write a it) kWrite a.toNat ws shared) r.port := by
  rw [Dev.request_of_takesUp h (by simp [kindOf, kWrite, kEvent]), Dev.noteRefusedDebug_of_open hfield]
  simp [Dev.dispatch, htake, Dev.doWrite, hgood]

theorem Dev.reply_accepted (d : Dev) (r : Req) (e : Nat) (late urgent : Bool) (port : Port) :
    Dev.reply { dev := d, resp := some (accepted kWrite r e late urgent) } port = d.answer (accepted kWrite r e late urgent) := by
  simp [Dev.reply, accepted]

/-! ### A write of GATE_EN -/

/-- The write of one element of GATE_EN. -/
def gateWr (g : Nat) (v : Bytes) : Wr := ⟨Obj.GATE_EN, g, v⟩

@[simp] theorem gateWr_num (g : Nat) (v : Bytes) : (gateWr g v).num = Obj.GATE_EN := rfl
@[simp] theorem gateWr_idx (g : Nat) (v : Bytes) : (gateWr g v).idx = g := rfl
@[simp] theorem gateWr_val (g : Nat) (v : Bytes) : (gateWr g v).val = v := rfl

/-- GATE_EN is no setting of a port. -/
@[simp] theorem ownPortSetting_gateWr (p : Port) (g : Nat) (v : Bytes) : ownPortSetting p (gateWr g v) = false := by
  simp [ownPortSetting, Obj.GATE_EN]

theorem Dev.applyWr_gate (d : Dev) (e g : Nat) (v : Bytes) :
    d.applyWr e (gateWr g v) = if beNat v = 1 then d.flashGate g else d.gateClose g := by
  by_cases hv : beNat v = 1 <;> simp [Dev.applyWr, Obj.GATE_EN, hv]

/-- What waits once the write is applied is what waits once the gate has opened or closed. -/
theorem Dev.applyWrites_gate_waits (d : Dev) (e g : Nat) (v : Bytes) :
    (d.applyWrites e [gateWr g v]).gateWaits g = (if beNat v = 1 then d.flashGate g else d.gateClose g).gateWaits g := by
  have hphase : inPhases [gateWr g v] = [gateWr g v] := rfl
  apply Dev.gateWaits_congr
  simp only [Dev.applyWrites, hphase, Dev.persist_clk, List.foldl_cons, List.foldl_nil, Dev.copyFollows_clk, Dev.applyWr_gate]

/-- An opening does not wait where no close did. -/
theorem Dev.open_not_waiting {d : Dev} {g : Nat} (hw : d.gateWaits g = false) (e : Nat) :
    (d.applyWrites e [gateWr g [1]]).gateWaits g = false := by
  rw [Dev.applyWrites_gate_waits, if_pos (by decide), Dev.gateWaits_congr (d.flashGate_waiting g), hw]

/-- A closing waits where accesses are in flight. -/
theorem Dev.close_waits {d : Dev} {g : Nat} (hw : d.gateWaits g = false) (e : Nat) :
    (d.applyWrites e [gateWr g [0]]).gateWaits g = d.gateBusy g := by
  rw [Dev.applyWrites_gate_waits, if_neg (by decide), Dev.gateClose_waits hw]

section
variable {d : Dev} {r : Req} {a : BitVec 96} {it : Item} {g : Nat} {v : Bytes}

/-- A write that leaves nothing waiting is answered at once. -/
theorem Dev.acceptWrite_gate_done (hw : (d.applyWrites d.now [gateWr g v]).gateWaits g = false) :
    d.acceptWrite r (.write a it) kWrite a.toNat [gateWr g v] false =
      { dev := d.applyWrites d.now [gateWr g v], resp := some (accepted kWrite r d.now false false) } := by
  have hleft : (d.applyWrites d.now [gateWr g v]).gatesLeft (payloadItems (.write a it)) [gateWr g v] = [] := by
    simp [Dev.gatesLeft, hw]
  have he : d.writeE r (mtDecode a.toNat) [gateWr g v] false = (d.now, false) := rfl
  simp [Dev.acceptWrite, he, hleft]

/-- A write that leaves its gate waiting is answered once the gate has closed or its wait has run out. -/
theorem Dev.acceptWrite_gate_waits (hw : (d.applyWrites d.now [gateWr g v]).gateWaits g = true)
    (hit : (itemWrs it).getD [] = [gateWr g v]) :
    d.acceptWrite r (.write a it) kWrite a.toNat [gateWr g v] false =
      { dev := (d.applyWrites d.now [gateWr g v]).modClk (fun x => { x with
          replies := x.replies ++ [⟨r, kWrite, d.now, [(g, 0)], none⟩] }), resp := none } := by
  have hleft : (d.applyWrites d.now [gateWr g v]).gatesLeft (payloadItems (.write a it)) [gateWr g v] = [(g, 0)] := by
    simp [Dev.gatesLeft, payloadItems, hit, hw]
  have he : d.writeE r (mtDecode a.toNat) [gateWr g v] false = (d.now, false) := rfl
  simp [Dev.acceptWrite, he, hleft]

end

/-- A request on a gate is no take. -/
theorem argRef_gate_ne_take (w : WArg) : (argRef Obj.GATE_EN w).object.toNat ≠ Obj.TAKE := by
  simp [argRef, Obj.GATE_EN, Obj.TAKE]

/-- A request on a gate fits into one message. -/
theorem gate_fits (port : Port) : 38 + 1 ≤ reqLimit port := by
  cases port <;> decide

/-- A request on a gate whose write leaves nothing waiting is carried out and answered. -/
theorem Dev.writeRow_gate_done {d : Dev} {r : Req} {w : WArg} {b : Byte} {g : Nat}
    (h : d.takesUp r (.write w.apply ⟨argRef Obj.GATE_EN w, [b]⟩)) (hfield : r.port = .db → d.nv.lifecycle ≠ 2)
    (hgood : d.judgeWrite r false kWrite w.apply.toNat [⟨argRef Obj.GATE_EN w, [b]⟩] = .good [gateWr g [b]] false)
    (hw : (d.applyWrites d.now [gateWr g [b]]).gateWaits g = false) :
    d.writeRow Obj.GATE_EN r { w with value := [b] } =
      (d.applyWrites d.now [gateWr g [b]]).answer (accepted kWrite r d.now false false) := by
  rw [Dev.writeRow_of_fits (w := { w with value := [b] }) d Obj.GATE_EN (gate_fits r.port)]
  refine (Dev.request_write_of_good h hfield (argRef_gate_ne_take w) hgood).trans ?_
  rw [Dev.acceptWrite_gate_done hw, Dev.reply_accepted]

theorem Dev.writeRow_gate_waits {d : Dev} {r : Req} {w : WArg} {b : Byte} {g : Nat}
    (h : d.takesUp r (.write w.apply ⟨argRef Obj.GATE_EN w, [b]⟩)) (hfield : r.port = .db → d.nv.lifecycle ≠ 2)
    (hgood : d.judgeWrite r false kWrite w.apply.toNat [⟨argRef Obj.GATE_EN w, [b]⟩] = .good [gateWr g [b]] false)
    (hw : (d.applyWrites d.now [gateWr g [b]]).gateWaits g = true) :
    d.writeRow Obj.GATE_EN r { w with value := [b] } =
      (d.applyWrites d.now [gateWr g [b]]).modClk (fun x => { x with
        replies := x.replies ++ [⟨r, kWrite, d.now, [(g, 0)], none⟩] }) := by
  rw [Dev.writeRow_of_fits (w := { w with value := [b] }) d Obj.GATE_EN (gate_fits r.port)]
  refine (Dev.request_write_of_good h hfield (argRef_gate_ne_take w) hgood).trans ?_
  rw [Dev.acceptWrite_gate_waits hw (Dev.itemWrs_of_judged_good hgood)]
  rfl

/-- Settles O54: an opening never leaves its gate waiting, and a closing does exactly where accesses are in flight. -/
theorem gateRequests : Obligations.GateRequests := by
  unfold Obligations.GateRequests
  intro s r w g hheld hfield _ hw
  refine ⟨?opening, ?closing, Dev.gateClose_of_free, Dev.gateClose_of_busy⟩
  case opening =>
    intro h hgood
    exact State.live_next hheld (Dev.writeRow_gate_done h hfield hgood (Dev.open_not_waiting hw _))
  case closing =>
    intro h hgood
    have hwaits := Dev.close_waits hw s.dev.now
    refine ⟨fun hfree => ?_, fun hbusy => ?_⟩
    · exact State.live_next hheld (Dev.writeRow_gate_done h hfield hgood (hwaits.trans hfree))
    · exact State.live_next hheld (Dev.writeRow_gate_waits h hfield hgood (hwaits.trans hbusy))

end Sys2Proof.Machine
end

section
/-! Reference inputs and the selector (R34 to R41, R46, R47, R56). -/

namespace Sys2Proof.Machine

/-! ### Loss of activity -/

/-- The device once an input's loss of activity is noted, before the input's state follows (R34, R39). -/
def Dev.lossNoted (d : Dev) (i : Nat) : Dev :=
  d.modRef (fun r => { r with
    active := setBit r.active i false, gateRun := smSet r.gateRun i 0 0, gateFresh := smSet r.gateFresh i 0 0
    pulseGap := smSet r.pulseGap i 0 0, ppsAt := if i = 4 then none else r.ppsAt
    todNext := if i = 4 then none else r.todNext })

theorem Dev.edgeSilent_of_short {d : Dev} {i gap : Nat} (h : 27 * gap < lossGap i) : d.edgeSilent i gap = d :=
  if_neg (Nat.not_le.mpr h)

theorem Dev.edgeSilent_of_disabled {d : Dev} {i gap : Nat} (h : lossGap i ≤ 27 * gap) (hs : d.refState i = rfDisabled) :
    d.edgeSilent i gap = d.lossNoted i := by
  have hs' : (d.lossNoted i).refState i = rfDisabled := hs
  unfold Dev.edgeSilent Dev.refLoss
  rw [if_pos h, ← Dev.lossNoted]
  simp [hs']

theorem Dev.edgeSilent_of_enabled {d : Dev} {i gap : Nat} (h : lossGap i ≤ 27 * gap) (hs : d.refState i ≠ rfDisabled) :
    d.edgeSilent i gap = (d.lossNoted i).setRef i rfAbsent := by
  have hs' : (d.lossNoted i).refState i ≠ rfDisabled := hs
  unfold Dev.edgeSilent Dev.refLoss
  rw [if_pos h, ← Dev.lossNoted]
  simp [hs']

/-! ### A measurement -/

section
variable {d e : Dev} {i : Nat} {off dev : Int} (hd : d = e.setSreg 32 Obj.REF_OFFSET i (off - e.loscTrim))
  (hdev : dev = off - e.loscTrim + (if i < 2 then (500000 * d.reg Obj.FREF_SPREAD : Nat) else 0 : Int))
include hd

theorem Dev.refMeasure_of_absent (hs : d.refState i = rfAbsent) (hg : gateFull i ≤ smGet d.ref.gateFresh i 0) :
    e.refMeasure i off = d.setRef i rfDisqualified := by
  subst hd
  simp [Dev.refMeasure, hs, Dev.gateFreshFull, hg]

theorem Dev.refMeasure_of_disabled (hs : d.refState i = rfDisabled) : e.refMeasure i off = d := by
  subst hd
  simp [Dev.refMeasure, hs, rfAbsent, rfDisqualified, rfRestoring, rfQualified, rfDisabled]

include hdev

/-- An input in its accept band over a whole gate begins its wait-to-restore. -/
theorem Dev.refMeasure_of_disqualified (hs : d.refState i = rfDisqualified) (hg : gateFull i ≤ smGet d.ref.gateRun i 0)
    (ha : dev.natAbs ≤ 1000 * d.reg Obj.REF_ACCEPT i) (hw : (d.setRef i rfRestoring).reg Obj.REF_WTR i = d.reg Obj.REF_WTR i)
    (hw0 : d.reg Obj.REF_WTR i ≠ 0) :
    e.refMeasure i off = (d.setRef i rfRestoring).modRef (fun r => { r with
      wtrEnd := smSet r.wtrEnd i ((d.setRef i rfRestoring).clock + 1000000000 * d.reg Obj.REF_WTR i) 0 }) := by
  simp only [Dev.refMeasure, ← hd, ← hdev]
  simp [hs, rfAbsent, rfDisqualified, Dev.gateWhole, hg, inBand, ha, hw, hw0]

theorem Dev.refMeasure_of_restoring_outside (hs : d.refState i = rfRestoring) (ha : ¬ dev.natAbs ≤ 1000 * d.reg Obj.REF_ACCEPT i) :
    e.refMeasure i off = d.setRef i rfDisqualified := by
  simp only [Dev.refMeasure, ← hd, ← hdev]
  simp [hs, rfAbsent, rfDisqualified, rfRestoring, inBand, ha]

theorem Dev.refMeasure_of_qualified_outside (hs : d.refState i = rfQualified) (hr : ¬ dev.natAbs ≤ 1000 * d.reg Obj.REF_REJECT i) :
    e.refMeasure i off = d.setRef i rfDisqualified := by
  simp only [Dev.refMeasure, ← hd, ← hdev]
  simp [hs, rfAbsent, rfDisqualified, rfRestoring, rfQualified, inBand, hr]

theorem Dev.refMeasure_of_qualified_inside (hs : d.refState i = rfQualified) (hr : dev.natAbs ≤ 1000 * d.reg Obj.REF_REJECT i) :
    e.refMeasure i off = d := by
  simp only [Dev.refMeasure, ← hd, ← hdev]
  simp [hs, rfAbsent, rfDisqualified, rfRestoring, rfQualified, inBand, hr]

end

/-- The device once an update of a monitor has counted its gate and what the frame pulses say (R37, R39). -/
def Dev.updateCounted (d : Dev) (i : Nat) (p : SyncSeen) : Dev := (if i = 4 then d else d.gateCount i).syncUpdate i p

/-- While LOCAL_OSC is lost, or the input is silent, nothing is measured (R39, R56). -/
theorem Dev.refUpdate_of_unmeasured {d : Dev} {i : Nat} {p : SyncSeen} (off : Int)
    (h : (d.updateCounted i p).ref.loscLost = true ∨ bitOf (d.updateCounted i p).ref.active i = false) :
    d.refUpdate i off p = d.updateCounted i p := by
  unfold Dev.refUpdate
  exact if_pos (by simpa [Dev.updateCounted] using h)

theorem Dev.refUpdate_of_measured {d : Dev} {i : Nat} {p : SyncSeen} (off : Int) (hl : (d.updateCounted i p).ref.loscLost = false)
    (ha : bitOf (d.updateCounted i p).ref.active i = true) : d.refUpdate i off p = (d.updateCounted i p).refMeasure i off := by
  have hno : ¬ ((d.updateCounted i p).ref.loscLost || !bitOf (d.updateCounted i p).ref.active i) = true := by simp [hl, ha]
  exact if_neg hno

/-! ### Wait-to-restore -/

theorem Dev.refWtr_of_restoring {d : Dev} {i : Nat} (hs : d.refState i = rfRestoring) (hl : d.ref.loscLost = false) :
    d.refWtr i = (d.passTo (smGet d.ref.wtrEnd i 0)).setRef i rfQualified := by
  simp [Dev.refWtr, hs, hl]

theorem Dev.refWtr_of_other {d : Dev} {i : Nat} (h : d.refState i ≠ rfRestoring ∨ d.ref.loscLost = true) : d.refWtr i = d := by
  obtain hs | hl := h
  · simp [Dev.refWtr, hs]
  · simp [Dev.refWtr, hl]

/-! ### The end of a switch window -/

theorem Dev.switchEnd_of_other {d : Dev} (h : d.selMode ≠ smSwitching) (phase : Int) : d.switchEnd phase = d := by
  simp [Dev.switchEnd, h]

/-- The device as the window ends: what was recorded in it is taken up (R47). -/
def Dev.windowOver (d : Dev) : Dev := (d.passTo d.ref.windowEnd).modRef (fun r => { r with evalDue := false, changedDue := false })

section
variable {d : Dev} (h : d.selMode = smSwitching)
include h

/-- The window of a target that is no longer QUALIFIED ends in a new choice. -/
theorem Dev.switchEnd_of_lost (hq : d.refState (d.reg Obj.SEL_CURRENT) ≠ rfQualified) (phase : Int) :
    d.switchEnd phase = d.windowOver.selAct true := by
  have hq' : d.reg Obj.REF_STATUS (d.reg Obj.SEL_CURRENT) ≠ rfQualified := hq
  simp [Dev.switchEnd, Dev.windowOver, Dev.refState, h, hq']

section
variable (hq : d.refState (d.reg Obj.SEL_CURRENT) = rfQualified)
include hq

/-- The window of a QUALIFIED target ends in LOCKED. -/
theorem Dev.switchEnd_of_qualified (hdue : d.ref.evalDue = false) (phase : Int) :
    d.switchEnd phase = (d.windowOver.modRef (fun r => { r with buildOut := phase })).enterMode smLocked (d.reg Obj.SEL_CURRENT) := by
  have hq' : d.reg Obj.REF_STATUS (d.reg Obj.SEL_CURRENT) = rfQualified := hq
  simp [Dev.switchEnd, Dev.windowOver, Dev.refState, h, hq', hdue]

/-- An evaluation that the window held back follows. -/
theorem Dev.switchEnd_of_due (hdue : d.ref.evalDue = true) (phase : Int) :
    d.switchEnd phase = ((d.windowOver.modRef (fun r => { r with buildOut := phase })).enterMode smLocked
      (d.reg Obj.SEL_CURRENT)).selAct d.ref.changedDue := by
  have hq' : d.reg Obj.REF_STATUS (d.reg Obj.SEL_CURRENT) = rfQualified := hq
  simp [Dev.switchEnd, Dev.windowOver, Dev.refState, h, hq', hdue]

end

end

/-! ### The four commands in a running device -/

section
variable {s : State} {d : Dev} (h : s.dev.life.held = false)
include h

theorem exec_refActivityLoss {i : Fin 5} {gap : Nat} (hd : s.dev.edgeSilent i.val gap = d) :
    exec (.refActivityLoss ⟨i, gap⟩) s = .next (s.after d) := State.live_next h hd

theorem exec_refMonitorUpdate {i : Fin 5} {off : Int} {p : SyncSeen} (hd : s.dev.refUpdate i.val off p = d) :
    exec (.refMonitorUpdate i off p) s = .next (s.after d) := State.live_next h hd

theorem exec_refWtrExpiry {i : Fin 5} (hd : s.dev.refWtr i.val = d) : exec (.refWtrExpiry i) s = .next (s.after d) :=
  State.live_next h hd

theorem exec_switchWindowEnd {phase : Int} (hd : s.dev.switchEnd phase = d) :
    exec (.switchWindowEnd phase) s = .next (s.after d) := State.live_next h hd

end

/-- Settles O16: each command ends in its unit's own operation, whose outcome in each state of the input or of the selector is the lemma
cited. -/
theorem referenceMonitoring : Obligations.ReferenceMonitoring := by
  unfold Obligations.ReferenceMonitoring
  refine ⟨?loss, ?short, ?update, ?wtr, ?noWtr, ?window, ?noWindow⟩
  case loss =>
    intro s i gap d h hgap hd
    obtain rfl : d = s.dev.lossNoted i.val := hd
    exact ⟨fun hs => exec_refActivityLoss h (Dev.edgeSilent_of_disabled hgap hs),
      fun hs => exec_refActivityLoss h (Dev.edgeSilent_of_enabled hgap hs)⟩
  case short =>
    intro s i gap h hgap
    exact exec_refActivityLoss h (Dev.edgeSilent_of_short hgap)
  case update =>
    intro s i off dev p e d h he hd hdev
    obtain rfl : e = s.dev.updateCounted i.val p := he
    refine ⟨fun hl => exec_refMonitorUpdate h (Dev.refUpdate_of_unmeasured off (.inl hl)),
      fun ha => exec_refMonitorUpdate h (Dev.refUpdate_of_unmeasured off (.inr ha)), fun hl ha => ?_⟩
    have measured {x : Dev} (hx : (s.dev.updateCounted i.val p).refMeasure i.val off = x) :
        exec (.refMonitorUpdate i off p) s = .next (s.after x) :=
      exec_refMonitorUpdate h ((Dev.refUpdate_of_measured off hl ha).trans hx)
    exact ⟨fun hs hg => measured (Dev.refMeasure_of_absent hd hs hg),
      fun hs hg hin hw0 hw => measured (Dev.refMeasure_of_disqualified hd hdev hs hg hin hw hw0),
      fun hs hout => measured (Dev.refMeasure_of_restoring_outside hd hdev hs hout),
      fun hs hout => measured (Dev.refMeasure_of_qualified_outside hd hdev hs hout),
      fun hs hin => measured (Dev.refMeasure_of_qualified_inside hd hdev hs hin),
      fun hs => measured (Dev.refMeasure_of_disabled hd hs)⟩
  case wtr =>
    intro s i h hs hl
    exact exec_refWtrExpiry h (Dev.refWtr_of_restoring hs hl)
  case noWtr =>
    intro s i h hs
    exact exec_refWtrExpiry h (Dev.refWtr_of_other hs)
  case window =>
    intro s phase d h hm hd
    obtain rfl : d = s.dev.windowOver := hd
    exact ⟨fun hq hdue => exec_switchWindowEnd h (Dev.switchEnd_of_qualified hm hq hdue phase),
      fun hq hdue => exec_switchWindowEnd h (Dev.switchEnd_of_due hm hq hdue phase),
      fun hq => exec_switchWindowEnd h (Dev.switchEnd_of_lost hm hq phase)⟩
  case noWindow =>
    intro s phase h hm
    exact exec_switchWindowEnd h (Dev.switchEnd_of_other hm phase)

end Sys2Proof.Machine
end

section
/-! Time of day, the Thermos and LOCAL_OSC (R38, R50 to R56, R61 to R63). -/

namespace Sys2Proof.Machine

/-! ### Time of day -/

/-- A message inside its window whose form is good is taken (R38). -/
theorem Dev.todMessage_of_good {d : Dev} {msg t : Nat} (hp : d.ref.ppsAt = some t) (hlo : t + 100000000 ≤ d.clock)
    (hhi : d.clock ≤ t + 800000000) (hg : todGood msg = true) :
    d.todMessage msg = (d.modRef (fun r => { r with
      todNext := some (fld msg 95 48), todBad := 0, todFrom := d.clock })).setReg Obj.TOD_LAST 0 msg := by
  simp [Dev.todMessage, hp, hlo, hhi, hg]

theorem Dev.todMessage_of_bad {d : Dev} {msg : Nat} (hg : todGood msg = false) :
    d.todMessage msg = d.modRef (fun r => { r with todBad := r.todBad + 1 }) := by
  simp [Dev.todMessage, hg]

/-- The device once a 1PPS edge is counted (R61, R63). -/
def Dev.edgeCounted (d : Dev) : Dev :=
  (d.gateCount 4).modRef (fun r => { r with
    ppsAt := some d.clock, todFrom := if bitOf d.ref.active 4 then r.todFrom else d.clock })

/-- An edge without a message, and with no step armed, is counted and no more. -/
theorem Dev.ppsEdge_of_plain {d : Dev} (hn : d.ref.todNext = none) (ha : d.ref.stepArmed = false) : d.ppsEdge = d.edgeCounted := by
  cases hb : bitOf d.ref.active 4 <;> simp [Dev.ppsEdge, Dev.edgeCounted, Dev.gateCount, Dev.modRef, hn, ha, hb]

/-- The edge of an armed step takes the message and the arming with it, and nothing is left to compare. -/
def Dev.stepTaken (d : Dev) : Dev :=
  (d.gateCount 4).modRef (fun r => { r with
    ppsAt := some d.clock, todFrom := if bitOf d.ref.active 4 then r.todFrom else d.clock
    todNext := none, stepArmed := false, compareDue := false })

/-- An armed step loads the counter while TIME_IN is QUALIFIED (R63). -/
theorem Dev.ppsEdge_of_step {d : Dev} {secs : Nat} (hn : d.ref.todNext = some secs) (ha : d.ref.stepArmed = true)
    (hq : d.refState 4 = rfQualified) :
    d.ppsEdge = ((d.stepTaken.setSreg 64 Obj.MT_TIME_OFFSET 0 (d.stepTaken.timeDiff secs)).stepTime secs).setReg Obj.MT_STEP_PENDING 0 0 := by
  have hq' : ∀ f g : RefX → RefX, ((d.modRef f).modRef g).refState 4 = rfQualified := fun _ _ => hq
  cases hb : bitOf d.ref.active 4 <;> simp [Dev.ppsEdge, Dev.stepTaken, Dev.gateCount, hn, ha, hb, hq']

/-! ### The Thermos -/

theorem Dev.thermosRecord_of_unlocked {d : Dev} (h : d.selMode ≠ smLocked) (corr : Int) : d.thermosRecord corr = d := by
  simp [Dev.thermosRecord, h]

/-- Starting to record touches the registers alone. -/
@[simp] theorem Dev.thermosStart_ref (d : Dev) : d.thermosStart.ref = d.ref := by
  unfold Dev.thermosStart
  split <;> rfl

/-- The first five records wait. -/
theorem Dev.thermosRecord_of_early {d : Dev} (hm : d.selMode = smLocked) (hl : d.ref.loscLost = false) (hr : d.ref.recent.length < 5)
    (hs : d.ref.spoiledAt = none) (corr : Int) :
    d.thermosRecord corr = d.thermosStart.modRef (fun r => { r with recent := (corr - d.thermosStart.loscTrim) :: r.recent }) := by
  have hlen : d.ref.recent.length + 1 ≤ 5 := hr
  have hclear : d.thermosStart.modRef (fun r => { r with spoiledAt := none }) = d.thermosStart := by
    unfold Dev.modRef
    rw [← hs, ← d.thermosStart_ref]
  have hrec : d.thermosRecord corr =
      d.thermosStart.modRef (fun r => { r with recent := (corr - d.thermosStart.loscTrim) :: d.ref.recent }) := by
    simp [Dev.thermosRecord, hm, hl, Dev.recordSpoiled, hs, hlen, hclear]
  simp [hrec, Dev.modRef]

/-! ### LOCAL_OSC -/

/-- The device once LOCAL_OSC has been found stable from `t` on (R53, R54). -/
def Dev.oscStable (d : Dev) (t : Nat) : Dev :=
  ((d.passTo (t + 26214400)).modRef (fun r => { r with
    loscLost := false, loscStable := true, edgeRoot := .localOsc })).setReg Obj.REF_STATUS 5 rfQualified

theorem Dev.cleanCount_of_stable {d : Dev} (h : d.ref.loscStable = true) : d.cleanCount = 1048576 := by
  simp [Dev.cleanCount, h]

theorem Dev.cleanCount_of_lost {d : Dev} (h : d.ref.loscStable = false) (hf : d.ref.loscFrom = none) : d.cleanCount = 0 := by
  simp [Dev.cleanCount, h, hf]

section
variable {d : Dev} {t : Nat} (h : d.ref.loscStable = false) (hf : d.ref.loscFrom = some t)
include h hf

theorem Dev.loscStable_of_unlocked (hm : (d.oscStable t).selMode ≠ smLocked) : d.loscStable = d.oscStable t := by
  simp only [Dev.oscStable] at hm
  simp [Dev.loscStable, Dev.oscStable, h, hf, hm]

/-- In LOCKED the Thermos begins to record (R51). -/
theorem Dev.loscStable_of_locked (hm : (d.oscStable t).selMode = smLocked) : d.loscStable = (d.oscStable t).thermosStart := by
  simp only [Dev.oscStable] at hm
  simp [Dev.loscStable, Dev.oscStable, h, hf, hm]

end

/-- The device once LOCAL_OSC is lost, before the selector and the edge root follow (R56). -/
def Dev.oscLost (d : Dev) : Dev :=
  (((d.modRef (fun r => { r with
    loscLost := true, loscStable := false, loscFrom := none, recent := [], records := 0, meanSum := 0, meanWeight := 0 })).setReg
    Obj.REF_STATUS 5 rfAbsent).setReg Obj.THERMOS_STATE 0 thEmpty).setReg Obj.THERMOS_FREQ 0 0

/-- Outside HOLDOVER the selector stays as it is, and the edge root alone decides (R54, R55). -/
theorem Dev.loscLoss_of_not_holdover {d : Dev} (hm : d.oscLost.selMode ≠ smHoldover) :
    d.loscLoss = if d.ref.edgeRoot = .localOsc then
        if d.oscLost.laneRefNow = 255 then d.oscLost.ask (.reset rcRootClock) else d.oscLost.modRef (fun r => { r with edgeRoot := .laneRef })
      else d.oscLost := by
  have hmode : (if d.oscLost.selMode == smHoldover then d.oscLost.enterMode smFreeRun 255 else d.oscLost) = d.oscLost := by simp [hm]
  calc d.loscLoss = (fun e : Dev => if d.ref.edgeRoot = .localOsc then
          if e.laneRefNow = 255 then e.ask (.reset rcRootClock) else e.modRef (fun r => { r with edgeRoot := .laneRef })
        else e) (if d.oscLost.selMode == smHoldover then d.oscLost.enterMode smFreeRun 255 else d.oscLost) := rfl
    _ = _ := by rw [hmode]

/-! ### The five commands in a running device -/

section
variable {s : State} {d : Dev} (h : s.dev.life.held = false)
include h

theorem exec_timeOfDayMessage {msg : BitVec 128} (hd : s.dev.todMessage msg.toNat = d) :
    exec (.timeOfDayMessage msg) s = .next (s.after d) := State.live_next h hd

theorem exec_timePpsEdge (hd : s.dev.ppsEdge = d) : exec .timePpsEdge s = .next (s.after d) := State.live_next h hd

theorem exec_thermosRecord {corr : Int} (hd : s.dev.thermosRecord corr = d) : exec (.thermosRecord corr) s = .next (s.after d) :=
  State.live_next h hd

theorem exec_localOscStable (hd : s.dev.loscStable = d) : exec .localOscStable s = .next (s.after d) := State.live_next h hd

theorem exec_localOscLoss (hd : s.dev.loscLoss = d) : exec .localOscLoss s = .next (s.after d) := State.live_next h hd

end

/-- Settles O17: each command ends in its unit's own operation, whose outcome in each case is the lemma cited. -/
theorem timeOfDayAndThermos : Obligations.TimeOfDayAndThermos := by
  unfold Obligations.TimeOfDayAndThermos
  refine ⟨?taken, ?bad, ?edge, ?step, ?unlocked, ?early, ?stable, ?lost⟩
  case taken =>
    intro s msg t h hp hlo hhi hg
    exact exec_timeOfDayMessage h (Dev.todMessage_of_good hp hlo hhi hg)
  case bad =>
    intro s msg h hg
    exact exec_timeOfDayMessage h (Dev.todMessage_of_bad hg)
  case edge =>
    intro s h hn ha
    exact exec_timePpsEdge h (Dev.ppsEdge_of_plain hn ha)
  case step =>
    intro s secs d h hn ha hq hd
    obtain rfl : d = s.dev.stepTaken := hd
    exact exec_timePpsEdge h (Dev.ppsEdge_of_step hn ha hq)
  case unlocked =>
    intro s corr h hm
    exact exec_thermosRecord h (Dev.thermosRecord_of_unlocked hm corr)
  case early =>
    intro s corr h hm hl hr hs
    exact exec_thermosRecord h (Dev.thermosRecord_of_early hm hl hr hs corr)
  case stable =>
    intro s t d h hst hf hd
    obtain rfl : d = s.dev.oscStable t := hd
    exact ⟨Dev.cleanCount_of_stable rfl, fun hm => exec_localOscStable h (Dev.loscStable_of_unlocked hst hf hm),
      fun hm => exec_localOscStable h (Dev.loscStable_of_locked hst hf hm)⟩
  case lost =>
    intro s d h hd
    obtain rfl : d = s.dev.oscLost := hd
    refine ⟨Dev.cleanCount_of_lost rfl rfl, fun hm => ?_⟩
    have hend := Dev.loscLoss_of_not_holdover hm
    refine ⟨fun hr => ?_, fun hr hl => ?_, fun hr hl => ?_⟩
    · exact exec_localOscLoss h (hend.trans (if_neg hr))
    · exact exec_localOscLoss h (by rw [hend, if_pos hr, if_pos hl])
    · exact exec_localOscLoss h (by rw [hend, if_pos hr, if_neg hl])

end Sys2Proof.Machine
end

section
/-! The synthesiser: update instants, frame pulses and reset instants (R69 to R72). -/

namespace Sys2Proof.Machine

/-! ### The update instant -/

/-- The outputs whose captured settings differ from the live ones. -/
def Dev.outputsChanged (d : Dev) (cs : List ClkSet) : List Nat :=
  (List.range 4).filter (fun n => cs.getD n {} != d.synth.live.getD n {})

theorem Dev.synthUpdate_of_idle {d : Dev} (h : d.synth.captured = none) : d.synthUpdate = d := by
  simp [Dev.synthUpdate, h]

/-- The captured settings become live at the instant; each changed output ends with its last complete old cycle and rises at the instant
(R70). -/
theorem Dev.synthUpdate_of_captured {d e : Dev} {cs : List ClkSet} (h : d.synth.captured = some cs)
    (he : e = d.passToMt d.synth.updateE) :
    d.synthUpdate = { e with synth := { e.synth with
      live := cs, captured := none
      restartAt := (e.outputsChanged cs).foldl (fun m n => smSet m n (e.synth.updateE + 1) 0) e.synth.restartAt
      lowFrom := (e.outputsChanged cs).foldl (fun m n => smSet m n
        ((e.synth.live.getD n {}).lastCycle (smGet e.synth.restartAt n 0 - 1) e.synth.updateE + 1) 0) e.synth.lowFrom } } := by
  subst he
  simp only [Dev.synthUpdate, h]
  rfl

/-! ### FRAME_SYNC_IN -/

/-- A pulse with an output armed sets a reset instant 24 ns on (R71). -/
theorem Dev.frameSyncIn_of_armed {d : Dev} {n : Nat} (hn : n < 4) (ha : d.fsyncArmed n = true) :
    d.frameSyncIn = { d with synth := { d.synth with resetAt := some (d.now + 24 * subNs) } } :=
  if_pos (List.any_eq_true.mpr ⟨n, List.mem_range.mpr hn, ha⟩)

theorem Dev.frameSyncIn_of_unarmed {d : Dev} (ha : ∀ n, n < 4 → d.fsyncArmed n = false) : d.frameSyncIn = d := by
  refine if_neg fun hany => ?_
  obtain ⟨n, hn, harm⟩ := List.any_eq_true.mp hany
  simp [ha n (List.mem_range.mp hn)] at harm

/-! ### The reset instant -/

/-- What the reset instant `t` does to output `n` (R71). -/
def Dev.resetOutput (t inPhase : Nat) (d : Dev) (n : Nat) : Dev :=
  if d.fsyncArmed n then
    let d := if bitOf inPhase n then d else
      { d with synth := { d.synth with restartAt := smSet d.synth.restartAt n (t + 1) 0 } }
    if d.reg Obj.CLKOUT_FSYNC_MODE n == 1 then d.setReg Obj.CLKOUT_FSYNC_DONE n 1 else d
  else d

/-- With every output in EVERY, those that are not in phase restart, and nothing else changes. -/
theorem Dev.resetOutput_foldl (t inPhase : Nat) (ns : List Nat) :
    ∀ d : Dev, (∀ n ∈ ns, d.reg Obj.CLKOUT_FSYNC_MODE n = 2) →
      ns.foldl (Dev.resetOutput t inPhase) d = { d with synth := { d.synth with
        restartAt := ns.foldl (fun m n => if bitOf inPhase n then m else smSet m n (t + 1) 0) d.synth.restartAt } } := by
  induction ns with
  | nil => exact fun _ _ => rfl
  | cons n ns ih =>
    intro d hmode
    have hone : Dev.resetOutput t inPhase d n = { d with synth := { d.synth with
        restartAt := if bitOf inPhase n then d.synth.restartAt else smSet d.synth.restartAt n (t + 1) 0 } } := by
      have hn : ∀ e : Dev, e.regs = d.regs → e.reg Obj.CLKOUT_FSYNC_MODE n = 2 := fun e he => by
        rw [← hmode n (List.mem_cons_self ..), Dev.reg, Dev.reg, he]
      cases hb : bitOf inPhase n <;> simp [Dev.resetOutput, Dev.fsyncArmed, hb, hn]
    rw [List.foldl_cons, hone]
    exact ih _ fun m hm => hmode m (List.mem_cons_of_mem n hm)

theorem Dev.clkReset_of_idle {d : Dev} (h : d.synth.resetAt = none) (inPhase : Nat) : d.clkReset inPhase = d := by
  simp [Dev.clkReset, h]

/-- A reset instant without captured settings. -/
theorem Dev.clkReset_of_every {d e : Dev} {t : Nat} (h : d.synth.resetAt = some t) (hc : d.synth.captured = none)
    (he : e = d.passToMt t) (hmode : ∀ n, n < 4 → d.reg Obj.CLKOUT_FSYNC_MODE n = 2) (inPhase : Nat) :
    d.clkReset inPhase = { e with synth := { e.synth with
      resetAt := none
      restartAt := (List.range 4).foldl (fun m n => if bitOf inPhase n then m else smSet m n (t + 1) 0) e.synth.restartAt } } := by
  subst he
  have hfold : d.clkReset inPhase = (List.range 4).foldl (Dev.resetOutput t inPhase)
      { d.passToMt t with synth := { (d.passToMt t).synth with resetAt := none } } := by
    simp only [Dev.clkReset, h, Dev.passToMt_synth, hc, Option.isSome_none, Bool.false_and, Bool.false_eq_true, if_false]
    rfl
  rw [hfold, Dev.resetOutput_foldl]
  exact fun n hn => (d.passToMt_reg t Obj.CLKOUT_FSYNC_MODE n).trans (hmode n (List.mem_range.mp hn))

/-! ### The three commands in a running device -/

section
variable {s : State} {d : Dev} (h : s.dev.life.held = false)
include h

theorem exec_synthUpdateInstant (hd : s.dev.synthUpdate = d) : exec .synthUpdateInstant s = .next (s.after d) := State.live_next h hd

theorem exec_frameSyncInPulse (hd : s.dev.frameSyncIn = d) : exec .frameSyncInPulse s = .next (s.after d) := State.live_next h hd

theorem exec_clkoutResetInstant {p : BitVec 4} (hd : s.dev.clkReset p.toNat = d) :
    exec (.clkoutResetInstant p) s = .next (s.after d) := State.live_next h hd

end

/-- Settles O18: each command ends in its unit's own operation; at a reset instant the four outputs are gone through by
`Dev.resetOutput_foldl`. -/
theorem synthesiserEvents : Obligations.SynthesiserEvents := by
  unfold Obligations.SynthesiserEvents
  refine ⟨?update, ?noUpdate, ?pulse, ?noPulse, ?reset, ?noReset⟩
  case update =>
    intro s cs d ch h hc hd hch
    obtain rfl : ch = d.outputsChanged cs := hch
    exact exec_synthUpdateInstant h (Dev.synthUpdate_of_captured hc hd)
  case noUpdate =>
    intro s h hc
    exact exec_synthUpdateInstant h (Dev.synthUpdate_of_idle hc)
  case pulse =>
    intro s n h hn ha
    exact exec_frameSyncInPulse h (Dev.frameSyncIn_of_armed hn ha)
  case noPulse =>
    intro s h ha
    exact exec_frameSyncInPulse h (Dev.frameSyncIn_of_unarmed ha)
  case reset =>
    intro s p t d h ht hc hd hmode
    exact exec_clkoutResetInstant h (Dev.clkReset_of_every ht hc hd hmode p.toNat)
  case noReset =>
    intro s p h ht
    exact exec_clkoutResetInstant h (Dev.clkReset_of_idle ht p.toNat)

end Sys2Proof.Machine
end

section
/-! Outputs: frame starts, switch points, and Hampers that are armed (R65, R165, R166, R170, R171, R185). -/

namespace Sys2Proof.Machine

/-! ### Frame starts -/

theorem Dev.outFrameStart_of_no_format {d : Dev} {p : Nat} (h : fmtOf (d.outFormat p) = none) : d.outFrameStart p = d := by
  simp [Dev.outFrameStart, h]

/-- Output `p` of device `c` as the frame that was due begins, of source `src` in the format `f` of code `code` (R165, R166). -/
def Dev.frameDue (c : Dev) (p code src : Nat) (f : Fmt) : OutX :=
  { c.out p with
    fmt := code, started := true, start := (c.out p).next, ph := (c.out p).nextPh
    onRef := decide (f.wrapDiff ((c.out p).nextPh - c.refPhase p f) = 0), oldUntil := 0, still := c.stillOf src
    word := if (c.out p).ahead then (c.out p).word else 0
    t := if (c.out p).ahead then (c.out p).t else f.ex (c.out p).next
    fill := if (c.out p).ahead then (c.out p).fill else 0
    mismatch := if (c.out p).ahead then (c.out p).mismatch else c.mismatched p code src
    ahead := false }

/-- The device once that frame has begun, with its move counted where it exceeds the window (R166). -/
def Dev.frameBegun (c : Dev) (p code src : Nat) (f : Fmt) : Dev :=
  let d := c.setOut p (c.frameDue p code src f)
  if d.bigMove p f (f.wrapDiff ((c.out p).nextPh - (c.out p).ph)) then d.rephased p else d

/-- The device once the cadence has fixed the next frame of output `p` in format `f` (R165). -/
def Dev.nextFixed (d : Dev) (p : Nat) (f : Fmt) : Dev :=
  let ph := (d.cadence p (d.outFormat p) f (d.reg Obj.XP_SOURCE p) (d.out p).ph (d.out p).onRef).1
  d.setOut p { d.out p with
    nextPh := ph, next := f.tick (nearAcross f f ph (f.exactStart (d.out p).ph (d.out p).start + f.exP)) }

/-- A running output of link transport that follows no new format. -/
theorem Dev.outFrameStart_of_running {o c d : Dev} {p : Nat} {f g : Fmt} (hf : fmtOf (o.outFormat p) = some f)
    (hc : c = (o.phaseDue (o.reg Obj.XP_SOURCE p)).fsSettle (o.reg Obj.XP_SOURCE p) o.now) (hs : (c.out p).started = true)
    (hd : d = c.frameBegun p (o.outFormat p) (o.reg Obj.XP_SOURCE p) f) (ht : d.reg Obj.OUT_TRANSPORT p = 0)
    (hn : d.followStart p f (f.ex d.now) (·.exP) = none) (hg : fmtOf (d.outFormat p) = some g) :
    o.outFrameStart p = (d.nextFixed p g).setReg Obj.OUT_STATE p ((d.nextFixed p g).outState p) := by
  unfold Dev.outFrameStart
  extract_lets code src settled due
  have hcode : fmtOf code = some f := hf
  have hsettled : settled = c := hc.symm
  have hdue : due.started = true := by rw [← hs, ← hsettled]
  simp -zeta only [hcode, hdue, if_true]
  extract_lets move frame placed begun taken followed x
  have hbegun : begun = d := by
    rw [hd, ← hsettled]
    rfl
  have htaken : taken = d := by
    simp [taken, hbegun, ht]
  have hfollowed : followed = d := by
    simp [followed, htaken, hn]
  have hx : x = d.out p := by rw [← hfollowed]
  simp -zeta only [hfollowed, hg, hx]
  rfl

/-! ### Switch points -/

theorem Dev.outSwitchPoint_of_member {d : Dev} {p : Nat} (h : d.outGangMember p = true) (second : Bool) : d.outSwitchPoint p second = d := by
  simp [Dev.outSwitchPoint, h]

section
variable {d : Dev} {p line : Nat} {second : Bool} {f : Fmt} {t : TakeX} {inst : Int} (hm : d.outGangMember p = false)
  (hf : fmtOf (d.outFormat p) = some f) (ht : d.reg Obj.OUT_TRANSPORT p = 0)
  (hl : d.switchLine p (d.outFormat p) second = some line) (hp : (d.out p).pend = some t)
  (hi : inst = f.ex (d.out p).start + d.lineWord p (d.outFormat p) line * d.outTw p f)
include hm hf ht hl hp hi

/-- A take whose E has come executes at the switch point (R170). -/
theorem Dev.outSwitchPoint_of_due (he : f.ex t.e ≤ inst) (hr : d.takeReady t = true) :
    d.outSwitchPoint p second = d.executeTake p line f inst := by
  subst hi
  simp [Dev.outSwitchPoint, hm, hf, ht, hl, hp, he, hr]

/-- A take whose E is later waits. -/
theorem Dev.outSwitchPoint_of_early (he : inst < f.ex t.e) (hs : (d.out p).swDone = none) : d.outSwitchPoint p second = d := by
  subst hi
  simp [Dev.outSwitchPoint, hm, hf, ht, hl, hp, Int.not_le.mpr he, hs]

end

/-! ### Hampers -/

theorem Dev.hamperArmed_of_armed {d : Dev} {h : Nat} (hx : (d.hamper h).isSome = true) (hs : d.reg Obj.HAMPER_STATE h = hsArmed) :
    d.hamperArmed h = d.setReg Obj.HAMPER_STATE h hsInProgress := by
  simp [Dev.hamperArmed, hx, hs]

theorem Dev.hamperArmed_of_empty {d : Dev} {h : Nat} (hx : d.hamper h = none) : d.hamperArmed h = d := by
  simp [Dev.hamperArmed, hx]

/-! ### The three commands in a running device -/

section
variable {s : State} {d : Dev} (h : s.dev.life.held = false)
include h

theorem exec_outputFrameStart {p : Fin 1024} (hd : s.dev.outFrameStart p.val = d) :
    exec (.outputFrameStart p) s = .next (s.after (((d.ceAtOutput p.val).ciAtOutput p.val).joinSwitch p.val)) :=
  State.live_next h (by rw [← hd]; rfl)

theorem exec_outputSwitchPoint {p : Fin 1024} {second : Bool} (hd : s.dev.outSwitchPoint p.val second = d) :
    exec (.outputSwitchPoint p second) s = .next (s.after d) := State.live_next h hd

theorem exec_hamperArmed {n : Fin 256} (hd : s.dev.hamperArmed n.val = d) : exec (.hamperArmed n) s = .next (s.after d) :=
  State.live_next h hd

end

/-- Settles O26: each command ends in its unit's own operation; the frame that an output starts is `Dev.frameBegun`, and the next is fixed by
`Dev.nextFixed`. -/
theorem outputFramesAndSwitchPoints : Obligations.OutputFramesAndSwitchPoints := by
  unfold Obligations.OutputFramesAndSwitchPoints
  refine ⟨?noFormat, ?running, ?member, ?point, ?hamper⟩
  case noFormat =>
    intro s p h hf
    exact exec_outputFrameStart h (Dev.outFrameStart_of_no_format hf)
  case running =>
    intro s p f g src x c d e h hf hsrc hc hs hx hd ht hn hg he
    subst hsrc
    obtain rfl : x = c.frameDue p.val (s.dev.outFormat p.val) (s.dev.reg Obj.XP_SOURCE p.val) f := hx
    obtain rfl : e = d.nextFixed p.val g := he
    exact exec_outputFrameStart h (Dev.outFrameStart_of_running hf hc hs hd ht hn hg)
  case member =>
    intro s p second h hm
    exact exec_outputSwitchPoint h (Dev.outSwitchPoint_of_member hm second)
  case point =>
    intro s p second f line t inst h hm hf ht hl hp hi
    exact ⟨fun he hr => exec_outputSwitchPoint h (Dev.outSwitchPoint_of_due hm hf ht hl hp hi he hr),
      fun he hs => exec_outputSwitchPoint h (Dev.outSwitchPoint_of_early hm hf ht hl hp hi he hs)⟩
  case hamper =>
    intro s n h
    exact ⟨fun hx hs => exec_hamperArmed h (Dev.hamperArmed_of_armed hx hs), fun hx => exec_hamperArmed h (Dev.hamperArmed_of_empty hx)⟩

end Sys2Proof.Machine
end

section
/-! The control bus: a transaction at its target, and arbitration (R77, R507, R509 to R513, R515; Tables 15.2 to 15.4). -/

namespace Sys2Proof.Machine

/-! ### Responses -/

theorem Dev.busFail_of_write {t : BusTxn} (h : t.write = true) (d : Dev) (resp : Nat) :
    d.busFail t resp = d.busAnswer t.master.val resp [] := by
  simp [Dev.busFail, busZeros, h]

/-- A read that ends otherwise than OK returns zero (R513). -/
theorem Dev.busFail_of_read {t : BusTxn} (h : t.write = false) (d : Dev) (resp : Nat) :
    d.busFail t resp = d.busAnswer t.master.val resp (List.replicate (busLen t) 0) := by
  simp [Dev.busFail, busZeros, h]

/-! ### A transaction at its target -/

theorem Dev.busDo_of_malformed {t : BusTxn} (h : busFormed t = false) (d : Dev) : d.busDo t = some (d.busFail t 1) := by
  simp [Dev.busDo, h]

theorem Dev.busDo_of_no_target {d : Dev} {t : BusTxn} (hf : busFormed t = true) (hk : d.busTarget (busAt t) = none) :
    d.busDo t = some (d.busFail t 1) := by
  simp [Dev.busDo, hf, hk]

theorem Dev.busDo_of_closed {d : Dev} {t : BusTxn} {k : Nat} (hf : busFormed t = true) (hk : d.busTarget (busAt t) = some k)
    (hg : d.gateOfAddr (busAt t) ≠ 0) (ho : d.gateOn (d.gateOfAddr (busAt t)) = false) : d.busDo t = some (d.busFail t 2) := by
  simp [Dev.busDo, hf, hk, hg, ho]

/-- ROM, flash and the gain matrix take no write, whether their gate is open or not (R511). -/
theorem Dev.busDo_read_only {d : Dev} {t : BusTxn} {k : Nat} (hf : busFormed t = true) (hk : d.busTarget (busAt t) = some k)
    (hro : k = 0 ∨ k = 3 ∨ k = 8 ∨ k = 9) (hw : t.write = true) : d.busDo t = some (d.busFail t 2) := by
  unfold Dev.busDo
  obtain rfl | rfl | rfl | rfl := hro <;> simp [hf, hk, hw]

section
variable {d : Dev} {t : BusTxn} {k : Nat} (hf : busFormed t = true) (hk : d.busTarget (busAt t) = some k)
  (hopen : ¬ (¬ d.gateOfAddr (busAt t) = 0 ∧ d.gateOn (d.gateOfAddr (busAt t)) = false))
include hf hk hopen

theorem Dev.busDo_rom (h0 : k = 0) (hw : t.write = false) :
    d.busDo t = some (d.busOk t ((List.range (busLen t)).map (fun i => Config.romByte (busAt t + i)))) := by
  subst h0
  simp [Dev.busDo, hf, hk, hopen, hw]

theorem Dev.busDo_ram_clean (h12 : k = 1 ∨ k = 2) (hw : t.write = false) (hc : t.cram = .clean) :
    d.busDo t = some (d.busOk t ((List.range (busLen t)).map (fun i => d.ramAt (busAt t + i)))) := by
  unfold Dev.busDo
  obtain rfl | rfl := h12 <;> simp [hf, hk, hopen, hw, hc]

/-- A corrected error of control RAM is noted (R512). -/
theorem Dev.busDo_ram_corrected (h12 : k = 1 ∨ k = 2) (hw : t.write = false) (hc : t.cram = .corrected) :
    d.busDo t = some ((d.pulse Flt.CRAM_CE).busOk t ((List.range (busLen t)).map (fun i => d.ramAt (busAt t + i)))) := by
  unfold Dev.busDo
  obtain rfl | rfl := h12 <;> simp [hf, hk, hopen, hw, hc]

theorem Dev.busDo_ram_uncorrectable (h12 : k = 1 ∨ k = 2) (hw : t.write = false) (hc : t.cram = .uncorrectable) :
    d.busDo t = some ((d.setLine Flt.CRAM_ECC true).busFail t 3) := by
  unfold Dev.busDo
  obtain rfl | rfl := h12 <;> simp [hf, hk, hopen, hw, hc]

theorem Dev.busDo_ram_write (h12 : k = 1 ∨ k = 2) (hw : t.write = true) :
    d.busDo t = some ((d.modBus (fun b => { b with
      ram := ((List.range (busLen t)).zip (t.data.zip t.strobe)).foldl (fun m x =>
        if x.2.2 then smSet m (busAt t + x.1) (some x.2.1) none else m) b.ram })).busOk t []) := by
  unfold Dev.busDo
  obtain rfl | rfl := h12 <;> simp [hf, hk, hopen, hw]

/-- A read beyond the flash's density is a decode error. -/
theorem Dev.busDo_flash_beyond (h3 : k = 3) (hw : t.write = false) (hd : d.nv.density < busAt t - 0x20000000 + busLen t) :
    d.busDo t = some (d.busFail t 1) := by
  subst h3
  simp [Dev.busDo, hf, hk, hopen, hw, hd]

theorem Dev.busDo_flash (h3 : k = 3) (hw : t.write = false) (hd : busAt t - 0x20000000 + busLen t ≤ d.nv.density) {b : Bytes} {e : Dev}
    (hr : Dev.flashRead (busLen t) (busAt t - 0x20000000) d = (b, e)) : d.busDo t = some (e.busOk t b) := by
  subst h3
  simp [Dev.busDo, hf, hk, hopen, hw, Nat.not_lt.mpr hd, hr]

section
variable (hlo : 3 < k) (hhi : k ≤ 7)
include hlo hhi

/-- The windows without a table have no meaning here (R510). -/
theorem Dev.busDo_undocumented (hn : unitWindow (busAt t) < 59 ∨ unitWindow (busAt t) = 63) : d.busDo t = none := by
  have h0 : ¬ k = 0 := by omega
  have h12 : ¬ (k = 1 ∨ k = 2) := by omega
  have h3 : ¬ k = 3 := by omega
  simp [Dev.busDo, hf, hk, hopen, h0, h12, h3, hhi, hn]

theorem Dev.busDo_window (hn : ¬ (unitWindow (busAt t) < 59 ∨ unitWindow (busAt t) = 63)) :
    d.busDo t = some (d.busWindow t (unitWindow (busAt t))) := by
  have h0 : ¬ k = 0 := by omega
  have h12 : ¬ (k = 1 ∨ k = 2) := by omega
  have h3 : ¬ k = 3 := by omega
  simp [Dev.busDo, hf, hk, hopen, h0, h12, h3, hhi, hn]

end

theorem Dev.busDo_gain (h89 : k = 8 ∨ k = 9) (hw : t.write = false) :
    d.busDo t = some (d.busOk t ((List.range (busLen t)).map (fun i => d.gainByte (busAt t - 0x80000000 + i)))) := by
  unfold Dev.busDo
  obtain rfl | rfl := h89 <;> simp [hf, hk, hopen, hw]

theorem Dev.busDo_frame_memory (h9 : 9 < k) : d.busDo t = some (d.busFm t) := by
  have h0 : ¬ k = 0 := by omega
  have h12 : ¬ (k = 1 ∨ k = 2) := by omega
  have h3 : ¬ k = 3 := by omega
  have h7 : ¬ k ≤ 7 := by omega
  simp [Dev.busDo, hf, hk, hopen, h0, h12, h3, h7, Nat.not_le.mpr h9]

end

/-! ### A transaction arrives -/

/-- A gate with a waiting close holds it (R77). -/
theorem Dev.busTransact_of_held {d : Dev} {t : BusTxn} (hf : busFormed t = true)
    (hh : (d.outstanding t.master.val).gateHolds (busAt t) = true) :
    d.busTransact t = some ((d.outstanding t.master.val).modBus (fun b => { b with held := b.held ++ [t] })) := by
  simp [Dev.busTransact, hf, hh]

theorem Dev.busTransact_of_free {d : Dev} {t : BusTxn}
    (hh : busFormed t = false ∨ (d.outstanding t.master.val).gateHolds (busAt t) = false) :
    d.busTransact t = (d.outstanding t.master.val).busDo t := by
  obtain hf | hh := hh
  · simp [Dev.busTransact, hf]
  · simp [Dev.busTransact, hh]

/-! ### Arbitration (R515) -/

theorem Dev.busWaits_of_held {d : Dev} {m a t : Nat} (ht : d.busTarget a = some t)
    (hh : 16 ≤ smGet d.bus.open_ m 0 ∨ d.gateHolds a = true) :
    d.busWaits m a = d.modBus (fun b => { b with parked := b.parked ++ [(m, a)] }) := by
  simp [Dev.busWaits, ht, hh]

theorem Dev.busWaits_of_free {d : Dev} {m a t : Nat} (ht : d.busTarget a = some t) (ho : smGet d.bus.open_ m 0 < 16)
    (hh : d.gateHolds a = false) :
    d.busWaits m a = (d.outstanding m).modBus (fun b => { b with
      open_ := smSet b.open_ m (smGet b.open_ m 0 + 1) 0
      waiting := smSet b.waiting t (smGet b.waiting t [] ++ [⟨m, d.reg Obj.BUS_QOS m, 0, d.gateBehind a⟩]) [] }) := by
  simp [Dev.busWaits, ht, Nat.not_le.mpr ho, hh]

/-- The device once the transactions that are new to port `t` compete there. -/
def Dev.competed (d : Dev) (t : Nat) (newly : List (Nat × Nat)) : Dev :=
  newly.foldl (fun d x => if d.busTarget x.2 = some t then d.busWaits x.1 x.2 else d) d.busUnpark

/-- The device once port `t` has counted its grant of `w`, and whether it had aged. -/
def Dev.grantCounted (d : Dev) (t : Nat) (w : BusWait) : Dev :=
  (if w.qos < w.effective then d.count Obj.BUS_AGED t else d).countWrap Obj.BUS_GRANTS t 1

section
variable {d e : Dev} {t : Nat} {newly : List (Nat × Nat)} (he : e = d.competed t newly)
include he

theorem Dev.busGrant_of_none (hw : busWinner (smGet e.bus.last t 0) (smGet e.bus.waiting t []) = none) : d.busGrant t newly = e := by
  unfold Dev.busGrant
  rw [← Dev.competed, ← he]
  simp [hw]

theorem Dev.busGrant_of_winner {w : BusWait} (hw : busWinner (smGet e.bus.last t 0) (smGet e.bus.waiting t []) = some w) :
    d.busGrant t newly = ((e.grantCounted t w).modBus (fun b => { b with
      waiting := smSet b.waiting t ((e.grantCounted t w).afterGrant w (smGet e.bus.waiting t [])) []
      last := smSet b.last t (w.master + 1) 0
      open_ := smSet b.open_ w.master (smGet b.open_ w.master 0 - 1) 0 })).busUnpark := by
  unfold Dev.busGrant
  rw [← Dev.competed, ← he]
  simp only [hw]
  rfl

end

/-! ### The two commands in a running device -/

section
variable {s : State} {t : BusTxn} (h : s.dev.life.held = false)
include h

theorem exec_busTransaction {d : Dev} (hd : s.dev.busTransact t = some d) : exec (.busTransaction t) s = .next (s.after d) := by
  show execBusTransaction t s = _
  simp [execBusTransaction, h, hd, State.run]

theorem exec_busTransaction_undocumented (hd : s.dev.busTransact t = none) :
    exec (.busTransaction t) s = .refused .undocumentedWindow := by
  show execBusTransaction t s = _
  simp [execBusTransaction, h, hd]

theorem exec_busGrant {d : Dev} {k : Fin 12} {newly : List (Fin 9 × BitVec 40)}
    (hd : s.dev.busGrant k.val (newly.map (fun x => (x.1.val, x.2.toNat))) = d) : exec (.busGrant k newly) s = .next (s.after d) :=
  State.live_next h hd

end

/-- Settles O47: a transaction is held by its gate, or ends at its target as the lemma of that target says; a grant takes the winner of what
competes. -/
theorem controlBus : Obligations.ControlBus := by
  unfold Obligations.ControlBus
  refine ⟨?malformed, ?target, ?noTarget, ?gate, ?grant, ?waits⟩
  case malformed =>
    intro s t h hf
    exact exec_busTransaction h ((Dev.busTransact_of_free (.inl hf)).trans (Dev.busDo_of_malformed hf _))
  case target =>
    intro s t d k h hf hd hk hh hg
    subst hd
    have hopen : ¬ (¬ (s.dev.outstanding t.master.val).gateOfAddr (busAt t) = 0 ∧
        (s.dev.outstanding t.master.val).gateOn ((s.dev.outstanding t.master.val).gateOfAddr (busAt t)) = false) :=
      fun ⟨hne, hoff⟩ => hg.elim hne (fun hon => Bool.false_ne_true (hoff.symm.trans hon))
    have ends {e : Dev} (he : (s.dev.outstanding t.master.val).busDo t = some e) : exec (.busTransaction t) s = .next (s.after e) :=
      exec_busTransaction h ((Dev.busTransact_of_free (.inr hh)).trans he)
    refine ⟨fun hro hw => ?_, fun h0 hw => ends (Dev.busDo_rom hf hk hopen h0 hw), fun h12 hw => ?_,
      fun h12 hw => ends (Dev.busDo_ram_write hf hk hopen h12 hw), fun h3 hw hd => ?_,
      fun h3 hw hd b e hr => ends (Dev.busDo_flash hf hk hopen h3 hw hd hr), fun hlo hhi hn => ?_, fun hlo hhi hn hn' => ?_,
      fun h89 hw => ends (Dev.busDo_gain hf hk hopen h89 hw), fun h9 => ends (Dev.busDo_frame_memory hf hk hopen h9)⟩
    · rw [ends (Dev.busDo_read_only hf hk hro hw), Dev.busFail_of_write hw]
    · exact ⟨fun hc => ends (Dev.busDo_ram_clean hf hk hopen h12 hw hc), fun hc => ends (Dev.busDo_ram_corrected hf hk hopen h12 hw hc),
        fun hc => (ends (Dev.busDo_ram_uncorrectable hf hk hopen h12 hw hc)).trans (by rw [Dev.busFail_of_read hw]; rfl)⟩
    · rw [ends (Dev.busDo_flash_beyond hf hk hopen h3 hw hd), Dev.busFail_of_read hw]
      rfl
    · exact exec_busTransaction_undocumented h
        ((Dev.busTransact_of_free (.inr hh)).trans (Dev.busDo_undocumented hf hk hopen hlo hhi hn))
    · exact ends (Dev.busDo_window hf hk hopen hlo hhi (not_or.mpr ⟨Nat.not_lt.mpr hn, hn'⟩))
  case noTarget =>
    intro s t d h hf hd hk hh
    subst hd
    exact exec_busTransaction h ((Dev.busTransact_of_free (.inr hh)).trans (Dev.busDo_of_no_target hf hk))
  case gate =>
    intro s t d k g h hf hd
    subst hd
    refine ⟨fun hh => exec_busTransaction h (Dev.busTransact_of_held hf hh), fun hk hg hne hh hoff => ?_⟩
    subst hg
    exact exec_busTransaction h ((Dev.busTransact_of_free (.inr hh)).trans (Dev.busDo_of_closed hf hk hne hoff))
  case grant =>
    intro s t newly d h hd
    refine ⟨fun hw => exec_busGrant h (Dev.busGrant_of_none hd hw), fun w e hw he => ?_⟩
    obtain rfl : e = d.grantCounted t.val w := he
    exact exec_busGrant h (Dev.busGrant_of_winner hd hw)
  case waits =>
    intro d m a t ht
    refine ⟨fun hh => Dev.busWaits_of_held ht hh, fun e ho hh he => ?_⟩
    subst he
    exact Dev.busWaits_of_free ht ho hh

end Sys2Proof.Machine
end

section
/-! The family of "ZwichLink lanes": training, time-outs, spares, the Rambler's checks and the service messages of a lane (R93 to R117,
R145 to R149, R560, R561). -/

namespace Sys2Proof.Machine

/-! ### Detection and training -/

theorem Dev.termTest_of_other {d : Dev} {l : Nat} (h : d.laneState l ≠ lnDetect) (found : Bool) : d.termTest l found = d := by
  simp [Dev.termTest, h]

section
variable {d : Dev} {l : Nat} (hs : d.laneState l = lnDetect) (href : d.laneRefOk = true)
include hs href

theorem Dev.termTest_not_found : d.termTest l false = d.modLane l (fun x => { x with termHits := 0 }) := by
  simp [Dev.termTest, hs, href]

theorem Dev.termTest_first (h0 : (d.lane l).termHits = 0) :
    d.termTest l true = d.modLane l (fun x => { x with termHits := 1 }) := by
  simp [Dev.termTest, hs, href, h0]

/-- A termination found after another starts TRAIN (R94). -/
theorem Dev.termTest_again {n : Nat} (hn : (d.lane l).termHits = n + 1) :
    d.termTest l true = (d.modLane l (fun x => { x with termHits := n + 2 })).toTrain l true := by
  simp [Dev.termTest, hs, href, hn]

end

theorem Dev.trainingWord_of_invalid {w : Nat} (h : trainingValid w = false) (d : Dev) (l : Nat) : d.trainingWord l w = d := by
  simp [Dev.trainingWord, h]

section
variable {d e : Dev} {l w : Nat} (hv : trainingValid w = true) (he : e = d.setReg Obj.LANE_ID_SEEN l (fld w 26 17))
include hv he

/-- A word in DETECT starts TRAIN, and is its first word (R96). -/
theorem Dev.trainingWord_in_detect (hs : d.laneState l = lnDetect) (href : e.laneRefOk = true) :
    d.trainingWord l w = (e.toTrain l true).trainWord l w := by
  subst he
  simp [Dev.trainingWord, hv, hs, href, lnDetect, lnOff, lnTest]

theorem Dev.trainingWord_in_train (hs : d.laneState l = lnTrain) : d.trainingWord l w = e.trainWord l w := by
  subst he
  simp [Dev.trainingWord, hv, hs, lnTrain, lnDetect, lnOff, lnTest]

theorem Dev.trainingWord_in_active (hs : d.laneState l = lnActive) : d.trainingWord l w = e.retrain l := by
  subst he
  simp [Dev.trainingWord, hv, hs, lnActive, lnTrain, lnDetect, lnOff, lnTest]

end

theorem Dev.eyeMargin_of_other {d : Dev} {l : Nat} (h : d.laneState l ≠ lnTrain) (m : Nat) : d.eyeMargin l m = d := by
  simp [Dev.eyeMargin, h]

/-- Before the first request is answered a margin is the base (R101). -/
theorem Dev.eyeMargin_of_unanswered {d : Dev} {l : Nat} (hs : d.laneState l = lnTrain) (ha : (d.lane l).neg.answered = false) (m : Nat) :
    d.eyeMargin l m = d.setLane l { d.lane l with neg := { (d.lane l).neg with base := m } } := by
  simp [Dev.eyeMargin, hs, ha]

theorem Dev.eyeMargin_of_cleared {d : Dev} {l : Nat} (hs : d.laneState l = lnTrain) (ha : (d.lane l).neg.answered = true)
    (hc : (d.lane l).neg.cleared = true) (m : Nat) :
    d.eyeMargin l m = d.setLane l { d.lane l with neg := negMeasure (d.lane l).neg m } := by
  simp [Dev.eyeMargin, hs, ha, hc]

/-- Settles O20: each row's operation goes by the lane's state, and the lemma cited says what it leaves there. -/
theorem laneTraining : Obligations.LaneTraining := by
  unfold Obligations.LaneTraining
  refine ⟨?test, ?noTest, ?word, ?margin, ?noMargin⟩
  case test =>
    intro s l h hs href
    exact ⟨State.live_next h (Dev.termTest_not_found hs href), fun h0 => State.live_next h (Dev.termTest_first hs href h0),
      fun n hn => State.live_next h (Dev.termTest_again hs href hn)⟩
  case noTest =>
    intro s l found h hs
    exact State.live_next h (Dev.termTest_of_other hs found)
  case word =>
    intro s l w d h hd
    exact ⟨fun hv => State.live_next h (Dev.trainingWord_of_invalid hv _ _),
      fun hv hs href => State.live_next h (Dev.trainingWord_in_detect hv hd hs href),
      fun hv hs => State.live_next h (Dev.trainingWord_in_train hv hd hs),
      fun hv hs => State.live_next h (Dev.trainingWord_in_active hv hd hs)⟩
  case margin =>
    intro s l m h hs
    exact ⟨fun ha hc => State.live_next h (Dev.eyeMargin_of_cleared hs ha hc m),
      fun ha => State.live_next h (Dev.eyeMargin_of_unanswered hs ha m)⟩
  case noMargin =>
    intro s l m h hs
    exact State.live_next h (Dev.eyeMargin_of_other hs m)

/-! ### Time-outs and loss of signal -/

theorem Dev.trainWordLate_of_silent {d : Dev} {l : Nat} (hs : d.laneState l = lnTrain) (hw : (d.lane l).gotWord = false) :
    d.trainWordLate l = d.toDetect l := by
  simp [Dev.trainWordLate, hs, hw]

theorem Dev.trainWordLate_of_other {d : Dev} {l : Nat} (h : d.laneState l ≠ lnTrain) : d.trainWordLate l = d :=
  if_neg fun hand => h hand.1

theorem Dev.bringUpLate_of_other {d : Dev} {l st : Nat} (h : d.laneState l ≠ st) : d.bringUpLate l st = d := if_neg h

/-- A charged return to TRAIN: LANE_RETRAINS and its source count it, and the start preset is loaded (R100, R108). -/
def Dev.chargedTrain (d : Dev) (l : Nat) : Dev :=
  (((d.modLane l (fun x => { x with charged := (d.clock :: x.charged).take 16 })).count Obj.LANE_RETRAINS l).pulse
    Flt.LANE_RETRAIN).toTrain l true

theorem Dev.bringUpLate_of_few {d : Dev} {l st : Nat} (hc : d.chargedIn l < d.reg Obj.LANE_RETRY_LIMIT) (hs : d.laneState l = st) :
    d.bringUpLate l st = d.chargedTrain l :=
  (if_pos hs).trans (if_neg (Nat.not_le.mpr hc))

theorem Dev.bringUpLate_of_limit {d : Dev} {l st : Nat} (hc : d.reg Obj.LANE_RETRY_LIMIT ≤ d.chargedIn l) (hs : d.laneState l = st) :
    d.bringUpLate l st = d.wantRetire l :=
  (if_pos hs).trans (if_pos hc)

theorem Dev.squelch_of_training_or_up {d : Dev} {l : Nat} (h : d.laneState l ∈ [lnTrain, lnLock, lnExchange, lnActive]) :
    d.squelch l = d.toDetect l := by
  have hany : (d.laneState l == lnTrain || d.laneState l == lnLock || d.laneState l == lnExchange || d.laneState l == lnActive) = true := by
    simpa [or_assoc] using h
  exact if_pos hany

/-- Reasons 3 and 4 are those of a wrong identity and of capabilities that do not match (Table 3.10). -/
theorem Dev.squelch_of_failed {d : Dev} {l : Nat} (h : d.laneState l = lnFail) (hr : d.reg Obj.LANE_FAIL_REASON l ∈ [3, 4]) :
    d.squelch l = d.toDetect l := by
  have hr' : d.reg Obj.LANE_FAIL_REASON l = 3 ∨ d.reg Obj.LANE_FAIL_REASON l = 4 := by simpa using hr
  simp [Dev.squelch, h, hr']

theorem Dev.squelch_of_resting {d : Dev} {l : Nat} (h : d.laneState l ∈ [lnOff, lnDetect, lnTest]) : d.squelch l = d := by
  simp only [List.mem_cons, List.not_mem_nil, or_false] at h
  obtain hs | hs | hs := h <;>
    simp [Dev.squelch, hs, lnOff, lnDetect, lnTest, lnTrain, lnLock, lnExchange, lnActive, lnFail]

/-- Settles O21: the three time-outs of bring-up are one operation, which charges the lane or asks for its retirement. -/
theorem laneTimeouts : Obligations.LaneTimeouts := by
  unfold Obligations.LaneTimeouts
  refine ⟨?silent, ?charged, ?retired, ?other, ?squelch⟩
  case silent =>
    intro s l h
    exact ⟨fun hs hw => State.live_next h (Dev.trainWordLate_of_silent hs hw), fun hs => State.live_next h (Dev.trainWordLate_of_other hs)⟩
  case charged =>
    intro s l d h hc hd
    obtain rfl : d = s.dev.chargedTrain l.val := hd
    exact ⟨fun hs => State.live_next h (Dev.bringUpLate_of_few hc hs), fun hs => State.live_next h (Dev.bringUpLate_of_few hc hs),
      fun hs => State.live_next h (Dev.bringUpLate_of_few hc hs)⟩
  case retired =>
    intro s l h hc
    exact ⟨fun hs => State.live_next h (Dev.bringUpLate_of_limit hc hs), fun hs => State.live_next h (Dev.bringUpLate_of_limit hc hs),
      fun hs => State.live_next h (Dev.bringUpLate_of_limit hc hs)⟩
  case other =>
    intro s l h
    exact ⟨fun hs => State.live_next h (Dev.bringUpLate_of_other hs), fun hs => State.live_next h (Dev.bringUpLate_of_other hs),
      fun hs => State.live_next h (Dev.bringUpLate_of_other hs)⟩
  case squelch =>
    intro s l h
    exact ⟨fun hs => State.live_next h (Dev.squelch_of_training_or_up hs), fun hs hr => State.live_next h (Dev.squelch_of_failed hs hr),
      fun hs => State.live_next h (Dev.squelch_of_resting hs)⟩

/-! ### A SPARE_REQUEST -/

section
variable {d : Dev} {l lane n : Nat} (hl : l < 272) (hs : d.laneState l = lnActive) (hlane : lane < 16)
  (hn : n = 17 * laneGroup l + lane)
include hl hs hlane hn

section
variable (hin : d.laneState n ∉ [lnOff, lnTest, lnFail])
include hin

theorem Dev.spareRequest_of_free (hf : d.spareFree (laneGroup l) lane = true) :
    d.spareRequest l lane = d.retireOne (laneGroup l) lane := by
  subst hn
  simp only [List.mem_cons, List.not_mem_nil, or_false, not_or] at hin
  simp [Dev.spareRequest, hl, hs, hlane, hin, hf]

/-- The refusal says why the spare is not to be had (Table 4.12). -/
theorem Dev.spareRequest_of_taken (hf : d.spareFree (laneGroup l) lane = false) :
    d.spareRequest l lane = d.sendSvc l 0x15 [BitVec.ofNat 8 lane, BitVec.ofNat 8 (d.spareWhy (laneGroup l))] := by
  subst hn
  simp only [List.mem_cons, List.not_mem_nil, or_false, not_or] at hin
  simp [Dev.spareRequest, hl, hs, hlane, hin, hf]

end

theorem Dev.spareRequest_of_unused (hu : d.laneState n ∈ [lnOff, lnTest]) :
    d.spareRequest l lane = d.sendSvc l 0x15 [BitVec.ofNat 8 lane, 4] := by
  subst hn
  simp only [List.mem_cons, List.not_mem_nil, or_false] at hu
  simp [Dev.spareRequest, hl, hs, hlane, hu]

section
variable (hf : d.laneState n = lnFail)
include hf

theorem Dev.spareRequest_of_carried (hc : d.reg Obj.LANE_SPARE_FOR (laneGroup l) = lane) : d.spareRequest l lane = d := by
  subst hn
  simp [Dev.spareRequest, hl, hs, hlane, hf, hc, lnFail, lnOff, lnTest]

theorem Dev.spareRequest_of_failed (hc : d.reg Obj.LANE_SPARE_FOR (laneGroup l) ≠ lane) :
    d.spareRequest l lane = d.sendSvc l 0x15 [BitVec.ofNat 8 lane, 4] := by
  subst hn
  simp [Dev.spareRequest, hl, hs, hlane, hf, hc, lnFail, lnOff, lnTest]

end

end

/-! ### A move of the spare -/

section
variable {d : Dev} {l lane : Nat} (hl : l < 272) (hm : d.moveLane (laneGroup l) = some (l, lane))
include hl hm

/-- The first SPARE_ACK sends SPARE_GO on its way (R560). -/
theorem Dev.spareAck_of_first (ha : (d.group (laneGroup l)).acked = false) :
    d.spareAck l lane = (d.setGroup (laneGroup l)
      { d.group (laneGroup l) with acked := true, goLeft := 8, goOn := (l, lane) }).finishMove (laneGroup l) := by
  simp [Dev.spareAck, isTwin, Nat.not_le.mpr hl, hm, ha]

/-- The first SPARE_GO switches the receive direction (R560). -/
theorem Dev.spareGo_of_first (hg : (d.group (laneGroup l)).goSeen = false) :
    d.spareGo l lane = ((d.modLane l (fun x => { x with expect := [], asm := [] })).setGroup (laneGroup l)
      { d.group (laneGroup l) with goSeen := true }).finishMove (laneGroup l) := by
  simp [Dev.spareGo, isTwin, Nat.not_le.mpr hl, hm, hg]

end

theorem Dev.takeoverTimeout_of_bringUp {d : Dev} {g k : Nat} (hm : (d.group g).move = .bringUp k) :
    d.takeoverTimeout g = d.failTakeover g k := by
  simp [Dev.takeoverTimeout, hm]

theorem Dev.takeoverTimeout_of_takeover {d : Dev} {g k : Nat} (hu : (d.group g).unanswered = true)
    (hm : (d.group g).move = .takeover k) : d.takeoverTimeout g = d.failTakeover g k := by
  simp [Dev.takeoverTimeout, hm, hu]

theorem Dev.releaseTimeout_of_release {d : Dev} {g k : Nat} (hu : (d.group g).unanswered = true)
    (hm : (d.group g).move = .release k) : d.releaseTimeout g = d.failRelease g k := by
  simp [Dev.releaseTimeout, hm, hu]

theorem Dev.takeoverTimeout_of_idle {d : Dev} {g : Nat} (hm : (d.group g).move = .none) : d.takeoverTimeout g = d := by
  simp [Dev.takeoverTimeout, hm]

theorem Dev.releaseTimeout_of_idle {d : Dev} {g : Nat} (hm : (d.group g).move = .none) : d.releaseTimeout g = d := by
  simp [Dev.releaseTimeout, hm]

/-! ### Loss of signal on a whole group -/

/-- The charged history of the 17 lanes of a group is cleared (R117). -/
def Dev.clearCharges (d : Dev) (g : Nat) : Dev :=
  (List.range 17).foldl (fun d k => d.modLane (17 * g + k) (fun x => { x with charged := [] })) d

/-- The retired lanes of a group go to DETECT (R117). -/
def Dev.detectRetired (d : Dev) (g : Nat) : Dev :=
  (List.range 17).foldl (fun d k =>
    if d.laneState (17 * g + k) == lnFail &&
      (d.reg Obj.LANE_FAIL_REASON (17 * g + k) == 1 || d.reg Obj.LANE_FAIL_REASON (17 * g + k) == 2)
    then d.toDetect (17 * g + k) else d) d

theorem Dev.foldl_clearCharges (d : Dev) (g : Nat) :
    ((List.range 17).map (fun k => 17 * g + k)).foldl (fun d l => d.modLane l (fun x => { x with charged := [] })) d =
      d.clearCharges g := List.foldl_map

theorem Dev.foldl_detectRetired (d : Dev) (g : Nat) :
    ((List.range 17).map (fun k => 17 * g + k)).foldl (fun d l =>
      if d.laneState l == lnFail && (d.reg Obj.LANE_FAIL_REASON l == 1 || d.reg Obj.LANE_FAIL_REASON l == 2)
      then d.toDetect l else d) d = d.detectRetired g := List.foldl_map

section
variable {c f r d : Dev} {g : Nat} (hc : c = d.clearCharges g) (hf : f = (c.setReg Obj.LANE_SPARE_FOR g 255).setMove g .none)
  (hr : r = (f.setGroup g { f.group g with retire := [], orphan := none }).detectRetired g)
include hc hf hr

/-- The spare goes to rest where it carried a lane. -/
theorem Dev.groupLoss_eq : d.groupLoss g = if c.spareLane g < 16 then r.restSpare g else r := by
  simp only [Dev.groupLoss, Dev.foldl_clearCharges, ← hc, ← hf, Dev.foldl_detectRetired, hr]

theorem Dev.groupLoss_of_free (h : 16 ≤ c.spareLane g) : d.groupLoss g = r :=
  (Dev.groupLoss_eq hc hf hr).trans (if_neg (Nat.not_lt.mpr h))

theorem Dev.groupLoss_of_carrying (h : c.spareLane g < 16) : d.groupLoss g = r.restSpare g :=
  (Dev.groupLoss_eq hc hf hr).trans (if_pos h)

end

/-- Settles O22: a request goes by the state of the lane it names, and messages and time-outs by the move that is under way. -/
theorem sparesAndRetirement : Obligations.SparesAndRetirement := by
  unfold Obligations.SparesAndRetirement
  refine ⟨?point, ?request, ?messages, ?timeouts, ?noMove, ?loss⟩
  case point =>
    intro s g h
    exact State.live_next h rfl
  case request =>
    intro s l lane code n h hl hs hlane hn
    exact ⟨fun hin hf => State.live_next h (Dev.spareRequest_of_free hl hs hlane hn hin hf),
      fun hin hf => State.live_next h (Dev.spareRequest_of_taken hl hs hlane hn hin hf),
      fun hu => State.live_next h (Dev.spareRequest_of_unused hl hs hlane hn hu),
      fun hf hc => State.live_next h (Dev.spareRequest_of_carried hl hs hlane hn hf hc),
      fun hf hc => State.live_next h (Dev.spareRequest_of_failed hl hs hlane hn hf hc)⟩
  case messages =>
    intro s l lane h hl hm
    exact ⟨fun ha => State.live_next h (Dev.spareAck_of_first hl hm ha), fun hg => State.live_next h (Dev.spareGo_of_first hl hm hg)⟩
  case timeouts =>
    intro s g k h
    exact ⟨fun hm => State.live_next h (Dev.takeoverTimeout_of_bringUp hm),
      fun hu => ⟨fun hm => State.live_next h (Dev.takeoverTimeout_of_takeover hu hm),
        fun hm => State.live_next h (Dev.releaseTimeout_of_release hu hm)⟩⟩
  case noMove =>
    intro s g h hm
    exact ⟨State.live_next h (Dev.takeoverTimeout_of_idle hm), State.live_next h (Dev.releaseTimeout_of_idle hm)⟩
  case loss =>
    intro s g c f r h hc hf hr
    exact ⟨fun hfree => State.live_next h (Dev.groupLoss_of_free hc hf hr hfree),
      fun hcarry => State.live_next h (Dev.groupLoss_of_carrying hc hf hr hcarry)⟩

/-! ### Checks of a spare -/

theorem Dev.spareCheckStart_of_free {d : Dev} {g : Nat} (hs : d.laneState (spareOf g) = lnOff)
    (hen : d.flag Obj.LANE_EN (spareOf g) = true) (hon : d.reg Obj.LANE_SPARE_CHECK ≠ 0) (hr : d.nv.refereeDuty = false)
    (hnone : ∀ h, h < 16 → (d.group h).checking = false) :
    d.spareCheckStart g = (d.setGroup g { d.group g with
      checking := true, checkFrom := d.reg Obj.LANE_PRBS_ERR (spareOf g) }).toDetect (spareOf g) := by
  have hall : (List.range 16).all (fun h => !(d.group h).checking) = true := by simpa using hnone
  exact if_pos ⟨hs, hen, hon, by simp [hr], hall⟩

/-- One spare is checked at a time (R114). -/
theorem Dev.spareCheckStart_of_checking {d : Dev} (hsome : ∃ h, h < 16 ∧ (d.group h).checking = true) (g : Nat) :
    d.spareCheckStart g = d := by
  obtain ⟨h, hlt, hc⟩ := hsome
  refine if_neg fun ⟨_, _, _, _, hall⟩ => ?_
  have hfree := List.all_eq_true.mp hall h (List.mem_range.mpr hlt)
  simp [hc] at hfree

theorem Dev.spareCheckStart_of_up {d : Dev} {g : Nat} (hs : d.laneState (spareOf g) ≠ lnOff) : d.spareCheckStart g = d :=
  if_neg fun hand => hs hand.1

theorem Dev.spareCheckDone_of_idle {d : Dev} {g : Nat} (hc : (d.group g).checking = false) (h w : Nat) : d.spareCheckDone g h w = d := by
  simp [Dev.spareCheckDone, hc]

/-- The device once a check of a group's spare has passed, before the spare goes to rest. -/
def Dev.checkPassed (d : Dev) (g h w : Nat) : Dev :=
  (((d.setGroup g { d.group g with checking := false, checkFailed := false }).setReg Obj.LANE_EYE_HEIGHT (spareOf g) h).setReg
    Obj.LANE_EYE_WIDTH (spareOf g) w).marginLine g

theorem Dev.spareCheckDone_of_passed {d : Dev} {g h w : Nat} (hc : (d.group g).checking = true) (hh : d.reg Obj.LANE_EYE_MIN ≤ h)
    (herr : d.reg Obj.LANE_PRBS_ERR (spareOf g) = (d.group g).checkFrom)
    (hup : (d.checkPassed g h w).laneState (spareOf g) ≠ lnFail) :
    d.spareCheckDone g h w = ((d.checkPassed g h w).restSpare g).rmbDone 4 := by
  have hgood : (d.reg Obj.LANE_PRBS_ERR (spareOf g) != 0 && d.reg Obj.LANE_PRBS_ERR (spareOf g) != (d.group g).checkFrom ||
      decide (h < d.reg Obj.LANE_EYE_MIN)) = false := by
    simp [herr, hh]
  have hend : d.spareCheckEnd g h w = (d.checkPassed g h w).restSpare g := by
    unfold Dev.spareCheckEnd
    simp only [hc, hgood]
    exact if_neg hup
  simp [Dev.spareCheckDone, hc, hend]

/-! ### The eye of an ACTIVE lane (R115) -/

section
variable {d : Dev} {l h : Nat} (hs : d.laneState l = lnActive)
include hs

theorem Dev.laneEye_of_good_twin (hl : 272 ≤ l) (hh : d.reg Obj.LANE_EYE_MIN ≤ h) (w : Nat) :
    d.laneEye l h w = (((d.setReg Obj.LANE_EYE_HEIGHT l h).setReg Obj.LANE_EYE_WIDTH l w).modLane l
      (fun x => { x with lowEye := false })).rmbDone 1 := by
  simp [Dev.laneEye, Dev.eyeMeasured, hs, Nat.not_lt.mpr hl, Nat.not_lt.mpr hh]

theorem Dev.laneEye_of_low (hl : l < 272) (hh : h < d.reg Obj.LANE_EYE_MIN) (w : Nat) :
    d.laneEye l h w = (((((d.setReg Obj.LANE_EYE_HEIGHT l h).setReg Obj.LANE_EYE_WIDTH l w).modLane l
      (fun x => { x with lowEye := true })).marginLine (laneGroup l)).event 0x3002 (refOf Obj.LANE_STATE l)).rmbDone 1 := by
  simp [Dev.laneEye, Dev.eyeMeasured, hs, hl, hh]

end

/-! ### The pattern checker (R104) -/

theorem Dev.prbsRunIn_zero (d : Dev) (l bits : Nat) : d.prbsRunIn l 0 bits = d := rfl

theorem Dev.prbsRunIn_of_other {d : Dev} {l : Nat} (hs : d.laneState l ≠ lnTest) (n bits : Nat) : d.prbsRunIn l n bits = d := by
  cases n with
  | zero => rfl
  | succ n => exact if_neg hs

theorem Dev.prbsRunIn_succ {d : Dev} {l : Nat} (hs : d.laneState l = lnTest) (n bits : Nat) :
    d.prbsRunIn l (n + 1) bits = (d.checkIn l (bits / 2 ^ n % 2)).prbsRunIn l n bits := if_pos hs

theorem Dev.prbsRunIn_one {d : Dev} {l b : Nat} (hs : d.laneState l = lnTest) (hb : b < 2) : d.prbsRunIn l 1 b = d.checkIn l b := by
  rw [Dev.prbsRunIn_succ hs, Dev.prbsRunIn_zero, pow_zero, Nat.div_one, Nat.mod_eq_of_lt hb]

theorem LaneX.checkBit_of_seeding {ab : Nat × Nat} {x : LaneX} (h : x.testSeed < ab.1) (b : Nat) :
    x.checkBit ab b = ({ x with testSeed := x.testSeed + 1, testReg := (x.testReg * 2 + b) % 2 ^ ab.1 }, false) := if_pos h

section
variable {d : Dev} {l : Nat} {ab : Nat × Nat} (hab : ab = patternTaps (d.reg Obj.LANE_TEST_MODE l))
include hab

/-- A bit that seeds is not compared. -/
theorem Dev.checkIn_of_seeding (h : (d.lane l).testSeed < ab.1) (he : (d.lane l).testErrs < 32) (hn : (d.lane l).testBits < 1024)
    (b : Nat) :
    d.checkIn l b = d.setLane l { d.lane l with
      testSeed := (d.lane l).testSeed + 1, testReg := ((d.lane l).testReg * 2 + b) % 2 ^ ab.1 } := by
  subst hab
  simp [Dev.checkIn, LaneX.checkBit_of_seeding h, Nat.not_le.mpr h, Nat.not_le.mpr he, Nat.ne_of_lt hn]

section
variable {b : Nat} {x : LaneX} (hu : d.flag Obj.LANE_PRBS_LOCK l = false) (hx : x = ((d.lane l).checkBit ab b).1)
include hu hx

/-- While it is not locked the checker counts nothing; what a bit leaves decides whether it seeds again or locks. -/
theorem Dev.checkIn_of_unlocked :
    d.checkIn l b =
      if 32 ≤ x.testErrs then ((d.setLane l x).modLane l LaneX.reseed).setReg Obj.LANE_PRBS_LOCK l 0
      else if x.testBits = 1024 then (d.setLane l x).setReg Obj.LANE_PRBS_LOCK l 1
      else d.setLane l x := by
  subst hab hx
  simp [Dev.checkIn, hu]

theorem Dev.checkIn_of_errors (he : 32 ≤ x.testErrs) :
    d.checkIn l b = ((d.setLane l x).modLane l LaneX.reseed).setReg Obj.LANE_PRBS_LOCK l 0 :=
  (Dev.checkIn_of_unlocked hab hu hx).trans (if_pos he)

theorem Dev.checkIn_of_full (he : x.testErrs < 32) (hn : x.testBits = 1024) :
    d.checkIn l b = (d.setLane l x).setReg Obj.LANE_PRBS_LOCK l 1 :=
  (Dev.checkIn_of_unlocked hab hu hx).trans ((if_neg (Nat.not_le.mpr he)).trans (if_pos hn))

theorem Dev.checkIn_of_comparing (he : x.testErrs < 32) (hn : x.testBits ≠ 1024) : d.checkIn l b = d.setLane l x :=
  (Dev.checkIn_of_unlocked hab hu hx).trans ((if_neg (Nat.not_le.mpr he)).trans (if_neg hn))

end

end

/-- Settles O23: each task's operation goes by the state of its lane; a run of bits is taken one bit at a time by `Dev.checkIn`. -/
theorem ramblerLaneChecks : Obligations.RamblerLaneChecks := by
  unfold Obligations.RamblerLaneChecks
  refine ⟨?start, ?noCheck, ?passed, ?goodEye, ?lowEye, ?run, ?bit⟩
  case start =>
    intro s g h
    exact ⟨fun hs hen hon hr hnone => State.live_next h (Dev.spareCheckStart_of_free hs hen hon hr hnone),
      fun hsome => State.live_next h (Dev.spareCheckStart_of_checking hsome _), fun hs => State.live_next h (Dev.spareCheckStart_of_up hs)⟩
  case noCheck =>
    intro s g height w h hc
    exact State.live_next h (Dev.spareCheckDone_of_idle hc height w)
  case passed =>
    intro s g height w d h hc hh herr hd hup
    obtain rfl : d = s.dev.checkPassed g.val height w := hd
    exact State.live_next h (Dev.spareCheckDone_of_passed hc hh herr hup)
  case goodEye =>
    intro s l height w h hl hs hh
    exact State.live_next h (Dev.laneEye_of_good_twin hs hl hh w)
  case lowEye =>
    intro s l height w d h hl hs hh hd
    subst hd
    exact State.live_next h (Dev.laneEye_of_low hs hl hh w)
  case run =>
    intro s l n bits h
    exact ⟨fun hs => State.live_next h (Dev.prbsRunIn_of_other hs n bits), State.live_next h (Dev.prbsRunIn_zero _ _ bits),
      fun hs => State.live_next h (Dev.prbsRunIn_succ hs n bits)⟩
  case bit =>
    intro s l b ab x h hs hb hab
    have takes {d : Dev} (hd : s.dev.checkIn l.val b = d) : exec (.lanePrbsLock l 1 b) s = .next (s.after d) :=
      State.live_next h ((Dev.prbsRunIn_one hs hb).trans hd)
    exact ⟨fun hseed he hn => takes (Dev.checkIn_of_seeding hab hseed he hn b),
      fun _ hu hx => ⟨fun he => takes (Dev.checkIn_of_errors hab hu hx he), fun he hn => takes (Dev.checkIn_of_full hab hu hx he hn),
        fun he hn => takes (Dev.checkIn_of_comparing hab hu hx he hn)⟩⟩

/-! ### Capabilities (R125, R145) -/

theorem Dev.capIn_of_unlocked {d : Dev} {l : Nat} (h : (d.lane l).cycleLock = false) (body : Nat) : d.capIn l body = d := by
  simp [Dev.capIn, h]

theorem Dev.capAckIn_of_unlocked {d : Dev} {l : Nat} (h : (d.lane l).cycleLock = false) (body : Nat) : d.capAckIn l body = d := by
  simp [Dev.capAckIn, h]

section
variable {d : Dev} {l : Nat} (hlock : (d.lane l).cycleLock = true) (hs : d.laneState l ∈ [lnExchange, lnActive])
include hlock hs

/-- With cycle lock, a pair that sends service messages acts on capabilities. -/
theorem Dev.heedsCaps : (!(d.lane l).cycleLock || (d.laneState l != lnExchange && d.laneState l != lnActive)) = false := by
  have hs' : d.laneState l = lnExchange ∨ d.laneState l = lnActive := by simpa using hs
  obtain h | h := hs' <;> simp [hlock, h]

theorem Dev.capIn_of_compatible {b : BitVec 160} (hr : d.capResult l b.toNat = 0) :
    d.capIn l b.toNat = ((d.sendSvc l 0x02 [0, 0]).modLane l (fun x => { x with farCaps := some b, farOk := true })).tryActive l := by
  simp [Dev.capIn, Dev.heedsCaps hlock hs, hr]

theorem Dev.capIn_of_incompatible {b : BitVec 160} (hr : d.capResult l b.toNat ≠ 0) :
    d.capIn l b.toNat = d.sendSvc l 0x02 [BitVec.ofNat 8 (d.capResult l b.toNat), 0] := by
  simp [Dev.capIn, Dev.heedsCaps hlock hs, hr]

theorem Dev.capAckIn_of_good {body : Nat} (hr : fld body 15 8 = 0) :
    d.capAckIn l body = (d.modLane l (fun x => { x with ourAcked := true })).tryActive l := by
  simp [Dev.capAckIn, Dev.heedsCaps hlock hs, hr]

theorem Dev.capAckIn_of_bad {body : Nat} (hr : fld body 15 8 ≠ 0) : d.capAckIn l body = d.failLane l 4 := by
  simp [Dev.capAckIn, Dev.heedsCaps hlock hs, hr]

end

/-! ### Reports of the far end (R148, R149) -/

theorem Dev.slotStatusIn_of_active {d : Dev} {l : Nat} (hl : l < 272) (hs : d.laneState l = lnActive) (b : BitVec 128) :
    d.slotStatusIn l b = d.modLane l (fun x => { x with slotStatus := b }) := by
  simp [Dev.slotStatusIn, hl, hs]

theorem Dev.slotStatusIn_of_other {d : Dev} {l : Nat} (hs : d.laneState l ≠ lnActive) (b : BitVec 128) : d.slotStatusIn l b = d := by
  simp [Dev.slotStatusIn, hs]

theorem Dev.healthIn_of_other {d : Dev} {l : Nat} (hs : d.laneState l ≠ lnActive) (body : Nat) : d.healthIn l body = d := by
  simp [Dev.healthIn, hs]

section
variable {d : Dev} {l : Fin 274} {body : Nat} (hs : d.laneState l.val = lnActive)
include hs

theorem Dev.healthIn_of_no_overflow (hb : bitOf body 0 = false) :
    d.healthIn l.val body = d.modLane l.val (fun x => { x with health := body }) := by
  simp [Dev.healthIn, hs, hb]

theorem Dev.healthIn_of_overflow (hb : bitOf body 0 = true) :
    d.healthIn l.val body =
      (d.modLane l.val (fun x => { x with health := body })).pulse Flt.LANE_FAR_OVERFLOW (some (.lane l)) := by
  simp [Dev.healthIn, hs, hb]

end

/-- Settles O24: each message goes by cycle lock and the lane's state, and a CAP by its result. -/
theorem laneServiceMessages : Obligations.LaneServiceMessages := by
  unfold Obligations.LaneServiceMessages
  refine ⟨?cap, ?ack, ?unlocked, ?slots, ?inactive, ?health⟩
  case cap =>
    intro s l b h hlock hs
    refine ⟨fun hr => State.live_next h (Dev.capIn_of_compatible hlock hs hr), fun r hr hne => ?_⟩
    subst hr
    exact State.live_next h (Dev.capIn_of_incompatible hlock hs hne)
  case ack =>
    intro s l b h hlock hs
    exact ⟨fun hr => State.live_next h (Dev.capAckIn_of_good hlock hs hr), fun hr => State.live_next h (Dev.capAckIn_of_bad hlock hs hr)⟩
  case unlocked =>
    intro s l b k h hlock
    exact ⟨State.live_next h (Dev.capIn_of_unlocked hlock _), State.live_next h (Dev.capAckIn_of_unlocked hlock _)⟩
  case slots =>
    intro s l b h hl hs
    exact State.live_next h (Dev.slotStatusIn_of_active hl hs b)
  case inactive =>
    intro s l b k h hs
    exact ⟨State.live_next h (Dev.slotStatusIn_of_other hs b), State.live_next h (Dev.healthIn_of_other hs _)⟩
  case health =>
    intro s l b h hs
    exact ⟨fun hb => State.live_next h (Dev.healthIn_of_no_overflow hs hb), fun hb => State.live_next h (Dev.healthIn_of_overflow hs hb)⟩

end Sys2Proof.Machine
end

section
/-! Frame synchronisers: an input's complete frames and the decision before each presented frame (O27). -/

namespace Sys2Proof.Machine

/-! ### Frames that become complete (R189) -/

theorem Dev.frameComplete_of_sdi {d : Dev} {p : Nat} (ht : d.reg Obj.IN_TRANSPORT p = 0) : d.frameComplete p = d.fsComplete p := by
  simp [Dev.frameComplete, ht]

/-- A sync holds the two newest complete frames (R189). -/
theorem InX.keepFrame_of_sync {x : InX} (hm : x.mode = 1) (fr : Frame) :
    x.keepFrame fr = { x with held := (fr :: x.held).take 2 } := by
  simp [InX.keepFrame, hm]

section
variable {d : Dev} {p : Nat}

theorem Dev.fsComplete_of_filled {fr : Frame} (hm : (d.inp p).mode = 1) (hf : (d.inp p).filled = some fr) :
    d.fsComplete p = d.setInp p { d.inp p with filled := none, held := (fr :: (d.inp p).held).take 2 } := by
  simp [Dev.fsComplete, InX.keepFrame_of_sync hm, hf, hm]

/-- With no frame before it waiting, the frame that completes is the one being written. -/
theorem Dev.fsComplete_of_writing {fr : Frame} (hm : (d.inp p).mode = 1) (hf : (d.inp p).filled = none)
    (hw : (d.inp p).writing = some fr) :
    d.fsComplete p = d.setInp p { d.inp p with writing := none, held := (fr :: (d.inp p).held).take 2 } := by
  simp [Dev.fsComplete, InX.keepFrame_of_sync hm, hf, hw, hm]

theorem Dev.fsComplete_of_empty (hf : (d.inp p).filled = none) (hw : (d.inp p).writing = none) : d.fsComplete p = d := by
  simp [Dev.fsComplete, hf, hw]

/-! ### What a decision decides (R190, R191) -/

section
variable {g k : Frame} (hl : (d.inp p).last = some k) (hg : (d.inp p).held.head? = some g) (hs : (d.inp p).stepped = false)
  (no start : Nat)
include hl hg hs

theorem Dev.fsDecide_of_next (h : g.no = k.no + 1) :
    d.fsDecide p no start = ⟨no, start, fsPresent, some g, 0, 0, false⟩ := by
  simp [Dev.fsDecide, hl, hg, hs, h]

theorem Dev.fsDecide_of_later (h : k.no + 1 < g.no) :
    d.fsDecide p no start = ⟨no, start, fsDrop, some g, g.no - k.no - 1, 0, false⟩ := by
  have hnew : k.no < g.no := by omega
  have hdrops : g.no - k.no - 1 ≠ 0 := by omega
  simp [Dev.fsDecide, hl, hg, hs, hnew, hdrops]

/-- Until the count of decisions without a new frame reaches FS_LOSS_HOLD, the sync repeats (R191). -/
theorem Dev.fsDecide_of_old (h : g.no ≤ k.no) (hh : (d.inp p).missed + 1 < d.reg Obj.FS_LOSS_HOLD p) :
    d.fsDecide p no start = ⟨no, start, fsRepeat, none, 0, 1, false⟩ := by
  have hhold : (d.inp p).missed + 1 < max 1 (d.reg Obj.FS_LOSS_HOLD p) := lt_max_of_lt_right hh
  simp [Dev.fsDecide, hl, hg, hs, Nat.not_lt.mpr h, hhold]

end

/-! ### What a decision does -/

theorem Dev.fsTake_of_present (no start : Nat) (fr : Option Frame) :
    d.fsTake p ⟨no, start, fsPresent, fr, 0, 0, false⟩ = d.fsAct p start fsPresent fr := by
  simp [Dev.fsTake]

theorem Dev.fsTake_of_drop {n : Nat} (hn : n ≠ 0) (no start : Nat) (fr : Option Frame) :
    d.fsTake p ⟨no, start, fsDrop, fr, n, 0, false⟩ = (d.count Obj.FS_DROPS p n).fsAct p start fsDrop fr := by
  simp [Dev.fsTake, hn]

theorem Dev.fsTake_of_repeat (no start : Nat) :
    d.fsTake p ⟨no, start, fsRepeat, none, 0, 1, false⟩ = (d.count Obj.FS_REPEATS p).fsAct p start fsRepeat none := by
  simp [Dev.fsTake]

theorem Dev.fsSettle_of_due {w : FsWait} {t : Nat} (hw : (d.inp p).wait = some w) (ht : w.start ≤ t) :
    d.fsSettle p t = (d.fsTake p w).mirrorMiss Obj.FS_MIRROR_MISS := by
  simp [Dev.fsSettle, hw, ht]

theorem Dev.fsSettle_of_idle (hw : (d.inp p).wait = none) (t : Nat) : d.fsSettle p t = d := by
  simp [Dev.fsSettle, hw]

theorem Dev.fsDecision_of_other (hw : (d.inp p).wait = none) (hm : (d.inp p).mode ≠ 1) : d.fsDecision p = d := by
  simp only [Dev.fsDecision, Dev.fsSettle_of_idle hw]
  cases fmtOf (d.inp p).costFmt with
  | none => rfl
  | some f => exact if_pos hm

section
variable {f : Fmt} {start n : Nat} (hw : (d.inp p).wait = none) (hm : (d.inp p).mode = 1)
  (hf : fmtOf (d.inp p).costFmt = some f) (hs : d.fsNextStart p f = (start, n))
include hw hm hf hs

/-- The holder takes its decision and records it with the number of the frame that is presented (R194). -/
theorem Dev.fsDecision_of_holder {w : FsWait} {g : Frame} (hd : d.fsDecide p n start = w) (hfol : d.follows = false)
    (hg : w.frame.or (d.inp p).last = some g) :
    d.fsDecision p = (d.fsTake p w).mirror 0x03 (fsRecord p n g.no w.action) := by
  simp [Dev.fsDecision, Dev.fsSettle_of_idle hw, hf, hm, hs, hd, hfol, hg]

/-- A standby without the record waits for it (R194). -/
theorem Dev.fsDecision_of_standby (hfol : d.follows = true)
    (hr : smGet (d.inp p).mirrored (n % 2 ^ 32 + 1) (0, 0) = (0, 0)) :
    d.fsDecision p = d.modInp p (fun x => { x with wait := some (d.fsDecide p n start) }) := by
  simp [Dev.fsDecision, Dev.fsSettle_of_idle hw, hf, hm, hs, hfol, hr, -Nat.reducePow]

section
variable {g k : Frame} (hfol : d.follows = false) (hl : (d.inp p).last = some k) (hg : (d.inp p).held.head? = some g)
  (hst : (d.inp p).stepped = false)
include hfol hl hg hst

theorem Dev.fsDecision_of_next (h : g.no = k.no + 1) :
    d.fsDecision p = (d.fsAct p start fsPresent (some g)).mirror 0x03 (fsRecord p n g.no fsPresent) := by
  rw [Dev.fsDecision_of_holder hw hm hf hs (Dev.fsDecide_of_next hl hg hst n start h) hfol rfl, Dev.fsTake_of_present]

theorem Dev.fsDecision_of_later (h : k.no + 1 < g.no) :
    d.fsDecision p = ((d.count Obj.FS_DROPS p (g.no - k.no - 1)).fsAct p start fsDrop (some g)).mirror 0x03
      (fsRecord p n g.no fsDrop) := by
  rw [Dev.fsDecision_of_holder hw hm hf hs (Dev.fsDecide_of_later hl hg hst n start h) hfol rfl, Dev.fsTake_of_drop (by omega)]

/-- A repeat is recorded with the frame that is shown again. -/
theorem Dev.fsDecision_of_old (h : g.no ≤ k.no) (hh : (d.inp p).missed + 1 < d.reg Obj.FS_LOSS_HOLD p) :
    d.fsDecision p = ((d.count Obj.FS_REPEATS p).fsAct p start fsRepeat none).mirror 0x03 (fsRecord p n k.no fsRepeat) := by
  rw [Dev.fsDecision_of_holder hw hm hf hs (Dev.fsDecide_of_old hl hg hst n start h hh) hfol hl, Dev.fsTake_of_repeat]

end

end

end

/-! ### The two commands in a running device -/

section
variable {s : State} {d : Dev} {p : Fin 1024} (h : s.dev.life.held = false)
include h

theorem exec_fsFrameComplete (ht : s.dev.reg Obj.IN_TRANSPORT p.val = 0) (hd : s.dev.fsComplete p.val = d) :
    exec (.fsFrameComplete p) s = .next (s.after d) := State.live_next h ((Dev.frameComplete_of_sdi ht).trans hd)

theorem exec_fsDecision (hd : s.dev.fsDecision p.val = d) : exec (.fsDecision p) s = .next (s.after d) := State.live_next h hd

end

/-- Settles O27: a completed frame goes by the buffer it fills, and a decision by the number of the newest complete frame beside the
frame presented last. -/
theorem frameSyncDecisions : Obligations.FrameSyncDecisions := by
  unfold Obligations.FrameSyncDecisions
  refine ⟨?complete, ?noFrame, ?noSync, ?late, ?holder, ?standby⟩
  case complete =>
    intro s p fr h ht hm
    exact ⟨fun hf hw => exec_fsFrameComplete h ht (Dev.fsComplete_of_writing hm hf hw),
      fun hf => exec_fsFrameComplete h ht (Dev.fsComplete_of_filled hm hf)⟩
  case noFrame =>
    intro s p h ht hf hw
    exact exec_fsFrameComplete h ht (Dev.fsComplete_of_empty hf hw)
  case noSync =>
    intro s p h hw hm
    exact exec_fsDecision h (Dev.fsDecision_of_other hw hm)
  case late =>
    intro s p w _ hw hstart
    exact Dev.fsSettle_of_due hw hstart
  case holder =>
    intro s p f g k start n h hw hm hf hs hfol hl hg hst
    exact ⟨fun hno => exec_fsDecision h (Dev.fsDecision_of_next hw hm hf hs hfol hl hg hst hno),
      fun hno => exec_fsDecision h (Dev.fsDecision_of_later hw hm hf hs hfol hl hg hst hno),
      fun hno hh => exec_fsDecision h (Dev.fsDecision_of_old hw hm hf hs hfol hl hg hst hno hh)⟩
  case standby =>
    intro s p f start n h hw hm hf hs hfol hr
    exact exec_fsDecision h (Dev.fsDecision_of_standby hw hm hf hs hfol hr)

end Sys2Proof.Machine
end

section
/-! Packet flows: the checks on a received frame, silent legs, the decision of a position and the packets sent (R205, R219, R226, R227,
R233). -/

namespace Sys2Proof.Machine

/-! ### The checks on a received frame (R205, Table 6.2) -/

theorem Dev.packetReceive_of_no_frame {d : Dev} {p : Nat} (hf : (d.inp p).frames = []) : d.packetReceive p = d := by
  simp only [Dev.packetReceive, hf]

/-- The receive flow entry of step 5: the first enabled one with the packet's port and addresses, and its SSRC where it is matched. -/
def Dev.matchedEntry (d : Dev) (p ip udp : Nat) (payload : Bytes) : Option Nat :=
  (d.trueOf Obj.RF_ENABLE).find? (fun f => d.reg Obj.RF_PORT f == p && d.reg Obj.RF_DST_IP f == ip &&
    d.reg Obj.RF_DST_UDP f == udp && (!d.flag Obj.RF_MATCH_SSRC f || d.reg Obj.RF_SSRC f == byteField payload 8 4))

section
variable {d e : Dev} {p a : Nat} {bytes : Bytes} {rest : List (Nat × Bytes)} (hf : (d.inp p).frames = (a, bytes) :: rest)
  (he : e = d.modInp p (fun x => { x with frames := rest }))
include hf he

theorem Dev.packetReceive_of_other_transport (ht : e.reg Obj.IN_TRANSPORT p ≠ 1) : d.packetReceive p = e := by
  simp only [Dev.packetReceive, hf, ← he]
  exact if_pos ht

section
variable (ht : e.reg Obj.IN_TRANSPORT p = 1)
include ht

/-- Step 1. -/
theorem Dev.packetReceive_of_bad_fcs (hu : parseUdp bytes = .badFcs) :
    d.packetReceive p = (e.count Obj.PKT_FCS_ERR p).pulse Flt.PKT_FCS := by
  simp [Dev.packetReceive, hf, ← he, ht, hu]

/-- Steps 2 to 4. -/
theorem Dev.packetReceive_of_bad_header (hu : parseUdp bytes = .badHdr) :
    d.packetReceive p = (e.count Obj.PKT_HDR_ERR p).pulse Flt.PKT_HDR := by
  simp [Dev.packetReceive, hf, ← he, ht, hu]

section
variable {ip udp : Nat} {pl : Bytes} (hu : parseUdp bytes = .good ip udp pl)
include hu

/-- What step 5 leaves to do: the entry it finds decides where the packet counts. -/
theorem Dev.packetReceive_of_good : d.packetReceive p =
    match e.matchedEntry p ip udp pl with
    | none => e.count Obj.PKT_UNMATCHED p
    | some f =>
      match parseRtp pl with
      | some r =>
        if e.reg Obj.RF_PT f ≠ 0 ∧ e.reg Obj.RF_PT f ≠ r.pt then (e.count Obj.RF_BAD f).pulse Flt.PKT_HDR
        else e.placePacket f a r bytes.length
      | none => (e.count Obj.RF_BAD f).pulse Flt.PKT_HDR := by
  simp only [Dev.packetReceive, hf, ← he, ht, hu]
  rfl

theorem Dev.packetReceive_of_unmatched (hm : e.matchedEntry p ip udp pl = none) :
    d.packetReceive p = e.count Obj.PKT_UNMATCHED p := by
  simp [Dev.packetReceive_of_good hf he ht hu, hm]

section
variable {f : Nat} (hm : e.matchedEntry p ip udp pl = some f)
include hm

theorem Dev.packetReceive_of_bad_rtp (hr : parseRtp pl = none) :
    d.packetReceive p = (e.count Obj.RF_BAD f).pulse Flt.PKT_HDR := by
  simp [Dev.packetReceive_of_good hf he ht hu, hm, hr]

theorem Dev.packetReceive_of_other_type {r : Rtp} (hr : parseRtp pl = some r) (h0 : e.reg Obj.RF_PT f ≠ 0)
    (hpt : e.reg Obj.RF_PT f ≠ r.pt) : d.packetReceive p = (e.count Obj.RF_BAD f).pulse Flt.PKT_HDR := by
  simp [Dev.packetReceive_of_good hf he ht hu, hm, hr, h0, hpt]

/-- RF_PT 0 takes every payload type. -/
theorem Dev.packetReceive_of_accepted {r : Rtp} (hr : parseRtp pl = some r)
    (hpt : e.reg Obj.RF_PT f = 0 ∨ e.reg Obj.RF_PT f = r.pt) : d.packetReceive p = e.placePacket f a r bytes.length := by
  have hnot : ¬ (e.reg Obj.RF_PT f ≠ 0 ∧ e.reg Obj.RF_PT f ≠ r.pt) := fun h => hpt.elim h.1 h.2
  simp only [Dev.packetReceive_of_good hf he ht hu, hm, hr, if_neg hnot]

end

end

end

end

/-! ### Silent legs (R226) -/

theorem Dev.legDown_of_silent {d : Dev} {f : Nat} (hen : d.flag Obj.RF_ENABLE f = true) (hup : d.reg Obj.RF_LEG_STATE f = 1)
    (hs : (d.leg f).lastAt + 10000000 ≤ d.clock) :
    d.legDown f = (d.setReg Obj.RF_LEG_STATE f 0).event 0x1801 (refOf Obj.RF_LEG_STATE f) := by
  simp [Dev.legDown, hen, hup, hs]

theorem Dev.legDown_of_heard {d : Dev} {f : Nat} (hs : d.clock < (d.leg f).lastAt + 10000000) : d.legDown f = d := by
  simp [Dev.legDown, Nat.not_le.mpr hs]

/-! ### The decision of a position (R219, R227) -/

section
variable {d : Dev} {f key : Nat}

theorem Dev.positionDeadline_of_disabled (hen : d.flag Obj.RF_ENABLE f = false) : d.positionDeadline f key = d := by
  simp [Dev.positionDeadline, hen]

/-- A position is decided once, and not before its deadline. -/
theorem Dev.positionDeadline_of_closed
    (hc : smGet (d.store (d.storeOwner f)).decided key 0 ≠ 0 ∨ d.now < d.deadline f key) : d.positionDeadline f key = d := by
  simp [Dev.positionDeadline, hc]

section
variable (hen : d.flag Obj.RF_ENABLE f = true) (ho : smGet (d.store (d.storeOwner f)).decided key 0 = 0)
  (hdl : d.deadline f key ≤ d.now)
include hen ho hdl

/-- A device that follows no other presents what is filled. -/
theorem Dev.positionDeadline_of_filled (hfol : d.follows = false) (hl : smGet (d.store (d.storeOwner f)).legs key 0 ≠ 0) :
    d.positionDeadline f key = d.decidePosition f key true := by
  have hfilled : (smGet (d.store (d.storeOwner f)).legs key 0 != 0) = true := bne_iff_ne.mpr hl
  simp [Dev.positionDeadline, hen, ho, Nat.not_lt.mpr hdl, hfol, hfilled]

/-- An empty position is absent; a device that does not act for its pair records none for a standby. -/
theorem Dev.positionDeadline_of_empty (hfol : d.follows = false) (hl : smGet (d.store (d.storeOwner f)).legs key 0 = 0)
    (ha : (d.decidePosition f key false).acts = false) : d.positionDeadline f key = d.decidePosition f key false := by
  simp [Dev.positionDeadline, hen, ho, Nat.not_lt.mpr hdl, hfol, hl, ha]

/-- What the holder's complete record states absent is absent at the standby, filled or not. -/
theorem Dev.positionDeadline_of_recorded_absent (hfol : d.follows = true) {w : Nat × Bool × List (Nat × Nat × Nat)}
    (hw : d.tw.winV.find? (fun w => w.1 == d.deadline f key / usMt 10 % 2 ^ 32 && w.2.1) = some w)
    (hc : w.2.2.contains (presenceEntry (d.storeOwner f) key) = true) :
    d.positionDeadline f key = d.decidePosition f key false := by
  have hopen : ¬ (smGet (d.store (d.storeOwner f)).decided key 0 ≠ 0 ∨ d.now < d.deadline f key) :=
    not_or.mpr ⟨not_not_intro ho, Nat.not_lt.mpr hdl⟩
  simp only [Dev.positionDeadline, hen, if_neg hopen, hfol, hw, hc, Bool.not_true, Bool.false_eq_true, if_true, if_false]

end

end

/-! ### Packets sent (R233) -/

theorem Dev.packetSend_of_idle {d : Dev} {t : Nat} (h : d.tfState t ≠ 1 ∨ d.pipeRuns = false) (n j : Nat) : d.packetSend t n j = d := by
  simp [Dev.packetSend, h]

section
variable {d : Dev} {t : Nat} (hs : d.tfState t = 1) (hp : d.pipeRuns = true) (n j : Nat)
include hs hp

theorem Dev.packetSend_of_video (he : d.reg Obj.TF_ESSENCE t = 0) : d.packetSend t n j = d.sendVideo t j := by
  simp [Dev.packetSend, hs, hp, he]

theorem Dev.packetSend_of_audio (he : d.reg Obj.TF_ESSENCE t = 1) : d.packetSend t n j = d.sendAudio t n := by
  simp [Dev.packetSend, hs, hp, he]

theorem Dev.packetSend_of_anc (he : d.reg Obj.TF_ESSENCE t = 2) : d.packetSend t n j = d.sendAnc t n j := by
  simp [Dev.packetSend, hs, hp, he]

end

/-! ### The four commands in a running device -/

section
variable {s : State} {d : Dev} (h : s.dev.life.held = false)
include h

theorem exec_packetReceive {g : Fin 16} {k : Fin 64} {p : Nat} (hp : p = 64 * g.val + k.val) (hd : s.dev.packetReceive p = d) :
    exec (.packetReceive g k) s = .next (s.after d) := State.live_next h (hp ▸ hd)

theorem exec_rfLegDown {f : Fin 4096} (hd : s.dev.legDown f.val = d) : exec (.rfLegDown f) s = .next (s.after d) :=
  State.live_next h hd

theorem exec_positionDeadline {f : Fin 4096} {fr pos key : Nat} (hk : key = fr * 2 ^ 32 + pos)
    (hd : s.dev.positionDeadline f.val key = d) : exec (.positionDeadline f fr pos) s = .next (s.after d) :=
  State.live_next h (hk ▸ hd)

theorem exec_packetSend {t : Fin 2048} {n j : Nat} (hd : s.dev.packetSend t.val n j = d) :
    exec (.packetSend t ⟨n, j⟩) s = .next (s.after d) := State.live_next h hd

end

/-- Settles O35: a received frame goes by the first check of Table 6.2 that fails, a leg by the instant of its last packet, a position by
what is filled and recorded, and a sent packet by its flow's essence. -/
theorem receiveAndTransmitFlows : Obligations.ReceiveAndTransmitFlows := by
  unfold Obligations.ReceiveAndTransmitFlows
  refine ⟨?noFrame, ?frame, ?leg, ?position, ?send⟩
  case noFrame =>
    intro s g k p h hp hf
    exact exec_packetReceive h hp (Dev.packetReceive_of_no_frame hf)
  case frame =>
    intro s g k p a bytes rest d h hp hf hd
    refine ⟨fun ht => exec_packetReceive h hp (Dev.packetReceive_of_other_transport hf hd ht),
      fun ht hu => exec_packetReceive h hp (Dev.packetReceive_of_bad_fcs hf hd ht hu),
      fun ht hu => exec_packetReceive h hp (Dev.packetReceive_of_bad_header hf hd ht hu),
      fun ip udp pl ht hu => ⟨?unmatched, ?matched⟩⟩
    case unmatched => exact fun hm => exec_packetReceive h hp (Dev.packetReceive_of_unmatched hf hd ht hu hm)
    case matched =>
      intro f hm
      exact ⟨fun hr => exec_packetReceive h hp (Dev.packetReceive_of_bad_rtp hf hd ht hu hm hr),
        fun r hr h0 hpt => exec_packetReceive h hp (Dev.packetReceive_of_other_type hf hd ht hu hm hr h0 hpt),
        fun r hr hpt => exec_packetReceive h hp (Dev.packetReceive_of_accepted hf hd ht hu hm hr hpt)⟩
  case leg =>
    intro s f h
    exact ⟨fun hen hup hs => exec_rfLegDown h (Dev.legDown_of_silent hen hup hs),
      fun hs => exec_rfLegDown h (Dev.legDown_of_heard hs)⟩
  case position =>
    intro s f fr pos key h hk
    refine ⟨?rest, fun hen ho hdl => ?decided⟩
    case rest =>
      rintro (hen | hc)
      · exact exec_positionDeadline h hk (Dev.positionDeadline_of_disabled hen)
      · exact exec_positionDeadline h hk (Dev.positionDeadline_of_closed hc)
    case decided =>
      exact ⟨fun hfol hl => exec_positionDeadline h hk (Dev.positionDeadline_of_filled hen ho hdl hfol hl),
        fun hfol hl ha => exec_positionDeadline h hk (Dev.positionDeadline_of_empty hen ho hdl hfol hl ha),
        fun _ hfol hw hc => exec_positionDeadline h hk (Dev.positionDeadline_of_recorded_absent hen ho hdl hfol hw hc)⟩
  case send =>
    intro s t n j h
    exact ⟨fun hidle => exec_packetSend h (Dev.packetSend_of_idle hidle n j), fun hs hp =>
      ⟨fun he => exec_packetSend h (Dev.packetSend_of_video hs hp n j he),
        fun he => exec_packetSend h (Dev.packetSend_of_audio hs hp n j he),
        fun he => exec_packetSend h (Dev.packetSend_of_anc hs hp n j he)⟩⟩

end Sys2Proof.Machine
end

section
/-! Composition engines, check errors of units, Canopy syncs and the Canopy port (R252, R253, R262 to R265, R268 to R270, R459). -/

namespace Sys2Proof.Machine

/-! ### Engine frames (R252, R253, R268) -/

theorem Dev.engineFrame_of_unassigned {d : Dev} {n : Nat} (ho : 1024 ≤ (d.engine n).out) : d.engineFrame n = d := by
  simp [Dev.engineFrame, ho]

theorem Dev.engineFrame_of_retired {d : Dev} {n : Nat} (hr : d.reg Obj.CE_STATE n = ceRetired) : d.engineFrame n = d := by
  simp [Dev.engineFrame, hr]

/-- An engine whose output has carried no format yet composes nothing. -/
theorem Dev.engineFrame_of_no_format {d : Dev} {n : Nat} (ho : (d.engine n).out < 1024) (hr : d.reg Obj.CE_STATE n ≠ ceRetired)
    (hf : fmtOf (d.outFormat (d.engine n).out) = none) : d.engineFrame n = d.setReg Obj.CE_STATE n ceIdle := by
  simp [Dev.engineFrame, Nat.not_le.mpr ho, hr, hf]

/-! ### Check errors (R459) -/

section
variable {d : Dev} {ts : List Nat} {bad : Bool}

theorem Dev.unitCheck_engine {n : Fin 64} (hc : d.checkErrors (d.engine n.val).errors = (ts, bad)) :
    d.unitCheck (.engine n) =
      if bad then (d.setEngine n.val { d.engine n.val with errors := ts }).retireEngine n.val
      else d.setEngine n.val { d.engine n.val with errors := ts } := by
  simp only [Dev.unitCheck, hc]

theorem Dev.unitCheck_inserter {n : Fin 128} (hc : d.checkErrors (d.inserter n.val).errors = (ts, bad)) :
    d.unitCheck (.inserter n) =
      if bad then (d.setInserter n.val { d.inserter n.val with errors := ts }).retireInserter n.val
      else d.setInserter n.val { d.inserter n.val with errors := ts } := by
  simp only [Dev.unitCheck, hc]

theorem Dev.unitCheck_tdm {n : Fin 32} (hc : d.checkErrors (d.ap n.val).errors = (ts, bad)) :
    d.unitCheck (.tdm n) =
      if bad then (d.setAp n.val { d.ap n.val with errors := ts }).retireTdm n.val
      else d.setAp n.val { d.ap n.val with errors := ts } := by
  simp only [Dev.unitCheck, hc]

end

/-! ### Canopy syncs (R262 to R264) -/

section
variable {d : Dev} {g : Nat}

theorem Dev.canopyComplete_of_stopped (hr : d.syncRuns g = false) : d.canopyComplete g = d := by
  simp [Dev.canopyComplete, hr]

section
variable (hr : d.syncRuns g = true) (hg : d.generated (d.reg Obj.CANOPY_SOURCE g) = false)
include hr hg

theorem Dev.canopyComplete_of_not_writing (hw : (d.canopy g).writing = none) : d.canopyComplete g = d := by
  simp [Dev.canopyComplete, hr, hg, hw]

/-- The frame that was being written becomes the newest buffer. -/
theorem Dev.canopyComplete_of_writing {fr : Frame} (hw : (d.canopy g).writing = some fr) :
    d.canopyComplete g =
      (d.setCanopy g { d.canopy g with writing := none, bufs := fr :: (d.canopy g).bufs, lastAt := d.now }).setReg
        Obj.CANOPY_SYNC_STATE g cyRunning := by
  simp [Dev.canopyComplete, hr, hg, hw]

end

theorem Dev.canopyLoss_of_silent (hs : d.canopyState g ∈ [cyRunning, cyHold])
    (ht : (d.canopy g).lastAt + d.reg Obj.CANOPY_LOSS_HOLD * d.canopyPeriod g ≤ d.now) :
    d.canopyLoss g = (d.setReg Obj.CANOPY_SYNC_STATE g cyLost).event 0x2101 (refOf Obj.CANOPY_SYNC_STATE g) :=
  if_pos ⟨by simpa using hs, ht⟩

theorem Dev.canopyLoss_of_other_state (hs : d.canopyState g ∉ [cyRunning, cyHold]) : d.canopyLoss g = d :=
  if_neg fun h => hs (by simpa using h.1)

end

/-! ### Selections of inserters (R263) -/

/-- The number of the output frame that a selection of inserter `c` is for; 0 without an output. -/
def Dev.selectionFor (d : Dev) (c : Nat) : Nat :=
  if (d.inserter c).out < 1024 then d.outFrameNo (d.inserter c).out (d.out (d.inserter c).out).next else 0

section
variable {d : Dev} {c : Nat}

section
variable {fr : Frame} (hb : (d.canopy (c / 8)).bufs.head? = some fr)
include hb

/-- A device that follows no other records what it selects. -/
theorem Dev.canopySelect_of_holder (hf : d.follows = false) :
    d.canopySelect c =
      (d.setInserter c { d.inserter c with sel := some fr.no }).mirror 0x06 (canopyRecord c (d.selectionFor c) fr.no) := by
  simp [Dev.canopySelect, Dev.selectionFor, hf, hb]

theorem Dev.canopySelect_of_standby (hf : d.follows = true) :
    d.canopySelect c = d.setInserter c { d.inserter c with sel := some fr.no } := by
  simp [Dev.canopySelect, hf, hb]

end

/-- Without a complete frame nothing is selected, at a holder and at a standby alike. -/
theorem Dev.canopySelect_of_empty (hb : (d.canopy (c / 8)).bufs = []) :
    d.canopySelect c = d.setInserter c { d.inserter c with sel := none } := by
  cases hf : d.follows <;> simp [Dev.canopySelect, hf, hb]

end

/-! ### Frames at the Canopy port (R269, Table 7.5) -/

section
variable {d : Dev}

theorem Dev.cnBad_of_closed (hp : d.portOpen .cn = false) : d.cnBad = d := by
  simp [Dev.cnBad, hp]

theorem Dev.cnFrame_of_closed (hp : d.portOpen .cn = false) (f : CanopyFrame) : d.cnFrame f = d := by
  simp [Dev.cnFrame, hp]

section
variable (hp : d.portOpen .cn = true)
include hp

theorem Dev.cnBad_of_open :
    d.cnBad = { d.count Obj.CN_FRAMES_BAD with cn := { d.cn with bad := (d.clock :: d.cn.bad).take 10 } } := by
  simp [Dev.cnBad, hp]

theorem Dev.cnFrame_of_bad {f : CanopyFrame} (hb : cnBody f = none) : d.cnFrame f = d.cnBad := by
  simp [Dev.cnFrame, hp, hb]

section
variable {f : CanopyFrame} {addr : Nat} {body : Bytes} (hb : cnBody f = some (addr, body))
include hb

/-- A frame to this device or to the pair. -/
theorem Dev.cnFrame_of_addressed (ha : addr ∈ [3, 1 + boolNat d.nv.sideB]) :
    d.cnFrame f =
      ({ d.count Obj.CN_FRAMES_OK with cn := { d.cn with heardAt := d.clock } }).message .cn 0 (addr == 3) none body := by
  have hmine : ¬ (addr ≠ 3 ∧ addr ≠ 1 + boolNat d.nv.sideB) := by
    rw [not_and_or, not_not, not_not]
    simpa using ha
  simp only [Dev.cnFrame, hp, hb, if_neg hmine, Bool.not_true, Bool.false_eq_true, if_false]

theorem Dev.cnFrame_of_other_address (ha : addr ∉ [3, 1 + boolNat d.nv.sideB]) : d.cnFrame f = d := by
  have hother : addr ≠ 3 ∧ addr ≠ 1 + boolNat d.nv.sideB := by simpa using ha
  simp [Dev.cnFrame, hp, hb, hother]

end

end

end

/-! ### Replies of the Canopy port (R270, Table 7.5) -/

/-- A response that nothing waits for leaves without effect. -/
theorem Dev.respLeft_of_none_waiting {d : Dev} {p : Port} (h : ∀ x ∈ d.ch.deferred, x.port ≠ p) (n : Nat) : d.respLeft p n = d := by
  have hmine : ∀ x ∈ d.ch.deferred, (decide (x.port = p) && x.resp == n) = false := fun x hx => by simp [h x hx]
  have hdue : d.ch.deferred.filter (fun x => decide (x.port = p) && x.resp == n) = [] :=
    List.filter_eq_nil_iff.mpr fun x hx => by simp [hmine x hx]
  have hrest : d.ch.deferred.filter (fun x => !(decide (x.port = p) && x.resp == n)) = d.ch.deferred :=
    List.filter_eq_self.mpr fun x hx => by simp [hmine x hx]
  simp only [Dev.respLeft, Dev.modCh, hdue, hrest, List.foldl_nil, List.findSome?_nil]

theorem Dev.cnSend_of_none {d : Dev} (hr : d.ch.cnReply = none) : d.cnSend = d := by
  simp [Dev.cnSend, hr]

/-- A reply leaves with the device's own ADDR, 50 µs after its request at the earliest. -/
theorem Dev.cnSend_of_due {d : Dev} {b : Bytes} (hr : d.ch.cnReply = some b) (hw : ∀ x ∈ d.ch.deferred, x.port ≠ .cn) :
    d.cnSend = { d.passTo (d.cn.heardAt + 50000) with
      cn := { d.cn with sent := cnFrameBytes (1 + boolNat d.nv.sideB) b }, ch := { d.ch with cnReply := none } } := by
  obtain ⟨t, ht⟩ := d.passTo_frame (d.cn.heardAt + 50000)
  simp only [Dev.cnSend, hr, ht]
  exact Dev.respLeft_of_none_waiting (by exact hw) 0

/-! ### The eight commands in a running device -/

section
variable {s : State} {d : Dev} (h : s.dev.life.held = false)
include h

theorem exec_engineFrameStart {n : Fin 64} (hd : s.dev.engineFrame n.val = d) : exec (.engineFrameStart n) s = .next (s.after d) :=
  State.live_next h hd

theorem exec_unitCheckError {u : CheckedUnit} (hd : s.dev.unitCheck u = d) : exec (.unitCheckError u) s = .next (s.after d) :=
  State.live_next h hd

theorem exec_canopyFrameComplete {g : Fin 16} (hd : s.dev.canopyComplete g.val = d) :
    exec (.canopyFrameComplete g) s = .next (s.after d) := State.live_next h hd

theorem exec_canopySelect {c : Fin 128} (hd : s.dev.canopySelect c.val = d) : exec (.canopySelect c) s = .next (s.after d) :=
  State.live_next h hd

theorem exec_canopyLossTimeout {g : Fin 16} (hd : s.dev.canopyLoss g.val = d) :
    exec (.canopyLossTimeout g) s = .next (s.after d) := State.live_next h hd

theorem exec_canopyPortFrame {f : CanopyFrame} (hd : s.dev.cnFrame f = d) : exec (.canopyPortFrame f) s = .next (s.after d) :=
  State.live_next h hd

theorem exec_canopyByteGapTimeout (hd : s.dev.cnBad = d) : exec .canopyByteGapTimeout s = .next (s.after d) :=
  State.live_next h hd

theorem exec_canopyReply (hd : s.dev.cnSend = d) : exec .canopyReply s = .next (s.after d) := State.live_next h hd

end

/-- Settles O28: an engine's frame goes by its output, its state and its format; a unit keeps the check errors of its last second, and
retires where these reach the bound. -/
theorem enginesAndUnitChecks : Obligations.EnginesAndUnitChecks := by
  unfold Obligations.EnginesAndUnitChecks
  refine ⟨?engine, ?checkEngine, ?checkInserter, ?checkTdm⟩
  case engine =>
    intro s n h
    exact ⟨fun ho => exec_engineFrameStart h (Dev.engineFrame_of_unassigned ho),
      fun hr => exec_engineFrameStart h (Dev.engineFrame_of_retired hr),
      fun ho hr hf => exec_engineFrameStart h (Dev.engineFrame_of_no_format ho hr hf),
      fun _ _ _ => exec_engineFrameStart h rfl⟩
  case checkEngine =>
    intro s n ts bad h hc
    exact exec_unitCheckError h (Dev.unitCheck_engine hc)
  case checkInserter =>
    intro s c ts bad h hc
    exact exec_unitCheckError h (Dev.unitCheck_inserter hc)
  case checkTdm =>
    intro s a ts bad h hc
    exact exec_unitCheckError h (Dev.unitCheck_tdm hc)

/-- Settles O29: a completed frame goes by the buffer that is being written, a selection by the newest buffer and the device's part in its
pair, and a loss by the sync's state and the instant of its last frame. -/
theorem canopySyncs : Obligations.CanopySyncs := by
  unfold Obligations.CanopySyncs
  refine ⟨?stopped, ?complete, ?select, ?selectNone, ?loss⟩
  case stopped =>
    intro s g h hr
    exact exec_canopyFrameComplete h (Dev.canopyComplete_of_stopped hr)
  case complete =>
    intro s g h hr hg
    exact ⟨fun hw => exec_canopyFrameComplete h (Dev.canopyComplete_of_not_writing hr hg hw),
      fun _ hw => exec_canopyFrameComplete h (Dev.canopyComplete_of_writing hr hg hw)⟩
  case select =>
    intro s c fr n h hb hn
    obtain rfl : n = s.dev.selectionFor c.val := hn
    exact ⟨fun hf => exec_canopySelect h (Dev.canopySelect_of_holder hb hf),
      fun hf => exec_canopySelect h (Dev.canopySelect_of_standby hb hf)⟩
  case selectNone =>
    intro s c h hb
    exact exec_canopySelect h (Dev.canopySelect_of_empty hb)
  case loss =>
    intro s g h
    exact ⟨fun hs ht => exec_canopyLossTimeout h (Dev.canopyLoss_of_silent hs ht),
      fun hs => exec_canopyLossTimeout h (Dev.canopyLoss_of_other_state hs)⟩

/-- Settles O30: a frame goes by its gate, its checks and its ADDR; a byte gap ends a bad frame; a reply for which no setting or reset waits
leaves and changes nothing else. -/
theorem canopyPort : Obligations.CanopyPort := by
  unfold Obligations.CanopyPort
  refine ⟨?frame, ?gap, ?closed, ?noReply, ?reply⟩
  case frame =>
    intro s f h hp
    exact ⟨fun hb => exec_canopyPortFrame h ((Dev.cnFrame_of_bad hp hb).trans (Dev.cnBad_of_open hp)),
      fun _ _ hb ha => exec_canopyPortFrame h (Dev.cnFrame_of_addressed hp hb ha),
      fun _ _ hb ha => exec_canopyPortFrame h (Dev.cnFrame_of_other_address hp hb ha)⟩
  case gap =>
    intro s h hp
    exact exec_canopyByteGapTimeout h (Dev.cnBad_of_open hp)
  case closed =>
    intro s f h hp
    exact ⟨exec_canopyPortFrame h (Dev.cnFrame_of_closed hp f), exec_canopyByteGapTimeout h (Dev.cnBad_of_closed hp)⟩
  case noReply =>
    intro s h hr
    exact exec_canopyReply h (Dev.cnSend_of_none hr)
  case reply =>
    intro s b h hr hw
    exact exec_canopyReply h (Dev.cnSend_of_due hr hw)

end Sys2Proof.Machine
end

section
/-! The family of "Audio". First audio blocks at their consumers, the mixer and the gain store (R278 to R281, R290 to R292, R298). -/

namespace Sys2Proof.Machine

/-! ### Channel-block records read back (R278, Table 8.3) -/

/-- A signed 24-bit sample reads back. -/
theorem toInt_ofInt_sample {v : Int} (hlo : -8388608 ≤ v) (hhi : v < 8388608) : toInt 24 (ofInt 24 v) = v := by
  unfold toInt ofInt
  split <;> omega

theorem ofInt_sample_lt (v : Int) : ofInt 24 v < 256 ^ 3 := by
  unfold ofInt
  omega

/-- Field `i` of fields of one length `m`, written one after the other. -/
theorem take_drop_flatMap {α β : Type} {f : α → List β} {m : Nat} (hf : ∀ x, (f x).length = m) (l : List α) {i : Nat} (hi : i < l.length) :
    ((l.flatMap f).drop (m * i)).take m = f l[i] := by
  induction l generalizing i with
  | nil => exact absurd hi (Nat.not_lt_zero i)
  | cons x l ih =>
    rw [List.flatMap_cons]
    cases i with
    | zero => simp [← hf x]
    | succ i =>
      have hm : m * (i + 1) = (f x).length + m * i := by rw [hf x, Nat.mul_succ, Nat.add_comm]
      rw [hm, List.drop_length_add_append]
      exact ih (Nat.lt_of_succ_lt_succ hi)

/-- Sample `i` of a block as its record carries it: 0 where absent. -/
def Block.sent (b : Block) (i : Nat) : Nat := if bitOf b.present i then ofInt 24 (b.samples.getD i 0) else 0

theorem Block.sent_lt (b : Block) (i : Nat) : b.sent i < 256 ^ 3 := by
  unfold Block.sent
  split
  · exact ofInt_sample_lt _
  · decide

theorem blockRecord_length (ai : Nat) (b : Block) : (blockRecord ai b).length = 52 := by
  simp [blockRecord]

theorem blockRecord_samples (ai : Nat) (b : Block) (i : Nat) :
    (blockRecord ai b).drop (4 + 3 * i) = ((List.range 16).flatMap (fun j => beBytes 3 (b.sent j))).drop (3 * i) := by
  have h4 : (beBytes 2 ai ++ beBytes 2 b.present).length = 4 := by simp
  rw [blockRecord, ← h4, List.drop_length_add_append]
  rfl

/-- The samples of a record are those sent. -/
theorem recordBlock_blockRecord {ai : Nat} {b : Block} (hai : ai < 65536) (hp : b.present < 65536) :
    recordBlock (blockRecord ai b) = (ai, { present := b.present, samples := (List.range 16).map (fun i => toInt 24 (b.sent i)) }) := by
  have hnum : beNat ((blockRecord ai b).take 2) = ai := by
    simp [blockRecord, beNat_beBytes, Nat.mod_eq_of_lt hai]
  have hpres : beNat (((blockRecord ai b).drop 2).take 2) = b.present := by
    simp [blockRecord, beNat_beBytes, Nat.mod_eq_of_lt hp]
  have hsample : ∀ i ∈ List.range 16, toInt 24 (beNat (((blockRecord ai b).drop (4 + 3 * i)).take 3)) = toInt 24 (b.sent i) := by
    intro i hi
    have hi' : i < (List.range 16).length := by simpa using hi
    rw [blockRecord_samples, take_drop_flatMap (fun j => beBytes_length 3 (b.sent j)) _ hi', List.getElem_range, beNat_beBytes,
      Nat.mod_eq_of_lt (b.sent_lt i)]
  rw [recordBlock, hnum, hpres, List.map_congr_left hsample]

/-- A block whose samples have 24 bits, 0 where absent, reads back from what is sent. -/
theorem Block.sent_readBack {b : Block} (hlen : b.samples.length = 16) (hv : ∀ v ∈ b.samples, -8388608 ≤ v ∧ v < 8388608)
    (habs : ∀ i, i < 16 → bitOf b.present i = false → b.samples.getD i 0 = 0) :
    (List.range 16).map (fun i => toInt 24 (b.sent i)) = b.samples := by
  apply List.ext_getElem (by simp [hlen])
  intro i hi hi'
  obtain ⟨hlo, hhi⟩ := hv _ (List.getElem_mem hi')
  have hget : b.samples.getD i 0 = b.samples[i] := List.getD_eq_getElem _ _ hi'
  rw [List.getElem_map, List.getElem_range, Block.sent]
  split
  · rw [hget, toInt_ofInt_sample hlo hhi]
  · next hbit => rw [← hget, habs i (hlen ▸ hi') (by simpa using hbit)]; rfl

/-- A mesh audio Basket with one record gives its block number and its record back. -/
theorem meshRecords_meshAudio {n ai : Nat} {b : Block} (hn : n < 2 ^ 64) (hai : ai < 65536) (hp : b.present < 65536)
    (hlen : b.samples.length = 16) (hv : ∀ v ∈ b.samples, -8388608 ≤ v ∧ v < 8388608)
    (habs : ∀ i, i < 16 → bitOf b.present i = false → b.samples.getD i 0 = 0) :
    meshRecords (meshAudio n [(ai, b)]) = (n, [(ai, b)]) := by
  have hblock : recordBlock (blockRecord ai b) = (ai, b) := by
    rw [recordBlock_blockRecord hai hp, Block.sent_readBack hlen hv habs]
  have hfirst : (meshAudio n [(ai, b)]).payload.take 8 = beBytes 8 n := by
    simp [meshAudio]
  have hno : beNat ((meshAudio n [(ai, b)]).payload.take 8) = n := by
    rw [hfirst, beNat_beBytes]
    exact Nat.mod_eq_of_lt hn
  have hrec : ((meshAudio n [(ai, b)]).payload.drop 8).take 52 = blockRecord ai b := by
    simp [meshAudio, blockRecord_length]
  have hcount : (meshAudio n [(ai, b)]).count = 1 := rfl
  simp [meshRecords, hno, hcount, hrec, hblock]

/-! ### The aligner (R280) -/

section
variable {d : Dev} {a n off : Nat} {r : Nat × Block} (hs : ((d.ao a).sources n).contains r.1 = true) (hr : r.1 ≠ aiSilence)
include hs hr

/-- What the aligner does with a record of one of its sources. -/
theorem Dev.alignBlock_of_source :
    d.alignBlock a n off r =
      if d.blockDeadline a n off < d.now ∨ smGet (d.ao a).decided n 0 ≠ 0 then (d.count Obj.AO_LATE_DROP a).pulse Flt.AO_LATE
      else (d.setAo a { d.ao a with got := smSet (d.ao a).got (n * 65536 + r.1) r.2 {} }).aoPrune a off := by
  have hmine : (!((d.ao a).sources n).contains r.1 || r.1 == aiSilence) = false := by rw [hs, beq_eq_false_iff_ne.mpr hr]; rfl
  simp only [Dev.alignBlock, hmine, Bool.false_eq_true, if_false]

/-- After its deadline, or once its block is decided, a record is late. -/
theorem Dev.alignBlock_of_late (hl : d.blockDeadline a n off < d.now ∨ smGet (d.ao a).decided n 0 ≠ 0) :
    d.alignBlock a n off r = (d.count Obj.AO_LATE_DROP a).pulse Flt.AO_LATE :=
  (Dev.alignBlock_of_source hs hr).trans (if_pos hl)

theorem Dev.alignBlock_of_inTime (ht : d.now ≤ d.blockDeadline a n off) (ho : smGet (d.ao a).decided n 0 = 0) :
    d.alignBlock a n off r =
      (d.setAo a { d.ao a with got := smSet (d.ao a).got (n * 65536 + r.1) r.2 {} }).aoPrune a off :=
  (Dev.alignBlock_of_source hs hr).trans (if_neg (not_or.mpr ⟨Nat.not_lt.mpr ht, not_not_intro ho⟩))

end

/-! ### Arrival and decision (R279 to R281) -/

section
variable {d : Dev} {a n off : Nat}

/-- Without a consumer a channel takes no block and decides none. -/
theorem Dev.audioArrival_of_no_consumer (hc : d.aoOffset a = none) (n : Nat) (ais : List Nat) : d.audioArrival a n ais = d := by
  simp only [Dev.audioArrival, hc]

theorem Dev.audioDeadline_of_no_consumer (hc : d.aoOffset a = none) (n : Nat) : d.audioDeadline a n = d := by
  simp only [Dev.audioDeadline, hc]

section
variable (hc : d.aoOffset a = some off)
include hc

section
variable {ais : List Nat} {rs : List (Nat × Block)}
  (hrs : rs = ((ais.take 4).filter (d.audioSub · (aoNode a))).filterMap (fun ai => (d.aiBlock ai n).map (fun b => (ai, b))))
include hrs

/-- A Basket of which the node subscribes to nothing that is there does not come. -/
theorem Dev.audioArrival_of_empty (he : rs = []) : d.audioArrival a n ais = d := by
  simp only [Dev.audioArrival, hc, ← hrs, if_pos he]

/-- The node keeps the Basket, and the channel's aligner takes its records. -/
theorem Dev.audioArrival_of_records (he : rs ≠ []) :
    d.audioArrival a n ais = (meshRecords (meshAudio n rs)).2.foldl (fun d r => d.alignBlock a (meshRecords (meshAudio n rs)).1 off r)
      { d with audioMesh := smSet d.audioMesh (aoNode a) (some (meshAudio n rs)) none } := by
  simp only [Dev.audioArrival, hc, ← hrs, if_neg he]

end

theorem Dev.audioDeadline_of_closed (hl : smGet (d.ao a).decided n 0 ≠ 0 ∨ d.now < d.blockDeadline a n off) :
    d.audioDeadline a n = d := by
  simp only [Dev.audioDeadline, hc, if_pos hl]

section
variable (ho : smGet (d.ao a).decided n 0 = 0) (ht : d.blockDeadline a n off ≤ d.now) (hf : d.follows = false)
include ho ht hf

/-- A device that follows no other decides an open block by what is here; where it acts for its pair it records an absent one for a standby. -/
theorem Dev.audioDeadline_of_due {e : Dev} (he : e = (d.decideBlock a n (d.blockHere a n)).aoPrune a off) :
    d.audioDeadline a n = if e.acts && e.hotPeer && !d.blockHere a n
      then { e with tw := { e.tw with presA := e.tw.presA ++ [(a, n % 65536)] } } else e := by
  have hdue : ¬ (smGet (d.ao a).decided n 0 ≠ 0 ∨ d.now < d.blockDeadline a n off) := by omega
  simp only [Dev.audioDeadline, hc, if_neg hdue, hf, ← he, Bool.false_eq_true, if_false]

theorem Dev.audioDeadline_of_here (hh : d.blockHere a n = true) :
    d.audioDeadline a n = (d.decideBlock a n true).aoPrune a off := by
  simp [Dev.audioDeadline_of_due hc ho ht hf rfl, hh]

theorem Dev.audioDeadline_of_absent (hh : d.blockHere a n = false) (ha : ((d.decideBlock a n false).aoPrune a off).acts = false) :
    d.audioDeadline a n = (d.decideBlock a n false).aoPrune a off := by
  simp [Dev.audioDeadline_of_due hc ho ht hf rfl, hh, ha]

end

end

end

/-! ### The mixer's blocks (R290 to R292) -/

theorem Dev.SameBut.mix {d e : Dev} (h : d.SameBut e) : e.mix = d.mix := by
  obtain ⟨_, _, _, _, _, rfl⟩ := h
  rfl

/-- Of the mixer's state, taking a block touches the edge buffer alone. -/
theorem Dev.mixTake_mix (d : Dev) (n : Nat) : (d.mixTake n).mix = { d.mix with edge := d.mix.edge.take n } := by
  unfold Dev.mixTake
  dsimp only
  split
  · exact (Dev.pulse_sameBut _ _ _).mix
  · rfl

/-- MO block n + 2 of the sums of MI block `n`: clamped samples, and a count of those that the clamp changed (R291, R292). -/
def Dev.mixOut (d : Dev) (n : Nat) (sums : SMap (List Int)) : Dev :=
  let out : SMap Block := sums.foldl (fun m kv =>
    smSet m kv.1 { present := 0xFFFF, samples := kv.2.map (fun a => mixClamp (mixRound a)) } {}) []
  let sat := sums.map (fun kv => (kv.1, (kv.2.filter (fun a => mixClamp (mixRound a) != mixRound a)).length))
  let e := sat.foldl (fun d s => if s.2 = 0 then d else (d.count Obj.MIX_OUT_SAT s.1 s.2).pulse Flt.MIX_SAT) d
  { e with mix := { e.mix with made := ((n + 2, out) :: e.mix.made).take 256 } }

section
variable {d : Dev} {n : Nat}

/-- A block is made when its inputs are due, and once. -/
theorem Dev.mixerBlock_of_early_or_made
    (h : d.now < blockTime n + d.reg Obj.MIX_IN_OFFSET * subNs ∨ d.mix.made.any (fun m => m.1 == n + 2) = true) : d.mixerBlock n = d :=
  if_pos h

/-- Without an armed commit the gains stand through the block. -/
theorem Dev.mixerBlock_of_no_commit (ht : blockTime n + d.reg Obj.MIX_IN_OFFSET * subNs ≤ d.now)
    (hm : d.mix.made.any (fun m => m.1 == n + 2) = false) (ha : d.mix.armedE = none) :
    d.mixerBlock n = (d.mixTake n).mixOut n
      ((d.mixTake n).mixSums n (d.mix.gain.map (fun kv => (kv.1, d.mix.gainOf kv.1, d.mix.gainOf kv.1)))) := by
  have hnow : ¬ (d.now < blockTime n + d.reg Obj.MIX_IN_OFFSET * subNs ∨ d.mix.made.any (fun m => m.1 == n + 2) = true) := by
    simp [hm, Nat.not_lt.mpr ht]
  simp only [Dev.mixerBlock, if_neg hnow, MixX.boundary, MixX.gainOf, Dev.mixTake_mix, ha, Option.map_none, Bool.false_eq_true, if_false,
    List.append_nil]
  rfl

end

theorem Dev.mixOut_nil (d : Dev) (n : Nat) :
    d.mixOut n [] = { d with mix := { d.mix with made := ((n + 2, []) :: d.mix.made).take 256 } } := rfl

/-- One output whose samples the clamp leaves alone. -/
theorem Dev.mixOut_single {out : List Int} (hout : ∀ v ∈ out, mixClamp (mixRound v) = mixRound v) (d : Dev) (n o : Nat) :
    d.mixOut n [(o, out)] =
      { d with mix := { d.mix with made := ((n + 2, [(o, { present := 0xFFFF, samples := out.map mixRound })]) :: d.mix.made).take 256 } } := by
  have hsat : out.filter (fun a => mixClamp (mixRound a) != mixRound a) = [] :=
    List.filter_eq_nil_iff.mpr fun v hv => by simp [hout v hv]
  simp [Dev.mixOut, smSet, hsat, List.map_congr_left hout]

/-- The sums of a single gain are its products. -/
theorem Dev.mixSums_single (d : Dev) (n c : Nat) (g g' : Int) :
    d.mixSums n [(c, g, g')] = [(c / 4096, (List.range 16).map (fun k => mixTerm (d.miSample (c % 4096) n k) (rampGain g g' k)))] := by
  simp [Dev.mixSums, smGet, smSet, -List.reduceReplicate]

/-- A cell without an error has the gain that the matrix lists. -/
theorem MixX.gainOf_single {x : MixX} {c g : Nat} (hg : x.gain = [(c, g)]) (hb : x.bad = []) : x.gainOf c = toInt 16 g := by
  simp [MixX.gainOf, hg, hb, smGet]

/-! ### Records of the gain matrix (R298) -/

section
variable {d : Dev}

theorem Dev.gainRecord_of_clean (hc : d.life.gainDirty = []) : d.gainRecord = d := by
  simp [Dev.gainRecord, hc]

/-- The changed rows become one closed set. -/
theorem Dev.gainRecord_of_dirty (hg : d.gateOn 33 = true) (hd : d.life.gainDirty ≠ []) :
    d.gainRecord = (d.modNv (fun v => { v with gainLog := v.gainLog ++ d.life.gainDirty.map (fun o =>
        ({ kind := 6, set := d.life.setNo + 1, body := gainRowBody d.mix.gain o } : StoreRec)) ++
        [closeRec (d.life.setNo + 1) d.life.gainDirty.length] })).modLife
        (fun x => { x with gainDirty := [], setNo := d.life.setNo + 1 }) := by
  simp [Dev.gainRecord, hg, hd]

end

/-! ### The four commands in a running device -/

section
variable {s : State} {d : Dev} (h : s.dev.life.held = false)
include h

theorem exec_audioBlockArrival {ao : Fin 37376} {n : Nat} {ais : List (BitVec 16)}
    (hd : s.dev.audioArrival ao.val n (ais.map (·.toNat)) = d) : exec (.audioBlockArrival ao ⟨n, ais⟩) s = .next (s.after d) :=
  State.live_next h hd

theorem exec_audioBlockDeadline {ao : Fin 37376} {n : Nat} (hd : s.dev.audioDeadline ao.val n = d) :
    exec (.audioBlockDeadline ao n) s = .next (s.after d) := State.live_next h hd

theorem exec_mixerBlock {n : Nat} (hd : s.dev.mixerBlock n = d) : exec (.mixerBlock n) s = .next (s.after d) := State.live_next h hd

theorem exec_gainStoreRecord (hd : s.dev.gainRecord = d) : exec .gainStoreRecord s = .next (s.after d) := State.live_next h hd

end

/-- Settles O31: a record is taken before its deadline and its block's decision, a block is decided once from its deadline on, the mixer
makes a block once from its inputs' instant on, and changed rows of gains are recorded as one set. -/
theorem audioBlocksAndMixer : Obligations.AudioBlocksAndMixer := by
  unfold Obligations.AudioBlocksAndMixer
  refine ⟨⟨?noConsumer, ?arrival, ?readBack, ?align, ?deadline⟩, ?mixer, ?oneGain, ?gainStore⟩
  case noConsumer =>
    intro s ao n ais h hc
    exact ⟨exec_audioBlockArrival h (Dev.audioArrival_of_no_consumer hc _ _),
      exec_audioBlockDeadline h (Dev.audioDeadline_of_no_consumer hc _)⟩
  case arrival =>
    intro s ao n off ais rs h hc hrs
    exact ⟨fun he => exec_audioBlockArrival h (Dev.audioArrival_of_empty hc hrs he),
      fun he => exec_audioBlockArrival h (Dev.audioArrival_of_records hc hrs he)⟩
  case readBack =>
    intro n ai b hn hai hp hlen hv habs
    exact meshRecords_meshAudio hn hai hp hlen hv habs
  case align =>
    intro d a n off r hs hr
    exact ⟨fun hl => Dev.alignBlock_of_late hs hr hl, fun ht ho => Dev.alignBlock_of_inTime hs hr ht ho⟩
  case deadline =>
    intro s ao n off h hc
    exact ⟨fun hl => exec_audioBlockDeadline h (Dev.audioDeadline_of_closed hc hl), fun ho ht hf =>
      ⟨fun hh => exec_audioBlockDeadline h (Dev.audioDeadline_of_here hc ho ht hf hh),
        fun hh ha => exec_audioBlockDeadline h (Dev.audioDeadline_of_absent hc ho ht hf hh ha)⟩⟩
  case mixer =>
    intro s n h
    refine ⟨fun he => exec_mixerBlock h (Dev.mixerBlock_of_early_or_made (.inl he)),
      fun hm => exec_mixerBlock h (Dev.mixerBlock_of_early_or_made (.inr hm)), fun ht hm hg ha => exec_mixerBlock h ?_⟩
    rw [Dev.mixerBlock_of_no_commit ht hm ha, hg]
    exact Dev.mixOut_nil _ n
  case oneGain =>
    intro s n c g out d h ht hm hd hg hb ha hout hclamp
    refine exec_mixerBlock h ?_
    rw [Dev.mixerBlock_of_no_commit ht hm ha, ← hd, hg, List.map_singleton, MixX.gainOf_single hg hb, Dev.mixSums_single, ← hout]
    exact Dev.mixOut_single hclamp d n (c / 4096)
  case gainStore =>
    intro s h
    exact ⟨fun hg hd => exec_gainStoreRecord h (Dev.gainRecord_of_dirty hg hd),
      fun hc => exec_gainStoreRecord h (Dev.gainRecord_of_clean hc)⟩

end Sys2Proof.Machine
end

section
/-! TDM ports: frames, the stages of a MASTER port, the detector and the slips of a SLAVE port (R300 to R308). -/

namespace Sys2Proof.Machine

/-! ### Stages of a MASTER port (R306, Table 8.11) -/

section
variable {d : Dev} {a k : Nat}

/-- The sixty-fifth sample after the stop began ends it. -/
theorem Dev.apSettle_of_stopped (hr : d.apState a ≠ apRetired) (hoff : (d.ap a).off = some k) (ht : sampleTime (k + 65) ≤ d.now) :
    d.apSettle a =
      (d.setReg Obj.AP_STATE a apOff).setAp a { d.ap a with on := none, off := none, ring := [], edge := {} } := by
  simp [Dev.apSettle, hr, hoff, ht]

/-- The lead of 1024 frames is over. -/
theorem Dev.apSettle_of_led (hr : d.apState a ≠ apRetired) (hoff : (d.ap a).off = none) (hon : (d.ap a).on = some k)
    (ht : sampleTime (k + 1024) ≤ d.now) : d.apSettle a = d.setReg Obj.AP_STATE a apRunning := by
  simp [Dev.apSettle, hr, hoff, hon, ht]

theorem Dev.apLeadEnd_of_lead (hs : d.apState a = apLead) : d.apLeadEnd a = d.apSettle a := if_pos hs

theorem Dev.apLeadEnd_of_other (hs : d.apState a ≠ apLead) : d.apLeadEnd a = d := if_neg hs

theorem Dev.apStopStep_of_stopping (hoff : (d.ap a).off = some k) : d.apStopStep a = d.apSettle a :=
  if_pos (Option.isSome_of_eq_some hoff)

theorem Dev.apStopStep_of_none (hoff : (d.ap a).off = none) : d.apStopStep a = d := by
  simp [Dev.apStopStep, hoff]

end

/-! ### Frames of a port (R300 to R302) -/

section
variable {d e : Dev} {a : Nat} {f : TdmFrame} (he : e = d.setReg Obj.AP_FRAME_PERIOD a (f.period % 2 ^ 32))
include he

theorem Dev.tdmFrame_of_master (hm : e.apMaster a = true) : d.tdmFrame a f = e.masterFrame a f := by
  simp only [Dev.tdmFrame, ← he, hm, if_true]

theorem Dev.tdmFrame_of_slave (hm : e.apMaster a = false) : d.tdmFrame a f = e.slaveFrame a f := by
  simp only [Dev.tdmFrame, ← he, hm, Bool.false_eq_true, if_false]

end

/-- A port that is off exchanges nothing. -/
theorem Dev.masterFrame_of_off {d : Dev} {a : Nat} (hon : ((d.apSettle a).ap a).on = none) (f : TdmFrame) :
    d.masterFrame a f = d.apSettle a := by
  simp only [Dev.masterFrame, hon]

/-- The frame that ends now stands at sample `k`, and is one of the run. -/
theorem Dev.masterFrame_of_running {d e : Dev} {a n k : Nat} (he : e = d.apSettle a) (hon : (e.ap a).on = some n)
    (hk : k = sampleNear e.now - 1) (hn : n ≤ k) (hr : e.apState a ≠ apRetired) (f : TdmFrame) :
    d.masterFrame a f =
      e.frameOut a ((k : Int) - (e.reg Obj.AP_IN_DELAY a : Nat)) k ((e.ap a).masterLevel k) (sdinSamples f.sdin) := by
  have hin : ¬ (k < n ∨ e.apState a = apRetired) := by omega
  simp only [Dev.masterFrame, ← he, ← hk, hon, if_neg hin]

/-! ### The detector of a SLAVE port (R308) -/

section
variable {d : Dev} {a : Nat}

/-- A MASTER port has no detector. -/
theorem Dev.tdmQualified_of_master (hm : d.apMaster a = true) : d.tdmQualified a = d := by
  simp [Dev.tdmQualified, hm]

theorem Dev.tdmLoss_of_master (hm : d.apMaster a = true) : d.tdmLoss a = d := by
  simp [Dev.tdmLoss, hm]

theorem Dev.tdmQualified_of_few (hc : (d.ap a).clean < 4800) : d.tdmQualified a = d := by
  simp [Dev.tdmQualified, hc]

theorem Dev.tdmLoss_of_off_or_lost (hs : (d.ap a).det ∈ [apOff, apLost]) : d.tdmLoss a = d := by
  have hrest : (d.ap a).det = apOff ∨ (d.ap a).det = apLost := by simpa using hs
  simp [Dev.tdmLoss, hrest]

section
variable (hm : d.apMaster a = false)
include hm

theorem Dev.tdmQualified_of_qualified (hs : (d.ap a).det = apQualifying) (hc : 4800 ≤ (d.ap a).clean) :
    d.tdmQualified a = (d.setAp a { d.ap a with det := apRunning, clean := 0 }).detect a tkRun (d.ap a).k := by
  simp [Dev.tdmQualified, hm, hs, Nat.not_lt.mpr hc]

theorem Dev.tdmLoss_of_on (hs : (d.ap a).det ∉ [apOff, apLost]) :
    d.tdmLoss a =
      (d.setAp a { d.ap a with det := apLost, clean := 0, dirty := 0, periods := [] }).detect a tkLost ((d.ap a).k + 1) := by
  have hon : (d.ap a).det ≠ apOff ∧ (d.ap a).det ≠ apLost := by simpa using hs
  simp [Dev.tdmLoss, hm, hon]

end

end

/-! ### Slips (R303) -/

section
variable {d : Dev} {a t : Nat} {want : Int}
  (hw : want = ((sampleTime ((d.ap a).k + (d.reg Obj.AP_IN_DELAY a : Nat)).toNat : Nat) : Int))
include hw

theorem Dev.tdmSlip_of_near (hn : ((t : Int) - want).natAbs ≤ usMt 5) : d.tdmSlip a t = d := by
  simp only [Dev.tdmSlip, ← hw, if_pos hn, ite_self]

/-- A slip counts, and the port anchors at its next frame, unless it follows the holder's anchors. -/
theorem Dev.tdmSlip_of_far {e : Dev} (hm : d.apMaster a = false) (hs : d.apState a = apRunning) (hd : (d.ap a).anchorDue = false)
    (hf : usMt 5 < ((t : Int) - want).natAbs) (he : e = (d.count Obj.AP_SLIPS a).pulse Flt.AP_SLIP) (hfol : e.follows = false) :
    d.tdmSlip a t = e.setAp a { e.ap a with anchorDue := true } := by
  have hon : ¬ (d.apMaster a = true ∨ d.apState a ≠ apRunning ∨ (d.ap a).anchorDue = true) := by simp [hm, hs, hd]
  simp only [Dev.tdmSlip, ← hw, ← he, if_neg hon, if_neg (Nat.not_le.mpr hf), hfol, Bool.false_eq_true, if_false]

end

/-! ### The six commands of a TDM port in a running device -/

section
variable {s : State} {d : Dev} {a : Fin 32} (h : s.dev.life.held = false)
include h

theorem exec_tdmFrame {f : TdmFrame} (hd : s.dev.tdmFrame a.val f = d) : exec (.tdmFrame a f) s = .next (s.after d) :=
  State.live_next h hd

theorem exec_tdmQualified (hd : s.dev.tdmQualified a.val = d) : exec (.tdmQualified a) s = .next (s.after d) :=
  State.live_next h hd

theorem exec_tdmClockLoss (hd : s.dev.tdmLoss a.val = d) : exec (.tdmClockLoss a) s = .next (s.after d) :=
  State.live_next h hd

theorem exec_tdmSlipCheck {t : Nat} (hd : s.dev.tdmSlip a.val t = d) : exec (.tdmSlipCheck a t) s = .next (s.after d) :=
  State.live_next h hd

theorem exec_tdmLeadEnd (hd : s.dev.apLeadEnd a.val = d) : exec (.tdmLeadEnd a) s = .next (s.after d) :=
  State.live_next h hd

theorem exec_tdmStopStep (hd : s.dev.apStopStep a.val = d) : exec (.tdmStopStep a) s = .next (s.after d) :=
  State.live_next h hd

end

/-- Settles O32: a MASTER port's frames, lead and stop go by the stages that Media Time has reached, a SLAVE port's detector by its own
state, and a slip check by the distance of the frame instant from its stamp. -/
theorem tdmPorts : Obligations.TdmPorts := by
  unfold Obligations.TdmPorts
  refine ⟨?frame, ?slave, ?master, ?slip, ?stages⟩
  case frame =>
    intro s a f d h hd
    refine ⟨fun hm => ?off, fun hm => ?running,
      fun hm => exec_tdmFrame h (Dev.tdmFrame_of_slave hd hm)⟩
    case off =>
      intro k hk hon
      exact exec_tdmFrame h ((Dev.tdmFrame_of_master hd hm).trans (Dev.masterFrame_of_off (hk ▸ hon) f))
    case running =>
      intro k n hk hon hn hr
      subst hk
      exact exec_tdmFrame h ((Dev.tdmFrame_of_master hd hm).trans (Dev.masterFrame_of_running rfl hon rfl hn hr f))
  case slave =>
    intro s a h hm
    exact ⟨fun hs hc => exec_tdmQualified h (Dev.tdmQualified_of_qualified hm hs hc),
      fun hc => exec_tdmQualified h (Dev.tdmQualified_of_few hc),
      fun hs => exec_tdmClockLoss h (Dev.tdmLoss_of_on hm hs),
      fun hs => exec_tdmClockLoss h (Dev.tdmLoss_of_off_or_lost hs)⟩
  case master =>
    intro s a h hm
    exact ⟨exec_tdmQualified h (Dev.tdmQualified_of_master hm), exec_tdmClockLoss h (Dev.tdmLoss_of_master hm)⟩
  case slip =>
    intro s a t want h hm hs hd hw
    exact ⟨fun hn => exec_tdmSlipCheck h (Dev.tdmSlip_of_near hw hn),
      fun hf _ _ he hfol => exec_tdmSlipCheck h (Dev.tdmSlip_of_far hw hm hs hd hf he hfol)⟩
  case stages =>
    intro s a h
    refine ⟨fun hs => exec_tdmLeadEnd h (Dev.apLeadEnd_of_lead hs), fun k hs hoff hon ht => ?leadOver,
      fun hs => exec_tdmLeadEnd h (Dev.apLeadEnd_of_other hs), fun k hoff hr ht => ?stopOver,
      fun hoff => exec_tdmStopStep h (Dev.apStopStep_of_none hoff)⟩
    case leadOver =>
      have hr : s.dev.apState a.val ≠ apRetired := by rw [hs]; decide
      exact exec_tdmLeadEnd h ((Dev.apLeadEnd_of_lead hs).trans (Dev.apSettle_of_led hr hoff hon ht))
    case stopOver =>
      exact exec_tdmStopStep h ((Dev.apStopStep_of_stopping hoff).trans (Dev.apSettle_of_stopped hr hoff ht))

end Sys2Proof.Machine
end

section
/-! The Rambler's tasks: tables, temperatures, flash logs and telemetry (R299, R464 to R466, R468; Table 13.6). -/

namespace Sys2Proof.Machine

/-! ### Scrubs of tables (R299, R465, R466) -/

section
variable (d : Dev)

theorem Dev.tableScrub_clean (t : ScrubTable) (e : Nat) : d.tableScrub t e .clean = d.rmbDone 0 := rfl

theorem Dev.tableScrub_crosspoint_corrected (e : Nat) :
    d.tableScrub .crosspoint e .corrected = ((d.count Obj.RMB_TABLE_CE).pulse Flt.XP_TABLE_CE).rmbDone 0 := rfl

theorem Dev.tableScrub_gain_corrected (e : Nat) :
    d.tableScrub .gain e .corrected = ((d.count Obj.RMB_TABLE_CE).pulse Flt.GAIN_CE).rmbDone 0 := rfl

theorem Dev.tableScrub_shuffle_corrected (e : Nat) :
    d.tableScrub .shuffle e .corrected = (d.count Obj.RMB_TABLE_CE).rmbDone 0 := rfl

/-- An uncorrectable error in the journal costs its entries, open and armed. -/
theorem Dev.tableScrub_journal_uncorrectable (e : Nat) :
    d.tableScrub .journal e .uncorrectable =
      (({ d with mix := { d.mix with opened := [], armed := [], armedE := none } } : Dev).pulse Flt.JOURNAL_ECC).rmbDone 0 := rfl

theorem Dev.tableScrub_shuffle_uncorrectable (e : Nat) :
    d.tableScrub .shuffle e .uncorrectable = (d.breakEntry .shuffle e).rmbDone 0 := rfl

theorem Dev.tableScrub_gain_uncorrectable (e : Nat) :
    d.tableScrub .gain e .uncorrectable = (({ d with mix := { d.mix with
      bad := if d.mix.bad.contains e then d.mix.bad else d.mix.bad ++ [e] } } : Dev).count Obj.MIX_ECC_ERR).rmbDone 0 := rfl

end

/-- A cell that had no error is marked, and counts. -/
theorem Dev.tableScrub_gain_of_good_cell {d : Dev} {e : Nat} (he : e ∉ d.mix.bad) :
    d.tableScrub .gain e .uncorrectable =
      (({ d with mix := { d.mix with bad := d.mix.bad ++ [e] } } : Dev).count Obj.MIX_ECC_ERR).rmbDone 0 := by
  rw [Dev.tableScrub_gain_uncorrectable, if_neg (mt List.contains_iff_mem.mp he)]

/-! ### Restores of entries (R466) -/

section
variable {d : Dev} {t : ScrubTable} {e : Nat}

theorem Dev.restoreEntry_of_whole (hb : d.broken.find? (fun b => b.table == t && b.entry == e) = none) : d.restoreEntry t e = d := by
  simp only [Dev.restoreEntry, hb]

/-- The saved values go back, and the table's source falls with its last broken entry. -/
theorem Dev.restoreEntry_of_broken {b : Broken} {src : Nat} {c : Dev}
    (hb : d.broken.find? (fun b => b.table == t && b.entry == e) = some b) (hs : scrubSource t = some src)
    (hc : c = (b.saved.foldl (fun (d : Dev) kv => d.putEntry kv.1 kv.2)
      ({ d with broken := d.broken.filter (fun x => !(x.table == t && x.entry == e)) } : Dev)).count Obj.RMB_TABLE_UE) :
    d.restoreEntry t e = if c.broken.any (fun x => x.table == t) then c else c.setLine src false := by
  simp only [Dev.restoreEntry, hb, hs, ← hc]

end

/-! ### Temperatures (Table 13.6) -/

/-- The readings `vs`, the highest ever, which starts with the first sample, and the three lines. -/
theorem Dev.temperature_eq {d c e : Dev} {ts : List (Option Int)} {vs : List Int} {hi : Int} (hv : vs = ts.filterMap id)
    (hc : c = d.modLife (fun x => { x with sampled := x.sampled || !vs.isEmpty }))
    (hh : hi = vs.foldl max (if d.life.sampled then c.sreg 8 Obj.TEL_TEMP_MAX else vs.headD 0))
    (he : e = ((((List.range 8).foldl (fun d k => match ts.getD k none with | some v => d.setSreg 8 Obj.TEL_TEMP k v | none => d) c).setSreg 8
      Obj.TEL_TEMP_MAX 0 hi).setLine Flt.TEMP_HIGH (vs.any (fun v => decide (105 ≤ v)))).setLine Flt.TEMP_CRIT
        (vs.any (fun v => decide (115 ≤ v)))) :
    d.temperature ts = (e.setLine Flt.TEMP_SENSOR
      (vs.any (fun a => vs.any (fun b => decide (10 < a - b))) || (List.range 8).any (fun k => (ts.getD k none).isNone))).rmbDone 2 := by
  have hfirst : (if !d.life.sampled then vs.headD 0 else c.sreg 8 Obj.TEL_TEMP_MAX) =
      if d.life.sampled then c.sreg 8 Obj.TEL_TEMP_MAX else vs.headD 0 := by
    cases d.life.sampled <;> rfl
  simp only [Dev.temperature, ← hv, ← hc, hfirst, ← hh]
  subst he
  rfl

/-! ### Flash logs (R464) -/

/-- What the logs mean is kept; the two open values are what is freed and worn. -/
theorem Dev.flashCompaction_eq {d c : Dev}
    (hc : c = d.modNv (fun v => { v with stores := v.stores.map compactLog, gainLog := compactLog v.gainLog })) :
    d.flashCompaction = (((c.draw 76).2.draw 2).2.modNv (fun v => { v with
      flashFree := 25 + (c.draw 76).1, eraseMax := min 0xFFFFFFFF (v.eraseMax + ((c.draw 76).2.draw 2).1) })).rmbDone 6 := by
  rw [hc]
  rfl

/-! ### Telemetry (R468) -/

/-- A list of which no subscription takes telemetry takes no record. -/
theorem Dev.telList_of_none {d : Dev} {obj : Nat} (h : ∀ k < 16, subLive (d.reg obj k) 2 = false) (subs : SMap SubX) (at_ snap : Nat) :
    d.telList obj subs at_ snap = (subs, false) := by
  unfold Dev.telList
  refine List.foldlRecOn (motive := (· = (subs, false))) _ _ rfl ?_
  rintro _ rfl k hk
  simp only [h k (List.mem_range.mp hk), Bool.false_eq_true, if_false]

/-- Where no subscription of the device takes telemetry, and it does not act for its pair, a snapshot is its index and the classes' rates. -/
theorem Dev.telemetry_of_no_subscription {d c e : Dev} {n : Nat}
    (hc : c = d.passToMt (if d.now / msMt 100 % 2 ^ 32 = d.reg Obj.TEL_SNAP then (d.now / msMt 100 + 1) * msMt 100 else d.now))
    (hn : n = c.now / msMt 100)
    (he : e = (((List.range 6).foldl (fun d k => d.setReg Obj.FM_CLASS_USED k (smGet d.fm.served k 0 * 80 / 1000000)) c).modFm (fun f => { f with
      served := [] })).setReg Obj.TEL_SNAP 0 (n % 2 ^ 32))
    (hs : ∀ k < 16, subLive (e.reg Obj.SUB_OWN k) 2 = false) (ha : e.acts = false) : d.telemetry = e := by
  simp only [Dev.telemetry, ← hc, ← hn, ← he, ha, Dev.telList_of_none hs, Bool.false_eq_true, if_false, Bool.or_false]
  rfl

/-! ### The five commands in a running device -/

section
variable {s : State} {d : Dev} (h : s.dev.life.held = false)
include h

theorem exec_tableScrub {t : ScrubTable} {e : Nat} {o : EccOutcome} {u : Bool} (hd : s.dev.tableScrub t e o = d) :
    exec (.tableScrub t e o u) s = .next (s.after d) := State.live_next h hd

theorem exec_tableEntryRestore {t : ScrubTable} {e : Nat} (hd : s.dev.restoreEntry t e = d) :
    exec (.tableEntryRestore t e) s = .next (s.after d) := State.live_next h hd

theorem exec_temperatureSample {ts : List (Option Int)} (hd : s.dev.temperature ts = d) :
    exec (.temperatureSample ts) s = .next (s.after d) := State.live_next h hd

theorem exec_flashCompaction (hd : s.dev.flashCompaction = d) : exec .flashCompaction s = .next (s.after d) := State.live_next h hd

theorem exec_telemetrySnapshot (hd : s.dev.telemetry = d) : exec .telemetrySnapshot s = .next (s.after d) := State.live_next h hd

end

/-- Settles O45: a scrub goes by its table and its outcome, a restore by the broken entries, and a snapshot that no subscription takes is
its index and the classes' rates. -/
theorem ramblerTasks : Obligations.RamblerTasks := by
  unfold Obligations.RamblerTasks
  refine ⟨?tables, ?temperatures, ?flash, ?telemetry⟩
  case tables =>
    intro s e u d h
    refine ⟨fun t => exec_tableScrub h (Dev.tableScrub_clean _ t e), ?corrected,
      exec_tableScrub h (Dev.tableScrub_journal_uncorrectable _ e), exec_tableScrub h (Dev.tableScrub_shuffle_uncorrectable _ e),
      fun he => exec_tableScrub h (Dev.tableScrub_gain_of_good_cell he),
      fun t hb => exec_tableEntryRestore h (Dev.restoreEntry_of_whole hb),
      fun t b src hb hs hd => exec_tableEntryRestore h (Dev.restoreEntry_of_broken hb hs hd)⟩
    case corrected =>
      rintro rfl
      exact ⟨exec_tableScrub h (Dev.tableScrub_crosspoint_corrected _ e), exec_tableScrub h (Dev.tableScrub_gain_corrected _ e),
        exec_tableScrub h (Dev.tableScrub_shuffle_corrected _ e)⟩
  case temperatures =>
    intro s ts vs hi c d h hv hc hh hd
    exact exec_temperatureSample h (Dev.temperature_eq hv hc hh hd)
  case flash =>
    intro s d h hd
    exact exec_flashCompaction h (Dev.flashCompaction_eq hd)
  case telemetry =>
    intro s n c d h hc hn hd hs ha
    exact exec_telemetrySnapshot h (Dev.telemetry_of_no_subscription hc hn hd hs ha)

end Sys2Proof.Machine
end

section
/-! Frame memory requests: where one is turned away, what enters a queue, and what a transfer writes or reads (R12, R314, R319, R320,
R329, R332, R513). -/

namespace Sys2Proof.Machine

/-! ### Arrival (R314, R320) -/

/-- Every class's region ends within the memory. -/
theorem fmInRegion_le {q : FmReq} (hc : q.cls.val < 4) (hr : fmInRegion q = true) : q.offset.toNat + q.len ≤ 0xC00000000 := by
  have hends : ∀ c < 4, (classRegion c).1 + (classRegion c).2 ≤ 0xC00000000 := by decide
  have hend := hends _ hc
  simp only [fmInRegion, Bool.and_eq_true, decide_eq_true_eq] at hr
  omega

section
variable {d : Dev} {q : FmReq}

theorem Dev.fmRequest_of_outside_region (hc : q.cls.val < 4) (hr : fmInRegion q = false) : d.fmRequest q = d.pulse Flt.FM_REGION := by
  simp [Dev.fmRequest, hc, hr]

section
variable (hc : 4 ≤ q.cls.val)
include hc

theorem Dev.fmRequest_of_reserved (ho : 0xBD0000000 ≤ q.offset.toNat) (hi : q.inst ≠ 7) :
    d.fmRequest q = d.busAnswer q.inst 2 (List.replicate q.len 0) := by
  simp [Dev.fmRequest, Nat.not_lt.mpr hc, hc, inReserve, ho, hi]

theorem Dev.fmRequest_of_beyond (ho : q.offset.toNat < 0xBD0000000 ∨ q.inst = 7) (he : 0xC00000000 < q.offset.toNat + q.len) :
    d.fmRequest q = d.busAnswer q.inst 1 (List.replicate q.len 0) := by
  have hopen : ¬ (0xBD0000000 ≤ q.offset.toNat ∧ q.inst ≠ 7) := by omega
  simp [Dev.fmRequest, Nat.not_lt.mpr hc, hc, inReserve, hopen, he]

end

theorem Dev.fmRequest_of_inside (h : (q.cls.val < 4 ∧ fmInRegion q = true) ∨
    (4 ≤ q.cls.val ∧ (q.offset.toNat < 0xBD0000000 ∨ q.inst = 7) ∧ q.offset.toNat + q.len ≤ 0xC00000000)) :
    d.fmRequest q = (d.modFm (fun x => { x with held := x.held ++ [q] })).fmSettle := by
  obtain ⟨hc, hr⟩ | ⟨hc, ho, he⟩ := h
  · have he := Nat.not_lt.mpr (fmInRegion_le hc hr)
    simp [Dev.fmRequest, hr, Nat.not_le.mpr hc, he]
  · have hopen : ¬ (0xBD0000000 ≤ q.offset.toNat ∧ q.inst ≠ 7) := by omega
    simp [Dev.fmRequest, Nat.not_lt.mpr hc, hc, inReserve, hopen, Nat.not_lt.mpr he]

end

theorem exec_fmRequest {s : State} {q : FmReq} {cs : List (List (Fin 3072))} {ks : List (List Nat)} {d : Dev}
    (h : s.dev.life.held = false) (hk : ks = cs.map (fun c => c.map (·.val))) (hd : s.dev.fmRequest q = d) :
    exec (.fmRequest ⟨q, cs⟩) s = .next (s.after (d.fmRun ks)) := by
  subst hk hd
  exact State.live_next h rfl

/-! ### Admission (R12, R319, R320) -/

/-- Write `q` is the newest of pseudo-channel `pc`'s writes. -/
def Dev.fmQueueWrite (d : Dev) (pc : Nat) (q : FmReq) (inBudget : Bool) : Dev :=
  (d.setFmQueue pc true (d.fmQueue pc true ++ [⟨q, d.fm.accepted, d.clock, inBudget, []⟩])).modFm (fun x => { x with
    accepted := x.accepted + 1 })

section
variable {d : Dev} {q : FmReq} {pc : Nat} (hpc : pc = (d.fmCoord q.offset.toNat).pc)
include hpc

theorem Dev.fmAdmit_of_no_room (h : d.pcServes pc = false ∨ 64 ≤ (d.fmQueue pc q.write).length) : d.fmAdmit q = none := by
  subst hpc
  exact if_pos (by simpa [fmDepth] using h)

section
variable (hs : d.pcServes pc = true) (hl : (d.fmQueue pc q.write).length < 64)
include hs hl

theorem Dev.fmAdmit_of_background_without_tokens (hc : q.cls.val = 5) (ht : d.takeTokens 5 q.len = none) : d.fmAdmit q = none := by
  subst hpc
  simp [Dev.fmAdmit, hs, fmDepth, Nat.not_le.mpr hl, hc, ht]

theorem Dev.fmAdmit_of_write_in_budget {e : Dev} (hw : q.write = true) (ht : d.takeTokens q.cls.val q.len = some e) :
    d.fmAdmit q = some (e.fmQueueWrite pc q true) := by
  subst hpc
  rw [hw] at hl
  simp [Dev.fmAdmit, hs, fmDepth, Nat.not_le.mpr hl, hw, ht, Dev.fmQueueWrite]

theorem Dev.fmAdmit_of_write_over_budget (hw : q.write = true) (hc : q.cls.val ≠ 5) (ht : d.takeTokens q.cls.val q.len = none) :
    d.fmAdmit q = some (((d.count Obj.FM_CLASS_OVER q.cls.val).pulse Flt.FM_CLASS_OVER).fmQueueWrite pc q false) := by
  subst hpc
  rw [hw] at hl
  simp [Dev.fmAdmit, hs, fmDepth, Nat.not_le.mpr hl, hw, hc, ht, Dev.fmQueueWrite]

end
end

/-! ### Units of a request (R320) -/

section
variable {q : FmReq} {u : Nat}

theorem fmUnits_of_within {o : Nat} (ha : q.offset.toNat = 32 * u + o) (hpos : 0 < q.len) (hend : o + q.len ≤ 32) : fmUnits q = [u] := by
  have hfirst : q.offset.toNat / 32 = u := by omega
  have hlast : (q.offset.toNat + q.len - 1) / 32 = u := by omega
  simp [fmUnits, Nat.pos_iff_ne_zero.mp hpos, hfirst, hlast]

theorem fmCovers_of_short (hlen : q.len < 32) : fmCovers q u = false := by
  simp only [fmCovers, Bool.and_eq_false_iff, decide_eq_false_iff_not]
  omega

section
variable (ha : q.offset.toNat = 32 * u) (hlen : q.len = 32)
include ha hlen

theorem fmUnits_of_whole : fmUnits q = [u] := fmUnits_of_within (o := 0) ha (by omega) (by omega)

theorem fmCovers_of_whole : fmCovers q u = true := by
  simp [fmCovers, ha, hlen]

end
end

/-! ### What a unit reads and its poison depend on (R332) -/

theorem Dev.SameBut.fmUnit {d e : Dev} (h : d.SameBut e) (u : Nat) : e.fmUnit u = d.fmUnit u := by
  unfold Dev.fmUnit
  rw [h.fm]

theorem Dev.fmPoisoned_of_rewritten {d : Dev} {u : Nat} (hp : u ∉ d.fm.poison) (hr : d.fm.gone = 0 ∨ u ∈ d.fm.rewritten) :
    d.fmPoisoned u = false := by
  obtain hr | hr := hr <;> simp [Dev.fmPoisoned, hp, hr]

theorem Dev.busAnswer_fmUnit (d : Dev) (m resp : Nat) (data : Bytes) (u : Nat) : (d.busAnswer m resp data).fmUnit u = d.fmUnit u := by
  unfold Dev.busAnswer
  split
  · rfl
  · exact (d.count_sameBut _ _ _).fmUnit u

/-- `len` bytes of class `cls` are counted as served. -/
def Dev.fmServed (d : Dev) (cls len : Nat) : Dev :=
  d.modFm (fun x => { x with served := smSet x.served cls (smGet x.served cls 0 + len) 0 })

/-- A read of `n` poisoned units of pseudo-channel `pc` is counted and reported. -/
def Dev.fmPoisonRead (d : Dev) (pc n : Nat) : Dev := (d.count Obj.FM_POISON_READ pc n).pulse Flt.FM_POISON_READ (some (pcChan pc))

theorem Dev.fmPoisonRead_fmUnit (d : Dev) (pc n u : Nat) : (d.fmPoisonRead pc n).fmUnit u = d.fmUnit u :=
  ((d.count_sameBut _ _ _).trans (Dev.pulse_sameBut _ _ _)).fmUnit u

/-! ### Transfers of one unit (R330 to R332, R513) -/

/-- A write that covers its unit stores its data there. -/
theorem Dev.writeUnit_of_whole {q : FmReq} {u : Nat} (ha : q.offset.toNat = 32 * u) (hlen : q.len = 32) (hdata : q.data.length = 32)
    (d : Dev) : d.writeUnit q u = (d.setFmUnit u q.data).modFm (fun x => { x with
      poison := x.poison.filter (· != u)
      rewritten := if x.gone = 0 ∨ x.rewritten.contains u then x.rewritten else x.rewritten ++ [u] }) := by
  have hnew : (List.range 32).map (fun i =>
      if q.offset.toNat ≤ 32 * u + i ∧ 32 * u + i < q.offset.toNat + q.len then q.data.getD (32 * u + i - q.offset.toNat) 0
      else (d.fmUnit u).getD i 0) = q.data := by
    refine List.ext_getElem (by simp [hdata]) fun i hi hi' => ?_
    have hi32 : i < 32 := hdata ▸ hi'
    simp [ha, hlen, hi32, hi']
  simp only [Dev.writeUnit, hnew, fmCovers_of_whole ha hlen, if_true]

section
variable {d : Dev} {q : FmReq} {u : Nat}

section
variable (ha : q.offset.toNat = 32 * u) (hlen : q.len = 32) (hdata : q.data.length = 32)
include ha hlen hdata

theorem Dev.writeUnit_fmUnit_same : (d.writeUnit q u).fmUnit u = q.data := by
  rw [Dev.writeUnit_of_whole ha hlen hdata]
  exact Dev.fmUnit_setFmUnit u hdata

theorem Dev.writeUnit_fmUnit_other {v : Nat} (hne : v ≠ u) : (d.writeUnit q u).fmUnit v = d.fmUnit v := by
  rw [Dev.writeUnit_of_whole ha hlen hdata]
  exact d.fmUnit_setFmUnit_other _ hne

theorem Dev.writeUnit_unpoisoned :
    u ∉ (d.writeUnit q u).fm.poison ∧ ((d.writeUnit q u).fm.gone = 0 ∨ u ∈ (d.writeUnit q u).fm.rewritten) := by
  rw [Dev.writeUnit_of_whole ha hlen hdata]
  refine ⟨by simp, ?_⟩
  by_cases hg : d.fm.gone = 0
  · exact .inl hg
  · by_cases hr : u ∈ d.fm.rewritten
    · exact .inr (by simp [Dev.setFmUnit, hr])
    · exact .inr (by simp [Dev.setFmUnit, hg, hr])

end

/-- Where check bytes show nothing, a read marks nothing. -/
theorem Dev.eccSeen_clean (d : Dev) (u : Nat) : d.eccSeen u 0 .clean = d := by
  simp [Dev.eccSeen]

section
variable (hc : q.cls = 5)
include hc

theorem Dev.fmTransfer_of_whole_write (hw : q.write = true) (ha : q.offset.toNat = 32 * u) (hlen : q.len = 32) :
    d.fmTransfer q [] = (((d.fmServed 5 32).writeUnit q u).busAnswer q.inst 0 []).closePage (d.fmBank q) := by
  simp [Dev.fmTransfer, hc, hw, fmUnits_of_whole ha hlen, fmCovers_of_whole ha hlen, hlen, Dev.fmServed]

section
variable (hecc : q.ecc = .clean) (hod : q.odecc = 0)
include hecc hod

theorem Dev.fmTransfer_of_partial_write_of_poisoned {o : Nat} (hw : q.write = true) (ha : q.offset.toNat = 32 * u + o) (hpos : 0 < q.len)
    (hshort : q.len < 32) (hend : o + q.len ≤ 32) (hp : d.fmPoisoned u = true) :
    d.fmTransfer q [] = ((d.fmServed 5 q.len).busAnswer q.inst 3 []).closePage (d.fmBank q) := by
  have hserved : (d.fmServed 5 q.len).fmPoisoned u = true := hp
  unfold Dev.fmServed at hserved ⊢
  simp [Dev.fmTransfer, hc, hw, fmUnits_of_within ha hpos hend, fmCovers_of_short hshort, smGet, hecc, hod, Dev.eccSeen_clean, hserved]

section
variable (hw : q.write = false) (ha : q.offset.toNat = 32 * u) (hlen : q.len = 32)
include hw ha hlen

theorem Dev.fmTransfer_of_read (hp : d.fmPoisoned u = false) :
    d.fmTransfer q [] = ((d.fmServed 5 32).busAnswer q.inst 0 ((d.fmUnit u).take 32)).closePage (d.fmBank q) := by
  have hserved : (d.fmServed 5 32).fmPoisoned u = false := hp
  have hunit : (d.fmServed 5 32).fmUnit u = d.fmUnit u := rfl
  unfold Dev.fmServed at hserved hunit ⊢
  simp [Dev.fmTransfer, hc, hw, fmUnits_of_whole ha hlen, smGet, hecc, hod, Dev.eccSeen_clean, hserved, ha, hlen, hunit]

theorem Dev.fmTransfer_of_poisoned_read (hp : d.fmPoisoned u = true) :
    d.fmTransfer q [] = (((d.fmServed 5 32).fmPoisonRead (d.fmBank q / 48) 1).busAnswer q.inst 3 (List.replicate 32 0)).closePage
      (d.fmBank q) := by
  have hserved : (d.fmServed 5 32).fmPoisoned u = true := hp
  unfold Dev.fmServed at hserved ⊢
  simp [Dev.fmTransfer, hc, hw, fmUnits_of_whole ha hlen, smGet, hecc, hod, Dev.eccSeen_clean, hserved, hlen, Dev.fmPoisonRead]

end
end
end
end

/-! ### What an answered transfer leaves -/

/-- The answer to the control bus stands, and the page's close and the answer change no unit. -/
theorem Dev.closePage_busAnswer (d : Dev) (k m resp : Nat) (data : Bytes) :
    ((d.busAnswer m resp data).closePage k).bus.resp = resp ∧ ((d.busAnswer m resp data).closePage k).bus.data = data ∧
    ∀ v, ((d.busAnswer m resp data).closePage k).fmUnit v = d.fmUnit v :=
  ⟨rfl, rfl, d.busAnswer_fmUnit m resp data⟩

/-- Settles O33: a request by its class and place, its admission by the pseudo-channel, the queue and its tokens, and a transfer of one
unit as an equation of the device it leaves. -/
theorem frameMemoryRequests : Obligations.FrameMemoryRequests := by
  unfold Obligations.FrameMemoryRequests
  refine ⟨?arrival, ?admission, ?wholeWrite, ?partialWrite, ?read⟩
  case arrival =>
    intro s q cs ks h hk
    exact ⟨fun hc hr => exec_fmRequest h hk (Dev.fmRequest_of_outside_region hc hr),
      fun hc ho hi => exec_fmRequest h hk (Dev.fmRequest_of_reserved hc ho hi),
      fun hc ho he => exec_fmRequest h hk (Dev.fmRequest_of_beyond hc ho he),
      fun hin => exec_fmRequest h hk (Dev.fmRequest_of_inside hin)⟩
  case admission =>
    intro d q pc hpc
    refine ⟨Dev.fmAdmit_of_no_room hpc, fun hs hl => ⟨Dev.fmAdmit_of_background_without_tokens hpc hs hl,
      fun e => Dev.fmAdmit_of_write_in_budget hpc hs hl, ?overBudget⟩⟩
    case overBudget =>
      rintro e hw hc ht rfl
      exact Dev.fmAdmit_of_write_over_budget hpc hs hl hw hc ht
  case wholeWrite =>
    intro d q u hw hc ha hlen hdata
    rw [Dev.fmTransfer_of_whole_write hc hw ha hlen]
    obtain ⟨hresp, -, hunits⟩ := ((d.fmServed 5 32).writeUnit q u).closePage_busAnswer (d.fmBank q) q.inst 0 []
    obtain ⟨hpoison, hgone⟩ := Dev.writeUnit_unpoisoned ha hlen hdata (d := d.fmServed 5 32)
    exact ⟨(hunits u).trans (Dev.writeUnit_fmUnit_same ha hlen hdata), Dev.fmPoisoned_of_rewritten hpoison hgone, hresp,
      fun v hne => (hunits v).trans (Dev.writeUnit_fmUnit_other ha hlen hdata hne)⟩
  case partialWrite =>
    intro d q u o hw hc ha hpos hshort hend hecc hod hp
    rw [Dev.fmTransfer_of_partial_write_of_poisoned hc hecc hod hw ha hpos hshort hend hp]
    obtain ⟨hresp, -, hunits⟩ := (d.fmServed 5 q.len).closePage_busAnswer (d.fmBank q) q.inst 3 []
    exact ⟨hresp, hunits⟩
  case read =>
    intro d q u hw hc ha hlen hecc hod
    obtain ⟨hresp, hdata, hunits⟩ := (d.fmServed 5 32).closePage_busAnswer (d.fmBank q) q.inst 0 ((d.fmUnit u).take 32)
    obtain ⟨hbad, hzeros, hkept⟩ := ((d.fmServed 5 32).fmPoisonRead (d.fmBank q / 48) 1).closePage_busAnswer (d.fmBank q) q.inst 3
      (List.replicate 32 0)
    have hgood := Dev.fmTransfer_of_read hc hecc hod hw ha hlen (d := d)
    have hpoisoned := Dev.fmTransfer_of_poisoned_read hc hecc hod hw ha hlen (d := d)
    refine ⟨fun hp => hgood hp ▸ ⟨hresp, hdata⟩, fun hp => hpoisoned hp ▸ ⟨hbad, hzeros⟩, fun v => ?_⟩
    cases hp : d.fmPoisoned u with
    | false => exact hgood hp ▸ hunits v
    | true => exact hpoisoned hp ▸ (hkept v).trans (Dev.fmPoisonRead_fmUnit _ _ _ v)

end Sys2Proof.Machine
end

section
/-! Background work of the frame memory: write-back, refresh, temperature, row-hammer windows, idle pages, retraining, the end of a
retirement copy, scrub (R316, R317, R323 to R326, R328, R329, R331, R333, R336). -/

namespace Sys2Proof.Machine

/-! ### Class 5's tokens (R320) -/

section
variable {d e : Dev} {c len : Nat}

theorem Dev.takeTokens_frame (h : d.takeTokens c len = some e) :
    ∃ x, e = d.modFm (fun f => { f with spent := smSet f.spent c x (0, 0) }) := by
  simp only [Dev.takeTokens, Option.ite_none_right_eq_some, Option.some.injEq] at h
  exact ⟨_, h.2.symm⟩

theorem Dev.fmServed_reg_of_tokens (h : d.takeTokens c len = some e) (n i : Nat) : (e.fmServed c len).reg n i = d.reg n i := by
  obtain ⟨x, rfl⟩ := Dev.takeTokens_frame h
  rfl

theorem Dev.fmBackground_of_tokens {f : Dev → Dev} (h : d.takeTokens 5 len = some e) : d.fmBackground len f = f (e.fmServed 5 len) := by
  simp only [Dev.fmBackground, h, Dev.fmServed]

theorem Dev.fmBackground_of_none {f : Dev → Dev} (h : d.takeTokens 5 len = none) : d.fmBackground len f = d := by
  simp only [Dev.fmBackground, h]

end

/-! ### Write-back (R331) -/

section
variable {d : Dev} {u : Nat}

theorem Dev.fmWriteback_of_kept (h : d.fm.writeback.contains u = false ∨ d.takeTokens 5 32 = none) : d.fmWriteback u = d := by
  unfold Dev.fmWriteback
  obtain h | h := h
  · simp only [h, Bool.false_eq_true, if_false]
  · rw [Dev.fmBackground_of_none h, ite_self]

theorem Dev.fmWriteback_of_waiting {e : Dev} (hw : d.fm.writeback.contains u = true) (ht : d.takeTokens 5 32 = some e) :
    d.fmWriteback u = (e.fmServed 5 32).modFm (fun x => { x with writeback := x.writeback.filter (· != u) }) := by
  simp only [Dev.fmWriteback, hw, if_true, Dev.fmBackground_of_tokens ht]

end

/-! ### Refresh (R324 to R326) -/

section
variable {d : Dev} {pc bank : Nat}

theorem Dev.refreshTick_of_not_serving (hs : d.pcServes pc = false) : d.refreshTick pc bank = d := by
  simp [Dev.refreshTick, hs]

section
variable (hs : d.pcServes pc = true) {k : Nat} (hk : k = 48 * pc + bank) {c : Dev} (hc : c = d.passTo (d.bank k).tickAt) {x : BankX}
  (hx : x = { c.bank k with
    debt := (c.bank k).debt + 1, tickAt := (if (c.bank k).tickAt = 0 then c.clock else (c.bank k).tickAt) + c.fmRefi pc })
  (hmax : x.debt ≤ c.reg Obj.FM_REF_DEBT_MAX pc) {e : Dev}
include hs hk hc hx hmax

theorem Dev.refreshTick_of_forced (hhot : c.fmHot pc = true)
    (he : e = (c.count Obj.FM_REF_FORCED pc).setBank k { x with debt := x.debt - 1, open_ := 0 }) :
    d.refreshTick pc bank = if 9 < (e.bank k).debt then e.setLine Flt.FM_REFRESH true else e := by
  subst hx he
  have hpos : 0 < (c.bank k).debt + 1 := Nat.succ_pos _
  dsimp only at hmax
  simp only [Dev.refreshTick, hs, Bool.not_true, Bool.false_eq_true, if_false, ← hk, ← hc, Nat.not_lt.mpr hmax, hhot, if_true, hpos]

theorem Dev.refreshTick_of_postponed (hhot : c.fmHot pc = false) (hp : x.debt ≤ c.reg Obj.FM_REF_POSTPONE)
    (he : e = (c.setBank k x).fmRefreshFree) :
    d.refreshTick pc bank = if 9 < (e.bank k).debt then e.setLine Flt.FM_REFRESH true else e := by
  subst hx he
  dsimp only at hmax hp
  simp only [Dev.refreshTick, hs, Bool.not_true, Bool.false_eq_true, if_false, ← hk, ← hc, Nat.not_lt.mpr hmax, hhot, Nat.not_lt.mpr hp]

end
end

/-! ### Temperature (R326) -/

/-- A stack becomes hot. -/
def Dev.stackHot (d : Dev) (st : Nat) : Dev :=
  (((d.setReg Obj.FM_HOT st 1).count Obj.FM_HOT_ENTRIES st).setLine (Flt.HBM_HOT + st) true).payback st

section
variable {d : Dev} {st : Nat}

theorem Dev.fmTemp_of_unread (hcool : d.flag Obj.FM_HOT st = false) : d.fmTemp st none = d.stackHot st := by
  simp [Dev.fmTemp, hcool, Dev.stackHot]

section
variable {t : Int} {e : Dev} (he : e = (d.setSreg 8 Obj.FM_TEMP st t).setLine (Flt.HBM_OVERTEMP + st) (decide (100 ≤ t)))
  (hcool : e.flag Obj.FM_HOT st = false)
include he hcool

theorem Dev.fmTemp_of_above (ht : 85 < t) : d.fmTemp st (some t) = e.stackHot st := by
  simp [Dev.fmTemp, ← he, hcool, ht, Dev.stackHot]

theorem Dev.fmTemp_of_below (ht : t ≤ 85) : d.fmTemp st (some t) = e := by
  simp [Dev.fmTemp, ← he, hcool, Int.not_lt.mpr ht]

end
end

/-! ### Idle pages (R323) -/

section
variable {d : Dev} {pc bank : Nat}

theorem Dev.pageIdle_of_kept (h : d.reg Obj.FM_PAGE_IDLE = 0 ∨ (d.bank (48 * pc + bank)).open_ = 0) : d.pageIdle pc bank = d := if_pos h

theorem Dev.pageIdle_of_open (hi : d.reg Obj.FM_PAGE_IDLE ≠ 0) (ho : (d.bank (48 * pc + bank)).open_ ≠ 0) : d.pageIdle pc bank =
    (d.passTo ((d.bank (48 * pc + bank)).usedAt + d.reg Obj.FM_PAGE_IDLE)).setBank (48 * pc + bank)
      { d.bank (48 * pc + bank) with open_ := 0 } := if_neg (not_or.mpr ⟨hi, ho⟩)

end

/-! ### Retraining (R336) -/

section
variable {d : Dev}

theorem Dev.retrainStart_of_early (h : d.fm.retrain ≠ 0 ∨ d.clock < d.fm.retrainAt + d.reg Obj.FM_RETRAIN_GAP * 1000000000) :
    d.retrainStart = d := if_pos h

theorem Dev.retrainStart_of_due {pc : Nat} (h0 : d.fm.retrain = 0)
    (hgap : d.fm.retrainAt + d.reg Obj.FM_RETRAIN_GAP * 1000000000 ≤ d.clock) (hn : d.nextRetrain = some pc) :
    d.retrainStart = d.modFm (fun x => { x with retrain := pc + 1, retrainStep := 0 }) := by
  simp [Dev.retrainStart, h0, Nat.not_lt.mpr hgap, hn]

section
variable {pc w : Nat} {centred : Bool}

theorem Dev.retrainStep_of_kept (h : d.fm.retrain ≠ pc + 1 ∨ 48 ≤ (d.fmQueue pc false).length ∨ d.clock < d.fm.stepAt + 10000 ∨
    d.takeTokens 5 retrainBytes = none) : d.retrainStep pc centred w = d := by
  unfold Dev.retrainStep
  dsimp only
  split
  · rfl
  · next hgo => exact Dev.fmBackground_of_none (by tauto)

/-- A task that leaves the device as it is has not completed a retrain. -/
theorem Dev.retrainTask_of_kept (h : d.retrainStep pc centred w = d) : d.retrainTask pc centred w = d := by
  simp only [Dev.retrainTask, h]
  exact if_neg fun hboth => hboth.1 hboth.2

/-- A step that leaves a retrain in hand is no completion of the task. -/
theorem Dev.retrainTask_of_running {n : Dev} (h : d.retrainStep pc centred w = n) (hn : n.fm.retrain ≠ 0) :
    d.retrainTask pc centred w = n := by
  simp only [Dev.retrainTask, h, hn, and_false, if_false]

theorem Dev.retrainTask_of_completed {n : Dev} (hr : d.fm.retrain ≠ 0) (h : d.retrainStep pc centred w = n) (hn : n.fm.retrain = 0) :
    d.retrainTask pc centred w = n.rmbDone 3 := by
  simp only [Dev.retrainTask, h, hr, hn, ne_eq, not_false_eq_true, and_self, if_true]

section
variable {e : Dev} (hr : d.fm.retrain = pc + 1)
  (hdebt : d.fm.banks.any (fun kv => kv.1 / 48 == pc && decide (6 ≤ kv.2.debt)) = false)
  (hq : (d.fmQueue pc false).length < 48) (hat : d.fm.stepAt + 10000 ≤ d.clock) (ht : d.takeTokens 5 retrainBytes = some e)
include hr hdebt hq hat ht

theorem Dev.retrainTask_of_step {n : Dev} (hs : d.fm.retrainStep + 1 < 256)
    (hn : n = (e.fmServed 5 retrainBytes).modFm (fun x => { x with retrainStep := x.retrainStep + 1, stepAt := d.clock })) :
    d.retrainTask pc centred w = n := by
  obtain ⟨x, rfl⟩ := Dev.takeTokens_frame ht
  have hrun : d.retrainStep pc centred w = n := by
    simp [Dev.retrainStep, hr, hdebt, Nat.not_le.mpr hq, Nat.not_lt.mpr hat, Dev.fmBackground_of_tokens ht, Dev.fmServed, hs, hn]
  exact Dev.retrainTask_of_running hrun (by simp [hn, Dev.fmServed, hr])

theorem Dev.retrainTask_of_last_step {n : Dev} (hs : d.fm.retrainStep = 255)
    (hn : n = (((e.fmServed 5 retrainBytes).modFm (fun x => { x with
      stepAt := d.clock, retrain := 0, retrainStep := 0, retrainLast := pc, retrainAt := d.clock })).setReg Obj.FM_EYE_WIDTH pc
        (w % 65536)).count Obj.FM_RETRAINS pc) (hw : n.reg Obj.FM_EYE_MIN ≤ w) :
    d.retrainTask pc true w = n.rmbDone 3 := by
  obtain ⟨x, rfl⟩ := Dev.takeTokens_frame ht
  have hrun : d.retrainStep pc true w = n := by
    subst hn
    simp only [Dev.retrainStep, hr, hdebt, Nat.not_le.mpr hq, Nat.not_lt.mpr hat, ne_eq, not_true_eq_false, Bool.false_eq_true, or_self,
      if_false, Dev.fmBackground_of_tokens ht, Dev.fmServed, Dev.modFm_fm, hs, Nat.lt_irrefl, Bool.true_and]
    exact if_pos (decide_eq_true hw)
  exact Dev.retrainTask_of_completed (by omega) hrun (by rw [hn, (Dev.count_sameBut _ _ _ _).fm]; rfl)

end
end
end

/-! ### The end of a retirement copy (R316, R317) -/

theorem Dev.fmCopyDone_of_none {d : Dev} (h : d.fm.copying = 0) : d.fmCopyDone = d := if_pos h

/-- The device that ends the copy of pseudo-channel `pc`: what the copy could not read, the states and the capacity that it leaves. -/
def Dev.copyEnded (d : Dev) (pc : Nat) (answers : Bool) (bad : List Nat) : Dev :=
  ((((({ d with freeN := d.freeN + 1 }.modFm (fun x => { x with
    copying := 0, gone := if answers then x.gone else pc + 1, rewritten := if answers then x.rewritten else []
    poison := x.poison ++ bad.filter (fun u =>
      (coordOf (fun k => d.reg Obj.FM_HASH_LIVE k) (32 * u)).pc == pc && !x.poison.contains u) })).setReg Obj.FM_PC_STATE pc
    pcRetired).setReg Obj.FM_RETIRED_PC 0 pc).setReg Obj.FM_CAPACITY 0 50734301184).setReg Obj.FM_PEAK 0 12902400).setReg
    Obj.FM_CLASS_BUDGET 5 258048

theorem Dev.fmCopyDone_of_copying {d e : Dev} {pc : Nat} {answers : Bool} {bad : List Nat} (h : d.fm.copying = pc + 1)
    (hr : Config.copyRead d.freeN = (answers, bad))
    (he : e = { d.copyEnded pc answers bad with nv := { (d.copyEnded pc answers bad).nv with fmRetired := pc } }) :
    d.fmCopyDone = e.event 0x4141 (refOf Obj.FM_PC_STATE pc) (e.poisonedRegions.map (BitVec.ofNat 8)) := by
  subst he
  simp only [Dev.fmCopyDone, h, Nat.succ_ne_zero, if_false, Nat.add_sub_cancel, hr]
  rfl

/-! ### Scrub (R333) -/

section
variable {d : Dev}

theorem Dev.eccSeen_corrected {u : Nat} (hp : d.fmPoisoned u = false) : d.eccSeen u 0 .corrected = d.correctUnit u := by
  simp [Dev.eccSeen, hp]

theorem Dev.eccSeen_uncorrectable {u : Nat} (hp : d.fmPoisoned u = false) : d.eccSeen u 0 .uncorrectable = d.poisonUnit u := by
  simp [Dev.eccSeen, hp]

/-- A scrub that leaves the device as it is has not completed a pass. -/
theorem Dev.scrubTask_of_none {o : EccOutcome} (h : d.takeTokens 5 32 = none) : d.scrubTask o = d := by
  simp only [Dev.scrubTask, Dev.fmScrub, Dev.fmBackground_of_none h]
  exact if_neg fun hboth => hboth.1 hboth.2

section
variable {c e : Dev} {pos : Nat} (ht : d.takeTokens 5 32 = some c) (he : e = c.fmServed 5 32) (hpos : pos = d.reg Obj.FM_SCRUB_POS)
include ht he hpos

/-- Below the top a scrub notes what its read showed, and moves on. -/
theorem Dev.scrubTask_of_below {o : EccOutcome} {n : Dev} (hn : (if e.pcServes (e.fmCoord pos).pc then e.eccSeen (pos / 32) 0 o else e) = n)
    (htop : pos + 32 < 51539607552) : d.scrubTask o = n.setReg Obj.FM_SCRUB_POS 0 (pos + 32) := by
  have hreg : e.reg Obj.FM_SCRUB_POS = pos := by rw [he, hpos, Dev.fmServed_reg_of_tokens ht]
  have hscrub : d.fmScrub o = n.setReg Obj.FM_SCRUB_POS 0 (pos + 32) := by
    simp only [Dev.fmScrub, Dev.fmBackground_of_tokens ht, ← he, hreg, hn, htop, if_true]
  have hmoved : (n.setReg Obj.FM_SCRUB_POS 0 (pos + 32)).reg Obj.FM_SCRUB_POS ≠ 0 := by
    rw [Dev.setReg_reg_of_ne (show pos + 32 ≠ 0 by omega)]
    omega
  simp only [Dev.scrubTask, hscrub, hmoved, and_false, if_false]

/-- At the top a clean read ends the pass, and with it the task. -/
theorem Dev.scrubTask_of_top {n : Dev} (htop : 51539607552 ≤ pos + 32)
    (hn : n = ((e.setReg Obj.FM_SCRUB_POS 0 0).count Obj.FM_SCRUB_PASSES).modFm (fun x => { x with passAt := e.clock }))
    (hzero : n.reg Obj.FM_SCRUB_POS = 0) : d.scrubTask .clean = n.rmbDone 5 := by
  have hreg : e.reg Obj.FM_SCRUB_POS = pos := by rw [he, hpos, Dev.fmServed_reg_of_tokens ht]
  have hscrub : d.fmScrub .clean = n := by
    simp only [Dev.fmScrub, Dev.fmBackground_of_tokens ht, ← he, hreg, Dev.eccSeen_clean, ite_self, Nat.not_lt.mpr htop, if_false, ← hn]
  have hstart : d.reg Obj.FM_SCRUB_POS ≠ 0 := by omega
  simp only [Dev.scrubTask, hscrub, hstart, hzero, ne_eq, not_false_eq_true, and_self, if_true]

end
end

/-! ### The ten commands in a running device -/

section
variable {s : State} {d : Dev} (h : s.dev.life.held = false)
include h

theorem exec_fmCeWriteback {u : Nat} (hd : s.dev.fmWriteback u = d) : exec (.fmCeWriteback u) s = .next (s.after d) :=
  State.live_next h hd

theorem exec_fmRefreshTick {pc : Fin 64} {sid : Fin 3} {b : Fin 16} (hd : s.dev.refreshTick pc.val (16 * sid.val + b.val) = d) :
    exec (.fmRefreshTick pc sid b) s = .next (s.after d) := State.live_next h hd

theorem exec_fmTempSample {st : Fin 2} {t : Option Int} (hd : s.dev.fmTemp st.val t = d) :
    exec (.fmTempSample st t) s = .next (s.after d) := State.live_next h hd

theorem exec_fmRhSubwindow (hd : s.dev.rhSubwindow = d) : exec .fmRhSubwindow s = .next (s.after d) := State.live_next h hd

theorem exec_fmRhThrottleEnd {c : Fin 6} {i : Nat} (hd : s.dev.throttleOver c.val i = d) :
    exec (.fmRhThrottleEnd c i) s = .next (s.after d) := State.live_next h hd

theorem exec_fmPageIdleClose {pc : Fin 64} {b : Fin 48} (hd : s.dev.pageIdle pc.val b.val = d) :
    exec (.fmPageIdleClose pc b) s = .next (s.after d) := State.live_next h hd

theorem exec_fmRetrainStart (hd : s.dev.retrainStart = d) : exec .fmRetrainStart s = .next (s.after d) := State.live_next h hd

theorem exec_fmRetrainStep {st : Fin 2} {x : Fin 32} {c : Bool} {w pc : Nat} (hpc : pc = 32 * st.val + x.val)
    (hd : s.dev.retrainTask pc c w = d) : exec (.fmRetrainStep st x c w) s = .next (s.after d) := by
  subst hpc
  exact State.live_next h hd

theorem exec_fmRetireCopyDone (hd : s.dev.fmCopyDone = d) : exec .fmRetireCopyDone s = .next (s.after d) := State.live_next h hd

theorem exec_fmScrub {o : EccOutcome} (hd : s.dev.scrubTask o = d) : exec (.fmScrub o) s = .next (s.after d) := State.live_next h hd

end

/-- Settles O34: each background command by the case of the controller that it meets. -/
theorem frameMemoryBackground : Obligations.FrameMemoryBackground := by
  unfold Obligations.FrameMemoryBackground
  refine ⟨?writeback, ?refresh, ?temperature, fun s h => exec_fmRhSubwindow h rfl, fun s c i h => exec_fmRhThrottleEnd h rfl, ?idlePage,
    ?retrainStart, ?retrainStep, ?copyDone, fun s o h ht => exec_fmScrub h (Dev.scrubTask_of_none ht), ?scrub⟩
  case writeback =>
    intro s u h
    exact ⟨fun hk => exec_fmCeWriteback h (Dev.fmWriteback_of_kept hk),
      fun d hw ht => exec_fmCeWriteback h (Dev.fmWriteback_of_waiting hw ht)⟩
  case refresh =>
    intro s pc sid b h
    refine ⟨fun hs => exec_fmRefreshTick h (Dev.refreshTick_of_not_serving hs), fun k d x e hs hk hd hx hmax => ?_⟩
    exact ⟨fun hhot he => exec_fmRefreshTick h (Dev.refreshTick_of_forced hs hk hd hx hmax hhot he),
      fun hhot hp he => exec_fmRefreshTick h (Dev.refreshTick_of_postponed hs hk hd hx hmax hhot hp he)⟩
  case temperature =>
    intro s st d e h hcool
    refine ⟨fun t hd he hcool' => ?_, exec_fmTempSample h (Dev.fmTemp_of_unread hcool)⟩
    subst hd
    exact ⟨fun ht => exec_fmTempSample h (Dev.fmTemp_of_above he hcool' ht),
      fun ht => exec_fmTempSample h (Dev.fmTemp_of_below he hcool' ht)⟩
  case idlePage =>
    intro s pc b h
    exact ⟨fun hk => exec_fmPageIdleClose h (Dev.pageIdle_of_kept hk),
      fun hi ho => exec_fmPageIdleClose h (Dev.pageIdle_of_open hi ho)⟩
  case retrainStart =>
    intro s h
    exact ⟨fun pc h0 hgap hn => exec_fmRetrainStart h (Dev.retrainStart_of_due h0 hgap hn),
      fun hr => exec_fmRetrainStart h (Dev.retrainStart_of_early (.inl hr)),
      fun ht => exec_fmRetrainStart h (Dev.retrainStart_of_early (.inr ht))⟩
  case retrainStep =>
    intro s st x pc w c h hpc
    refine ⟨fun d e hr hdebt hq hat ht => ⟨?step, ?last⟩,
      fun hk => exec_fmRetrainStep h hpc (Dev.retrainTask_of_kept (Dev.retrainStep_of_kept hk))⟩
    case step =>
      intro hs he
      exact exec_fmRetrainStep h hpc (Dev.retrainTask_of_step hr hdebt hq hat ht hs he)
    case last =>
      rintro hs rfl hw he
      exact exec_fmRetrainStep h hpc (Dev.retrainTask_of_last_step hr hdebt hq hat ht hs he hw)
  case copyDone =>
    intro s h
    refine ⟨fun h0 => exec_fmRetireCopyDone h (Dev.fmCopyDone_of_none h0), ?_⟩
    rintro pc answers bad d e hc hr rfl he
    exact exec_fmRetireCopyDone h (Dev.fmCopyDone_of_copying hc hr he)
  case scrub =>
    intro s c d e pos h ht hd hpos
    have below {o : EccOutcome} {n : Dev} := Dev.scrubTask_of_below (o := o) (n := n) ht hd hpos
    refine ⟨fun htop => exec_fmScrub h (below (by rw [Dev.eccSeen_clean, ite_self]) htop), fun htop hs hp => ?_,
      fun htop he hz => exec_fmScrub h (Dev.scrubTask_of_top ht hd hpos htop he hz)⟩
    exact ⟨exec_fmScrub h (below (by rw [hs, if_pos rfl, Dev.eccSeen_corrected hp]) htop),
      exec_fmScrub h (below (by rw [hs, if_pos rfl, Dev.eccSeen_uncorrectable hp]) htop)⟩

end Sys2Proof.Machine
end

section
/-! The family of "Twin operation". First the messages that rows of the command table carry: gates, responses, repeats, and messages for the
pair at a device that does not act; then shared writes and commands, which are sealed and act at their E (R342 to R344, R411, R418, R422,
R426, R428). -/

namespace Sys2Proof.Machine

/-! ### A message at its port (R342, R344, R418, R422) -/

section
variable {d : Dev} {r : Req} {p : Payload}

theorem Dev.request_of_gate_closed (hopen : d.portOpen r.port = false) : d.request r p = d := by
  simp [Dev.request, hopen]

theorem Dev.request_of_response (hopen : d.portOpen r.port = true) (hresp : r.response = true) :
    d.request r p = d.count Obj.CH_MALFORMED (portIdx r.port) := by
  simp [Dev.request, hopen, hresp]

theorem Dev.overhear_of_unheeded (h : d.heeds = false) : d.overhear r p = d := by
  simp [Dev.overhear, h]

/-- A device answers what goes to itself alone, and what goes to its pair where it acts. -/
theorem heard_of_acts (hacts : pairSent r = true → d.acts = true) : (pairSent r && !d.acts) = false := by
  cases hpair : pairSent r
  · rfl
  · simp [hacts hpair]

/-- A device that heeds its twin links keeps the shared writes that it overhears; of pieces it would stage the content. -/
theorem Dev.overhear_of_heeded (h : d.heeds = true) (hform : (structureStatus r p).1 = stOk) (hpiece : d.standbyPiece r p = d) :
    d.overhear r p = if sharedWrite p then d.keepCopy r p else d := by
  simp [Dev.overhear, h, hform, hpiece]

section
variable (hopen : d.portOpen r.port = true) (hresp : r.response = false) (hkind : kindOf p ≠ kEvent)
include hopen hresp hkind

theorem Dev.request_of_overheard (hpair : pairSent r = true) (hacts : d.acts = false) : d.request r p = d.overhear r p := by
  simp [Dev.request, hopen, hresp, hkind, hpair, hacts]

section
variable (hacts : pairSent r = true → d.acts = true)
include hacts

theorem Dev.request_of_repeat {resp : Resp} (hkept : d.keptFor r = some resp) :
    d.request r p = (d.count Obj.CH_DUPLICATES (portIdx r.port)).send resp := by
  simp [Dev.request, hopen, hresp, hkind, heard_of_acts hacts, hkept]

theorem Dev.request_of_new (hkept : d.keptFor r = none) : d.request r p = d.carryOut r p := by
  simp [Dev.request, hopen, hresp, hkind, heard_of_acts hacts, hkept]

/-- Step 2 of Table 12.6: another VERSION is answered UNSUPPORTED. -/
theorem Dev.request_of_other_version (hkept : d.keptFor r = none) (hversion : r.version ≠ 1) (hcn : r.port ≠ .cn) :
    d.request r p = d.answer (refusal (kindOf p) r stUnsupported noFail (urgentRequest p)) := by
  have hexamine : d.examine r p = refuse d (kindOf p) r stUnsupported noFail (urgentRequest p) := by
    have hform : structureStatus r p = (stUnsupported, noFail) := if_pos hversion
    simp [Dev.examine, hform, stUnsupported, stOk]
  rw [Dev.request_of_new hopen hresp hkind hacts hkept, Dev.carryOut, hexamine, Dev.reply_refuse _ _ _ _ _ (by decide) (by decide)]
  exact if_neg hcn

end
end
end

/-- READ hands over its message as it is. -/
theorem exec_read (r : Req) (refs : List Ref) (s : State) : exec (.read r refs) s = s.live (fun d => d.request r (.read refs)) := rfl

/-- A row that carries a COMMAND, and READ, hands its message to `Dev.request`; the message is no EVENT and no piece of a transfer. -/
theorem exec_of_carried_message {i : Instr} {r : Req} {p : Payload}
    (h : (∃ a x b, carriedCommand i = some (r, a, x, b) ∧ p = .command a x b) ∨ (∃ refs, i = .read r refs ∧ p = .read refs)) :
    (∀ s, exec i s = s.live (fun d => d.request r p)) ∧ kindOf p ≠ kEvent ∧ ∀ d : Dev, d.standbyPiece r p = d := by
  obtain ⟨a, x, b, hi, rfl⟩ | ⟨refs, rfl, rfl⟩ := h
  · exact ⟨exec_of_carriedCommand hi, by simp [kindOf, kCommand, kEvent], fun _ => rfl⟩
  · exact ⟨exec_read r refs, by simp [kindOf, kRead, kEvent], fun _ => rfl⟩

/-- Settles O50: the checks of `Dev.request` in their order, each by the lemma about it. -/
theorem messageIntake : Obligations.MessageIntake := by
  unfold Obligations.MessageIntake
  intro s i r p hheld hi
  obtain ⟨hexec, hkind, hpiece⟩ := exec_of_carried_message hi
  have run {d : Dev} (hd : s.dev.request r p = d) : exec i s = .next (s.after d) := (hexec s).trans (State.live_next hheld hd)
  refine ⟨fun hopen => run (Dev.request_of_gate_closed hopen), fun hopen hresp => run (Dev.request_of_response hopen hresp),
    fun hopen hresp hpair hacts hheeds => ?unheeded, fun hopen hresp hpair hacts hheeds hform => ?heeded,
    fun resp hopen hresp hacts hkept => run (Dev.request_of_repeat hopen hresp hkind hacts hkept),
    fun hopen hresp hacts hkept hversion hcn => run (Dev.request_of_other_version hopen hresp hkind hacts hkept hversion hcn)⟩
  case unheeded => exact run ((Dev.request_of_overheard hopen hresp hkind hpair hacts).trans (Dev.overhear_of_unheeded hheeds))
  case heeded =>
    exact run ((Dev.request_of_overheard hopen hresp hkind hpair hacts).trans (Dev.overhear_of_heeded hheeds hform (hpiece _)))

/-! ### E, and what waits for it (R411, R421) -/

theorem Dev.eOf_of_untimed {d : Dev} {r : Req} {num : Nat} (htimed : timedObj num = false) (hcn : r.port = .cn → pairSent r = false) :
    d.eOf r 0 [num] true = (if d.hotPeer then d.now + usMt 2000 else d.now, false) := by
  have h : (decide (r.port = .cn) && pairSent r) = false := by
    by_cases hp : r.port = .cn
    · simp [hcn hp]
    · simp [hp]
  simp [Dev.eOf, htimed, h]

theorem Dev.eOf_of_timed {d : Dev} {r : Req} {apply num : Nat}
    (h : timedObj num = true ∨ apply ≠ 0 ∨ (r.port = .cn ∧ pairSent r = true)) :
    d.eOf r apply [num] true = (max apply (d.now + usMt 2000), decide (apply ≠ 0 ∧ apply < d.now + usMt 2000)) := by
  have htimed : ([num].any timedObj || (decide (r.port = .cn) && pairSent r)) = true ∨ apply ≠ 0 := by
    rcases h with h | h | ⟨hport, hpair⟩
    · simp [h]
    · exact .inr h
    · simp [hport, hpair]
  simp only [Dev.eOf, Bool.not_true, Bool.false_eq_true, if_false, if_pos htimed]
  rfl

theorem Dev.writeE_of_no_take (d : Dev) (r : Req) (apply : Nat) {n : Nat} (k : Nat) (v : Bytes) (hn : n ≠ Obj.TAKE) :
    d.writeE r apply [⟨n, k, v⟩] true = d.eOf r apply [n] true := by
  simp [Dev.writeE, hn]

theorem Dev.schedule_of_due {d : Dev} {e : Nat} (h : e ≤ d.now) (seq : Nat) (port : Port) (x : Act) :
    d.schedule seq e port x = d.actAt e x := if_pos h

theorem Dev.schedule_of_later {d : Dev} {e : Nat} (h : d.now < e) (seq : Nat) (port : Port) (x : Act) :
    d.schedule seq e port x = d.modCh (fun c => { c with pend := c.pend ++ [⟨e, seq, port, x⟩] }) := if_neg (by omega)

theorem Dev.scheduleWrites_of_no_take (d : Dev) (seq e apply : Nat) (port : Port) {n : Nat} (k : Nat) (v : Bytes) (hn : n ≠ Obj.TAKE) :
    d.scheduleWrites seq e apply port [⟨n, k, v⟩] = d.schedule seq e port (.writes [⟨n, k, v⟩]) := by
  have hpart : [(⟨n, k, v⟩ : Wr)].partition (fun w => w.num == Obj.TAKE) = ([], [⟨n, k, v⟩]) := by
    simp [List.partition_eq_filter_filter, hn]
  simp only [Dev.scheduleWrites, hpart]
  rfl

/-- A take record is armed, late by its own APPLY or else by the write's (R169, R172). -/
theorem Dev.scheduleWrites_of_take (d : Dev) (seq e apply k : Nat) (port : Port) (v : Bytes) {own : Nat}
    (hown : own = if tkApply (beNat v) = 0 then apply else mtDecode (tkApply (beNat v))) :
    d.scheduleWrites seq e apply port [⟨Obj.TAKE, k, v⟩] = d.armTake (tkKind (beNat v)) (tkTarget (beNat v))
      { src := tkSource (beNat v), e, late := decide (own ≠ 0 ∧ own < e), hamper := none } := by
  subst hown
  rfl

/-! ### Shared writes and commands that their checks accept (R342, R411, R426, R428) -/

theorem Dev.acceptWrite_of_shared {d : Dev} {r : Req} {kind apply e : Nat} {ws : List Wr} {late : Bool}
    (he : d.writeE r (mtDecode apply) ws true = (e, late)) (p : Payload) :
    d.acceptWrite r p kind apply ws true =
      { dev := (d.nextOrder.2.sendSeal r p e).scheduleWrites d.nextOrder.1 e (mtDecode apply) r.port ws
        resp := some (accepted kind r e late false) } := by
  simp [Dev.acceptWrite, he]

/-- Settles O52: a shared write that its checks accept is sealed and scheduled by `Dev.acceptWrite_of_shared`; its E and what waits for it
are said item by item. -/
theorem sharedWrites : Obligations.SharedWrites := by
  unfold Obligations.SharedWrites
  refine ⟨?write, fun d r apply n k v hn => Dev.writeE_of_no_take d r apply k v hn,
    fun d seq e apply n k port v hn => Dev.scheduleWrites_of_no_take d seq e apply port k v hn,
    fun d seq e apply k own port v hown => Dev.scheduleWrites_of_take d seq e apply k port v hown,
    fun d r num htimed hcn => Dev.eOf_of_untimed htimed hcn, fun d r apply num h => Dev.eOf_of_timed h,
    fun d seq e port x => ⟨fun h => Dev.schedule_of_due h seq port x, fun h => Dev.schedule_of_later h seq port x⟩⟩
  intro s i r a it ws e late hi htakes hfield hfits hgood htake he
  rw [exec_of_carriedWrite_of_fits hi hfits]
  refine State.live_next htakes.1 ?_
  rw [Dev.request_write_of_good htakes hfield htake hgood, Dev.acceptWrite_of_shared he, Dev.reply_accepted]

/-- An accepted command's answer goes out, and a reset that it asks for waits until the answer has left (R428, Table 12.14). -/
theorem Dev.reply_accepted_command (d : Dev) (r : Req) (e : Nat) (late urgent : Bool) (reset : Option Nat) (port : Port) :
    Dev.reply { dev := d, resp := some (accepted kCommand r e late urgent), reset } port = match reset with
      | none => d.answer (accepted kCommand r e late urgent)
      | some c => (d.answer (accepted kCommand r e late urgent)).defer port [] (some c) := by
  cases reset <;> simp [Dev.reply, accepted]

/-- A COMMAND that its checks accept is carried out, and what comes of it is sent. -/
theorem Dev.request_command_of_good {d : Dev} {r : Req} {a : BitVec 96} {x : Ref} {b : Bytes} {e : Nat} {late : Bool}
    (h : d.takesUp r (.command a x b)) (hfield : r.port = .db → d.nv.lifecycle ≠ 2)
    (hgood : d.commandStatus r false a.toNat x b = stOk) (he : d.commandE r a.toNat x.object.toNat b = (e, late)) :
    d.request r (.command a x b) = Dev.reply
      { dev := (if objShared x.object.toNat then d.nextOrder.2.sendSeal r (.command a x b) e else d.nextOrder.2).enactCommand
          d.nextOrder.1 e late r.port x.object.toNat x.index.toNat b
        resp := some (accepted kCommand r e late (urgentCommand x.object.toNat)), reset := d.cmdReset x.object.toNat } r.port := by
  rw [Dev.request_of_takesUp h (by simp [kindOf, kCommand, kEvent]), Dev.noteRefusedDebug_of_open hfield]
  simp [Dev.dispatch, Dev.doCommand, hgood, he]

/-- Settles O56: a command that its checks accept is sealed where it is shared and enacted by `Dev.request_command_of_good`, and its reset
waits by `Dev.reply_accepted_command`. -/
theorem acceptedCommands : Obligations.AcceptedCommands := by
  unfold Obligations.AcceptedCommands
  intro s i r a x b n e late d f hi htakes hfield hn hgood he hd hf
  subst hn hd hf
  rw [exec_of_carriedCommand hi]
  exact State.live_next htakes.1 ((Dev.request_command_of_good htakes hfield hgood he).trans (Dev.reply_accepted_command ..))

end Sys2Proof.Machine
end

section
/-! The Day Pass and its referee: grants, renewals, revocations and the lease timer at a member of a pair, and the procedure of the referee
(R347 to R352; Tables 10.1 and 10.2). -/

namespace Sys2Proof.Machine

/-! ### A grant (R348) -/

/-- A device in STARTING runs from here on; another one stays in its phase (R486). -/
def Dev.leaveStarting (d : Dev) : Dev := d.setPhase (match d.life.phase with | .starting => .running | p => p)

section
variable {d e : Dev} {body : Nat}

theorem Dev.leaseGrant_of_new (hheeds : d.heeds = true) (hcode : lbCode body = 0)
    (hno : d.holds = false ∨ lbNo body ≠ d.reg Obj.DP_LEASE_NO) (hstate : d.twinState ∈ [twAlone, twHot, twActive])
    (he : e = (((d.modTw (fun x => { x with leaseEnd := some (d.clock + 11490), join := .none })).setReg Obj.DP_LEASE_NO 0
      (lbNo body)).count Obj.DP_GRANTS).setTwin twActive) :
    d.leaseGrant body = (d.twinState != twActive, e.leaveStarting) := by
  have hfresh : (!d.holds || lbNo body != d.reg Obj.DP_LEASE_NO) = true := by simpa using hno
  have hready : (d.twinState == twAlone || d.twinState == twHot || d.twinState == twActive) = true := by
    simpa [or_assoc] using hstate
  simp only [Dev.leaseGrant, hheeds, hcode, hfresh, hready, ← he]
  rfl

theorem Dev.leaseGrant_of_ignored (h : d.heeds = false ∨ lbCode body ≠ 0 ∨ d.twinState ∉ [twAlone, twHot, twActive] ∨
    (d.holds = true ∧ lbNo body = d.reg Obj.DP_LEASE_NO)) : d.leaseGrant body = (false, d) := by
  refine if_pos ?_
  rcases h with h | h | h | ⟨hholds, hno⟩
  · simp [h]
  · simp [h]
  · obtain ⟨halone, hhot, hactive⟩ : d.twinState ≠ twAlone ∧ d.twinState ≠ twHot ∧ d.twinState ≠ twActive := by simpa using h
    simp [halone, hhot, hactive]
  · simp [hholds, hno]

/-- A device that did not hold the pass seals what waited (R345). -/
theorem Dev.grantIn_of_gained (h : d.leaseGrant body = (d.twinState != twActive, e)) (hstate : d.twinState ≠ twActive) :
    d.grantIn body = e.sealCopies := by
  simp [Dev.grantIn, h, hstate]

theorem Dev.grantIn_of_active (h : d.leaseGrant body = (d.twinState != twActive, e)) (hstate : d.twinState = twActive) :
    d.grantIn body = e := by
  simp [Dev.grantIn, h, hstate]

theorem Dev.grantIn_of_ignored (h : d.leaseGrant body = (false, d)) : d.grantIn body = d := by
  simp [Dev.grantIn, h]

end

/-! ### Renewals, revocations and the end of a lease (R348, R349, R352) -/

section
variable {d : Dev} {body : Nat}

theorem Dev.leaseOver_of_active (h : d.twinState = twActive) :
    d.leaseOver true = (d.modTw (fun x => { x with leaseEnd := none, serving := none })).enterHot ∧
    d.leaseOver false = (d.modTw (fun x => { x with leaseEnd := none, serving := none })).enterSuspect := by
  have hstate : (d.modTw (fun x => { x with leaseEnd := none, serving := none })).twinState = twActive := h
  simp [Dev.leaseOver, hstate]

theorem Dev.leaseRenew_of_held {t : Nat} (hend : d.tw.leaseEnd = some t) (hheeds : d.heeds = true) (hholds : d.holds = true)
    (hcode : lbCode body = 1) (hno : lbNo body = d.reg Obj.DP_LEASE_NO) :
    d.leaseRenew body = d.modTw (fun x => { x with leaseEnd := some (max t (d.clock + 11490)) }) := by
  simp [Dev.leaseRenew, hend, hheeds, hholds, hcode, hno]

theorem Dev.leaseRenew_of_other (hno : lbNo body ≠ d.reg Obj.DP_LEASE_NO) : d.leaseRenew body = d := by
  cases hend : d.tw.leaseEnd <;> simp [Dev.leaseRenew, hend, hno]

theorem Dev.leaseExpire_of_running {t : Nat} (hend : d.tw.leaseEnd = some t) :
    d.leaseExpire = ((d.passTo t).count Obj.DP_EXPIRIES).leaseOver false := by
  simp [Dev.leaseExpire, hend]

theorem Dev.leaseExpire_of_none (hend : d.tw.leaseEnd = none) : d.leaseExpire = d := by
  simp [Dev.leaseExpire, hend]

theorem Dev.leaseRevoke_of_held (hheeds : d.heeds = true) (hholds : d.holds = true) (hcode : lbCode body ≤ 2)
    (hno : lbNo body = d.reg Obj.DP_LEASE_NO) :
    d.leaseRevoke body = (d.sendSvc tw1 0x42 (leaseBody (lbNo body) 0 0)).leaseOver (lbCode body == 0) := by
  simp [Dev.leaseRevoke, hheeds, hholds, hcode, hno]

theorem Dev.leaseRevoke_of_other (h : d.holds = false ∨ lbNo body ≠ d.reg Obj.DP_LEASE_NO) : d.leaseRevoke body = d := by
  rcases h with h | h <;> simp [Dev.leaseRevoke, h]

theorem Dev.leaseClock_of_held (h : d.holds = true) : d.leaseClock = (d.leaseOver false).setLine Flt.LEASE_CLOCK true := by
  simp [Dev.leaseClock, h]

theorem Dev.leaseClock_of_free (h : d.holds = false) : d.leaseClock = d.setLine Flt.LEASE_CLOCK true := by
  simp [Dev.leaseClock, h]

end

/-- Settles O36: a grant goes by `Dev.leaseGrant`, a renewal and a revocation by the lease they name, and the ends of a lease by what ended
it. -/
theorem leaseOfTheDayPass : Obligations.LeaseOfTheDayPass := by
  unfold Obligations.LeaseOfTheDayPass
  refine ⟨?grant, ?ignored, ?running, fun s h hend => State.live_next h (Dev.leaseExpire_of_none hend), ?revoked,
    fun _ => Dev.leaseOver_of_active⟩
  case grant =>
    intro s b d h hheeds hcode hno hd
    refine ⟨fun hstate => ?gained, fun hstate => ?active⟩
    case gained =>
      have hother : s.dev.twinState ≠ twActive := fun he => absurd (he ▸ hstate) (by decide)
      have hmem : s.dev.twinState ∈ [twAlone, twHot, twActive] := List.mem_append_left [twActive] hstate
      exact State.live_next h (Dev.grantIn_of_gained (Dev.leaseGrant_of_new hheeds hcode hno hmem hd) hother)
    case active =>
      have hmem : s.dev.twinState ∈ [twAlone, twHot, twActive] := by simp [hstate]
      exact State.live_next h (Dev.grantIn_of_active (Dev.leaseGrant_of_new hheeds hcode hno hmem hd) hstate)
  case ignored =>
    intro s b h hcase
    exact State.live_next h (Dev.grantIn_of_ignored (Dev.leaseGrant_of_ignored hcase))
  case running =>
    intro s b t h hend
    exact ⟨fun hheeds hholds hcode hno => State.live_next h (Dev.leaseRenew_of_held hend hheeds hholds hcode hno),
      fun hno => State.live_next h (Dev.leaseRenew_of_other hno), State.live_next h (Dev.leaseExpire_of_running hend)⟩
  case revoked =>
    intro s b h
    exact ⟨fun hheeds hholds hcode hno => State.live_next h (Dev.leaseRevoke_of_held hheeds hholds hcode hno),
      fun hfree => State.live_next h (Dev.leaseRevoke_of_other (.inl hfree)),
      fun hno => State.live_next h (Dev.leaseRevoke_of_other (.inr hno)),
      fun hholds => State.live_next h (Dev.leaseClock_of_held hholds), fun hfree => State.live_next h (Dev.leaseClock_of_free hfree)⟩

/-! ### The referee (R350, R351) -/

section
variable {d : Dev} {i body : Nat}

theorem Dev.refAck_of_lease (hphase : d.rf.phase = .waiting) (hi : d.rf.holder = i) (hno : lbNo body = d.rf.leaseNo) :
    d.refAck i body = d.refFree := if_pos ⟨hphase, hi, hno⟩

theorem Dev.refAck_of_other (h : d.rf.holder ≠ i ∨ lbNo body ≠ d.rf.leaseNo) : d.refAck i body = d :=
  if_neg fun ⟨_, hi, hno⟩ => h.elim (· hi) (· hno)

theorem Dev.refRelease_of_lease (hphase : d.rf.phase ≠ .idle) (hi : d.rf.holder = i) (hno : lbNo body = d.rf.leaseNo)
    (hcode : lbCode body ≤ 2) : d.refRelease i body = d.refFree := by
  have hheld : d.rf.phase = .waiting ∨ d.rf.phase = .granted := by
    cases hp : d.rf.phase with
    | idle => exact absurd hp hphase
    | granted => exact .inr rfl
    | waiting => exact .inl rfl
  exact if_pos ⟨hheld, hi, hno, hcode⟩

theorem Dev.refRelease_of_other (h : d.rf.holder ≠ i ∨ lbNo body ≠ d.rf.leaseNo) : d.refRelease i body = d :=
  if_neg fun ⟨_, hi, hno, _⟩ => h.elim (· hi) (· hno)

theorem Dev.refGuard_of_waiting (h : d.rf.phase = .waiting) : d.refGuard = (d.passTo (d.rf.leaseEnd + 500)).refFree := if_pos h

theorem Dev.refGuard_of_other (h : d.rf.phase ≠ .waiting) : d.refGuard = d := if_neg h

theorem Dev.refTick_of_granted {e : Dev} (he : e = ((d.passTo d.rf.tickAt).modRf (fun x => { x with
      tickAt := max d.clock d.rf.tickAt + 3000 })).refSettle.refEvaluate) (hphase : e.rf.phase = .granted)
    (hcalm : [tw0, tw1].any (fun l => ((e.sendSvc (272 + e.rf.holder) 0x40 (leaseBody e.rf.leaseNo 1 0)).tx l).svc.any
      (fun m => m.1 == 0x149)) = false) :
    d.refTick = (e.sendSvc (272 + e.rf.holder) 0x40 (leaseBody e.rf.leaseNo 1 0)).sendVerdict false := by
  simp only [Dev.refTick, ← he, hphase, if_true, hcalm, Bool.false_eq_true, if_false]

theorem Dev.refSilent_of_unheard (h : (d.rf.dev i).heard = none) : d.refSilent i = d := by
  simp only [Dev.refSilent, h]

theorem Dev.refSilent_of_heard {t : Nat} (h : (d.rf.dev i).heard = some t) :
    d.refSilent i = (((d.passTo (t + 4000)).modRf (fun x => x.setDev i { x.dev i with heard := none })).refSettle).refEvaluate := by
  simp only [Dev.refSilent, h]

/-- A free pass goes to the choice of R350 under the next LEASE_NO. -/
theorem Dev.refGrant_of_choice (hphase : d.rf.phase = .idle) (hchoice : d.refChoice = some i) :
    d.refGrant = (((d.modRf (fun x => { x with
      phase := .granted, holder := i, leaseNo := (d.rf.leaseNo + 1) % 65536, leaseEnd := d.clock + 12000 })).sendSvc (272 + i) 0x40
        (leaseBody ((d.rf.leaseNo + 1) % 65536) 0 0)).count Obj.REF_GRANTS).sendVerdict true := by
  simp [Dev.refGrant, hphase, hchoice]

/-- Nothing of the procedure happens outside REFEREE (R371). -/
theorem Dev.refereeDo_of_other (f : Dev → Dev) (h : d.twinState ≠ twReferee) : d.refereeDo f = d := if_neg h

theorem Dev.refereeDo_of_referee {e : Dev} {f : Dev → Dev} (h : d.twinState = twReferee) (hf : f d = e) : d.refereeDo f = e :=
  (if_pos h).trans hf

/-- An effect that leaves the referee as it is leaves every device as it is. -/
theorem Dev.refereeDo_of_kept {f : Dev → Dev} (hf : f d = d) : d.refereeDo f = d := by
  unfold Dev.refereeDo
  split
  · exact hf
  · rfl

end

/-- Settles O37: each message and each instant of the procedure goes by its phase, its holder and its lease. -/
theorem refereeProcedure : Obligations.RefereeProcedure := by
  unfold Obligations.RefereeProcedure
  refine ⟨?lease, ?other, ?instants, ?member, fun d i hphase hchoice => Dev.refGrant_of_choice hphase hchoice⟩
  case lease =>
    intro s i b h href hi hno
    exact ⟨fun hp => State.live_next h (Dev.refereeDo_of_referee href (Dev.refAck_of_lease hp hi hno)),
      fun hp hcode => State.live_next h (Dev.refereeDo_of_referee href (Dev.refRelease_of_lease hp hi hno hcode))⟩
  case other =>
    rintro s i b h (hmember | hother)
    · exact ⟨State.live_next h (Dev.refereeDo_of_other _ hmember), State.live_next h (Dev.refereeDo_of_other _ hmember)⟩
    · exact ⟨State.live_next h (Dev.refereeDo_of_kept (Dev.refAck_of_other hother)),
        State.live_next h (Dev.refereeDo_of_kept (Dev.refRelease_of_other hother))⟩
  case instants =>
    intro s h href
    have run {f : Dev → Dev} {d : Dev} (hf : f s.dev = d) : s.live (fun x => x.refereeDo f) = .next (s.after d) :=
      State.live_next h (Dev.refereeDo_of_referee href hf)
    exact ⟨fun hp => run (Dev.refGuard_of_waiting hp), fun hp => run (Dev.refGuard_of_other hp),
      fun d hd hp hcalm => run (Dev.refTick_of_granted hd hp hcalm), fun i hi => run (Dev.refSilent_of_unheard hi),
      fun i t hi => run (Dev.refSilent_of_heard hi)⟩
  case member =>
    intro s i h hmember
    have run (f : Dev → Dev) : s.live (fun x => x.refereeDo f) = .next (s.after s.dev) :=
      State.live_next h (Dev.refereeDo_of_other f hmember)
    exact ⟨run Dev.refTick, run Dev.refGuard, run (fun x => x.refSilent i.val)⟩

end Sys2Proof.Machine
end

section
/-! VERDICT, Roll Calls and the snapshot of shared objects (R352 to R360; Tables 10.2 and 10.3). -/

namespace Sys2Proof.Machine

/-! ### VERDICT (R352, R353, R358, R359) -/

section
variable {d e : Dev} {body h : Nat}

theorem Dev.verdict_of_ignored (hc : d.heeds = false ∨ lbCode body ∉ [0, 1, 255]) : d.verdict body = d := by
  refine if_pos ?_
  rcases hc with hc | hc
  · simp [hc]
  · obtain ⟨h0, h1, h255⟩ : lbCode body ≠ 0 ∧ lbCode body ≠ 1 ∧ lbCode body ≠ 255 := by simpa using hc
    simp [h0, h1, h255]

section
variable (hheeds : d.heeds = true) (hh : h = lbCode body) (hcode : h ∈ [0, 1, 255]) (he : e = d.setReg Obj.TWIN_HOLDER 0 h)
include hheeds hh hcode he

/-- A VERDICT with a holder sets TWIN_HOLDER; the marks and the state decide the rest. -/
theorem Dev.verdict_of_heeded : d.verdict body =
    if bitOf (lbFlags body) (boolNat d.nv.sideB) && (e.twinState == twHot || e.twinState == twJoining) then e.enterSuspect
    else if e.twinState == twAlone && h == 1 - boolNat d.nv.sideB then e.leaveStarting.beginJoin
    else e := by
  have hknown : (h == 0 || h == 1 || h == 255) = true := by simpa [or_assoc] using hcode
  simp only [Dev.verdict, hheeds, hknown, ← hh, ← he]
  rfl

theorem Dev.verdict_of_marked (hmark : bitOf (lbFlags body) (boolNat d.nv.sideB) = true) (hstate : e.twinState ∈ [twHot, twJoining]) :
    d.verdict body = e.enterSuspect := by
  have hheld : (e.twinState == twHot || e.twinState == twJoining) = true := by simpa using hstate
  simp [Dev.verdict_of_heeded hheeds hh hcode he, hmark, hheld]

theorem Dev.verdict_of_alone (hmark : bitOf (lbFlags body) (boolNat d.nv.sideB) = false) (hstate : e.twinState = twAlone)
    (hpeer : h = 1 - boolNat d.nv.sideB) : d.verdict body = e.leaveStarting.beginJoin := by
  simp [Dev.verdict_of_heeded hheeds hh hcode he, hmark, hstate, hpeer]

theorem Dev.verdict_of_other (hstate : e.twinState ∉ [twHot, twJoining, twAlone]) : d.verdict body = e := by
  obtain ⟨hhot, hjoining, halone⟩ : e.twinState ≠ twHot ∧ e.twinState ≠ twJoining ∧ e.twinState ≠ twAlone := by
    simpa using hstate
  simp [Dev.verdict_of_heeded hheeds hh hcode he, hhot, hjoining, halone]

end
end

/-! ### Roll Calls received (R351, R354, R358, R360) -/

theorem Dev.not_referee_of_heeds {d : Dev} (h : d.heeds = true) : d.twinState ≠ twReferee := by
  simp only [Dev.heeds, Bool.and_eq_true, bne_iff_ne] at h
  exact h.2

section
variable {d : Dev} {link : Nat} {b : BitVec 256}

theorem Dev.rollCall_of_referee (h : d.twinState = twReferee) : d.rollCall link b = d.refRoll link b := if_pos h

theorem Dev.rollCall_of_member (h : d.twinState ≠ twReferee) : d.rollCall link b = d.rollIn link b := if_neg h

theorem Dev.rollIn_of_unheeded (h : d.heeds = false) : d.rollIn link b = d := by
  simp [Dev.rollIn, h]

/-- A member takes Roll Calls on TW_0 alone. -/
theorem Dev.rollIn_of_other_link (h : link ≠ 0) : d.rollIn link b = d := by
  simp [Dev.rollIn, h]

/-- A Roll Call within TWIN_MT_LIMIT: the peer's state and the difference of Media Time are noted, and the digests compared. -/
theorem Dev.rollIn_of_near {c e : Dev} {diff : Int} (hheeds : d.heeds = true) (hlink : link = 0) (hlane : d.laneState tw0 = lnActive)
    (hc : c = (d.modTw (fun x => { x with roll := some (d.clock, b) })).setReg Obj.PEER_STATE 0 (fld b.toNat 247 240))
    (hdiff : diff = 4 * toInt 32 ((fld b.toNat 39 8 + 2 ^ 32 - fourNs d.now % 2 ^ 32) % 2 ^ 32) + 250)
    (hnear : diff.natAbs ≤ c.reg Obj.TWIN_MT_LIMIT) (he : e = c.setSreg 32 Obj.TWIN_MT_DIFF 0 diff)
    (hlimit : e.reg Obj.TWIN_MT_LIMIT = c.reg Obj.TWIN_MT_LIMIT) :
    d.rollIn link b = (e.setLine Flt.TWIN_SKEW false).comparePeer b.toNat := by
  have hnow : c.now = d.now := by rw [hc]; rfl
  have hskew : decide (e.reg Obj.TWIN_MT_LIMIT < diff.natAbs) = false := by
    rw [hlimit]
    exact decide_eq_false (Nat.not_lt.mpr hnear)
  simp only [Dev.rollIn, hheeds, hlink, hlane, ← hc, hnow, ← hdiff, ← he, hskew]
  rfl

end

/-! ### Roll Calls sent (R355) -/

/-- The Roll Call of the interval that has begun stands on lane `l` in place of one unsent. -/
def Dev.queueRoll (d : Dev) (l : Nat) : Dev :=
  d.setTx l { d.tx l with svc := (d.tx l).svc.filter (fun m => m.1 != 0x48) ++ [(0x48, d.rollBody (d.now / usMt 3))] }

theorem Dev.queueRoll_regs (d : Dev) (l : Nat) : (d.queueRoll l).regs = d.regs := rfl

theorem Dev.modTw_tx (d : Dev) (f : TwinX → TwinX) (l : Nat) : (d.modTw f).tx l = d.tx l := rfl

theorem Dev.rollTick_of_referee {d : Dev} (h : d.twinState = twReferee) : d.rollTick = d := if_pos h

theorem Dev.rollTick_of_member {d e : Dev} (h : d.twinState ≠ twReferee)
    (he : e = d.passToMt (d.nextTick (usMt 3) d.tw.rollK)) :
    d.rollTick = ((e.queueRoll tw0).queueRoll tw1).modTw (fun x => { x with
      rollK := e.now / usMt 3, digests := x.digests.filter (fun w => decide (e.now / usMt 3 ≤ w.1 + 16)) }) := by
  subst he
  exact if_neg h

/-- A lane with a service message waiting is not as after reset. -/
theorem LaneTx.ne_default_of_svc {x : LaneTx} {m : Nat × Bytes} (h : m ∈ x.svc) : x ≠ {} := by
  rintro rfl
  exact absurd h (List.not_mem_nil)

theorem Dev.mem_svc_queueRoll (d : Dev) (l : Nat) : (0x48, d.rollBody (d.now / usMt 3)) ∈ ((d.queueRoll l).tx l).svc := by
  have hlast : (0x48, d.rollBody (d.now / usMt 3)) ∈
      (d.tx l).svc.filter (fun m => m.1 != 0x48) ++ [(0x48, d.rollBody (d.now / usMt 3))] :=
    List.mem_append_right _ (List.mem_singleton_self _)
  have htx : (d.queueRoll l).tx l =
      { d.tx l with svc := (d.tx l).svc.filter (fun m => m.1 != 0x48) ++ [(0x48, d.rollBody (d.now / usMt 3))] } :=
    smGet_smSet_of_ne (LaneTx.ne_default_of_svc hlast)
  rwa [htx]

theorem Dev.tx_queueRoll_other (d : Dev) {j l : Nat} (h : j ≠ l) : (d.queueRoll l).tx j = d.tx j :=
  smGet_smSet_other_of_ne (LaneTx.ne_default_of_svc (List.mem_append_right _ (List.mem_singleton_self _))) h _

/-- A tick changes no register, and its Roll Call waits on TW_0. -/
theorem Dev.rollTick_sends {d e : Dev} (h : d.twinState ≠ twReferee) (he : e = d.passToMt (d.nextTick (usMt 3) d.tw.rollK)) :
    d.rollTick.regs = d.regs ∧ (0x48, e.rollBody (e.now / usMt 3)) ∈ (d.rollTick.tx tw0).svc := by
  have htx : d.rollTick.tx tw0 = (e.queueRoll tw0).tx tw0 := by
    rw [Dev.rollTick_of_member h he, Dev.modTw_tx, Dev.tx_queueRoll_other _ (by decide)]
  constructor
  · rw [Dev.rollTick_of_member h he, Dev.modTw_regs, Dev.queueRoll_regs, Dev.queueRoll_regs, he, Dev.passToMt_regs]
  · rw [htx]
    exact e.mem_svc_queueRoll tw0

/-! ### The snapshot of shared objects (R357) -/

theorem Dev.objectSnapshot_eq {d e : Dev} {digest k : Nat} (he : e = d.passToMt (d.nextTick (msMt 100) (d.tw.snapAt / msMt 100)))
    (hdigest : digest = crc64 e.snapBytes) (hk : k = e.now / msMt 100) :
    d.objectSnapshot = (e.modTw (fun t => { t with
      prevSnapIndex := t.snapIndex, prevSnapDigest := t.snapDigest, prevSnapValid := t.snapValid, snapIndex := k, snapDigest := digest
      snapAt := k * msMt 100, snapValid := e.acts || e.follows })).setReg Obj.CONFIG_DIGEST 0 digest := by
  simp only [Dev.objectSnapshot, ← he, ← hdigest, ← hk]

/-- Settles O38: a VERDICT goes by its marks and the device's state, a Roll Call by the device that takes it and the link, and a tick leaves
one Roll Call on each link. -/
theorem verdictsAndRollCalls : Obligations.VerdictsAndRollCalls := by
  unfold Obligations.VerdictsAndRollCalls
  refine ⟨?verdict, fun s b h hc => State.live_next h (Dev.verdict_of_ignored hc), ?roll,
    fun s h href => State.live_next h (Dev.rollTick_of_referee href), ?tick,
    fun s d digest k h hd hdigest hk => State.live_next h (Dev.objectSnapshot_eq hd hdigest hk)⟩
  case verdict =>
    intro s b me h d hheld hheeds hme hh hcode hd
    subst hme
    exact ⟨fun hmark hstate => State.live_next hheld (Dev.verdict_of_marked hheeds hh hcode hd hmark hstate),
      fun hmark hstate hpeer => State.live_next hheld (Dev.verdict_of_alone hheeds hh hcode hd hmark hstate hpeer),
      fun hstate => State.live_next hheld (Dev.verdict_of_other hheeds hh hcode hd hstate)⟩
  case roll =>
    intro s link b h
    have member (hm : s.dev.twinState ≠ twReferee) {d : Dev} (hd : s.dev.rollIn link.val b = d) :
        exec (.rollCallReceived link b) s = .next (s.after d) := State.live_next h ((Dev.rollCall_of_member hm).trans hd)
    refine ⟨fun href => State.live_next h (Dev.rollCall_of_referee href),
      fun hheeds hm => member hm (Dev.rollIn_of_unheeded hheeds), fun hheeds hlink => ?twin1,
      fun d e diff hheeds hlink hlane hd hdiff hnear he hlimit => ?near⟩
    case twin1 => exact member (Dev.not_referee_of_heeds hheeds) (Dev.rollIn_of_other_link (by omega))
    case near =>
      exact member (Dev.not_referee_of_heeds hheeds) (Dev.rollIn_of_near hheeds hlink hlane hd hdiff hnear he hlimit)
  case tick =>
    intro s d h hm hd
    exact ⟨State.live_next h rfl, Dev.rollTick_sends hm hd⟩

end Sys2Proof.Machine
end

section
/-! Records on TW_0: mirrored decisions, and the parts of a sealed message that a standby fetches (R194, R227, R263, R283, R343, R361). -/

namespace Sys2Proof.Machine

/-! ### The first copy of a record, and every other (R361, R363) -/

section
variable {d e : Dev} {rseq : Nat}

theorem Dev.recIn_of_first (hheeds : d.heeds = true) (hlane : d.laneState tw0 = lnActive) (hnew : rseq ∉ d.tw.rseqSeen)
    (he : e = d.modTw (fun x => { x with rseqSeen := (rseq :: x.rseqSeen).take 256 })) (go : Dev → Dev) : d.recIn rseq go = go e := by
  simp [Dev.recIn, hheeds, hlane, hnew, he]

theorem Dev.recIn_of_ignored (h : d.heeds = false ∨ d.laneState tw0 ≠ lnActive ∨ rseq ∈ d.tw.rseqSeen) (go : Dev → Dev) :
    d.recIn rseq go = d := by
  rcases h with h | h | h <;> simp [Dev.recIn, h]

/-- Messages of the peer that have no RSEQ reach the device while TW_0 is ACTIVE. -/
theorem Dev.onTw0_of_active {f : Dev → Dev} (hheeds : d.heeds = true) (hlane : d.laneState tw0 = lnActive) (hf : f d = e) :
    d.onTw0 f = e := by
  simp [Dev.onTw0, hheeds, hlane, hf]

end

/-! ### A sealed message in parts (R343) -/

section
variable {d : Dev} {seq : Nat}

theorem Dev.writeFetch_of_kept {msg : Bytes} {parts : List Bytes} (h : d.tw.sealed.find? (fun x => x.1 == seq) = some (seq, msg))
    (hparts : parts = chunksOf 245 (msg.length / 245 + 1) msg) :
    d.writeFetch seq = (List.range parts.length).foldl (fun d k => d.sendRec 0x09
      (beBytes 4 seq ++ beBytes 2 k ++ beBytes 1 (boolNat (k + 1 == parts.length)) ++ parts.getD k []) 1) d := by
  simp only [Dev.writeFetch, h, hparts]

theorem Dev.writeFetch_of_unknown (h : d.tw.sealed.find? (fun x => x.1 == seq) = none) : d.writeFetch seq = d := by
  simp only [Dev.writeFetch, h]

section
variable {x : SealX} {part : Nat} {bytes : Bytes} (hseal : d.tw.seals.find? (fun z => z.seq == seq && !z.whole) = some x)
include hseal

/-- A part that is not the next one of its SEAL is discarded. -/
theorem Dev.writeCopy_of_gap (hpart : part ≠ x.parts) (last : Bool) : d.writeCopy seq part last bytes = d := by
  simp only [Dev.writeCopy, hseal, hpart, ne_eq, not_false_eq_true, if_true]

theorem Dev.writeCopy_of_next (hpart : part = x.parts) :
    d.writeCopy seq part false bytes = d.modTw (fun t => { t with
      seals := t.seals.map (fun y => if y = x then { x with fetched := x.fetched ++ bytes, parts := x.parts + 1 } else y) }) := by
  simp only [Dev.writeCopy, hseal, hpart, ne_eq, not_true_eq_false, if_false, Bool.not_false, if_true]

/-- The last part completes the message: where its CRC-32C checks, a standby applies it at the E of its SEAL. -/
theorem Dev.writeCopy_of_last {r : Req} {p : Payload} (hpart : part = x.parts) (hcrc : x.crc = crc32c (x.fetched ++ bytes))
    (hsome : x.fetched ++ bytes ≠ []) (hjoin : d.joinWaits = false) (hfollows : d.follows = true)
    (hparse : parseMessage x.port x.src true none (x.fetched ++ bytes) = some (r, p)) :
    d.writeCopy seq part true bytes = (d.modTw (fun t => { t with seals := t.seals.erase x })).applySealed r p x.seq x.e := by
  have hwhole : SealX.whole { x with fetched := x.fetched ++ bytes, parts := x.parts + 1 } = true := by
    simp only [SealX.whole, ← hcrc, beq_self_eq_true, Bool.and_true, bne_iff_ne]
    exact hsome
  simp [Dev.writeCopy, hseal, hpart, hwhole, hjoin, hfollows, hparse]

end
end

/-- Settles O39: each record goes by `Dev.recIn`, a fetch by what is kept, and a part by the SEAL that waits for it. -/
theorem mirrorRecords : Obligations.MirrorRecords := by
  unfold Obligations.MirrorRecords
  refine ⟨?first, ?ignored, ?fetched⟩
  case first =>
    intro s rseq d h hheeds hlane hnew hd
    have run (go : Dev → Dev) : s.live (fun x => x.recIn rseq go) = .next (s.after (go d)) :=
      State.live_next h (Dev.recIn_of_first hheeds hlane hnew hd go)
    exact ⟨fun b => run (fun x => x.sealIn b.toNat), fun ip fq _ ph => run (fun x => x.phaseIn ip.val fq.toNat ph.toNat),
      fun ip o i a => run (fun x => x.fsRecordIn ip.val o.toNat i.toNat a.toNat),
      fun w fin es => run (fun x => x.videoPresence w.toNat fin es), fun w fin es => run (fun x => x.audioPresence w.toNat fin es),
      fun c o f => run (fun x => x.canopyRecordIn c.val o.toNat f.toNat),
      fun a k t => run (fun x => x.tdmEvent a.val k.toNat t.toNat)⟩
  case ignored =>
    intro s rseq h hcase
    have run (go : Dev → Dev) : s.live (fun x => x.recIn rseq go) = .next (s.after s.dev) :=
      State.live_next h (Dev.recIn_of_ignored hcase go)
    exact ⟨fun _ => run _, fun _ _ _ _ => run _, fun _ _ _ _ => run _, fun _ _ _ => run _, fun _ _ _ => run _, fun _ _ _ => run _,
      fun _ _ _ => run _⟩
  case fetched =>
    intro s seq h hheeds hlane
    have run {f : Dev → Dev} {d : Dev} (hf : f s.dev = d) : s.live (fun x => x.onTw0 f) = .next (s.after d) :=
      State.live_next h (Dev.onTw0_of_active hheeds hlane hf)
    refine ⟨fun msg parts hm hparts => run (Dev.writeFetch_of_kept hm hparts), fun hm => run (Dev.writeFetch_of_unknown hm),
      fun x part bytes hx => ⟨fun hpart => run (Dev.writeCopy_of_next hx hpart),
        fun hpart l => run (Dev.writeCopy_of_gap hx hpart l), ?last⟩⟩
    intro hpart hcrc hsome hjoin hfollows r p hparse
    exact run (Dev.writeCopy_of_last hx hpart hcrc hsome hjoin hfollows hparse)

end Sys2Proof.Machine
end

section
/-! Joins, copies that no SEAL matches, and the ends of presence windows (R343, R353, R363, R365 to R367; Table 10.5). -/

namespace Sys2Proof.Machine

/-! ### The holder's part of a join (R365, R367) -/

/-- The RESULT of a JOIN_REQ with STORE_FORMAT `format`: 1 for an older format, 2 while a join or a Hamper fire is in progress, 3 beyond
TWIN_MT_LIMIT, else 0. -/
def Dev.joinResult (d : Dev) (format : Nat) : Nat :=
  if format < d.reg Obj.STORE_FORMAT then 1
  else if d.tw.serving.isSome ∨ (List.range 256).any (fun h => d.reg Obj.HAMPER_STATE h == hsArmed ||
    d.reg Obj.HAMPER_STATE h == hsInProgress) then 2
  else if d.reg Obj.TWIN_MT_LIMIT < (d.sreg 32 Obj.TWIN_MT_DIFF).natAbs then 3 else 0

section
variable {d : Dev} {format r : Nat}

/-- The answer carries the RESULT; an instant for the snapshot goes out, and is kept, with RESULT 0 alone. -/
theorem Dev.joinReq_of_acting {e : Dev} (hheeds : d.heeds = true) (hacts : d.acts = true) (hr : r = d.joinResult format)
    (he : e = d.sendRec 0x11 (beBytes 1 r ++ beBytes 12 (if r = 0 then mtEncode (d.now + msMt 2) else 0)) 1) :
    d.joinReq format = if r = 0 then e.modTw (fun x => { x with serving := some (d.now + msMt 2) }) else e := by
  have hholder : ¬ (!d.heeds || !d.acts) = true := by simp [hheeds, hacts]
  subst hr he
  exact if_neg hholder

theorem Dev.joinReq_of_accepted (hheeds : d.heeds = true) (hacts : d.acts = true) (hr : r = d.joinResult format) (h0 : r = 0) :
    d.joinReq format = (d.sendRec 0x11 (beBytes 1 0 ++ beBytes 12 (mtEncode (d.now + msMt 2))) 1).modTw (fun x => { x with
      serving := some (d.now + msMt 2) }) := by
  rw [Dev.joinReq_of_acting hheeds hacts hr rfl, if_pos h0, h0, if_pos rfl]

theorem Dev.joinReq_of_refused (hheeds : d.heeds = true) (hacts : d.acts = true) (hr : r = d.joinResult format) (h0 : r ≠ 0) :
    d.joinReq format = d.sendRec 0x11 (beBytes 1 r ++ beBytes 12 0) 1 := by
  rw [Dev.joinReq_of_acting hheeds hacts hr rfl, if_neg h0, if_neg h0]

theorem Dev.joinReq_of_other (format : Nat) (hacts : d.acts = false) : d.joinReq format = d := by
  simp [Dev.joinReq, hacts]

theorem Dev.joinCapture_of_other (h : d.tw.serving = none ∨ d.acts = false) : d.joinCapture = d := by
  rcases h with h | h <;> simp [Dev.joinCapture, h]

/-- At the instant of the snapshot its records follow; their layout is open (log 68). -/
theorem Dev.joinCapture_of_serving {parts : List Bytes} (hserving : d.tw.serving.isSome = true) (hacts : d.acts = true)
    (hparts : parts = chunksOf 248 ((Config.snapshotBytes d.snapItems d.runState).length / 248 + 1)
      (Config.snapshotBytes d.snapItems d.runState)) :
    d.joinCapture = (List.range parts.length).foldl (fun d k => d.sendRec 0x12 (beBytes 4 k ++ parts.getD k []) 1) d := by
  have hserves : ¬ (d.tw.serving.isNone || !d.acts) = true := by simp [Option.isSome_iff_ne_none.mp hserving, hacts]
  subst hparts
  exact if_neg hserves

end

/-! ### The joiner's part of a join (R365, R366; Table 10.5) -/

section
variable {d : Dev}

theorem Dev.joinAck_of_accepted (hheeds : d.heeds = true) (hjoin : d.tw.join = .requested) (ts : Nat) :
    d.joinAck 0 ts = { d with outs := d.outs.map (fun (kv : Nat × OutX) => (kv.1, { kv.2 with sinceTs := 0 })) }.modTw (fun x => { x with
      join := .acked, joinTs := mtDecode ts, nextPart := 0 }) := by
  simp [Dev.joinAck, hheeds, hjoin]

theorem Dev.joinAck_of_refused {result : Nat} (hheeds : d.heeds = true) (hjoin : d.tw.join = .requested) (hresult : result ≠ 0)
    (ts : Nat) : d.joinAck result ts = d.enterSuspect := by
  simp [Dev.joinAck, hheeds, hjoin, hresult]

theorem Dev.joinAck_of_other (hjoin : d.tw.join ≠ .requested) (result ts : Nat) : d.joinAck result ts = d := by
  simp [Dev.joinAck, hjoin]

section
variable {part : Nat} {x : SnapPart} (hheeds : d.heeds = true) (hjoin : d.tw.join = .acked ∨ d.tw.join = .loading)
include hheeds hjoin

theorem Dev.snapIn_of_gap (hpart : part ≠ d.tw.nextPart) : d.snapIn part x = d.joinFail 1 true := by
  rcases hjoin with h | h <;> simp [Dev.snapIn, hheeds, h, hpart]

section
variable {e : Dev} (he : e = d.modTw (fun t => { t with
  join := .loading, nextPart := part + 1, snapItems := t.snapItems ++ x.items, snapRun := t.snapRun ++ x.run }))
  (hpart : part = d.tw.nextPart)
include he hpart

theorem Dev.snapIn_of_next : d.snapIn part x = if x.last then e.snapLoad else e := by
  rcases hjoin with h | h <;> simp [Dev.snapIn, hheeds, h, hpart, he]

theorem Dev.snapIn_of_inner (hlast : x.last = false) : d.snapIn part x = e := by
  rw [Dev.snapIn_of_next hheeds hjoin he hpart, hlast, if_neg Bool.false_ne_true]

theorem Dev.snapIn_of_last (hlast : x.last = true) : d.snapIn part x = e.snapLoad := by
  rw [Dev.snapIn_of_next hheeds hjoin he hpart, if_pos hlast]

end
end

theorem Dev.joinDone_of_acting (hheeds : d.heeds = true) (hacts : d.acts = true) (result : Nat) :
    d.joinDone result = d.modTw (fun x => { x with serving := none }) := by
  simp [Dev.joinDone, hheeds, hacts]

theorem Dev.joinDone_of_failed {result : Nat} (hheeds : d.heeds = true) (hacts : d.acts = false) (hresult : result ≠ 0) :
    d.joinDone result = d.joinFail result false := by
  simp [Dev.joinDone, hheeds, hacts, hresult]

theorem Dev.joinDone_of_good (hheeds : d.heeds = true) (hacts : d.acts = false) : d.joinDone 0 = d := by
  simp [Dev.joinDone, hheeds, hacts]

theorem Dev.joinFilled_of_filling (h : d.tw.join = .filling) : d.joinFilled = d.modTw (fun x => { x with
    join := .verifying, verified := 0, snapMatched := false, validFrom := d.now / usMt 3 + 1 }) := if_pos h

theorem Dev.joinFilled_of_other (h : d.tw.join ≠ .filling) : d.joinFilled = d := if_neg h

/-! ### The hold-off of a rejoin (R359) -/

theorem Dev.holdoffEnd_of_none (h : d.tw.rejoinAt = none) : d.holdoffEnd = d := by
  simp only [Dev.holdoffEnd, h]

section
variable {t : Nat} (h : d.tw.rejoinAt = some t)
include h

theorem Dev.holdoffEnd_of_suspect (hlane : d.laneState tw0 = lnActive) (hstate : d.twinState = twSuspect) :
    d.holdoffEnd = (d.passTo t).beginJoin := by
  have hdue : (d.passTo t).twinState = twSuspect ∧ t ≤ (d.passTo t).clock ∧ (d.passTo t).laneState tw0 = lnActive :=
    ⟨(d.passTo_reg t _ _).trans hstate, (d.passTo_clock t).1, (d.passTo_reg t _ _).trans hlane⟩
  simp only [Dev.holdoffEnd, h, Dev.rejoin, Dev.passTo_tw, if_pos hdue]

theorem Dev.holdoffEnd_of_other (hstate : d.twinState ≠ twSuspect) : d.holdoffEnd = d.passTo t := by
  have hother : ¬ ((d.passTo t).twinState = twSuspect ∧ t ≤ (d.passTo t).clock ∧ (d.passTo t).laneState tw0 = lnActive) :=
    fun ⟨hs, _⟩ => hstate ((d.passTo_reg t _ _).symm.trans hs)
  simp only [Dev.holdoffEnd, h, Dev.rejoin, Dev.passTo_tw, if_neg hother]

end

/-! ### Copies that no SEAL matches (R195, R271, R343) -/

theorem Dev.copyTimeout_of_joining (h : d.joinWaits = true) : d.copyTimeout = d := if_pos h

theorem Dev.copyTimeout_of_none (h : d.ch.copies.find? (fun c => !c.done) = none) : d.copyTimeout = d := by
  simp only [Dev.copyTimeout, h, ite_self]

section
variable {c : Copy} (hjoin : d.joinWaits = false) (hc : d.ch.copies.find? (fun c => !c.done) = some c)
include hjoin hc

theorem Dev.copyTimeout_of_plain (hport : c.req.port ≠ .cn) (htake : takeCopy c.payload = false) :
    d.copyTimeout =
      ((d.passTo (c.arrived + 2000000)).modCh (fun x => { x with copies := x.copies.erase c })).count Obj.TWIN_UNSEALED := by
  simp [Dev.copyTimeout, hjoin, hc, hport, htake]

theorem Dev.copyTimeout_of_reported (h : c.req.port = .cn ∨ takeCopy c.payload = true) :
    d.copyTimeout = ((((d.passTo (c.arrived + 2000000)).modCh (fun x => { x with copies := x.copies.erase c })).count
      Obj.TWIN_UNSEALED).event 0x0301 (refOf Obj.TWIN_UNSEALED 0)).pulse Flt.TWIN_MIRROR := by
  simp [Dev.copyTimeout, hjoin, hc, h]

end

/-! ### Presence windows (R227, R283, R363) -/

/-- A window without entries has one record: FINAL, and COUNT 0. -/
theorem presenceBodies_nil (w cap : Nat) : presenceBodies w cap [] = [beBytes 4 w ++ beBytes 2 32768] := by
  simp [presenceBodies]

section
variable {e : Dev}

theorem Dev.presenceEnd_of_no_video (he : e = d.passToMt (d.nextTick (usMt 10) d.tw.windowV)) (hnone : d.tw.presV = []) :
    d.presenceEnd false = (e.modTw (fun x => { x with windowV := e.now / usMt 10, presV := [] })).mirror 0x04
      (beBytes 4 ((e.now / usMt 10 - 1) % 2 ^ 32) ++ beBytes 2 32768) := by
  have hempty : e.tw.presV = [] := by rw [he, Dev.passToMt_tw, hnone]
  simp only [Dev.presenceEnd, ← he, Dev.modTw_tw, hempty, List.map_nil, presenceBodies_nil, Bool.false_eq_true, if_false]
  rfl

theorem Dev.presenceEnd_of_no_audio (he : e = d.passToMt (d.nextTick (usMt 50) d.tw.windowA)) (hnone : d.tw.presA = []) :
    d.presenceEnd true = (e.modTw (fun x => { x with windowA := e.now / usMt 50, presA := [] })).mirror 0x05
      (beBytes 4 ((e.now / usMt 50 - 1) % 2 ^ 32) ++ beBytes 2 32768) := by
  have hempty : e.tw.presA = [] := by rw [he, Dev.passToMt_tw, hnone]
  simp only [Dev.presenceEnd, ← he, Dev.modTw_tw, hempty, List.map_nil, presenceBodies_nil, if_true]
  rfl

end
end

/-- Settles O40: each message of a join goes by the device's part in it, a copy by its kind, and a window without entries has one
record. -/
theorem joinsAndCopies : Obligations.JoinsAndCopies := by
  unfold Obligations.JoinsAndCopies
  refine ⟨?messages, ?instants⟩
  case messages =>
    intro s h hheeds hlane
    have run {f : Dev → Dev} {d : Dev} (hf : f s.dev = d) : s.live (fun x => x.onTw0 f) = .next (s.after d) :=
      State.live_next h (Dev.onTw0_of_active hheeds hlane hf)
    refine ⟨?request, fun f fw hacts => run (Dev.joinReq_of_other f.toNat hacts), ?ack, ?snapshot, ?done,
      fun t ht hstate => State.live_next h (Dev.holdoffEnd_of_suspect ht hlane hstate)⟩
    case request =>
      intro f fw r hacts hr
      exact ⟨fun h0 => run (Dev.joinReq_of_accepted hheeds hacts hr h0), fun h0 => run (Dev.joinReq_of_refused hheeds hacts hr h0)⟩
    case ack =>
      intro res ts
      refine ⟨fun hjoin h0 => ?accepted, fun hjoin h0 => ?refused, fun hjoin => run (Dev.joinAck_of_other hjoin _ _)⟩
      case accepted =>
        subst h0
        exact run (Dev.joinAck_of_accepted hheeds hjoin ts.toNat)
      case refused => exact run (Dev.joinAck_of_refused hheeds hjoin (BitVec.toNat_ne.mp h0) ts.toNat)
    case snapshot =>
      intro part x d hjoin hd
      exact ⟨fun hpart hlast => run (Dev.snapIn_of_inner hheeds hjoin hd hpart hlast),
        fun hpart hlast => run (Dev.snapIn_of_last hheeds hjoin hd hpart hlast), fun hpart => run (Dev.snapIn_of_gap hheeds hjoin hpart)⟩
    case done =>
      intro res
      refine ⟨fun hacts => run (Dev.joinDone_of_acting hheeds hacts res.toNat), fun hacts h0 => ?failed, fun hacts h0 => ?good⟩
      case failed => exact run (Dev.joinDone_of_failed hheeds hacts (BitVec.toNat_ne.mp h0))
      case good =>
        subst h0
        exact run (Dev.joinDone_of_good hheeds hacts)
  case instants =>
    intro s h
    exact ⟨fun hr => State.live_next h (Dev.holdoffEnd_of_none hr),
      fun t ht hstate => State.live_next h (Dev.holdoffEnd_of_other ht hstate),
      fun hjoin => State.live_next h (Dev.joinFilled_of_filling hjoin), fun hjoin => State.live_next h (Dev.joinFilled_of_other hjoin),
      fun hjoin => State.live_next h (Dev.copyTimeout_of_joining hjoin), fun hc => State.live_next h (Dev.copyTimeout_of_none hc),
      fun c hjoin hc hport htake => State.live_next h (Dev.copyTimeout_of_plain hjoin hc hport htake),
      fun c hjoin hc hcase => State.live_next h (Dev.copyTimeout_of_reported hjoin hc hcase),
      fun d hd hnone => State.live_next h (Dev.presenceEnd_of_no_video hd hnone),
      fun d hd hnone => State.live_next h (Dev.presenceEnd_of_no_audio hd hnone),
      fun hcase => State.live_next h (Dev.joinCapture_of_other hcase),
      fun parts hserving hacts hparts => State.live_next h (Dev.joinCapture_of_serving hserving hacts hparts)⟩

end Sys2Proof.Machine
end

section
/-! Local writes that their checks accept: applied and answered at once, or, for settings of the port that the request came by, answered
first (R375, R411, R426). -/

namespace Sys2Proof.Machine

/-! ### The elements that a write names -/

theorem num_of_mem_elemWrs {o : ObjDesc} {x : Ref} {b : Bytes} {ws : List Wr} {w : Wr} (h : elemWrs o x b = some ws) (hw : w ∈ ws) :
    w.num = x.object.toNat := by
  unfold elemWrs at h
  split at h
  · cases h
    rw [List.mem_singleton.mp hw]
  · dsimp only at h
    split at h
    · cases h
    · cases h
      obtain ⟨_, -, rfl⟩ := List.mem_map.mp hw
      rfl

/-- An item writes elements of its own object only. -/
theorem num_of_mem_itemWrs {it : Item} {w : Wr} (hw : w ∈ (itemWrs it).getD []) : w.num = it.ref.object.toNat := by
  cases hws : itemWrs it with
  | none => simp [hws] at hw
  | some ws =>
    rw [hws, Option.getD_some] at hw
    unfold itemWrs at hws
    split at hws
    · split at hws
      · exact num_of_mem_elemWrs hws hw
      · cases hws
    · cases hws

/-! ### Accepting a local write -/

/-- E of a local write is the Media Time of acceptance (R411). -/
theorem Dev.writeE_of_local (d : Dev) (r : Req) (apply : Nat) {ws : List Wr} (htake : ∀ w ∈ ws, w.num ≠ Obj.TAKE) :
    d.writeE r apply ws false = (d.now, false) := by
  change ws.foldl _ (d.now, false) = _
  exact (List.foldl_ext _ (fun t _ => t) _ fun _ w hw => if_neg (htake w hw)).trans (List.foldl_fixed' (fun _ => rfl) ws)

theorem Dev.gatesLeft_of_no_gate (d : Dev) (its : List Item) {ws : List Wr} (hgate : ∀ w ∈ ws, w.num ≠ Obj.GATE_EN) :
    d.gatesLeft its ws = [] := by
  have hnone : ws.filter (fun w => w.num == Obj.GATE_EN && d.gateWaits w.idx) = [] := by
    rw [List.filter_eq_nil_iff]
    intro w hw
    simp [hgate w hw]
  rw [Dev.gatesLeft, hnone, List.map_nil]

section
variable {d : Dev} {r : Req} {ws : List Wr} (p : Payload) (kind apply : Nat) (htake : ∀ w ∈ ws, w.num ≠ Obj.TAKE)
include htake

theorem Dev.acceptWrite_of_local (hgate : ∀ w ∈ ws, w.num ≠ Obj.GATE_EN) (hown : ws.any (ownPortSetting r.port) = false) :
    d.acceptWrite r p kind apply ws false =
      { dev := d.applyWrites d.now ws, resp := some (accepted kind r d.now false false) } := by
  simp only [Dev.acceptWrite, Dev.writeE_of_local d r (mtDecode apply) htake, hown, Bool.false_eq_true, if_false,
    Dev.gatesLeft_of_no_gate _ _ hgate]

/-- Settings of the port that the request came by wait for its reply (R375). -/
theorem Dev.acceptWrite_of_own_port (hown : ws.any (ownPortSetting r.port) = true) :
    d.acceptWrite r p kind apply ws false = { dev := d, resp := some (accepted kind r d.now false false), later := ws } := by
  simp only [Dev.acceptWrite, Dev.writeE_of_local d r (mtDecode apply) htake, hown, Bool.false_eq_true, if_false, if_true]

end

theorem Dev.reply_accepted_later (d : Dev) (r : Req) (kind e : Nat) (late urgent : Bool) (port : Port) {ws : List Wr} (hws : ws ≠ []) :
    Dev.reply { dev := d, resp := some (accepted kind r e late urgent), later := ws } port =
      (d.answer (accepted kind r e late urgent)).defer port ws none := by
  simp [Dev.reply, accepted, hws]

/-- Settles O51: the elements of a local write name its own object, so none of them is a take or a gate, and `Dev.acceptWrite` goes by
whether one is a setting of the request's port. -/
theorem localWrites : Obligations.LocalWrites := by
  unfold Obligations.LocalWrites
  intro s i r a it ws hi htakes hfield hfits hgood hobj
  simp only [List.mem_cons, List.not_mem_nil, or_false, not_or] at hobj
  obtain ⟨hgate, htake⟩ := hobj
  have hnum (w : Wr) (hw : w ∈ ws) : w.num = it.ref.object.toNat :=
    num_of_mem_itemWrs ((Dev.itemWrs_of_judged_good hgood).symm ▸ hw)
  have hgates (w : Wr) (hw : w ∈ ws) : w.num ≠ Obj.GATE_EN := hnum w hw ▸ hgate
  have htakeNone (w : Wr) (hw : w ∈ ws) : w.num ≠ Obj.TAKE := hnum w hw ▸ htake
  have run {d : Dev} (hd : Dev.reply (s.dev.acceptWrite r (.write a it) kWrite a.toNat ws false) r.port = d) :
      exec i s = .next (s.after d) := by
    rw [exec_of_carriedWrite_of_fits hi hfits]
    exact State.live_next htakes.1 ((Dev.request_write_of_good htakes hfield htake hgood).trans hd)
  refine ⟨fun hown => run ?applied, fun hown => run ?deferred⟩
  case applied => rw [Dev.acceptWrite_of_local _ _ _ htakeNone hgates hown, Dev.reply_accepted]
  case deferred =>
    have hsome : ws ≠ [] := by
      rintro rfl
      cases hown
    rw [Dev.acceptWrite_of_own_port _ _ _ htakeNone hown, Dev.reply_accepted_later _ _ _ _ _ _ _ hsome]

end Sys2Proof.Machine
end

section
/-! Management ports: frames in and out, collisions and backoff, BEACONs, gate cycles and access windows (R376, R382 to R387, R391, R392,
R398). -/

namespace Sys2Proof.Machine

@[simp] theorem Dev.passTo_mac (d : Dev) (at_ m : Nat) : (d.passTo at_).mac m = d.mac m := by
  simp only [Dev.mac, Dev.passTo_macs]

@[simp] theorem Dev.countWrap_mac (d : Dev) (n i k m : Nat) : (d.countWrap n i k).mac m = d.mac m := rfl

/-! ### A received frame (R376, R397 to R401) -/

section
variable {d e : Dev} {m : Nat} {g : MgFrame}

theorem Dev.mgFrame_of_nothing (h : d.rxFrame m g = (.nothing, e)) : d.mgFrame m g = e := by
  simp only [Dev.mgFrame, h]

theorem Dev.mgFrame_of_message {toPair : Bool} {b : Bytes} (h : d.rxFrame m g = (.message toPair b, e)) :
    d.mgFrame m g = e.message (if m = 0 then .mgA else .mgB) (rxParts g.bytes).sa toPair (rxParts g.bytes).tag b := by
  simp only [Dev.mgFrame, h]

theorem Dev.rxFrame_of_closed (hopen : d.mgOpen m = false) : d.rxFrame m g = (.nothing, d) := by
  simp [Dev.rxFrame, hopen]

variable {f : RxFrame} (hopen : d.mgOpen m = true) (hf : f = rxParts g.bytes)
include hopen hf

theorem Dev.rxFrame_of_filtered {n : Nat} (hfilter : d.rxFilter m g.collision f = some n) :
    d.rxFrame m g = (.nothing, d.count n m) := by
  subst hf
  simp [Dev.rxFrame, hopen, hfilter]

variable {fl base : Nat} (hfilter : d.rxFilter m g.collision f = none) (hfl : fl = d.rxFlags g.symbolErr f)
include hfilter hfl

theorem Dev.rxFrame_of_no_descriptor (havail : g.avail = 0) :
    d.rxFrame m g = (.nothing, ((d.countRxFlags m fl).count Obj.MG_RX_NO_DESC m).pulse (Flt.MG_RX_LOSS_A + m)) := by
  subst hf hfl
  simp [Dev.rxFrame, hopen, hfilter, havail]

/-- A frame that its errors keep from the ring counts its flags alone (R398, log 73). -/
theorem Dev.rxFrame_of_errored (havail : g.avail ≠ 0) (herr : fl ≠ 0) (hcut : bitOf fl 56 = false)
    (hdeliver : d.flag Obj.MG_DELIVER_ERRORED = false) : d.rxFrame m g = (.nothing, d.countRxFlags m fl) := by
  subst hf hfl
  simp [Dev.rxFrame, hopen, hfilter, havail, herr, hcut, hdeliver]

variable (hgood : fl = 0) (hbase : base = boolNat (isGroup f.da.toNat) * 2 ^ 54 + boolNat f.tag.isSome * 2 ^ 53)
include hgood hbase

/-- A frame that runs out of buffers is abandoned (R397, R400). -/
theorem Dev.rxFrame_of_abandoned (havail : g.avail ≠ 0) (hshort : g.avail < ceilDiv (d.rxStored f) 512) :
    d.rxFrame m g = (.nothing,
      (((d.completeRx m g.avail (512 * g.avail) (512 * g.avail) (base + 2 ^ 55)).count Obj.MG_RX_ABANDONED m).pulse
        (Flt.MG_RX_LOSS_A + m)).setReg Obj.MG_LAST_ERRORED m (beNat (fitBytes 64 (g.bytes.take (512 * g.avail))))) := by
  subst hf hbase
  simp [Dev.rxFrame, hopen, hfilter, ← hfl, hgood, havail, hshort]

/-- A whole frame for one device, or for all, is stored and goes to the message layer. -/
theorem Dev.rxFrame_of_delivered {c : Dev} {n stored : Nat} (hstored : stored = d.rxStored f) (hn : n = ceilDiv stored 512)
    (havail : g.avail ≠ 0) (hroom : n ≤ g.avail) (hsingle : isGroup f.da.toNat = false)
    (hc : c = (d.completeRx m n stored f.len (base + fl)).countRxFlags m fl)
    (he : e = (c.countWrap Obj.MG_RX_FRAMES m 1).countWrap Obj.MG_RX_BYTES m f.len) :
    d.rxFrame m g = (.message (f.da.toNat == c.reg Obj.MG_PAIR_ADDR) f.body, e) := by
  subst hf hbase hstored hn hc he
  simp [Dev.rxFrame, hopen, hfilter, ← hfl, hgood, havail, Nat.not_lt.mpr hroom, hsingle]

end

/-! ### A frame's start (R389, R391) -/

section
variable {d : Dev} {m : Nat}

theorem Dev.txStart_of_closed (hopen : d.mgOpen m = false) : d.txStart m = (none, d) := by
  simp [Dev.txStart, hopen]

section
variable {f : TxFrame} {r : List TxFrame} (hflight : (d.mac m).flight = none)
include hflight

theorem Dev.txNext_of_urgent (hurgent : (d.mac m).urgent = f :: r) (hfits : d.fits m f = true) :
    d.txNext m = some (f, { d.mac m with urgent := r }) := by
  simp [Dev.txNext, hflight, hurgent, hfits]

theorem Dev.txNext_of_normal (hurgent : (d.mac m).urgent = []) (hnormal : (d.mac m).normal = f :: r) :
    d.txNext m = if d.fits m f then some (f, { d.mac m with normal := r }) else none := by
  simp [Dev.txNext, hflight, hurgent, hnormal]

theorem Dev.txNext_of_empty (hurgent : (d.mac m).urgent = []) (hnormal : (d.mac m).normal = []) : d.txNext m = none := by
  simp [Dev.txNext, hflight, hurgent, hnormal]

section
variable (hopen : d.mgOpen m = true) (hend : (d.mac m).endAt = 0)
include hopen hend

/-- A port with nothing on the wire begins the frame that is next. -/
theorem Dev.txStart_of_next {x : MacX} (hnext : d.txNext m = some (f, x)) :
    d.txStart m = (none, d.setMac m { x with flight := some f, wire := d.txBytes m f, endAt := d.clock + f.time }) := by
  simp [Dev.txStart, hopen, hend, Dev.txDone, hflight, hnext]

theorem Dev.txStart_of_no_next (hnext : d.txNext m = none) : d.txStart m = (none, d) := by
  simp [Dev.txStart, hopen, hend, Dev.txDone, hflight, hnext]

end
end

theorem MacX.refill_of_no_waiting {x : MacX} (h : x.waiting = []) : x.refill = x := by
  obtain ⟨⟩ := x
  cases h
  rfl

theorem Dev.takeMethod_of_none (h : (d.mac m).method = none) : d.takeMethod m = d := by
  simp only [Dev.takeMethod, h]

/-- A frame that carries no part of a response has left, as the next start implies (log 72): nothing waits for it. -/
theorem Dev.txDone_of_sent {e : Dev} {f : TxFrame} {y : MacX} (hy : y = d.mac m) (hflight : y.flight = some f) (hend : y.endAt ≠ 0)
    (hmethod : y.method = none) (hwaiting : y.waiting = []) (hresp : f.resp = 0)
    (he : e = d.setMac m { y with flight := none, tries := 0, endAt := 0 })
    (hmac : e.mac m = { y with flight := none, tries := 0, endAt := 0 }) :
    d.txDone m = (none, (e.countWrap Obj.MG_TX_FRAMES m 1).countWrap Obj.MG_TX_BYTES m f.len) := by
  have hrefill : MacX.refill { y with flight := none, tries := 0, endAt := 0 } = { y with flight := none, tries := 0, endAt := 0 } :=
    MacX.refill_of_no_waiting hwaiting
  have hmethod' : (e.mac m).method = none := by rw [hmac, ← hmethod]
  simp [Dev.txDone, ← hy, hflight, hend, hrefill, ← he, Dev.takeMethod_of_none hmethod', hresp]

theorem Dev.txStart_of_sent {c e : Dev} {f : TxFrame} {y : MacX} (hopen : d.mgOpen m = true) (hy : y = d.mac m)
    (hflight : y.flight = some f) (hend : y.endAt ≠ 0) (hmethod : y.method = none) (hwaiting : y.waiting = []) (hurgent : y.urgent = [])
    (hnormal : y.normal = []) (hresp : f.resp = 0) (hc : c = d.passTo (y.endAt + 9600))
    (he : e = c.setMac m { y with flight := none, tries := 0, endAt := 0 })
    (hmac : e.mac m = { y with flight := none, tries := 0, endAt := 0 }) :
    d.txStart m = (none, (e.countWrap Obj.MG_TX_FRAMES m 1).countWrap Obj.MG_TX_BYTES m f.len) := by
  have hyc : y = c.mac m := by rw [hc, Dev.passTo_mac, hy]
  have hdone := Dev.txDone_of_sent hyc hflight hend hmethod hwaiting hresp he hmac
  have hnext : ((e.countWrap Obj.MG_TX_FRAMES m 1).countWrap Obj.MG_TX_BYTES m f.len).txNext m = none := by
    apply Dev.txNext_of_empty <;> simp only [Dev.countWrap_mac, hmac, hurgent, hnormal]
  simp [Dev.txStart, hopen, ← hy, hend, ← hc, hdone, hnext]

end

/-! ### Collisions and backoff (R382, R383) -/

section
variable {d : Dev} {m bit : Nat}

theorem Dev.collide_of_idle (h : (d.mac m).flight = none ∨ (d.mac m).endAt = 0) : d.collide m bit = (none, d) := by
  unfold Dev.collide
  dsimp only
  split
  · rfl
  · next f hf => exact if_pos (.inl (h.resolve_left (by simp [hf])))

section
variable {f : TxFrame} (hflight : (d.mac m).flight = some f)
include hflight

theorem Dev.collide_of_past (hbit : f.time ≤ bit * 100) : d.collide m bit = (none, d) := by
  simp [Dev.collide, hflight, hbit]

variable {c : Dev} {y x : MacX} (hy : y = d.mac m) (hend : y.endAt ≠ 0) (hbit : bit * 100 < f.time)
  (hc : c = (d.passTo (y.endAt - f.time + bit * 100)).count Obj.MG_TX_COLLISIONS m)
  (hx : x = { y with winColl := y.winColl + 1, endAt := 0, tries := y.tries + 1 })
include hy hend hbit hc hx

/-- A collision on the wire: late from bit 512 on, the last that the frame may have, or one that backs off. -/
theorem Dev.collide_of_collision : d.collide m bit =
    if 512 ≤ bit then ((c.setMac m x).count Obj.MG_TX_LATE_COLL m).giveUp m f
    else if 16 ≤ x.tries then ((c.setMac m x).count Obj.MG_TX_EXCESS m).giveUp m f
    else (none, (c.draw (2 ^ min x.tries 10)).2.setMac m { x with
      backoff := some ((c.draw (2 ^ min x.tries 10)).2.clock + 3200 + (c.draw (2 ^ min x.tries 10)).1 * 51200) }) := by
  subst hy hc hx
  simp [Dev.collide, hflight, hend, Nat.not_le.mpr hbit]

theorem Dev.collide_of_late (hlate : 512 ≤ bit) : d.collide m bit = ((c.setMac m x).count Obj.MG_TX_LATE_COLL m).giveUp m f := by
  rw [Dev.collide_of_collision hflight hy hend hbit hc hx, if_pos hlate]

theorem Dev.collide_of_excess (hearly : bit < 512) (htries : 15 ≤ y.tries) :
    d.collide m bit = ((c.setMac m x).count Obj.MG_TX_EXCESS m).giveUp m f := by
  have hlimit : 16 ≤ x.tries := by rw [hx]; exact Nat.succ_le_succ htries
  rw [Dev.collide_of_collision hflight hy hend hbit hc hx, if_neg (Nat.not_le.mpr hearly), if_pos hlimit]

theorem Dev.collide_of_backoff (hearly : bit < 512) (htries : y.tries < 15) :
    d.collide m bit = (none, (c.draw (2 ^ min x.tries 10)).2.setMac m { x with
      backoff := some ((c.draw (2 ^ min x.tries 10)).2.clock + 3200 + (c.draw (2 ^ min x.tries 10)).1 * 51200) }) := by
  have hbelow : ¬ 16 ≤ x.tries := by rw [hx]; exact Nat.not_le.mpr (Nat.succ_lt_succ htries)
  rw [Dev.collide_of_collision hflight hy hend hbit hc hx, if_neg (Nat.not_le.mpr hearly), if_neg hbelow]

end

theorem Dev.backoffOver_of_none (h : (d.mac m).backoff = none) : d.backoffOver m = d := by
  simp only [Dev.backoffOver, h]

theorem Dev.backoffOver_of_some {t : Nat} (h : (d.mac m).backoff = some t) :
    d.backoffOver m = (d.passTo t).modMac m (fun x => { x with backoff := none }) := by
  simp only [Dev.backoffOver, h]

end

/-! ### Medium access (R384, R386, R387) -/

section
variable {d : Dev} {m : Nat}

theorem Dev.plcaBeacon_of_closed (hopen : d.mgOpen m = false) (busy : Bool) : d.plcaBeacon m busy = d := by
  simp [Dev.plcaBeacon, hopen]

theorem Dev.plcaBeacon_of_open (hopen : d.mgOpen m = true) (busy : Bool) :
    d.plcaBeacon m busy = (d.setReg Obj.MG_PLCA_STATUS m 1).modMac m (fun x => { x with
      beaconAt := d.clock, winBeacon := true, winBusy := x.winBusy + boolNat (busy && d.reg Obj.MG_ACCESS_STATE m == 1) }) := by
  simp [Dev.plcaBeacon, hopen]

section
variable {a c : Dev} {y x : MacX} (hc : c = a.passToMt (a.nextTick (msMt 100) (a.mac m).winK)) (hy : y = c.mac m)
  (hd : d = c.beaconWatch m)
  (hx : x = { y with winColl := 0, winBusy := 0, winBeacon := d.flag Obj.MG_PLCA_STATUS m, winK := d.now / msMt 100 })
include hc hy hd hx

theorem Dev.accessWindow_of_fixed (hmode : d.reg Obj.MG_ACCESS_MODE m ≠ 0) : a.accessWindow m = d.setMac m x := by
  subst hc hy hd hx
  simp [Dev.accessWindow, hmode]

section
variable (hmode : d.reg Obj.MG_ACCESS_MODE m = 0)
include hmode

section
variable (hstate : d.reg Obj.MG_ACCESS_STATE m = 0)
include hstate

theorem Dev.accessWindow_of_calm (hrate : y.winColl * 10 ≤ d.reg Obj.MG_PLCA_ENTER_RATE) (htime : 0 < d.reg Obj.MG_PLCA_ENTER_TIME) :
    a.accessWindow m = d.setMac m { x with enterRun := 0, exitRun := 0 } := by
  subst hc hy hd hx
  simp [Dev.accessWindow, hmode, hstate, Nat.not_lt.mpr hrate, htime]

/-- Windows with too many collisions for long enough: the port goes to PLCA, where it has an ID. -/
theorem Dev.accessWindow_of_crowded {e : Dev} (hrate : d.reg Obj.MG_PLCA_ENTER_RATE < y.winColl * 10)
    (htime : d.reg Obj.MG_PLCA_ENTER_TIME ≤ (y.enterRun + 1) * 100) (he : e = d.setMac m { x with enterRun := 0, exitRun := 0 }) :
    a.accessWindow m = if e.reg Obj.MG_PLCA_ID m = 255 then e.event 0x4803 (refOf Obj.MG_ACCESS_STATE m)
      else ((e.setMethod m 1).count Obj.MG_PLCA_ENTRIES m).event 0x4801 (refOf Obj.MG_ACCESS_STATE m) := by
  subst hc hy hd hx he
  simp [Dev.accessWindow, hmode, hstate, hrate, Nat.not_lt.mpr htime]

end

/-- Windows with too few busy cycles for long enough: the port goes back to CSMA/CD. -/
theorem Dev.accessWindow_of_quiet (hstate : d.reg Obj.MG_ACCESS_STATE m = 1)
    (hrate : (if y.winBeacon then y.winBusy * 10 else 0) < d.reg Obj.MG_PLCA_EXIT_RATE)
    (htime : d.reg Obj.MG_PLCA_EXIT_TIME * 10 ≤ y.exitRun + 1) :
    a.accessWindow m =
      ((d.setMac m { x with enterRun := 0, exitRun := 0 }).setMethod m 0).event 0x4802 (refOf Obj.MG_ACCESS_STATE m) := by
  subst hc hy hd hx
  simp [Dev.accessWindow, hmode, hstate, hrate, Nat.not_lt.mpr htime]

end
end
end

/-- Settles O41: a frame goes by the first check of its port that it fails, a frame's start by what is on the wire and in the rings, a
collision by its bit and the frame's tries, and a window by the access method and its runs. -/
theorem managementSegments : Obligations.ManagementSegments := by
  unfold Obligations.ManagementSegments
  refine ⟨?received, ?transmit, ?collision, ?instants, ?window⟩
  case received =>
    intro s m g f h hf
    have run {d : Dev} (hd : s.dev.rxFrame m.val g = (.nothing, d)) : exec (.mgFrameReceived m g) s = .next (s.after d) :=
      State.live_next h (Dev.mgFrame_of_nothing hd)
    refine ⟨fun hopen => run (Dev.rxFrame_of_closed hopen), fun n hopen hn => run (Dev.rxFrame_of_filtered hopen hf hn), ?passed⟩
    intro fl base hopen hfilter hfl hbase
    refine ⟨fun havail => run (Dev.rxFrame_of_no_descriptor hopen hf hfilter hfl havail),
      fun havail herr hcut hdel => run (Dev.rxFrame_of_errored hopen hf hfilter hfl havail herr hcut hdel),
      fun hgood havail hshort => run (Dev.rxFrame_of_abandoned hopen hf hfilter hfl hgood hbase havail hshort), ?delivered⟩
    intro d e n stored hgood hstored hn havail hroom hsingle hd he
    have hrx := Dev.rxFrame_of_delivered hopen hf hfilter hfl hgood hbase hstored hn havail hroom hsingle hd he
    subst hf
    exact State.live_next h (Dev.mgFrame_of_message hrx)
  case transmit =>
    intro s m y h hy
    have run {d : Dev} (hd : s.dev.txStart m.val = (none, d)) : exec (.mgFrameTransmit m) s = .next (s.after d) :=
      State.live_next h (congrArg (Dev.mgLeft m.val) hd)
    refine ⟨fun hopen => run (Dev.txStart_of_closed hopen), ?urgent, ?normal, ?sent⟩
    case urgent =>
      subst hy
      intro f r hopen hflight hend hurgent hfits
      exact run (Dev.txStart_of_next hflight hopen hend (Dev.txNext_of_urgent hflight hurgent hfits))
    case normal =>
      subst hy
      intro f r hopen hflight hend hurgent hnormal
      have hnext := Dev.txNext_of_normal hflight hurgent hnormal
      exact ⟨fun hfits => run (Dev.txStart_of_next hflight hopen hend (hnext.trans (if_pos hfits))),
        fun hfits => run (Dev.txStart_of_no_next hflight hopen hend (hnext.trans (if_neg (ne_true_of_eq_false hfits))))⟩
    case sent =>
      intro f d e hopen hflight hend hmethod hwaiting hurgent hnormal hresp hd he hmac
      exact run (Dev.txStart_of_sent hopen hy hflight hend hmethod hwaiting hurgent hnormal hresp hd he hmac)
  case collision =>
    intro s m bit y h hy
    have run {o : Option Nat × Dev} (ho : s.dev.collide m.val bit = o) :
        exec (.mgCollision m bit) s = .next (s.after (Dev.mgLeft m.val o)) :=
      State.live_next h (congrArg (Dev.mgLeft m.val) ho)
    refine ⟨fun hidle => run (Dev.collide_of_idle (hy ▸ hidle)), fun f hf hbit => run (Dev.collide_of_past (hy ▸ hf) hbit), ?hit⟩
    intro f d x hf hend hbit hd hx
    have hflight : (s.dev.mac m.val).flight = some f := hy ▸ hf
    exact ⟨fun hearly htries => run (Dev.collide_of_backoff hflight hy hend hbit hd hx hearly htries),
      fun hearly htries => run (Dev.collide_of_excess hflight hy hend hbit hd hx hearly htries),
      fun hlate => run (Dev.collide_of_late hflight hy hend hbit hd hx hlate)⟩
  case instants =>
    intro s m busy h
    refine ⟨fun hb => State.live_next h (Dev.backoffOver_of_none hb), fun t ht => State.live_next h (Dev.backoffOver_of_some ht),
      fun hopen => State.live_next h (Dev.plcaBeacon_of_open hopen busy),
      fun hopen => State.live_next h (Dev.plcaBeacon_of_closed hopen busy), ?cycle⟩
    rintro d rfl
    exact State.live_of_running h
  case window =>
    intro s m c d y x h hc hy hd hx
    have run {f : Dev} (hf : s.dev.accessWindow m.val = f) : exec (.mgAccessWindow m) s = .next (s.after f) := State.live_next h hf
    refine ⟨fun hmode => run (Dev.accessWindow_of_fixed hc hy hd hx hmode), fun hmode hstate => ⟨?calm, ?crowded⟩, ?quiet⟩
    case calm => exact fun hrate htime => run (Dev.accessWindow_of_calm hc hy hd hx hmode hstate hrate htime)
    case crowded =>
      intro hrate htime e he
      have hmove := Dev.accessWindow_of_crowded hc hy hd hx hmode hstate hrate htime he
      exact ⟨fun hid => run (hmove.trans (if_neg hid)), fun hid => run (hmove.trans (if_pos hid))⟩
    case quiet => exact fun hmode hstate hrate htime => run (Dev.accessWindow_of_quiet hc hy hd hx hmode hstate hrate htime)

end Sys2Proof.Machine
end

section
/-! The family of "The object dictionary". First requests as bytes: what Tables 12.4 and 12.5 write out reads back (R417, R418, R424 to
R434). -/

namespace Sys2Proof.Machine

/-! ### Fields that read back -/

/-- A field of `n` bytes reads back as the word that it carries. -/
theorem ofNat_beNat_beBytes {w : Nat} (n : Nat) (x : BitVec w) (h : 2 ^ w ≤ 256 ^ n) : BitVec.ofNat w (beNat (beBytes n x.toNat)) = x := by
  rw [beNat_beBytes, Nat.mod_eq_of_lt (Nat.lt_of_lt_of_le x.isLt h), BitVec.ofNat_toNat, BitVec.setWidth_eq]

theorem boolNat_lt (b : Bool) : boolNat b < 2 := by
  cases b <;> decide

theorem boolNat_beq_one (b : Bool) : (boolNat b == 1) = b := by
  cases b <;> rfl

/-- A bit that holds `boolNat b` reads as `b`. -/
theorem bitOf_of_eq {v i : Nat} {b : Bool} (h : v / 2 ^ i % 2 = boolNat b) : bitOf v i = b := by
  rw [bitOf, h, boolNat_beq_one]

theorem refBits_lt (r : Ref) : refBits r < 256 ^ 8 := by
  have := r.object.isLt
  have := r.resv.isLt
  have := r.index.isLt
  have := r.elements.isLt
  have := boolNat_lt r.indexed
  unfold refBits
  omega

theorem refOfBits_refBits (r : Ref) : refOfBits (refBits r) = r := by
  obtain ⟨object, resv, indexed, index, elements⟩ := r
  have := object.isLt
  have := resv.isLt
  have := index.isLt
  have := elements.isLt
  have := boolNat_lt indexed
  unfold refOfBits refBits
  congr 1
  · exact BitVec.eq_of_toNat_eq (by simp only [BitVec.toNat_ofNat]; omega)
  · exact BitVec.eq_of_toNat_eq (by simp only [BitVec.toNat_ofNat]; omega)
  · exact bitOf_of_eq (by dsimp only; omega)
  · exact BitVec.eq_of_toNat_eq (by simp only [BitVec.toNat_ofNat]; omega)
  · exact BitVec.eq_of_toNat_eq (by simp only [BitVec.toNat_ofNat]; omega)

/-- A reference reads back from its eight bytes (Table 12.8). -/
theorem refOfBits_beBytes (r : Ref) : refOfBits (beNat (beBytes 8 (refBits r))) = r := by
  rw [beNat_beBytes, Nat.mod_eq_of_lt (refBits_lt r), refOfBits_refBits]

/-! ### Lists that read back -/

/-- Records of one length, written one after the other, are cut apart again. -/
theorem map_chunksOf_flatMap {α : Type} {f : α → Bytes} {g : Bytes → α} {n : Nat} (hn : n ≠ 0) (hlen : ∀ x, (f x).length = n)
    (hread : ∀ x, g (f x) = x) (xs : List α) : (chunksOf n xs.length (xs.flatMap f)).map g = xs := by
  induction xs with
  | nil => rfl
  | cons x xs ih =>
    have hne : f x ++ xs.flatMap f ≠ [] := by
      apply List.ne_nil_of_length_pos
      rw [List.length_append, hlen]
      omega
    rw [List.flatMap_cons, List.length_cons, chunksOf, List.take_left' (hlen x), List.drop_left' (hlen x), List.map_cons, hread, ih]
    exact hne

theorem length_flatMap_of_length {α : Type} {f : α → Bytes} {n : Nat} (hlen : ∀ x, (f x).length = n) (xs : List α) :
    (xs.flatMap f).length = n * xs.length := by
  simp [List.length_flatMap, hlen, Nat.mul_comm]

theorem take_beBytes {n k : Nat} (v : Nat) (h : n ≤ k) : (beBytes n v).take k = beBytes n v :=
  List.take_of_length_le (by simpa using h)

theorem drop_beBytes {n k : Nat} (v : Nat) (h : n ≤ k) : (beBytes n v).drop k = [] :=
  List.drop_eq_nil_of_le (by simpa using h)

/-- An item is its reference, its value's length and its value (R426). -/
theorem itemBytes_length (it : Item) : (itemBytes it).length = 10 + it.value.length := by
  simp [itemBytes]
  omega

/-- The items of a write read back, where each value's length fits the two bytes that it has (R426). -/
theorem parseItems_itemBytes {its : List Item} (h : ∀ it ∈ its, it.value.length < 65536) :
    parseItems its.length (its.flatMap itemBytes) = some its := by
  induction its with
  | nil => rfl
  | cons it its ih =>
    obtain ⟨hlen, hrest⟩ := List.forall_mem_cons.mp h
    have hsize : beNat (beBytes 2 it.value.length) = it.value.length := by rw [beNat_beBytes]; exact Nat.mod_eq_of_lt hlen
    have hall : (itemBytes it ++ its.flatMap itemBytes).length = 10 + it.value.length + (its.flatMap itemBytes).length := by
      rw [List.length_append, itemBytes_length]
    have hten : (itemBytes it ++ its.flatMap itemBytes).drop 10 = it.value ++ its.flatMap itemBytes := by
      simp [itemBytes, List.drop_append, drop_beBytes]
    have href : beNat ((itemBytes it ++ its.flatMap itemBytes).take 8) = beNat (beBytes 8 (refBits it.ref)) := by
      simp [itemBytes]
    have hcount : beNat (((itemBytes it ++ its.flatMap itemBytes).drop 8).take 2) = it.value.length := by
      simp [itemBytes, hsize]
    rw [List.flatMap_cons, List.length_cons, parseItems, if_neg (by omega)]
    simp only [hten, href, hcount, refOfBits_beBytes, List.drop_left, List.take_left, ih hrest, List.length_append]
    rw [if_neg (by omega)]
    rfl

/-! ### Payloads that read back (Table 12.5) -/

theorem readPayload_readsBack {count : Nat} {refs : List Ref} (h : refs.length = count) :
    parsePayload kRead count (payloadBytes (.read refs)) = .read refs := by
  subst h
  have hlen (r : Ref) : (beBytes 8 (refBits r)).length = 8 := beBytes_length ..
  have hread (r : Ref) : refOfBits (beNat ((beBytes 8 (refBits r)).take 8)) = r := by
    rw [take_beBytes _ (Nat.le_refl 8), refOfBits_beBytes]
  simp only [parsePayload, kRead, payloadBytes, length_flatMap_of_length hlen, beq_self_eq_true, if_true]
  rw [map_chunksOf_flatMap (by decide) hlen hread]

/-- The records of a TAKE or a SUBSCRIBE read back. -/
theorem map_chunksOf_words {w n : Nat} (hn : n ≠ 0) (h : 2 ^ w ≤ 256 ^ n) (recs : List (BitVec w)) :
    (chunksOf n recs.length (recs.flatMap (fun r => beBytes n r.toNat))).map (fun x => BitVec.ofNat w (beNat x)) = recs :=
  map_chunksOf_flatMap hn (fun _ => beBytes_length ..) (fun r => ofNat_beNat_beBytes n r h) recs

theorem takePayload_readsBack {count : Nat} {recs : List (BitVec 128)} (h : recs.length = count) :
    parsePayload kTake count (payloadBytes (.take recs)) = .take recs := by
  subst h
  simp only [parsePayload, kTake, payloadBytes, length_flatMap_of_length (fun r : BitVec 128 => beBytes_length 16 r.toNat),
    beq_self_eq_true, if_true]
  rw [map_chunksOf_words (by decide) (by decide)]

theorem subscribePayload_readsBack {count : Nat} {recs : List (BitVec 256)} (h : recs.length = count) :
    parsePayload kSubscribe count (payloadBytes (.subscribe recs)) = .subscribe recs := by
  subst h
  simp only [parsePayload, kSubscribe, payloadBytes, length_flatMap_of_length (fun r : BitVec 256 => beBytes_length 32 r.toNat),
    beq_self_eq_true, if_true]
  rw [map_chunksOf_words (by decide) (by decide)]

/-- APPLY opens the payload of every kind of write (R426, R427, R428, R431). -/
theorem apply_readsBack (a : BitVec 96) (b : Bytes) : BitVec.ofNat 96 (beNat ((beBytes 12 a.toNat ++ b).take 12)) = a := by
  rw [List.take_left' (beBytes_length ..), ofNat_beNat_beBytes 12 a (by decide)]

theorem writePayload_readsBack (count : Nat) {a : BitVec 96} {it : Item} (h : it.value.length < 65536) :
    parsePayload kWrite count (payloadBytes (.write a it)) = .write a it := by
  have hitems : parseItems 1 (itemBytes it) = some [it] := by
    have := parseItems_itemBytes (its := [it]) (by simpa using h)
    rwa [List.flatMap_singleton] at this
  have hlong : ¬ (beBytes 12 a.toNat ++ itemBytes it).length < 12 := by simp
  simp only [parsePayload, kWrite, payloadBytes, apply_readsBack, List.drop_left' (beBytes_length 12 a.toNat), hitems, if_neg hlong]

theorem writeSetPayload_readsBack {count : Nat} {a : BitVec 96} {its : List Item} (hcount : its.length = count)
    (h : ∀ it ∈ its, it.value.length < 65536) : parsePayload kSet count (payloadBytes (.writeSet a its)) = .writeSet a its := by
  subst hcount
  have hlong : ¬ (beBytes 12 a.toNat ++ its.flatMap itemBytes).length < 12 := by simp
  simp only [parsePayload, kSet, payloadBytes, apply_readsBack, List.drop_left' (beBytes_length 12 a.toNat), parseItems_itemBytes h,
    if_neg hlong]

theorem commandPayload_readsBack (count : Nat) (a : BitVec 96) (r : Ref) (arg : Bytes) :
    parsePayload kCommand count (payloadBytes (.command a r arg)) = .command a r arg := by
  have hlong : ¬ (beBytes 12 a.toNat ++ (beBytes 8 (refBits r) ++ arg)).length < 20 := by
    simp only [List.length_append, beBytes_length]
    omega
  simp only [parsePayload, kCommand, payloadBytes, List.append_assoc, if_neg hlong, apply_readsBack]
  simp [List.drop_append, drop_beBytes, refOfBits_beBytes]

theorem bulkReadPayload_readsBack (count : Nat) (r : Ref) (o n : BitVec 32) :
    parsePayload kBulkRead count (payloadBytes (.bulkRead r o n)) = .bulkRead r o n := by
  simp [parsePayload, kBulkRead, payloadBytes, List.drop_append, drop_beBytes, refOfBits_beBytes, ofNat_beNat_beBytes]

theorem bulkWritePayload_readsBack (count : Nat) (b : BulkPiece) :
    parsePayload kBulkWrite count (payloadBytes (.bulkWrite b)) = .bulkWrite b := by
  have hlong : ¬ (beBytes 12 b.apply.toNat ++ (beBytes 8 (refBits b.ref) ++ (beBytes 4 b.offset.toNat ++ (beBytes 4 b.size.toNat ++
      (beBytes 1 b.final.toNat ++ (beBytes 3 b.resv.toNat ++ (beBytes 4 b.crc.toNat ++ b.data))))))).length < 36 := by
    simp only [List.length_append, beBytes_length]
    omega
  simp only [parsePayload, kBulkWrite, payloadBytes, List.append_assoc, if_neg hlong, apply_readsBack]
  simp [List.drop_append, drop_beBytes, refOfBits_beBytes, ofNat_beNat_beBytes]

/-- Under its own kind a payload reads back, where COUNT and its lengths obey the kind. -/
theorem parsePayload_payloadBytes {count : Nat} {p : Payload} (h : payloadParses count p = true) :
    parsePayload (kindOf p) count (payloadBytes p) = p := by
  cases p with
  | read refs =>
    simp only [payloadParses, Bool.and_eq_true, decide_eq_true_eq] at h
    obtain ⟨⟨hcount, -⟩, -⟩ := h
    exact readPayload_readsBack hcount
  | write a it =>
    simp only [payloadParses, Bool.and_eq_true, decide_eq_true_eq] at h
    exact writePayload_readsBack count h.2
  | writeSet a its =>
    simp only [payloadParses, Bool.and_eq_true, decide_eq_true_eq, List.all_eq_true] at h
    obtain ⟨⟨⟨hcount, -⟩, -⟩, hvalues⟩ := h
    exact writeSetPayload_readsBack hcount hvalues
  | command a r arg => exact commandPayload_readsBack count a r arg
  | take recs =>
    simp only [payloadParses, Bool.and_eq_true, decide_eq_true_eq] at h
    obtain ⟨⟨hcount, -⟩, -⟩ := h
    exact takePayload_readsBack hcount
  | subscribe recs =>
    simp only [payloadParses, Bool.and_eq_true, decide_eq_true_eq] at h
    obtain ⟨⟨hcount, -⟩, -⟩ := h
    exact subscribePayload_readsBack hcount
  | bulkRead r o n => exact bulkReadPayload_readsBack count r o n
  | bulkWrite b => exact bulkWritePayload_readsBack count b
  | bad k b => cases h

/-! ### Headers that read back (Table 12.4) -/

/-- What a header holds is its fields, each below the weight of the one before it: the header fits its 16 bytes, and its KIND and its
fields read back. -/
theorem reqHead_readsBack (kind : Nat) (r : Req) :
    reqHead kind r < 256 ^ 16 ∧ fld (reqHead kind r) 123 120 = kind % 16 ∧ parseHead r.port r.src r.toPair r.tag (reqHead kind r) = r := by
  obtain ⟨port, src, toPair, tag, version, response, more, late, senderB, resv, status, count, reqId, length, segOffset, total⟩ := r
  have := version.isLt
  have := boolNat_lt response
  have := boolNat_lt more
  have := boolNat_lt late
  have := boolNat_lt senderB
  have := resv.isLt
  have := status.isLt
  have := count.isLt
  have := reqId.isLt
  have := length.isLt
  have := segOffset.isLt
  have := total.isLt
  refine ⟨?bound, ?kind, ?fields⟩
  case bound =>
    unfold reqHead
    dsimp only
    omega
  case kind =>
    unfold reqHead fld
    dsimp only
    omega
  case fields =>
    unfold parseHead reqHead fld
    dsimp only
    congr 1
    case e_response => exact bitOf_of_eq (by omega)
    case e_more => exact bitOf_of_eq (by omega)
    case e_late => exact bitOf_of_eq (by omega)
    case e_senderB => exact bitOf_of_eq (by omega)
    all_goals
      apply BitVec.eq_of_toNat_eq
      rw [BitVec.toNat_ofNat]
      omega

/-! ### Whole messages -/

/-- A whole message comes apart into its header and the bytes of its payload: LENGTH ends those on a segment, and they are all that
follows elsewhere (R395). -/
theorem parseMessage_messageBytes {r : Req} {p : Payload} (hlen : r.length.toNat = (payloadBytes p).length) :
    parseMessage r.port r.src r.toPair r.tag (messageBytes r p) =
      some (r, parsePayload (kindOf p % 16) r.count.toNat (payloadBytes p)) := by
  obtain ⟨hbound, hkind, hhead⟩ := reqHead_readsBack (kindOf p) r
  have hlong : ¬ (beBytes 16 (reqHead (kindOf p) r) ++ payloadBytes p).length < 16 := by simp
  have hnum : beNat ((beBytes 16 (reqHead (kindOf p) r) ++ payloadBytes p).take 16) = reqHead (kindOf p) r := by
    rw [List.take_left' (beBytes_length ..), beNat_beBytes, Nat.mod_eq_of_lt hbound]
  have hall : (payloadBytes p).take r.length.toNat = payloadBytes p := List.take_of_length_le (Nat.le_of_eq hlen.symm)
  rw [messageBytes, parseMessage, if_neg hlong]
  simp only [hnum, hhead, hkind, List.drop_left' (beBytes_length 16 (reqHead (kindOf p) r))]
  cases r.port <;> simp only [hall]

theorem kindOf_lt (p : Payload) : kindOf p < 16 := by
  cases p with
  | bad k b => exact k.isLt
  | _ =>
    simp only [kindOf, kRead, kWrite, kSet, kCommand, kTake, kSubscribe, kBulkRead, kBulkWrite]
    decide

/-- Settles O6: the message comes apart by `parseMessage_messageBytes`, and its payload reads back by `parsePayload_payloadBytes`. -/
theorem messagesReadBack : Obligations.MessagesReadBack := by
  unfold Obligations.MessagesReadBack
  intro r p hparses hlen
  rw [parseMessage_messageBytes hlen, Nat.mod_eq_of_lt (kindOf_lt p), parsePayload_payloadBytes hparses]

end Sys2Proof.Machine
end

section
/-! The device after reset, the register file with its counters, and what follows a command where nothing is due (R404, R408, R438, R442,
R445, R447, R460, R472). -/

namespace Sys2Proof.Machine

/-! ### The device after reset -/

/-- Settles O5: nothing is listed after reset, so every element reads as its default. -/
theorem stateAtReset : Obligations.StateAtReset := by
  unfold Obligations.StateAtReset
  exact ⟨fun _ _ => rfl, fun _ _ => rfl, rfl, rfl, rfl, rfl, nofun, rfl, rfl, fun _ => rfl⟩

/-! ### Counters (R460) -/

section
variable {d : Dev} {n i : Nat}

theorem Dev.count_of_room {k : Nat} (h : d.reg n i + k < 0xFFFFFFFF) : d.count n i k = d.setReg n i (d.reg n i + k) := if_pos h

theorem Dev.count_of_saturated (h : d.reg n i = 0xFFFFFFFF) (k : Nat) : d.count n i k = d := by
  have hfull : ¬ d.reg n i + k < 0xFFFFFFFF := by omega
  exact (if_neg hfull).trans (if_pos h)

theorem Dev.count_of_reaching {k : Nat} (hlow : d.reg n i < 0xFFFFFFFF) (hfull : 0xFFFFFFFF ≤ d.reg n i + k) :
    d.count n i k = (d.setReg n i 0xFFFFFFFF).saturated n i :=
  (if_neg (Nat.not_lt.mpr hfull)).trans (if_neg (Nat.ne_of_lt hlow))

end

/-- The device with an element in CNT_SAT_LIST. -/
def Dev.satListed (d : Dev) (n i : Nat) : Dev :=
  if refBits (refOf n i) ∈ d.flt.sat then d else { d with flt := { d.flt with sat := d.flt.sat ++ [refBits (refOf n i)] } }

theorem Dev.satListed_mem (d : Dev) (n i : Nat) : refBits (refOf n i) ∈ (d.satListed n i).flt.sat := by
  unfold Dev.satListed
  split
  · assumption
  · simp

@[simp] theorem Dev.satListed_regs (d : Dev) (n i : Nat) : (d.satListed n i).regs = d.regs := by
  unfold Dev.satListed
  split <;> rfl

theorem Dev.event_flt (d : Dev) (code : Nat) (ref : Ref) (data : Bytes) : (d.event code ref data).flt = d.flt := by
  obtain ⟨r, c, t, h⟩ := d.event_frame code ref data
  rw [h]

/-- A saturation lists its counter, notes its bit where its area has one, and raises an event (R107, R402, R460). -/
theorem Dev.saturated_cases (d : Dev) (n i : Nat) :
    (∃ code, d.saturated n i = (d.satListed n i).event code (refOf n i)) ∨
    ∃ m v code, m ∈ [Obj.LANE_SAT, Obj.MG_SAT] ∧ d.saturated n i = ((d.satListed n i).setReg m i v).event code (refOf n i) := by
  change (∃ code, ite _ _ _ = _) ∨ ∃ m v code, _ ∧ ite _ _ _ = _
  split
  · exact .inr ⟨Obj.LANE_SAT, _, _, by simp, rfl⟩
  · split
    · exact .inr ⟨Obj.MG_SAT, _, _, by simp, rfl⟩
    · exact .inl ⟨_, rfl⟩

theorem Dev.saturated_listed (d : Dev) (n i : Nat) : refBits (refOf n i) ∈ (d.saturated n i).flt.sat := by
  obtain ⟨code, h⟩ | ⟨m, v, code, -, h⟩ := d.saturated_cases n i
  · rw [h, Dev.event_flt]
    exact d.satListed_mem n i
  · rw [h, Dev.event_flt]
    exact d.satListed_mem n i

/-- But for the four counters that a saturation itself writes, registers keep their values. -/
theorem Dev.saturated_reg {d : Dev} (h : d.regsWf) {n i : Nat} (hi : i < 65536)
    (hn : n ∉ [Obj.LANE_SAT, Obj.MG_SAT, Obj.TRAIL_NEXT_SEQ, Obj.CH_EVENTS_DROPPED]) : (d.saturated n i).reg n i = d.reg n i := by
  simp only [List.mem_cons, List.not_mem_nil, or_false, not_or] at hn
  obtain ⟨hlane, hmg, hseq, hdropped⟩ := hn
  have hwf : (d.satListed n i).regsWf := by
    rw [Dev.regsWf, Dev.satListed_regs]
    exact h
  have hreg : (d.satListed n i).reg n i = d.reg n i := by
    rw [Dev.reg, Dev.satListed_regs, Dev.reg]
  obtain ⟨code, hs⟩ | ⟨m, v, code, hm, hs⟩ := d.saturated_cases n i
  · rw [hs, (Dev.event_reg hwf code _ _).2 n i hi hdropped hseq, hreg]
  · have hne : n ≠ m := by
      rintro rfl
      simp [hlane, hmg] at hm
    rw [hs, (Dev.event_reg (Dev.setReg_wf hwf m i v) code _ _).2 n i hi hdropped hseq, Dev.setReg_reg_other hwf v hi hi (.inl hne), hreg]

/-- Settles O11: the register file by its own laws, and a counter by what is left of its range. -/
theorem registersAndCounters : Obligations.RegistersAndCounters := by
  unfold Obligations.RegistersAndCounters
  intro d n i hwf hi
  refine ⟨fun v => ⟨Dev.setReg_reg hwf n i v, Dev.setReg_wf hwf n i v, fun m j hj hne => Dev.setReg_reg_other hwf v hi hj hne⟩,
    fun k hroom => Dev.count_of_room hroom, fun k hsat => Dev.count_of_saturated hsat k, fun k hlow hfull => ?_⟩
  rw [Dev.count_of_reaching hlow hfull]
  exact ⟨Dev.saturated_listed _ n i,
    fun hn => (Dev.saturated_reg (Dev.setReg_wf hwf n i _) hi hn).trans (Dev.setReg_reg hwf n i _)⟩

end Sys2Proof.Machine
end

section
/-! What follows a command where nothing is due: the subscriptions' notices alone (R438, R442, R445, R447). -/

namespace Sys2Proof.Machine

/-! ### Consequences that are not due -/

/-- A fold whose every step leaves the start as it is leaves it. -/
theorem foldl_of_fixed {α β : Type} {f : α → β → α} {a : α} {l : List β} (h : ∀ b ∈ l, f a b = a) : l.foldl f a = a := by
  induction l with
  | nil => rfl
  | cons b l ih =>
    obtain ⟨hb, hl⟩ := List.forall_mem_cons.mp h
    rw [List.foldl_cons, hb, ih hl]

section
variable {old d : Dev}

theorem Dev.followBalls_of_none (h : d.dbg.releaseHeld = true → d.ballsTaken = true) : d.followBalls = d := by
  apply if_neg
  cases hr : d.dbg.releaseHeld
  · simp
  · simp [h hr]

theorem Dev.followTw0_of_same (h : old.laneState tw0 = d.laneState tw0) : old.followTw0 d = d := by
  rw [Dev.followTw0, h, if_neg (fun hx => hx.2 hx.1), if_neg (fun hx => hx.1 hx.2)]

theorem Dev.followCaps_of_same (h : ∀ kv ∈ d.lanes, kv.2.farCaps = (old.lane kv.1).farCaps) : old.followCaps d = d := by
  have hnone : d.lanes.filter (fun kv => decide (kv.2.farCaps ≠ (old.lane kv.1).farCaps)) = [] := by
    rw [List.filter_eq_nil_iff]
    intro kv hkv
    simp [h kv hkv]
  simp only [Dev.followCaps, hnone, List.map_nil, List.any_nil, List.isEmpty_nil, if_true, Bool.or_self, Bool.false_eq_true, if_false]

theorem Dev.followService_of_serving (h : ∀ kv ∈ d.outs, kv.2.serving = true → d.outService kv.1 = true) : d.followService = d := by
  have hkeep (kv : Nat × OutX) (hkv : kv ∈ d.outs) : (kv.2.serving && !d.outService kv.1) = false := by
    cases hs : kv.2.serving
    · rfl
    · simp [h kv hkv hs]
  refine foldl_of_fixed fun kv hkv => ?_
  rw [hkeep kv hkv]
  rfl

theorem Dev.settle_of_settled (hlines : d.syncLines = d) (htodo : d.flt.todo = []) (n : Nat) : Dev.settle n d = d := by
  cases n with
  | zero => rfl
  | succ n => simp [Dev.settle, hlines, htodo]

theorem Dev.restart_of_running (h : d.life.held = false) (n : Nat) : Dev.restart n d = d := by
  cases n with
  | zero => rfl
  | succ n => simp [Dev.restart, h]

theorem Dev.followTimes_of_same (hholder : old.reg Obj.TWIN_HOLDER = d.reg Obj.TWIN_HOLDER)
    (hactive : d.devState = 5 ↔ d.life.activeSince.isSome = true) : old.followTimes d = d := by
  by_cases h5 : d.devState = 5
  · simp [Dev.followTimes, hholder, h5, Option.isSome_iff_ne_none.mp (hactive.mp h5)]
  · simp [Dev.followTimes, hholder, h5, (not_congr hactive).mp h5]

theorem Dev.keepLockout_of_none (hold : old.nv.lockout = false) (hd : d.nv.lockout = false) : old.keepLockout d = d := by
  simp [Dev.keepLockout, hold, hd]

/-- With no live entry of topic OBJECT a list of subscriptions stands as it is. -/
theorem Dev.noticeList_of_none {obj : Nat} (h : ∀ k < 16, subLive (d.reg obj k) 1 = false) (subs : SMap SubX) :
    old.noticeList d obj subs = subs := by
  refine (List.foldl_ext _ (fun m _ => m) _ fun m k hk => ?_).trans (List.foldl_fixed' (fun _ => rfl) _)
  simp [h k (List.mem_range.mp hk)]

theorem Dev.notices_of_none (hown : ∀ k < 16, subLive (d.reg Obj.SUB_OWN k) 1 = false) (hacts : d.acts = false) : old.notices d = d := by
  simp [Dev.notices, Dev.modCh, hacts, Dev.noticeList_of_none hown]

end

/-- Settles O12: each consequence of `Dev.finish` in turn is not due, and its last, the notices, touch the subscriptions' queues alone. -/
theorem nothingElseFollows : Obligations.NothingElseFollows := by
  unfold Obligations.NothingElseFollows
  intro old d hlines htodo hheld hballs htw0 hcaps hservice hscheme hholder hactive havs hold hd
  have hfinish : Dev.finish old d = old.notices d := by
    simp only [Dev.finish, Dev.followBalls_of_none hballs, hheld, Bool.false_and, Bool.false_eq_true, if_false,
      Dev.followTw0_of_same htw0, Dev.followCaps_of_same hcaps, Dev.followService_of_serving hservice,
      Dev.settle_of_settled hlines htodo, Dev.restart_of_running hheld, hscheme, if_true, Dev.followTimes_of_same hholder hactive, havs,
      Dev.keepLockout_of_none hold hd]
  exact ⟨⟨hfinish, _, _, rfl⟩, fun hown hacts => hfinish.trans (Dev.notices_of_none hown hacts)⟩

end Sys2Proof.Machine
end

section
/-! Requests of the other kinds, and writes that come by a whole transfer (R425 to R427, R429 to R432, R434). -/

namespace Sys2Proof.Machine

/-! ### Answers of every kind -/

/-- A response of status OK or PARTIAL goes out, and nothing waits for it. -/
theorem Dev.reply_of_good (d : Dev) {x : Resp} (h : x.status = stOk ∨ x.status = stPartial) (port : Port) :
    Dev.reply { dev := d, resp := some x } port = d.answer x := by
  rcases h with h | h <;> simp [Dev.reply, h, stOk, stPartial]

/-- `Dev.reply_accepted` for every kind of write. -/
theorem Dev.reply_accepted_kind (d : Dev) (kind : Nat) (r : Req) (e : Nat) (late urgent : Bool) (port : Port) :
    Dev.reply { dev := d, resp := some (accepted kind r e late urgent) } port = d.answer (accepted kind r e late urgent) :=
  d.reply_of_good (.inl rfl) port

/-- The status of a message of several records is OK or PARTIAL. -/
theorem okOrPartial (b : Bool) : (if b then stOk else stPartial) = stOk ∨ (if b then stOk else stPartial) = stPartial := by
  cases b
  · exact .inr rfl
  · exact .inl rfl

/-! ### Writes of every kind that their checks accept -/

section
variable {d : Dev} {r : Req} {p : Payload} {kind apply : Nat} {its : List Item} {ws : List Wr}

/-- A local write is applied, and answered with the Media Time of its acceptance as E (R411). -/
theorem Dev.doWrite_of_local (hgood : d.judgeWrite r false kind apply its = .good ws false) (htake : ∀ w ∈ ws, w.num ≠ Obj.TAKE)
    (hgate : ∀ w ∈ ws, w.num ≠ Obj.GATE_EN) (hown : ws.any (ownPortSetting r.port) = false) :
    Dev.reply (d.doWrite r p kind apply its) r.port = (d.applyWrites d.now ws).answer (accepted kind r d.now false false) := by
  rw [Dev.doWrite, hgood]
  dsimp only
  rw [Dev.acceptWrite_of_local _ _ _ htake hgate hown, Dev.reply_accepted_kind]

/-- A shared write is sealed, scheduled and answered with its E (R342, R411). -/
theorem Dev.doWrite_of_shared {e : Nat} {late : Bool} (hgood : d.judgeWrite r false kind apply its = .good ws true)
    (he : d.writeE r (mtDecode apply) ws true = (e, late)) :
    Dev.reply (d.doWrite r p kind apply its) r.port =
      ((d.nextOrder.2.sendSeal r p e).scheduleWrites d.nextOrder.1 e (mtDecode apply) r.port ws).answer
        (accepted kind r e late false) := by
  rw [Dev.doWrite, hgood]
  dsimp only
  rw [Dev.acceptWrite_of_shared he, Dev.reply_accepted_kind]

end

/-! ### A whole transfer (R431, R432) -/

theorem Dev.writeRow_of_transfer (d : Dev) (num : Nat) {r : Req} {w : WArg} (h : reqLimit r.port < 38 + w.value.length) :
    d.writeRow num r w = d.transfer r (lastPiece w.apply ⟨argRef num w, w.value⟩) ⟨argRef num w, w.value⟩ := if_neg (Nat.not_le.mpr h)

/-- A row of its own whose value is too long for one message stands for a transfer. -/
theorem exec_of_transferred {i : Instr} {r : Req} {a : BitVec 96} {it : Item} (h : carriedWrite i = some (r, a, it))
    (hrow : ∀ q x y, i ≠ .objectWrite q x y) (hlong : reqLimit r.port < 38 + it.value.length) (s : State) :
    exec i s = s.live (fun d => d.transfer r (lastPiece a it) it) := by
  obtain ⟨num, w, rfl, rfl, hexec⟩ | rfl := exec_of_carriedWrite h
  · simp only [hexec, Dev.writeRow_of_transfer _ num hlong]
  · exact absurd rfl (hrow _ _ _)

/-- Every port but the Canopy port takes BULK_WRITE (Table 12.5). -/
theorem kindListed_bulkWrite {port : Port} (h : port ≠ .cn) : kindListed port kBulkWrite = true := by
  cases port with
  | cn => exact absurd rfl h
  | mgA => rfl
  | mgB => rfl
  | db => rfl

section
variable {d : Dev} {r : Req} {b : BulkPiece} {it : Item}

theorem Dev.transfer_of_new (hopen : d.portOpen r.port = true) (hresp : r.response = false) (hacts : pairSent r = true → d.acts = true)
    (hkept : d.keptFor r = none) : d.transfer r b it = Dev.reply (d.examineLast r b it) r.port := by
  simp [Dev.transfer, hopen, hresp, heard_of_acts hacts, hkept]

/-- The last piece, where it checks, is judged as a write of the transfer's content. -/
theorem Dev.examineLast_of_checked (hversion : r.version = 1) (hport : r.port ≠ .cn) (hcount : r.count = 1)
    (hreserved : reservedHit r (.bulkWrite b) = none) (hfield : r.port = .db → d.nv.lifecycle ≠ 2) (hpiece : d.pieceCheck r b = stOk) :
    d.examineLast r b it = d.doWrite r (.bulkWrite b) kBulkWrite b.apply.toNat [it] := by
  simp [Dev.examineLast, hversion, kindListed_bulkWrite hport, hcount, hreserved, Dev.noteRefusedDebug_of_open hfield, hpiece]

end

/-- Settles O53: a row of its own hands the whole transfer over, the checks of its last piece pass, and the content is then a write as any
other, by `Dev.doWrite_of_local` and `Dev.doWrite_of_shared`. -/
theorem transferredWrites : Obligations.TransferredWrites := by
  unfold Obligations.TransferredWrites
  intro s i r a it ws hi hrow hlong hheld hopen hresp hacts hkept hversion hport hcount hreserved hfield hpiece hobj
  simp only [List.mem_cons, List.not_mem_nil, or_false, not_or] at hobj
  obtain ⟨hgate, htake⟩ := hobj
  have run {d : Dev} (hd : Dev.reply (s.dev.doWrite r (.bulkWrite (lastPiece a it)) kBulkWrite a.toNat [it]) r.port = d) :
      exec i s = .next (s.after d) := by
    rw [exec_of_transferred hi hrow hlong]
    refine State.live_next hheld ?_
    rw [Dev.transfer_of_new hopen hresp hacts hkept, Dev.examineLast_of_checked hversion hport hcount hreserved hfield hpiece]
    exact hd
  refine ⟨fun hgood hown => run ?applied, fun e late hgood he => run (Dev.doWrite_of_shared hgood he)⟩
  case applied =>
    have hnum (w : Wr) (hw : w ∈ ws) : w.num = it.ref.object.toNat :=
      num_of_mem_itemWrs ((Dev.itemWrs_of_judged_good hgood).symm ▸ hw)
    exact Dev.doWrite_of_local hgood (fun w hw => hnum w hw ▸ htake) (fun w hw => hnum w hw ▸ hgate) hown

/-! ### A message that is taken up -/

/-- No port lists the KIND of an EVENT (Table 12.5). -/
theorem kindListed_event (port : Port) : kindListed port kEvent = false := by
  cases port <;> decide

section
variable {d : Dev} {r : Req}

/-- It is no EVENT: step 2 of Table 12.6 turns that away. -/
theorem Dev.kindOf_ne_event_of_takesUp {p : Payload} (h : d.takesUp r p) : kindOf p ≠ kEvent := by
  intro hk
  obtain ⟨-, -, -, -, -, hform⟩ := h
  unfold structureStatus at hform
  rw [hk, kindListed_event] at hform
  split at hform <;> cases hform

/-- Where R415 has nothing to note, it is dispatched, and what comes of it is sent. -/
theorem Dev.request_of_unnoted {p : Payload} (h : d.takesUp r p) (hnote : d.noteRefusedDebug r (kindOf p) (payloadRefs p) = d) :
    d.request r p = Dev.reply (d.dispatch r p) r.port := by
  rw [Dev.request_of_takesUp h (Dev.kindOf_ne_event_of_takesUp h), hnote]

/-! ### READ and BULK_READ (R425, R430) -/

theorem Dev.request_read {refs : List Ref} (h : d.takesUp r (.read refs)) (hfield : r.port = .db → d.nv.lifecycle ≠ 2) :
    d.request r (.read refs) = d.answer
      { kind := kRead, req := r, status := if (d.readItems r 0 refs).all (fun x => x.1 == stOk) then stOk else stPartial, late := false
        count := r.count.toNat, payload := (d.readItems r 0 refs).flatMap (·.2), urgent := false } := by
  rw [Dev.request_of_unnoted h (Dev.noteRefusedDebug_of_open hfield _ _)]
  exact Dev.reply_of_good _ (okOrPartial _) _

theorem Dev.request_bulkRead {x : Ref} {o n : BitVec 32} (h : d.takesUp r (.bulkRead x o n)) (hfield : r.port = .db → d.nv.lifecycle ≠ 2)
    (hst : d.readStatus r kBulkRead x = stOk) (hplain : x.indexed = false) (hsome : n.toNat ≠ 0) (hmax : n.toNat ≤ 65536) :
    d.request r (.bulkRead x o n) = d.answer
      { kind := kBulkRead, req := r, status := stOk, late := false, count := r.count.toNat
        payload := ((d.readRef x).drop o.toNat).take n.toNat, urgent := false } := by
  have hread : d.dispatch r (.bulkRead x o n) = .mk d (some
      { kind := kBulkRead, req := r, status := stOk, late := false, count := r.count.toNat
        payload := ((d.readRef x).drop o.toNat).take n.toNat, urgent := false }) [] none := by
    simp [Dev.dispatch, Dev.doBulkRead, hst, hplain, hsome, Nat.not_lt.mpr hmax]
  rw [Dev.request_of_unnoted h (Dev.noteRefusedDebug_of_open hfield _ _), hread]
  exact Dev.reply_of_good _ (.inl rfl) _

/-! ### WRITE_SET (R427) -/

theorem Dev.request_writeSet {a : BitVec 96} {its : List Item} (h : d.takesUp r (.writeSet a its))
    (hfield : r.port = .db → d.nv.lifecycle ≠ 2) :
    d.request r (.writeSet a its) = Dev.reply (d.doWrite r (.writeSet a its) kSet a.toNat its) r.port := by
  rw [Dev.request_of_unnoted h (Dev.noteRefusedDebug_of_open hfield _ _)]
  rfl

/-! ### SUBSCRIBE (R434) -/

/-- A request that names no object is not refused by R415. -/
theorem Dev.noteRefusedDebug_of_no_object (d : Dev) (r : Req) (kind : Nat) : d.noteRefusedDebug r kind [] = d := by
  simp [Dev.noteRefusedDebug]

theorem Dev.request_subscribe {recs : List (BitVec 256)} {sts : List Nat} {e : Dev} (h : d.takesUp r (.subscribe recs))
    (hallowed : d.stateAllows kSubscribe Obj.SUB_OWN = true) (hown : pairSent r = false) (hrecs : d.subOwnAll r recs = (sts, e)) :
    d.request r (.subscribe recs) = e.answer
      { kind := kSubscribe, req := r, status := if sts.all (· == stOk) then stOk else stPartial, late := false, count := r.count.toNat
        payload := sts.flatMap (beBytes 1), urgent := false } := by
  have hall : d.dispatch r (.subscribe recs) = .mk e (some
      { kind := kSubscribe, req := r, status := if sts.all (· == stOk) then stOk else stPartial, late := false, count := r.count.toNat
        payload := sts.flatMap (beBytes 1), urgent := false }) [] none := by
    simp [Dev.dispatch, Dev.doSubscribe, hallowed, hown, hrecs]
  rw [Dev.request_of_unnoted h (d.noteRefusedDebug_of_no_object r _), hall]
  exact Dev.reply_of_good _ (okOrPartial _) _

/-! ### BULK_WRITE (R431) -/

theorem Dev.request_bulkWrite_of_staged {b : BulkPiece} {t : Bulk} (h : d.takesUp r (.bulkWrite b))
    (hfield : r.port = .db → d.nv.lifecycle ≠ 2) (hpiece : d.pieceCheck r b = stOk) (hstaged : d.stagePiece r b = (stOk, some t))
    (hmore : b.final = 0) : d.request r (.bulkWrite b) = (d.setBulk r b.ref (some t)).answer (accepted kBulkWrite r 0 false false) := by
  have hkept : d.dispatch r (.bulkWrite b) =
      { dev := d.setBulk r b.ref (some t), resp := some (accepted kBulkWrite r 0 false false) } := by
    simp [Dev.dispatch, Dev.doBulkWrite, hpiece, hstaged, hmore]
  rw [Dev.request_of_unnoted h (Dev.noteRefusedDebug_of_open hfield _ _), hkept, Dev.reply_accepted_kind]

/-! ### TAKE (R429) -/

theorem Dev.takeRecords_length (d : Dev) (acc : Nat) (recs : List (BitVec 128)) : (d.takeRecords acc recs).1.length = recs.length := by
  induction recs generalizing d with
  | nil => rfl
  | cons x recs ih => simp [Dev.takeRecords, ih]

/-- A TAKE whose records are all accepted is sealed with the acceptance time plus 2 ms (log entry 36). -/
theorem Dev.request_take {recs : List (BitVec 128)} {outs : List (Nat × Nat)} {e : Dev} (h : d.takesUp r (.take recs))
    (hpair : d.loneConflict r true = false) (hallowed : d.stateAllows kTake Obj.TAKE = true)
    (hrecs : d.takeRecords d.now recs = (outs, e)) (hall : outs.all (fun x => x.1 == stOk) = true) (hsome : recs ≠ []) :
    d.request r (.take recs) = (e.sendSeal r (.take recs) (d.now + usMt 2000)).answer
      { kind := kTake, req := r, status := stOk, late := (recs.zip (outs.map (·.1))).any (fun x => lateTake d.now x.1 x.2)
        count := r.count.toNat, payload := outs.flatMap (fun x => beBytes 1 x.1 ++ beBytes 12 (mtEncode x.2)), urgent := true } := by
  have hlen : outs.length = recs.length := by rw [← d.takeRecords_length d.now recs, hrecs]
  have hne : outs ≠ [] := by
    rintro rfl
    exact hsome (List.length_eq_zero_iff.mp hlen.symm)
  have hstatus : (outs.map (·.1)).all (· == stOk) = true := by rw [List.all_map]; exact hall
  have hany : (outs.map (·.1)).any (· == stOk) = true := by
    obtain ⟨x, xs, rfl⟩ := List.exists_cons_of_ne_nil hne
    simp only [List.all_cons, Bool.and_eq_true] at hall
    simp [hall.1]
  have hdone : d.dispatch r (.take recs) = .mk (e.sendSeal r (.take recs) (d.now + usMt 2000)) (some
      { kind := kTake, req := r, status := stOk, late := (recs.zip (outs.map (·.1))).any (fun x => lateTake d.now x.1 x.2)
        count := r.count.toNat, payload := outs.flatMap (fun x => beBytes 1 x.1 ++ beBytes 12 (mtEncode x.2)), urgent := true }) [] none := by
    simp only [Dev.dispatch, Dev.doTake, hpair, hallowed, hrecs, hstatus, hany, Bool.not_true, Bool.false_eq_true, if_false, if_true]
    rfl
  rw [Dev.request_of_unnoted h (d.noteRefusedDebug_of_no_object r _), hdone]
  exact Dev.reply_of_good _ (.inl rfl) _

end

/-- Settles O57: each kind's message is taken up, dispatched and answered by the lemma about it. -/
theorem otherRequests : Obligations.OtherRequests := by
  unfold Obligations.OtherRequests
  refine ⟨?read, ?bulkRead, ?writeSet, ?subscribe, ?bulkWrite, ?take⟩
  case read => exact fun s r refs h hfield => State.live_next h.1 (Dev.request_read h hfield)
  case bulkRead =>
    exact fun s r x o n h hfield hst hplain hsome hmax => State.live_next h.1 (Dev.request_bulkRead h hfield hst hplain hsome hmax)
  case writeSet =>
    intro s r a its ws h hfield
    have run {d : Dev} (hd : Dev.reply (s.dev.doWrite r (.writeSet a its) kSet a.toNat its) r.port = d) :
        exec (.writeSet r a its) s = .next (s.after d) := State.live_next h.1 ((Dev.request_writeSet h hfield).trans hd)
    exact ⟨fun hgood hown hobj => run (Dev.doWrite_of_local hgood (fun w hw => (hobj w hw).1) (fun w hw => (hobj w hw).2) hown),
      fun e late hgood he => run (Dev.doWrite_of_shared hgood he)⟩
  case subscribe =>
    exact fun s r recs sts d h hallowed hown hrecs => State.live_next h.1 (Dev.request_subscribe h hallowed hown hrecs)
  case bulkWrite =>
    exact fun s r b t h hfield hpiece hstaged hmore => State.live_next h.1 (Dev.request_bulkWrite_of_staged h hfield hpiece hstaged hmore)
  case take =>
    exact fun s r recs outs d h hpair hallowed hrecs hall hsome =>
      State.live_next h.1 (Dev.request_take h hpair hallowed hrecs hall hsome)

end Sys2Proof.Machine
end

section
/-! Timers of the protocol, writes that reach their E, EVENTs, the entry to STARTING, and what a recording writes (R409, R411, R422, R431,
R435, R437 to R439, R463, R479, R480, R484, R488, R558). -/

namespace Sys2Proof.Machine

/-! ### Transfers and kept responses that run out (R422, R431) -/

section
variable {d : Dev}

theorem Dev.bulkExpiry_of_none (h : d.ch.bulks = []) : d.bulkExpiry = d := by
  simp [Dev.bulkExpiry, h]

theorem Dev.bulkExpiry_of_open {b t : Bulk} {bs : List Bulk} (h : d.ch.bulks = b :: bs)
    (ht : t = bs.foldl (fun t x => if x.lastAt < t.lastAt then x else t) b) :
    d.bulkExpiry = ((d.passTo (t.lastAt + 10000000000)).modCh (fun c => { c with bulks := c.bulks.erase t })).count
      Obj.CH_BULK_EXPIRED := by
  subst ht
  simp [Dev.bulkExpiry, h]

theorem Dev.cacheExpiry_of_none (h : d.ch.kept = []) : d.cacheExpiry = d := by
  simp [Dev.cacheExpiry, h]

theorem Dev.cacheExpiry_of_kept {k t : Kept} {ks : List Kept} (h : d.ch.kept = k :: ks)
    (ht : t = ks.foldl (fun t x => if x.at_ < t.at_ then x else t) k) :
    d.cacheExpiry = (d.passTo (t.at_ + 2000000000)).modCh (fun c => { c with kept := c.kept.erase t }) := by
  subst ht
  simp [Dev.cacheExpiry, h]

/-! ### Writes that reach their E (R411, R421) -/

theorem Dev.applyDue_of_none (h : firstPend d.ch.pend = none) (n : Nat) : Dev.applyDue n d = d := by
  cases n with
  | zero => rfl
  | succ n => simp [Dev.applyDue, h]

/-- The device once the pending act `p` has been carried out at its E. -/
def Dev.actDone (d : Dev) (p : Pend) : Dev :=
  ((d.passToMt p.e).modCh (fun c => { c with pend := c.pend.erase p })).actAt p.e p.act

/-- One act alone is due where none that is left has its E. -/
theorem Dev.applyDue_of_single {p : Pend} (h : firstPend d.ch.pend = some p)
    (hnext : ∀ x, firstPend (d.actDone p).ch.pend = some x → x.e ≠ p.e) (n : Nat) : Dev.applyDue (n + 1) d = d.actDone p := by
  simp only [Dev.applyDue, h]
  split
  case h_1 q hq => exact if_neg (hnext q hq)
  case h_2 => rfl

/-! ### The entry to STARTING (R484) -/

theorem Dev.startingEntry_of_waiting (h : d.life.startDue = false ∨ d.life.phase ≠ .layBy ∨ d.storePending = true) :
    d.startingEntry = d := by
  apply if_pos
  rcases h with h | h | h <;> simp [h]

theorem Dev.startingEntry_of_due (hdue : d.life.startDue = true) (hphase : d.life.phase = .layBy) (hstore : d.storePending = false) :
    d.startingEntry =
      (((d.addMarker 4).setReg Obj.START_TIME 0 (mtEncode d.now)).addTrail 0 0 0 (refOf Obj.START 0) []).enterStarting := by
  simp [Dev.startingEntry, hdue, hphase, hstore]

end

/-! ### Subscriptions and their EVENTs (R435, R437 to R439) -/

section
variable {d : Dev} {pair : Bool} {slot o n : Nat} {x : SubX} (ho : o = if pair then Obj.SUB_PAIR else Obj.SUB_OWN) (hn : n = d.reg o slot)
  (hx : x = smGet (if pair then d.ch.subPair else d.ch.subOwn) slot {})
include ho hn

theorem Dev.subscriptionExpiry_of_free (hfree : bitOf n 32 = false) : d.subscriptionExpiry pair slot = d := by
  simp only [Dev.subscriptionExpiry, ← ho, ← hn, hfree, Bool.not_false, if_true]

include hx

/-- An entry that runs out leaves its SUB_EXPIRED, and is freed. -/
theorem Dev.subscriptionExpiry_of_live {e : Dev} {m : SMap SubX} (hlive : bitOf n 32 = true) (he : e = d.passTo x.endAt)
    (hm : m = smSet (if pair then d.ch.subPair else d.ch.subOwn) slot { x with
      recs := x.recs ++ [{ code := 3, sev := 0, time := e.now, ref := refOf o slot }], changed := false } {}) :
    d.subscriptionExpiry pair slot =
      (e.modCh (fun c => if pair then { c with subPair := m } else { c with subOwn := m })).setReg o slot (n - 2 ^ 32) := by
  simp only [Dev.subscriptionExpiry, ← ho, ← hn, ← hx, ← he, ← hm, hlive, Bool.not_true, Bool.false_eq_true, if_false]

/-- With nothing gathered, nothing dropped and no notice held back, there is nothing to send. -/
theorem Dev.eventSend_of_empty (hrecs : x.recs = []) (hdropped : x.dropped = 0) (hchanged : x.changed = false) :
    d.eventSend pair slot = d := by
  simp only [Dev.eventSend, ← ho, ← hn, ← hx, hchanged, hrecs, hdropped, Bool.false_and, Bool.false_eq_true, if_false, decide_true,
    beq_self_eq_true, Bool.and_self, Bool.true_or, if_true]

/-- What a live entry has gathered goes out in one EVENT with the next EVENT_SEQ. -/
theorem Dev.eventSend_of_gathered {e : Dev} {m : SMap SubX} {seq : Nat} (hrecs : x.recs ≠ []) (hfit : x.recs.length ≤ 255)
    (hdropped : x.dropped = 0) (hchanged : x.changed = false) (hacts : pair = true → d.acts = true) (hdest : fld n 191 144 ≠ 0)
    (hlive : bitOf n 32 = true) (hseq : seq = (fld n 31 0 + 1) % 2 ^ 32)
    (hm : m = smSet (if pair then d.ch.subPair else d.ch.subOwn) slot { x with recs := [], dropped := 0, firstAt := d.clock } {})
    (he : e = (d.modCh (fun c => if pair then { c with subPair := m } else { c with subOwn := m })).setReg o slot
      (n / 2 ^ 32 * 2 ^ 32 + seq)) :
    d.eventSend pair slot = e.sendFrames (fld n 47 40 % 2) (BitVec.ofNat 48 (fld n 191 144))
      (if e.reg Obj.MG_EVENT_TCI = 0 then none else some (BitVec.ofNat 16 (e.reg Obj.MG_EVENT_TCI)))
      ((x.recs.map d.currentRecord).any (fun r => collectorCode r.code)) 0
      (segments kEvent false false e.nv.sideB 0 x.recs.length seq ((x.recs.map d.currentRecord).flatMap EvRec.bytes)
        (e.reg Obj.MG_SEG_SIZE)) := by
  have hgoes : (decide (x.recs = []) && (0 : Nat) == 0 || pair && !d.acts || fld n 191 144 == 0) = false := by
    cases pair <;> simp [hrecs, hdest, hacts]
  have hall : x.recs.take 255 = x.recs := List.take_of_length_le hfit
  have hnone : x.recs.drop 255 = [] := List.drop_eq_nil_of_le hfit
  simp only [hchanged] at hm
  simp only [Dev.eventSend, ← ho, ← hn, ← hx, hchanged, hdropped, Bool.false_and, Bool.false_eq_true, if_false, if_true, hgoes, hlive,
    List.length_nil, Nat.sub_zero, hall, hnone, List.nil_append, List.length_map, ← hm, ← hseq, ← he]

end

/-- Settles O42: each timer, act and EVENT by the lemma about it. -/
theorem protocolTimers : Obligations.ProtocolTimers := by
  unfold Obligations.ProtocolTimers
  refine ⟨?timers, ?subscriptions⟩
  case timers =>
    intro s h
    refine ⟨fun hb => State.live_next h (Dev.bulkExpiry_of_none hb),
      fun b bs t hb ht => State.live_next h (Dev.bulkExpiry_of_open hb ht),
      fun hk => State.live_next h (Dev.cacheExpiry_of_none hk), fun k ks t hk ht => State.live_next h (Dev.cacheExpiry_of_kept hk ht),
      fun hp => State.live_next h (Dev.applyDue_of_none hp _), fun p q r hq hp hnext => ?due,
      fun hw => State.live_next h (Dev.startingEntry_of_waiting hw),
      fun hdue hphase hstore => State.live_next h (Dev.startingEntry_of_due hdue hphase hstore)⟩
    have hlen : s.dev.ch.pend.length = r.length + 1 := by rw [hq, List.length_cons]
    exact State.live_next (f := fun d => Dev.applyDue d.ch.pend.length d) h (hlen ▸ Dev.applyDue_of_single hp hnext r.length)
  case subscriptions =>
    intro s pair slot o n x h ho hn hx
    exact ⟨fun hfree => State.live_next h (Dev.subscriptionExpiry_of_free ho hn hfree),
      fun m d hlive hd hm => State.live_next h (Dev.subscriptionExpiry_of_live ho hn hx hlive hd hm),
      fun hrecs hdropped hchanged => State.live_next h (Dev.eventSend_of_empty ho hn hx hrecs hdropped hchanged),
      fun m d seq hrecs hfit hdropped hchanged hacts hdest hlive hseq hm hd =>
        State.live_next h (Dev.eventSend_of_gathered ho hn hx hrecs hfit hdropped hchanged hacts hdest hlive hseq hm hd)⟩

/-! ### Recordings (R409, R463, R479, R480, R488, R558) -/

section
variable {d : Dev}

theorem Dev.storeRecord_of_closed (h : d.gateOn 33 = false) : d.storeRecord = d := by
  simp [Dev.storeRecord, h]

theorem Dev.storeRecord_of_open (h : d.gateOn 33 = true) :
    d.storeRecord = (d.life.unrecorded.foldl Dev.recordSet d).modLife (fun x => { x with unrecorded := [] }) := by
  simp [Dev.storeRecord, h]

theorem Dev.calRecord_of_none (h : d.life.calPending = false) : d.calRecord = d := by
  simp [Dev.calRecord, h]

theorem Dev.calRecord_of_waiting (hwaits : d.life.calPending = true) (hopen : d.gateOn 33 = true) :
    d.calRecord = (((d.modNv (fun v => { v with calibration := d.calSet, calUser := true })).modLife (fun x => { x with
      calPending := false })).setReg Obj.CAL_ORIGIN 0 1).setReg Obj.CAL_CRC 0 (fieldAt d.calSet 4436 4) := by
  simp [Dev.calRecord, hwaits, hopen]

theorem Dev.flushTrail_of_kept (h : d.trailRam = [] ∨ d.gateOn 33 = false) : d.flushTrail = d := by
  apply if_pos
  simpa using h

/-- While the ring has room no entry is overwritten. -/
theorem Dev.flushTrail_of_room (hsome : d.trailRam ≠ []) (hopen : d.gateOn 33 = true)
    (hroom : d.nv.trail.length + d.trailRam.length ≤ 65536) :
    d.flushTrail = ({ d with trailRam := [] } : Dev).modNv (fun v => { v with
      trail := d.nv.trail ++ d.trailRam, trailSeq := d.reg Obj.TRAIL_NEXT_SEQ }) := by
  have hlost : (d.nv.trail ++ d.trailRam).length - 65536 = 0 := by
    rw [List.length_append]
    omega
  have hgoes : ¬ (d.trailRam = [] ∨ (!d.gateOn 33) = true) := by simp [hsome, hopen]
  simp only [Dev.flushTrail, if_neg hgoes, hlost, List.take_zero, List.any_nil, Bool.false_eq_true, if_false, List.drop_zero]
  rfl

end

/-- Settles O43: each recording by its gate and by whether something waits. -/
theorem storeAndTrailRecords : Obligations.StoreAndTrailRecords := by
  unfold Obligations.StoreAndTrailRecords
  intro s h
  exact ⟨fun hclosed => State.live_next h (Dev.storeRecord_of_closed hclosed),
    fun hopen => State.live_next h (Dev.storeRecord_of_open hopen),
    fun hwaits hopen => State.live_next h (Dev.calRecord_of_waiting hwaits hopen), fun hn => State.live_next h (Dev.calRecord_of_none hn),
    fun hk => State.live_next h (Dev.flushTrail_of_kept hk),
    fun hsome hopen hroom => State.live_next h (Dev.flushTrail_of_room hsome hopen hroom)⟩

end Sys2Proof.Machine
end

section
/-! LOCKOUT, a held device, and what a command can answer (R455, R472, R486, R510, R513, R521). -/

namespace Sys2Proof.Machine

/-! ### Outcomes -/

/-- An idle block stands still where something holds it, and otherwise ends its tick as a command ends. -/
theorem Dev.idle_shape (d : Dev) : d.idle = d ∨ ∃ e, d.idle = Dev.finish d e := by
  unfold Dev.idle
  split
  · exact .inl rfl
  · exact .inr ⟨_, rfl⟩

/-- What a step leaves of the block: the same, the end of a change, or the device as power leaves it. -/
theorem step_shape {s t : State} (h : step s = .next t) :
    t.dev = s.dev ∨ (∃ d, t.dev = Dev.finish s.dev d) ∨
    ((∃ rest, s.pending = .powerOn :: rest) ∧ t.dev = Dev.finish s.dev.powerOn s.dev.powerOn) := by
  unfold step at h
  split at h
  next =>
    cases h
    exact (Dev.idle_shape s.dev).elim .inl (fun hd => .inr (.inl hd))
  next c rest hq =>
    obtain he | ⟨d, he⟩ | ⟨hc, he⟩ | ⟨u, _, _, _, he⟩ := exec_shape c { s with pending := rest } <;> rw [he] at h <;> cases h
    · exact .inl rfl
    · exact .inr (.inl ⟨d, rfl⟩)
    · subst hc
      exact .inr (.inr ⟨⟨rest, hq⟩, rfl⟩)

/-! ### LOCKOUT (R455, R486) -/

theorem Dev.devState_of_lockedOut {d : Dev} (h : d.lockedOut) : d.devState = 7 := by
  simp [Dev.devState, h.2]

/-- Settles O4: the end of a command puts latch and phase in agreement and keeps a latched lockout, whatever the command did before it, and a
step that does not end a command changes nothing. -/
theorem lockoutHolds : Obligations.LockoutHolds := by
  unfold Obligations.LockoutHolds
  intro s t hstep hagrees
  obtain hsame | ⟨d, hd⟩ | ⟨⟨rest, hq⟩, hd⟩ := step_shape hstep
  · rw [hsame]
    exact ⟨hagrees, fun hout _ => ⟨hout, Dev.devState_of_lockedOut hout⟩⟩
  · obtain ⟨hkept, hstays⟩ := Dev.finish_lockout s.dev d
    rw [hd]
    exact ⟨hkept, fun hout _ => ⟨hstays hout.1, Dev.devState_of_lockedOut (hstays hout.1)⟩⟩
  · rw [hd]
    exact ⟨(Dev.finish_lockout _ _).1, fun _ hne => absurd hq (hne rest)⟩

/-! ### A device that RESET_N or its supply holds (R472, R521) -/

/-- Nothing but power, supply, reset and the TAP reaches a held device. -/
theorem exec_of_held {c : Instr} {s : State} (h : s.dev.life.held = true) (hc : reachesHeld c = false) : exec c s = .next s := by
  cases c
  case powerOn | resetNAssert | supplyMonitorReset | resetNRelease | tapReset | extest | samplePreload | idcode | clamp | highz
    | dbgAccess | bypass => exact Bool.noConfusion hc
  case busTransaction t => exact if_pos h
  all_goals exact State.live_of_held h

/-- RESET_N or a supply holds the device, and no release waits behind the TAP. -/
def Dev.heldFast (d : Dev) : Prop := d.life.held = true ∧ d.life.resetCause < 2 ∧ d.dbg.releaseHeld = false

theorem Dev.tapLoad_heldFast {d : Dev} (h : d.heldFast) (i : TapInstr) : (d.tapLoad i).heldFast := h

theorem Dev.tapPreload_heldFast {d : Dev} (h : d.heldFast) (cells : List Bool) : (d.tapPreload cells).heldFast := h

theorem Dev.tapDrive_heldFast {d : Dev} (h : d.heldFast) (i : TapInstr) : (d.tapDrive i).heldFast := by
  unfold Dev.tapDrive
  split
  · exact h
  · exact h

theorem Dev.resetDevice_life (d : Dev) (c : Nat) :
    (d.resetDevice c).life = { phase := if d.nv.lockout then .lockout else .booting, held := true, resetCause := c } := by
  unfold Dev.resetDevice
  dsimp only
  split <;> rfl

theorem Dev.resetDevice_dbg (d : Dev) (c : Nat) :
    (d.resetDevice c).dbg = { tap := d.dbg.tap, replaced := d.dbg.replaced, boundary := d.dbg.boundary } := by
  unfold Dev.resetDevice
  dsimp only
  split <;> rfl

theorem Dev.resetDevice_heldFast (d : Dev) {c : Nat} (hc : c < 2) : (d.resetDevice c).heldFast := by
  unfold Dev.heldFast
  rw [Dev.resetDevice_life, Dev.resetDevice_dbg]
  exact ⟨rfl, hc, rfl⟩

theorem Dev.powerOn_heldFast (d : Dev) : d.powerOn.heldFast := by
  obtain ⟨hheld, hcause, -⟩ := Dev.resetDevice_heldFast (d.modNv (fun v => { v with lockout := false })) (c := rcPowerOn) (by decide)
  exact ⟨hheld, hcause, rfl⟩

theorem Dev.finish_held_of_heldFast {o d : Dev} (h : d.heldFast) : (Dev.finish o d).life.held = true :=
  Dev.finish_held h.1 h.2.1 h.2.2

/-- Of the commands that reach a held device, the release of RESET_N alone can let it go. -/
theorem exec_keeps_held {c : Instr} {s t : State} (h : s.dev.heldFast) (hc : c ≠ .resetNRelease) (he : exec c s = .next t) :
    t.dev.life.held = true := by
  cases hr : reachesHeld c with
  | false =>
    rw [exec_of_held h.1 hr] at he
    cases he
    exact h.1
  | true =>
    cases c
    case powerOn => cases he; exact Dev.finish_held_of_heldFast s.dev.powerOn_heldFast
    case resetNAssert => cases he; exact Dev.finish_held_of_heldFast (s.dev.resetDevice_heldFast (by decide))
    case supplyMonitorReset => cases he; exact Dev.finish_held_of_heldFast (s.dev.resetDevice_heldFast (by decide))
    case resetNRelease => exact absurd rfl hc
    case tapReset => cases he; exact Dev.finish_held_of_heldFast (Dev.tapLoad_heldFast h .idcode)
    case idcode => cases he; exact Dev.finish_held_of_heldFast (Dev.tapLoad_heldFast h .idcode)
    case dbgAccess => cases he; exact Dev.finish_held_of_heldFast (Dev.tapLoad_heldFast h .dbgAccess)
    case bypass => cases he; exact Dev.finish_held_of_heldFast (Dev.tapLoad_heldFast h .bypass)
    case samplePreload cells => cases he; exact Dev.finish_held_of_heldFast (Dev.tapPreload_heldFast h cells)
    case extest => cases he; exact Dev.finish_held_of_heldFast (Dev.tapDrive_heldFast h .extest)
    case clamp => cases he; exact Dev.finish_held_of_heldFast (Dev.tapDrive_heldFast h .clamp)
    case highz => cases he; exact Dev.finish_held_of_heldFast (Dev.tapDrive_heldFast h .highz)
    all_goals exact Bool.noConfusion hr

/-- Settles O3: every command outside `reachesHeld` tests the hold first, and of those inside it each but the release leaves a device that the
end of the command finds held. -/
theorem heldDeviceStandsStill : Obligations.HeldDeviceStandsStill := by
  unfold Obligations.HeldDeviceStandsStill
  exact ⟨fun _ _ h hc => exec_of_held h hc,
    fun _ _ _ hheld hcause hrelease hc he => exec_keeps_held ⟨hheld, hcause, hrelease⟩ hc he⟩

/-! ### Every command is carried out (R510, R513) -/

/-- Targets 4 to 7 are the unit windows. -/
theorem Dev.busTarget_of_window {d : Dev} {a k : Nat} (hk : d.busTarget a = some k) (hlo : 3 < k) (hhi : k ≤ 7) :
    0x40000000 ≤ a ∧ a < 0x80000000 := by
  unfold Dev.busTarget at hk
  split_ifs at hk <;> cases hk <;> omega

/-- A transaction without a meaning lies in a unit window whose contents the spec leaves undocumented. -/
theorem Dev.busDo_eq_none {d : Dev} {t : BusTxn} (h : d.busDo t = none) :
    (0x40000000 ≤ busAt t ∧ busAt t < 0x80000000) ∧ (unitWindow (busAt t) < 59 ∨ unitWindow (busAt t) = 63) := by
  unfold Dev.busDo at h
  dsimp only at h
  split at h
  · cases h
  split at h
  · cases h
  next k hk =>
    split at h
    · cases h
    split at h
    · cases h
    next h0 =>
    split at h
    · cases h
    next h12 =>
    split at h
    · split at h
      · cases h
      split at h <;> cases h
    next h3 =>
    split at h
    next hhi =>
      split at h
      next hw => exact ⟨Dev.busTarget_of_window hk (by omega) hhi, hw⟩
      · cases h
    split at h <;> cases h

theorem Dev.busTransact_eq_none {d : Dev} {t : BusTxn} (h : d.busTransact t = none) :
    (0x40000000 ≤ busAt t ∧ busAt t < 0x80000000) ∧ (unitWindow (busAt t) < 59 ∨ unitWindow (busAt t) = 63) := by
  unfold Dev.busTransact at h
  dsimp only at h
  split at h
  · cases h
  · exact Dev.busDo_eq_none h

/-- Settles O2: of the four shapes of an outcome three answer with the queue as it was, and the fourth is a transaction that its target
gives no meaning. -/
theorem everyCommandIsCarriedOut : Obligations.EveryCommandIsCarriedOut := by
  unfold Obligations.EveryCommandIsCarriedOut
  intro c s
  obtain he | ⟨d, he⟩ | ⟨_, he⟩ | ⟨t, hc, hheld, hnone, he⟩ := exec_shape c s
  · exact .inl ⟨_, he, rfl⟩
  · exact .inl ⟨_, he, rfl⟩
  · exact .inl ⟨_, he, rfl⟩
  · obtain ⟨⟨hlo, hhi⟩, hw⟩ := Dev.busTransact_eq_none hnone
    unfold unitWindow busAt at *
    exact .inr ⟨he, hheld, t, hc, hlo, hhi, by omega⟩

end Sys2Proof.Machine
end

section
/-! Power, reset and the release of RESET_N, and the identification of the device (R455, R463, R472, R473, R496, R500, R519, R521, R526,
R546; Table 14.1). -/

namespace Sys2Proof.Machine

/-! ### What a reset leaves (R472, R500) -/

theorem Dev.resetDevice_nv (d : Dev) (c : Nat) :
    (d.resetDevice c).nv = { d.nv with lifecycle := max d.nv.lifecycle d.nv.lifecycleNext, lifecycleNext := 0 } := by
  unfold Dev.resetDevice
  dsimp only
  split <;> rfl

/-- Beside registers, the Trail Log's new entry and what the lemmas above name, a reset leaves every field as a new device has it, but for
the activity at the reference inputs. -/
theorem Dev.resetDevice_frame (d : Dev) (c : Nat) :
    ∃ (r : SMap Nat) (t : List TrailEntry), d.resetDevice c = {
      ref := { active := d.ref.active }, regs := r, trailRam := t, freeN := d.freeN
      nv := (d.resetDevice c).nv, life := (d.resetDevice c).life, dbg := (d.resetDevice c).dbg } := by
  refine ⟨(d.resetDevice c).regs, (d.resetDevice c).trailRam, ?_⟩
  unfold Dev.resetDevice
  dsimp only
  split <;> rfl

/-! ### The end of a command that leaves the device held -/

/-- Nothing follows in a device that is held fast, but that a lockout stays (R455). -/
theorem Dev.finish_of_heldFast {o d : Dev} (h : d.heldFast) : Dev.finish o d = o.keepLockout d := by
  obtain ⟨hheld, hcause, hrelease⟩ := h
  simp [Dev.finish, Dev.followBalls, hheld, hcause, hrelease]

/-- A lockout that the device already shows is kept as it is. -/
theorem Dev.keepLockout_of_shown {o d : Dev} (h : o.nv.lockout = true ∨ d.nv.lockout = true → d.nv.lockout = true ∧ d.life.phase = .lockout) :
    o.keepLockout d = d := by
  unfold Dev.keepLockout
  split
  next hl =>
    obtain ⟨hlock, hphase⟩ := h (by simpa using hl)
    obtain ⟨regs, blobs, time, freeN, nv, life⟩ := d
    cases nv
    cases life
    simp only at hlock hphase
    subst hlock hphase
    rfl
  next => rfl

theorem Dev.finish_resetDevice (d : Dev) {c : Nat} (hc : c < 2) : Dev.finish d (d.resetDevice c) = d.resetDevice c := by
  rw [Dev.finish_of_heldFast (d.resetDevice_heldFast hc)]
  apply Dev.keepLockout_of_shown
  rw [Dev.resetDevice_nv, Dev.resetDevice_life]
  intro h
  have hlock : d.nv.lockout = true := h.elim id id
  exact ⟨hlock, if_pos hlock⟩

theorem Dev.powerOn_lockout (d : Dev) : d.powerOn.nv.lockout = false := by
  show ((d.modNv (fun v => { v with lockout := false })).resetDevice rcPowerOn).nv.lockout = false
  rw [Dev.resetDevice_nv]
  rfl

theorem Dev.powerOn_life (d : Dev) : d.powerOn.life = { phase := .booting, held := true, resetCause := rcPowerOn } :=
  Dev.resetDevice_life (d.modNv (fun v => { v with lockout := false })) rcPowerOn

theorem Dev.finish_powerOn (d : Dev) : Dev.finish d.powerOn d.powerOn = d.powerOn := by
  rw [Dev.finish_of_heldFast d.powerOn_heldFast]
  apply Dev.keepLockout_of_shown
  rw [Dev.powerOn_lockout]
  exact fun h => h.elim (fun hf => nomatch hf) (fun hf => nomatch hf)

/-! ### The three commands -/

theorem exec_powerOn (s : State) : exec .powerOn s = .next { s with dev := Dev.finish s.dev.powerOn s.dev.powerOn } := rfl

theorem exec_resetNAssert (s : State) : exec .resetNAssert s = .next (s.after (s.dev.resetDevice rcBall)) := rfl

theorem exec_supplyMonitorReset (s : State) : exec .supplyMonitorReset s = .next (s.after (s.dev.resetDevice rcPowerOn)) := rfl

/-- Settles O13: each command ends in a device that is held, and in which nothing follows. -/
theorem powerOnAndReset : Obligations.PowerOnAndReset := by
  unfold Obligations.PowerOnAndReset
  refine ⟨fun s => ⟨?power, ?_⟩, fun s => ?ball, fun s => ?supply, fun d c => ?cleared⟩
  case power => rw [exec_powerOn, Dev.finish_powerOn]
  · rw [Dev.powerOn_life]
    exact ⟨rfl, rfl, rfl, s.dev.powerOn_lockout⟩
  case ball => rw [exec_resetNAssert, State.after, Dev.finish_resetDevice _ (by decide)]
  case supply => rw [exec_supplyMonitorReset, State.after, Dev.finish_resetDevice _ (by decide)]
  case cleared =>
    obtain ⟨r, t, hd⟩ := d.resetDevice_frame c
    refine ⟨d.resetDevice_life c, d.resetDevice_nv c, ?_⟩
    rw [hd]
    exact ⟨rfl, rfl, rfl, rfl, rfl, rfl, rfl⟩

/-! ### The release of RESET_N (R472, R473, R496, R521) -/

section
variable {d : Dev} (h : d.life.held = true)
include h

/-- The TAP drives the balls: the release waits. -/
theorem Dev.releaseReset_of_taken (ht : d.ballsTaken = true) :
    d.releaseReset = { d with dbg := { d.dbg with releaseHeld := true } } := by
  simp [Dev.releaseReset, h, ht]

theorem Dev.releaseReset_of_free (ht : d.ballsTaken = false) : d.releaseReset = d.startUp := by
  simp [Dev.releaseReset, h, ht]

end

theorem Dev.startUp_of_lockout {d : Dev} (h : d.life.phase = .lockout) : d.startUp = d.modLife (fun x => { x with held := false }) := by
  simp [Dev.startUp, h]

/-- The device whose ROM reads the boot record: RESET_SEEN is latched, the identity key made, the trial's boot counted (R496, R501). -/
def Dev.romStarted (d : Dev) : Dev := ((d.modLife (fun x => { x with held := false })).latch Flt.RESET_SEEN).makeIdentity.bootTrial

section
variable {d : Dev} {b : BootRec} (hphase : d.life.phase ≠ .lockout) (hcycle : d.nv.lifecycle ≤ 2)
include hphase hcycle

theorem Dev.startUp_of_no_record (hb : d.romStarted.bootRec = none) :
    d.startUp = d.romStarted.modLife (fun x => { x with bootFailed := true }) := by
  simp only [Dev.startUp, Dev.modLife_life, Dev.modLife_nv, hphase, Nat.not_lt.mpr hcycle, if_false]
  rw [← Dev.romStarted, hb]

variable (hb : d.romStarted.bootRec = some b)
include hb

theorem Dev.startUp_of_record : d.startUp =
    if d.romStarted.slotBoots b.slot then d.romStarted.firstStage b b.slot b.storeArea
    else if d.romStarted.slotBoots b.prevSlot then
      d.romStarted.firstStage b b.prevSlot (if b.prevStoreArea < 2 then b.prevStoreArea else b.storeArea)
    else d.romStarted.modLife (fun x => { x with bootFailed := true }) := by
  simp only [Dev.startUp, Dev.modLife_life, Dev.modLife_nv, hphase, Nat.not_lt.mpr hcycle, if_false]
  rw [← Dev.romStarted, hb]

theorem Dev.startUp_of_slot (hs : d.romStarted.slotBoots b.slot = true) : d.startUp = d.romStarted.firstStage b b.slot b.storeArea := by
  rw [Dev.startUp_of_record hphase hcycle hb, if_pos hs]

/-- Where the named slot does not boot, the previous one does with its store area. -/
theorem Dev.startUp_of_prevSlot (hs : d.romStarted.slotBoots b.slot = false) (hp : d.romStarted.slotBoots b.prevSlot = true)
    (ha : b.prevStoreArea < 2) : d.startUp = d.romStarted.firstStage b b.prevSlot b.prevStoreArea := by
  rw [Dev.startUp_of_record hphase hcycle hb, if_neg (by simp [hs]), if_pos hp, if_pos ha]

theorem Dev.startUp_of_no_slot (hs : d.romStarted.slotBoots b.slot = false) (hp : d.romStarted.slotBoots b.prevSlot = false) :
    d.startUp = d.romStarted.modLife (fun x => { x with bootFailed := true }) := by
  rw [Dev.startUp_of_record hphase hcycle hb, if_neg (by simp [hs]), if_neg (by simp [hp])]

end

theorem exec_resetNRelease {s : State} {d : Dev} (hd : s.dev.releaseReset = d) : exec .resetNRelease s = .next (s.after d) := by
  subst hd
  rfl

/-- Settles O14: a release waits behind the TAP or starts the device, whose ROM goes by the boot record and the slots that boot. -/
theorem resetRelease : Obligations.ResetRelease := by
  unfold Obligations.ResetRelease
  refine ⟨fun s h ht => exec_resetNRelease (Dev.releaseReset_of_taken h ht),
    fun s h ht hl => exec_resetNRelease ((Dev.releaseReset_of_free h ht).trans (Dev.startUp_of_lockout hl)), ?_⟩
  intro s d h ht hl hc hd
  obtain rfl : d = s.dev.romStarted := hd
  have run {e : Dev} (he : s.dev.startUp = e) : exec .resetNRelease s = .next (s.after e) :=
    exec_resetNRelease ((Dev.releaseReset_of_free h ht).trans he)
  exact ⟨fun b hb hs => run (Dev.startUp_of_slot hl hc hb hs), fun b hb hs hp ha => run (Dev.startUp_of_prevSlot hl hc hb hs hp ha),
    fun b hb hs hp => run (Dev.startUp_of_no_slot hl hc hb hs hp), fun hb => run (Dev.startUp_of_no_record hl hc hb)⟩

/-! ### IDCODE (R519) -/

/-- Settles O8: VERSION is the one field that varies, and the others are digits of a fixed number. -/
theorem deviceIdentification : Obligations.DeviceIdentification := by
  unfold Obligations.DeviceIdentification
  intro d
  have hword : d.idWord = d.nv.stepping % 16 * 2 ^ 28 + 0x1024A35 := by
    unfold Dev.idWord
    omega
  have hver : d.nv.stepping % 16 < 16 := Nat.mod_lt _ (by decide)
  rw [hword]
  unfold fld bitOf
  refine ⟨by omega, by omega, by omega, ?_, by omega, fun hs => by omega⟩
  rw [beq_iff_eq]
  omega

end Sys2Proof.Machine
end

section
/-! The collector's schemes, its lines and escalation timers, and a control core's watchdog (R442, R445 to R449, R452, R458, R459). -/

namespace Sys2Proof.Machine

/-! ### The schemes (R445) -/

/-- The life-cycle phase decides, and in service and after a failure the twin state does. -/
theorem Dev.fixedScheme_iff (d : Dev) :
    d.fixedScheme = true ↔ (d.devState = 0 ∨ d.devState = 1 ∨ d.devState = 3 ∨ d.devState = 2) ∨ d.twinState = twJoining := by
  unfold Dev.fixedScheme Dev.devState
  cases d.life.phase
  case running => cases d.acts <;> simp
  all_goals simp

/-- Settles O7: the scheme is fixed by the phase and the twin state, and FLT_SCHEME and the severity of a latch go by it. -/
theorem collectorScheme : Obligations.CollectorScheme := by
  unfold Obligations.CollectorScheme
  intro d
  refine ⟨d.fixedScheme_iff, ?_, fun s => rfl⟩
  show some (boolNat !d.fixedScheme) = _
  cases d.fixedScheme <;> rfl

/-! ### Lines (R442) -/

/-- A line that stays as it was changes nothing. -/
theorem Dev.setLine_of_same {d : Dev} {n : Nat} {b : Bool} (h : bitOf (smGet d.flt.lines (n / 32) 0) (n % 32) = b) (c : Option Channel) :
    d.setLine n b c = d := by
  simp [Dev.setLine, h]

theorem Dev.setLine_of_fall {d : Dev} {n : Nat} (h : bitOf (smGet d.flt.lines (n / 32) 0) (n % 32) = true) (c : Option Channel) :
    d.setLine n false c = { d with flt := { d.flt with
      lines := smSet d.flt.lines (n / 32) (setBit (smGet d.flt.lines (n / 32) 0) (n % 32) false) 0 } } := by
  simp [Dev.setLine, h]

/-- A line that rises notes its channel, and latches its source where it is not latched. -/
theorem Dev.setLine_of_rise {d e : Dev} {n : Nat} {c : Option Channel} (h : bitOf (smGet d.flt.lines (n / 32) 0) (n % 32) = false)
    (he : e = { d with flt := { d.flt with
      lines := smSet d.flt.lines (n / 32) (setBit (smGet d.flt.lines (n / 32) 0) (n % 32) true) 0
      chans := smSet d.flt.chans n c none } }) :
    d.setLine n true c = if e.fltLatched n then e else e.latch n := by
  subst he
  simp [Dev.setLine, h]

/-! ### Escalation (R449) -/

theorem Dev.escalationExpiry_of_stopped {d : Dev} {g : Nat} (h : smGet d.flt.escEnd g 0 = 0) : d.escalationExpiry g = d := if_pos h

/-- A timer that runs is brought to its end, and what joined it escalates. -/
theorem Dev.escalationExpiry_of_running {d e : Dev} {g due : Nat} (h : smGet d.flt.escEnd g 0 ≠ 0)
    (he : e = d.passTo (smGet d.flt.escEnd g 0))
    (hdue : due = smGet e.flt.joined g 0 &&& e.reg Obj.FLT_LATCHED g &&& e.reg Obj.FLT_ENABLE g &&& (0xFFFFFFFF - e.reg Obj.FLT_ACK g)) :
    d.escalationExpiry g = (setBits 32 due).foldl (fun d k => d.escalate (32 * g + k))
      { e with flt := { e.flt with joined := smSet e.flt.joined g 0 0, escEnd := smSet e.flt.escEnd g 0 0 } } := by
  subst he hdue
  exact if_neg h

section
variable {d e : Dev} {n : Nat} (hlo : 3 ≤ d.actSeverity n) (hhi : d.actSeverity n ≤ 5)
  (he : e = (d.setFltBit Obj.FLT_ESCALATED n true).event 0x4140 (d.fltRef n) [] (boolNat (bitOf (d.reg Obj.FLT_FORCE (n / 32)) (n % 32))))
include hlo hhi he

/-- A source that names no channel escalates by its event, and above severity 3 by the pass. -/
theorem Dev.escalate_of_no_channel (hc : e.fltChan n = none) :
    d.escalate n = if d.actSeverity n = 3 then e else e.ask .dropPass := by
  have hsev : d.actSeverity n = 3 ∨ d.actSeverity n = 4 ∨ d.actSeverity n = 5 := by omega
  simp only [Dev.escalate, ← he, hc]
  obtain hs | hs | hs := hsev <;> simp [hs]

theorem Dev.escalate_of_channel {c : Channel} (hc : e.fltChan n = some c) :
    d.escalate n = if d.actSeverity n = 3 then e.ask (.retire c)
      else if d.actSeverity n = 4 then e.ask .dropPass else (e.ask (.retire c)).ask .dropPass := by
  have hsev : d.actSeverity n = 3 ∨ d.actSeverity n = 4 ∨ d.actSeverity n = 5 := by omega
  simp only [Dev.escalate, ← he, hc]
  obtain hs | hs | hs := hsev <;> simp [hs]

end

/-! ### The watchdog (R459, Table 13.14) -/

theorem Dev.watchdog_of_halted {d : Dev} {c : Nat} (h : (d.dbg.cores.getD c {}).halted = true) : d.watchdog c = d := if_pos h

/-- A core that runs restarts, and the fourth restart within the hour resets the device. -/
theorem Dev.watchdog_of_running {d e : Dev} {c : Nat} {ts : List Nat} (h : (d.dbg.cores.getD c {}).halted = false)
    (hts : ts = (d.clock :: smGet d.life.restarts c []).filter (fun t => decide (d.clock < t + 3600000000000)))
    (he : e = (d.pulse (Flt.CC_WDOG + c)).modLife (fun x => { x with
      restarts := smSet x.restarts c ts [], coreRestarts := x.coreRestarts + 1 })) :
    d.watchdog c = if 3 < ts.length then e.ask (.reset rcWatchdog) else e := by
  subst hts he
  exact if_neg (Bool.not_eq_true _ ▸ h)

/-- Settles O44: a line goes by what it was, a timer by whether it runs, a source that escalates by its severity and its channel, and a
watchdog by whether its core runs. -/
theorem faultLinesAndTimers : Obligations.FaultLinesAndTimers := by
  unfold Obligations.FaultLinesAndTimers
  refine ⟨?lines, ?timers, ?escalation, ?watchdog⟩
  case lines =>
    intro s n c h
    exact ⟨fun b hb => State.live_next h (Dev.setLine_of_same hb c), fun hb => State.live_next h (Dev.setLine_of_fall hb c),
      fun d hb hd => State.live_next h (Dev.setLine_of_rise hb hd)⟩
  case timers =>
    intro s g due h
    exact ⟨fun hg => State.live_next h (Dev.escalationExpiry_of_stopped hg),
      fun d hg hd hdue => State.live_next h (Dev.escalationExpiry_of_running hg hd hdue)⟩
  case escalation =>
    intro d e n hlo hhi he
    exact ⟨Dev.escalate_of_no_channel hlo hhi he, fun c => Dev.escalate_of_channel hlo hhi he⟩
  case watchdog =>
    intro s c h
    exact ⟨fun hc => State.live_next h (Dev.watchdog_of_halted hc),
      fun ts d hc hts hd => State.live_next h (Dev.watchdog_of_running hc hts hd)⟩

end Sys2Proof.Machine
end

section
/-! Start-up's store check and training, the trial of an image, and attestation (R334, R335, R481 to R483, R498, R499, R501, R502;
Table 14.6). -/

namespace Sys2Proof.Machine

/-! ### The store check (R481 to R483) -/

section
variable {d e : Dev} (hphase : d.life.phase = .selfTest) (htrained : d.trained = true) (he : e = d.migrate)
include hphase htrained he

theorem Dev.startUpStore_of_trained : d.startUpStore =
    if e.life.trial ∧ e.storeCheck ≠ 0 ∧ e.storeCheck ≠ 5 then e.fallBack
    else if e.storeCheck = 0 then
      (e.setNumbers.storeLoad.setReg Obj.START_TIME 0 (lastStart (e.storeLog e.life.storeArea))).enterStarting
    else if e.storeCheck = 5 then e.setNumbers.storeLoad.enterLayBy 5
    else (e.freshStore e.storeCheck).enterLayBy e.storeCheck := by
  subst he
  exact if_neg (by simp [hphase, htrained])

theorem Dev.startUpStore_of_good (hcheck : e.storeCheck = 0) : d.startUpStore =
    (e.setNumbers.storeLoad.setReg Obj.START_TIME 0 (lastStart (e.storeLog e.life.storeArea))).enterStarting := by
  simp [Dev.startUpStore_of_trained hphase htrained he, hcheck]

/-- A good store whose last record is no START waits in LAY_BY (Table 14.6). -/
theorem Dev.startUpStore_of_not_started (hcheck : e.storeCheck = 5) : d.startUpStore = e.setNumbers.storeLoad.enterLayBy 5 := by
  simp [Dev.startUpStore_of_trained hphase htrained he, hcheck]

section
variable (h0 : e.storeCheck ≠ 0) (h5 : e.storeCheck ≠ 5)
include h0 h5

theorem Dev.startUpStore_of_bad (htrial : e.life.trial = false) :
    d.startUpStore = (e.freshStore e.storeCheck).enterLayBy e.storeCheck := by
  simp [Dev.startUpStore_of_trained hphase htrained he, htrial, h0, h5]

/-- A trial image falls back from a store that fails its check. -/
theorem Dev.startUpStore_of_bad_trial (htrial : e.life.trial = true) : d.startUpStore = e.fallBack := by
  simp [Dev.startUpStore_of_trained hphase htrained he, htrial, h0, h5]

end

end

/-! ### Training of frame memory (R334, R335) -/

section
variable {d : Dev} {pc : Nat} (h : d.pcState pc = pcTraining)
include h

theorem Dev.fmTrained_done : d.fmTrained pc .done =
    (({ d with freeN := d.freeN + 1 }.setReg Obj.FM_PC_STATE pc pcActive).setReg Obj.FM_EYE_WIDTH pc
      (d.reg Obj.FM_EYE_MIN + Config.freeNat d.freeN % (65536 - d.reg Obj.FM_EYE_MIN))).fmSettle :=
  if_neg (fun hne => hne h)

/-- A failed try below the third is counted, and training goes on. -/
theorem Dev.fmTrained_failed (ht : smGet d.fm.attempts pc 0 + 1 < 3) : d.fmTrained pc .failed =
    { d with fm := { d.fm with attempts := smSet d.fm.attempts pc (smGet d.fm.attempts pc 0 + 1) 0 } } :=
  (if_neg (fun hne => hne h)).trans (if_pos ht)

end

/-! ### The trial of an image (R498, R499) -/

theorem Dev.trialConfirm_of_unmet {d : Dev} (h : d.trialMet = false) : d.trialConfirm = d := by
  simp [Dev.trialConfirm, h]

/-- The device once the trial image of record `b` has confirmed itself. -/
def Dev.confirmed (d : Dev) (b : BootRec) : Dev :=
  (((d.pushBoot { b with state := 0, boots := 0, storeArea := d.life.storeArea, prevStoreArea := 255 }).flashDo .unstage).modNv
    (fun v => { v with fromLayby := false })).modLife (fun x => { x with trial := false })

section
variable {d : Dev} {b : BootRec} (h : d.trialMet = true) (hb : d.bootRec = some b)
include h hb

/-- A trial on the store area that it found erases nothing. -/
theorem Dev.trialConfirm_of_same_area (ha : b.prevStoreArea = d.life.storeArea) : d.trialConfirm = d.confirmed b := by
  simp [Dev.trialConfirm, Dev.confirmed, h, hb, ha]

/-- A trial whose store was migrated erases the area that it came from. -/
theorem Dev.trialConfirm_of_other_area (hlt : b.prevStoreArea < 2) (ha : b.prevStoreArea ≠ d.life.storeArea) :
    d.trialConfirm = (d.flashDo (.eraseStore b.prevStoreArea)).confirmed b := by
  simp [Dev.trialConfirm, Dev.confirmed, h, hb, hlt, ha]

end

theorem Dev.trialTimeout_of_due {d : Dev} (ht : d.life.trial = true) (hend : d.life.trialEnd ≤ d.clock) :
    d.trialTimeout = d.pushFallback.ask (.reset 6) := by
  simp [Dev.trialTimeout, Dev.fallBack, ht, hend]

theorem Dev.trialTimeout_of_none {d : Dev} (h : d.life.trial = false ∨ d.clock < d.life.trialEnd) : d.trialTimeout = d := by
  apply if_neg
  obtain h | h := h <;> simp [h]

/-! ### Attestation (R502) -/

theorem Dev.attestDone_of_idle {d : Dev} (h : d.reg Obj.SEC_ATTEST_STATE ≠ 1) : d.attestDone = d := if_pos h

theorem Dev.attestDone_of_signing {d : Dev} (h : d.reg Obj.SEC_ATTEST_STATE = 1) :
    d.attestDone = { d.setReg Obj.SEC_ATTEST_STATE 0 2 with
      sec := { d.sec with evidence := d.evidenceHead ++ fitBytes sigBytes (Config.identitySign (sha256 d.evidenceHead)) } } :=
  if_neg (fun hne => hne h)

/-- Settles O15: the store check by its result and by whether a trial runs, training by its outcome, a trial by its conditions and its end,
and an attestation by whether one is being signed. -/
theorem startUpTrialsAndAttestation : Obligations.StartUpTrialsAndAttestation := by
  unfold Obligations.StartUpTrialsAndAttestation
  refine ⟨⟨?check, ?trialCheck, ?trained, ?failed⟩, ?trials⟩
  case check =>
    intro s d h hphase htrained hd htrial
    exact ⟨fun hc => State.live_next h (Dev.startUpStore_of_good hphase htrained hd hc),
      fun hc => State.live_next h (Dev.startUpStore_of_not_started hphase htrained hd hc),
      fun h0 h5 => State.live_next h (Dev.startUpStore_of_bad hphase htrained hd h0 h5 htrial)⟩
  case trialCheck =>
    exact fun s d h hphase htrained hd htrial h0 h5 =>
      State.live_next h (Dev.startUpStore_of_bad_trial hphase htrained hd h0 h5 htrial)
  case trained => exact fun s pc h hpc => State.live_next h (Dev.fmTrained_done hpc)
  case failed => exact fun s pc h hpc ht => State.live_next h (Dev.fmTrained_failed hpc ht)
  case trials =>
    intro s h
    refine ⟨fun hm => State.live_next h (Dev.trialConfirm_of_unmet hm),
      fun b hm hb ha => State.live_next h (Dev.trialConfirm_of_same_area hm hb ha), fun b d hm hb hlt ha hd => ?_,
      fun ht hend => State.live_next h (Dev.trialTimeout_of_due ht hend), fun ht => State.live_next h (Dev.trialTimeout_of_none ht),
      fun ha => State.live_next h (Dev.attestDone_of_idle ha), fun ha => State.live_next h (Dev.attestDone_of_signing ha)⟩
    subst hd
    exact State.live_next h (Dev.trialConfirm_of_other_area hm hb hlt ha)

end Sys2Proof.Machine
end

section
/-! The TAP's instructions (R517 to R521, Table 15.6). -/

namespace Sys2Proof.Machine

theorem Dev.ballsFree_iff (d : Dev) :
    d.ballsFree = true ↔ d.resetLow = true ∨ d.life.phase = .layBy ∨ d.life.phase = .fail ∨ d.life.phase = .lockout := by
  simp [Dev.ballsFree, or_assoc]

/-- In reset and in the states of R520 an instruction that drives the balls is loaded as itself. -/
theorem Dev.tapDrive_of_free {d : Dev} (h : d.ballsFree = true) (i : TapInstr) :
    d.tapDrive i = d.modDbg (fun b => { b with tap := i, replaced := false }) := if_pos h

/-- Elsewhere BYPASS takes its place, and the replacement is noted. -/
theorem Dev.tapDrive_of_taken {d : Dev} (h : ¬ d.ballsFree = true) (i : TapInstr) :
    d.tapDrive i = d.modDbg (fun b => { b with tap := .bypass, replaced := true }) := if_neg h

/-- A TAP instruction that drives the balls reaches a held device too. -/
theorem State.run_tapDrive {s : State} {i : TapInstr} {d : Dev} (hd : s.dev.tapDrive i = d) :
    s.run (fun d => d.tapDrive i) = .next (s.after d) := by
  subst hd
  rfl

/-- Settles O46: each instruction is loaded as it is, but for the three that drive the balls, which go by the state of the device. -/
theorem tapInstructions : Obligations.TapInstructions := by
  unfold Obligations.TapInstructions
  refine ⟨fun s => ⟨rfl, rfl, rfl, rfl, fun _ => rfl⟩, ?free, ?taken⟩
  case free =>
    intro s h
    have hfree := s.dev.ballsFree_iff.mpr h
    exact ⟨State.run_tapDrive (Dev.tapDrive_of_free hfree _), State.run_tapDrive (Dev.tapDrive_of_free hfree _),
      State.run_tapDrive (Dev.tapDrive_of_free hfree _)⟩
  case taken =>
    intro s hreset hphase
    have htaken : ¬ s.dev.ballsFree = true := by
      rw [Dev.ballsFree_iff, hreset]
      simpa using hphase
    have hloads (i : TapInstr) := State.run_tapDrive (Dev.tapDrive_of_taken htaken i)
    exact ⟨hloads .extest, (hloads .clamp).trans (hloads .extest).symm, (hloads .highz).trans (hloads .extest).symm⟩

end Sys2Proof.Machine
end

section
/-! The COUNT_CLEAR commands: the counters that one zeroes, and what it leaves alone (R460). -/

namespace Sys2Proof.Machine

/-! ### Devices that differ by cleared counters -/

/-- `e` is `d` with the counters `ks` at 0, every other register as it was, and at most entries of CNT_SAT_LIST gone. -/
def Dev.Cleared (ks : List Nat) (d e : Dev) : Prop :=
  (∃ m s, e = { d with regs := m, flt := { d.flt with sat := s } } ∧ s.Sublist d.flt.sat) ∧
  (d.regsWf → e.regsWf ∧ ∀ k, smGet e.regs k (keyDefault k) = if k ∈ ks then 0 else smGet d.regs k (keyDefault k))

theorem Dev.Cleared.refl (d : Dev) : Dev.Cleared [] d d := ⟨⟨_, _, rfl, .refl _⟩, fun h => ⟨h, fun _ => rfl⟩⟩

theorem Dev.Cleared.trans {ks ls : List Nat} {d e f : Dev} (h : Dev.Cleared ks d e) (k : Dev.Cleared ls e f) :
    Dev.Cleared (ks ++ ls) d f := by
  obtain ⟨⟨m, s, rfl, hs⟩, hread⟩ := h
  obtain ⟨⟨n, u, rfl, hu⟩, kread⟩ := k
  refine ⟨⟨n, u, rfl, hu.trans hs⟩, fun hwf => ?_⟩
  obtain ⟨ewf, hval⟩ := hread hwf
  obtain ⟨fwf, kval⟩ := kread ewf
  refine ⟨fwf, fun x => ?_⟩
  rw [kval, hval]
  by_cases hx : x ∈ ks <;> by_cases hy : x ∈ ls <;> simp [hx, hy]

/-- The order in which counters are listed does not matter. -/
theorem Dev.Cleared.congr {ks ls : List Nat} {d e : Dev} (h : Dev.Cleared ks d e) (hmem : ∀ k, k ∈ ks ↔ k ∈ ls) : Dev.Cleared ls d e := by
  simp only [Dev.Cleared, hmem] at h
  exact h

theorem Dev.setReg_zero_cleared (d : Dev) (n i : Nat) : Dev.Cleared [objKey n i] d (d.setReg n i 0) := by
  refine ⟨⟨_, _, rfl, .refl _⟩, fun hwf => ⟨Dev.setReg_wf hwf n i 0, fun k => ?_⟩⟩
  by_cases hk : k = objKey n i
  · subst hk
    rw [if_pos (List.mem_singleton.mpr rfl)]
    exact smGet_smSet_same _ _ hwf
  · rw [if_neg (fun hm => hk (List.mem_singleton.mp hm))]
    exact smGet_smSet_other _ hk hwf _

theorem Dev.filterSat_cleared (d : Dev) (p : Nat → Bool) : Dev.Cleared [] d { d with flt := { d.flt with sat := d.flt.sat.filter p } } :=
  ⟨⟨_, _, rfl, List.filter_sublist⟩, fun h => ⟨h, fun _ => rfl⟩⟩

theorem Dev.setRegs_zero_cleared (ns : List Nat) (i : Nat) (d : Dev) :
    Dev.Cleared (ns.map (fun n => objKey n i)) d (ns.foldl (fun d n => d.setReg n i 0) d) := by
  induction ns generalizing d with
  | nil => exact .refl d
  | cons n ns ih => exact (d.setReg_zero_cleared n i).trans (ih _)

/-! ### Clears of lists of counters -/

theorem mem_clearKeys {ns is_ : List Nat} {k : Nat} : k ∈ clearKeys ns is_ ↔ ∃ n ∈ ns, ∃ i ∈ is_, objKey n i = k := by
  simp [clearKeys]

theorem Dev.clearCounters_cleared (d : Dev) (ns : List Nat) (i : Nat) : Dev.Cleared (clearKeys ns [i]) d (d.clearCounters ns i) :=
  ((Dev.setRegs_zero_cleared ns i d).trans (Dev.filterSat_cleared _ _)).congr (fun k => by simp [mem_clearKeys])

theorem clearList_cleared (d : Dev) (ns is_ : List Nat) : Dev.Cleared (clearKeys ns is_) d (clearList d ns is_) := by
  induction is_ generalizing d with
  | nil => exact (Dev.Cleared.refl d).congr (fun k => by simp [mem_clearKeys])
  | cons i is_ ih =>
    refine ((d.clearCounters_cleared ns i).trans (ih _)).congr (fun k => ?_)
    simp only [List.mem_append, mem_clearKeys, List.mem_cons, List.not_mem_nil, or_false, exists_eq_left, or_and_right, exists_or,
      and_or_left]

/-- A further clear at element 0 alone. -/
theorem Dev.cleared_ite {c : Prop} [Decidable c] {ks ls : List Nat} {d e f : Dev} (h : Dev.Cleared ks d e) (k : Dev.Cleared ls e f) :
    Dev.Cleared (ks ++ if c then ls else []) d (if c then f else e) := by
  split
  · exact h.trans k
  · rwa [List.append_nil]

/-! ### The commands -/

/-- A saturation word is cleared with its counters (R107, R402). -/
theorem Dev.clearWord_cleared (d : Dev) (w : Nat) (ns : List Nat) (i : Nat) :
    Dev.Cleared (clearKeys (w :: ns) [i]) d ((d.clearCounters ns i).setReg w i 0) := by
  refine ((d.clearCounters_cleared ns i).trans (Dev.setReg_zero_cleared _ w i)).congr (fun k => ?_)
  simp [mem_clearKeys, eq_comm, or_comm]

/-- The objects of the COUNT_CLEAR commands. -/
def countClearObjects : List Nat := [Obj.LANE_COUNT_CLEAR, Obj.TAKE_COUNT_CLEAR, Obj.IN_COUNT_CLEAR, Obj.OUT_COUNT_CLEAR, Obj.FS_COUNT_CLEAR,
  Obj.RF_COUNT_CLEAR, Obj.TF_COUNT_CLEAR, Obj.PKT_COUNT_CLEAR, Obj.CE_COUNT_CLEAR, Obj.CANOPY_COUNT_CLEAR, Obj.AO_COUNT_CLEAR,
  Obj.MIX_COUNT_CLEAR, Obj.AP_COUNT_CLEAR, Obj.FM_COUNT_CLEAR, Obj.TWIN_COUNT_CLEAR, Obj.MG_COUNT_CLEAR, Obj.CH_COUNT_CLEAR,
  Obj.FLT_COUNT_CLEAR, Obj.RMB_COUNT_CLEAR, Obj.DBG_COUNT_CLEAR]

theorem mem_countClearObjects {c i : Nat} (h : countClear c i ≠ []) : c ∈ countClearObjects := by
  by_contra hc
  simp only [countClearObjects, List.mem_cons, List.not_mem_nil, or_false, not_or] at hc
  simp only [countClear, hc, if_false] at h
  exact h rfl

theorem Dev.countClear_cleared (d : Dev) (c i e : Nat) (arg : Bytes) (l : Bool) (h : countClear c i ≠ []) :
    Dev.Cleared (countClear c i) d (d.cmdApply c i arg e l) := by
  have hc := mem_countClearObjects h
  simp only [countClearObjects, List.mem_cons, List.not_mem_nil, or_false] at hc
  obtain rfl | rfl | rfl | rfl | rfl | rfl | rfl | rfl | rfl | rfl | rfl | rfl | rfl | rfl | rfl | rfl | rfl | rfl | rfl | rfl := hc
  case inl => exact d.clearWord_cleared Obj.LANE_SAT laneCounters i
  · exact d.clearCounters_cleared _ 0
  · exact d.clearCounters_cleared _ i
  · exact d.clearCounters_cleared _ i
  · exact Dev.cleared_ite (d.clearCounters_cleared [Obj.FS_DROPS, Obj.FS_REPEATS] i) (Dev.clearCounters_cleared _ [Obj.FS_MIRROR_MISS] 0)
  · exact d.clearCounters_cleared _ i
  · exact d.clearCounters_cleared _ i
  · exact d.clearCounters_cleared _ i
  · exact (d.clearCounters_cleared [Obj.CE_BG_ABSENT] i).trans (clearList_cleared _ _ _)
  · exact (d.clearCounters_cleared _ 0).trans (clearList_cleared _ _ _)
  · exact Dev.cleared_ite (d.clearCounters_cleared [Obj.AO_ABSENT, Obj.AO_LATE_DROP] i)
      (Dev.clearCounters_cleared _ [Obj.AUD_MIRROR_GAP, Obj.AUD_MIRROR_MISS] 0)
  · exact (d.clearCounters_cleared [Obj.MIX_COMMITS, Obj.MIX_ECC_ERR] 0).trans (clearList_cleared _ [Obj.MIX_OUT_SAT] (List.range 4096))
  · exact d.clearCounters_cleared _ i
  · exact Dev.cleared_ite (d.clearCounters_cleared fmCounters i) (((Dev.clearCounters_cleared _ [Obj.FM_SCRUB_PASSES] 0).trans
      (clearList_cleared _ [Obj.FM_CLASS_OVER] (List.range 6))).trans (clearList_cleared _ [Obj.FM_HOT_ENTRIES] (List.range 2)))
  · exact d.clearCounters_cleared _ 0
  · exact d.clearWord_cleared Obj.MG_SAT mgCounters i
  · exact (d.clearCounters_cleared _ 0).trans (clearList_cleared _ _ _)
  · exact clearList_cleared d _ _
  · exact (d.clearCounters_cleared _ 0).trans (clearList_cleared _ _ _)
  · exact ((d.clearCounters_cleared _ 0).trans (clearList_cleared _ _ _)).trans (clearList_cleared _ _ _)

/-- Settles O60: each COUNT_CLEAR is a sequence of clears of lists of counters, and `Dev.Cleared` says what such a sequence leaves. -/
theorem countClears : Obligations.CountClears := by
  unfold Obligations.CountClears
  intro d c i e arg l hwf hne
  obtain ⟨hframe, hread⟩ := d.countClear_cleared c i e arg l hne
  obtain ⟨ewf, hval⟩ := hread hwf
  exact ⟨fun k hk => by rw [hval, if_pos hk], fun k hk => by rw [hval, if_neg hk], ewf, hframe⟩

end Sys2Proof.Machine
end

section
/-! The debug module: operations on its registers, memory accesses and the mailbox (R522, R523, R528, R529; Tables 15.7 to 15.9). -/

namespace Sys2Proof.Machine

/-! ### One operation (R522, R523) -/

/-- Without DBG_ACCESS nothing happens. -/
theorem Dev.dmOp_of_unloaded {d : Dev} (h : d.dbg.tap ≠ .dbgAccess) (reg : Nat) (w : Bool) (st data : Nat) (eff : Dev → Dev) :
    d.dmOp reg w st data eff = d := if_pos h

section
variable {d : Dev} (htap : d.dbg.tap = .dbgAccess) (hgate : d.gateOn 34 = true)
include htap hgate

/-- An operation that is in order has its effect, and its result is what the next Capture-DR loads. -/
theorem Dev.dmOp_of_ok {st : Nat} (hst : st = dsOk) (reg : Nat) (w : Bool) (data : Nat) (eff : Dev → Dev) :
    d.dmOp reg w st data eff = (eff d).modDbg (fun b => { b with
      resReg := reg, resWrite := w, resStatus := 0, resData := if w then 0 else data }) := by
  subst hst
  simp [Dev.dmOp, htap, hgate, dsOk]

/-- One that is not has no effect but the count. -/
theorem Dev.dmOp_of_error {st k : Nat} (hst : st = k) (hk : k ≠ dsOk) (reg : Nat) (w : Bool) (data : Nat) (eff : Dev → Dev) :
    d.dmOp reg w st data eff = (d.count Obj.DBG_REFUSED).modDbg (fun b => { b with
      resReg := reg, resWrite := w, resStatus := k, resData := 0 }) := by
  subst hst
  have hne : (st != dsOk) = true := by simpa using hk
  simp [Dev.dmOp, htap, hgate, hk, hne]

end

/-- Outside FIELD no register is denied (Table 15.9). -/
theorem Dev.fieldDenies_of_ne {d : Dev} (h : d.nv.lifecycle ≠ 2) (reg : Nat) (w : Bool) : d.fieldDenies reg w = false := by
  simp [Dev.fieldDenies, h]

theorem Dev.writeStatus_of_good {d : Dev} (h : d.nv.lifecycle ≠ 2) (reg : Nat) {bad : Bool} (hbad : bad = false) :
    (if d.fieldDenies reg true then dsRefused else if bad then dsInvalid else dsOk) = dsOk := by
  simp [Dev.fieldDenies_of_ne h, hbad]

/-! ### Starts of memory accesses (R528) -/

theorem Dev.memStart_of_idle {d : Dev} (h : d.dbg.memOp = none) (w : Bool) :
    d.memStart w = (d.count Obj.DBG_MEM_ACCESSES).modDbg (fun b => { b with
      memOp := some { addr := b.memAddr, write := w, size := memSize b.memCtrl, data := b.memData, held := d.gateHolds b.memAddr } }) := by
  simp [Dev.memStart, h]

/-- A second start before the end sets the overrun and is lost. -/
theorem Dev.memStart_of_busy {d : Dev} {o : MemOp} (h : d.dbg.memOp = some o) (w : Bool) :
    d.memStart w = d.modDbg (fun b => { b with overrun := true }) := by
  simp [Dev.memStart, h]

section
variable {d : Dev} (hcycle : d.nv.lifecycle ≠ 2)
include hcycle

theorem Dev.memStatus_of_aligned {ctrl : Nat} (hsize : fld ctrl 29 28 ≠ 3) (ha : d.dbg.memAddr % memSize ctrl = 0) (start : Bool) :
    d.memStatus ctrl start = dsOk := by
  simp [Dev.memStatus, Dev.fieldDenies_of_ne hcycle, hsize, ha]

theorem Dev.memStatus_of_unaligned {ctrl : Nat} (ha : d.dbg.memAddr % memSize ctrl ≠ 0) : d.memStatus ctrl true = dsInvalid := by
  simp [Dev.memStatus, Dev.fieldDenies_of_ne hcycle, ha]

variable (htap : d.dbg.tap = .dbgAccess) (hgate : d.gateOn 34 = true)
include htap hgate

theorem Dev.dmMemCtrl_of_go {v : Nat} (hgo : bitOf v 31 = true) (hsize : fld v 29 28 ≠ 3) (ha : d.dbg.memAddr % memSize v = 0)
    (hidle : d.dbg.memOp = none) :
    d.dmMemCtrl v = ((d.modDbg (fun b => { b with memCtrl := fld v 30 27 * 2 ^ 27 })).memStart (bitOf v 30)).modDbg (fun b => { b with
      resReg := 0x12, resWrite := true, resStatus := 0, resData := 0 }) := by
  unfold Dev.dmMemCtrl
  rw [Dev.dmOp_of_ok htap hgate (Dev.memStatus_of_aligned hcycle hsize ha _)]
  simp [hgo, hidle]

theorem Dev.dmMemCtrl_of_unaligned {v : Nat} (hgo : bitOf v 31 = true) (ha : d.dbg.memAddr % memSize v ≠ 0) :
    d.dmMemCtrl v = (d.count Obj.DBG_REFUSED).modDbg (fun b => { b with
      resReg := 0x12, resWrite := true, resStatus := 3, resData := 0 }) := by
  have hst : d.memStatus v (bitOf v 31) = dsInvalid := by rw [hgo, Dev.memStatus_of_unaligned hcycle ha]
  unfold Dev.dmMemCtrl
  exact Dev.dmOp_of_error htap hgate hst (by decide) _ _ _ _

/-- With AUTO each word of DM_MEM_DATA starts the next access. -/
theorem Dev.dmMemData_of_auto {v : Nat} (w : Bool) (hsize : fld d.dbg.memCtrl 29 28 ≠ 3) (hauto : bitOf d.dbg.memCtrl 27 = true)
    (ha : d.dbg.memAddr % memSize d.dbg.memCtrl = 0) (hidle : d.dbg.memOp = none) :
    d.dmMemData w v = (((if w then d.modDbg (fun b => { b with memData := v }) else d)).memStart w).modDbg (fun b => { b with
      resReg := 0x13, resWrite := w, resStatus := 0, resData := if w then 0 else d.dbg.memData }) := by
  unfold Dev.dmMemData
  rw [Dev.dmOp_of_ok htap hgate (Dev.memStatus_of_aligned hcycle hsize ha _)]
  simp [hauto, hidle]

theorem Dev.dmOverrun_of_clear {v : Nat} (hv : bitOf v 4 = true) :
    d.dmOverrun v = (d.modDbg (fun b => { b with overrun := false })).modDbg (fun b => { b with
      resReg := 0x14, resWrite := true, resStatus := 0, resData := 0 }) := by
  unfold Dev.dmOverrun
  rw [Dev.dmOp_of_ok htap hgate (by simp [Dev.fieldDenies_of_ne hcycle])]
  simp [hv]

/-! ### Other registers (R522, R523) -/

theorem Dev.dmWrite_memAddr (v : Nat) :
    d.dmWrite 0x10 v = (d.modDbg (fun b => { b with memAddr := b.memAddr / 2 ^ 32 * 2 ^ 32 + v })).modDbg (fun b => { b with
      resReg := 0x10, resWrite := true, resStatus := 0, resData := 0 }) := by
  unfold Dev.dmWrite
  exact Dev.dmOp_of_ok htap hgate (Dev.writeStatus_of_good hcycle 0x10 rfl) _ _ _ _

theorem Dev.dmWrite_sel {v : Nat} (hv : v % 16 ≤ 11) :
    d.dmWrite 0x03 v = (d.modDbg (fun b => { b with sel := v % 64 })).modDbg (fun b => { b with
      resReg := 0x03, resWrite := true, resStatus := 0, resData := 0 }) := by
  unfold Dev.dmWrite
  exact Dev.dmOp_of_ok htap hgate (Dev.writeStatus_of_good hcycle 0x03 (decide_eq_false (Nat.not_lt.mpr hv))) _ _ _ _

/-- A register that Table 15.7 does not name is INVALID. -/
theorem Dev.dmWrite_undefined (v : Nat) :
    d.dmWrite 0x30 v = (d.count Obj.DBG_REFUSED).modDbg (fun b => { b with
      resReg := 0x30, resWrite := true, resStatus := 3, resData := 0 }) := by
  have hst : (if d.fieldDenies 0x30 true then dsRefused else if (d.dmRead 0x30).isNone then dsInvalid else dsOk) = dsInvalid := by
    simp [Dev.fieldDenies_of_ne hcycle, Dev.dmRead]
  exact Dev.dmOp_of_error htap hgate hst (by decide) _ _ _ _

end

/-! ### The end of a memory access (R528) -/

theorem Dev.memDone_of_none {d : Dev} (h : d.dbg.memOp = none) (x : MemOutcome) : d.memDone x = d := by
  simp [Dev.memDone, h]

section
variable {d : Dev} {o : MemOp} (h : d.dbg.memOp = some o)
include h

/-- A gate with a waiting close holds it (R77). -/
theorem Dev.memDone_of_held (hheld : o.held = true) (x : MemOutcome) : d.memDone x = d := by
  simp [Dev.memDone, h, hheld]

/-- An access that its target answers with OK brings its word, and with AUTO the address goes on. -/
theorem Dev.memDone_of_ok {e : Dev} {x : MemOutcome} (hfree : o.held = false)
    (he : ((d.outstanding 4).modBus (fun b => { b with resp := 255 })).busDo (o.txn x.cram) = some e) (hok : e.bus.resp = 0) :
    d.memDone x = e.modDbg (fun b => { b with
      memOp := none, memResp := 0, memData := if o.write then b.memData else leNat (e.bus.data.take o.size)
      memAddr := if bitOf b.memCtrl 27 then (b.memAddr + o.size) % 2 ^ 40 else b.memAddr }) := by
  simp [Dev.memDone, h, hfree, he, hok]

end

/-! ### The mailbox (R529) -/

section
variable {d : Dev} (htap : d.dbg.tap = .dbgAccess) (hgate : d.gateOn 34 = true)
include htap hgate

theorem Dev.dmMbxTx_of_open (v : Nat) :
    d.dmMbxTx v = (d.modDbg (fun b => { b with tx := (b.tx ++ beBytes 4 v).take 2048 })).modDbg (fun b => { b with
      resReg := 0x22, resWrite := true, resStatus := 0, resData := 0 }) :=
  Dev.dmOp_of_ok htap hgate rfl _ _ _ _

/-- A message of 16 to 2,047 bytes that has been written is submitted, where the mailbox is free. -/
theorem Dev.dmMbxCtrl_of_go {v : Nat} (hgo : bitOf v 31 = true) (hdone : bitOf v 30 = false) (hlo : 16 ≤ fld v 11 0)
    (hhi : fld v 11 0 ≤ 2047) (hbusy : d.dbg.txBusy = false) (hrx : d.dbg.rx = none) (hlen : fld v 11 0 ≤ d.dbg.tx.length) :
    d.dmMbxCtrl v = (d.mbxGo (fld v 11 0)).modDbg (fun b => { b with
      resReg := 0x20, resWrite := true, resStatus := 0, resData := 0 }) := by
  have hst : (if bitOf v 31 then d.mbxStatus (fld v 11 0) else dsOk) = dsOk := by
    simp [Dev.mbxStatus, hbusy, hrx, Nat.not_lt.mpr hlo, Nat.not_lt.mpr hhi, Nat.not_lt.mpr hlen]
  unfold Dev.dmMbxCtrl
  rw [Dev.dmOp_of_ok htap hgate hst]
  simp [hgo, hdone]

theorem Dev.dmMbxCtrl_of_short {v : Nat} (hgo : bitOf v 31 = true) (hlo : fld v 11 0 < 16) :
    d.dmMbxCtrl v = (d.count Obj.DBG_REFUSED).modDbg (fun b => { b with
      resReg := 0x20, resWrite := true, resStatus := 3, resData := 0 }) := by
  have hst : (if bitOf v 31 then d.mbxStatus (fld v 11 0) else dsOk) = dsInvalid := by
    simp [Dev.mbxStatus, hgo, hlo]
  unfold Dev.dmMbxCtrl
  exact Dev.dmOp_of_error htap hgate hst (by decide) _ _ _ _

theorem Dev.dmMbxCtrl_of_done {v : Nat} (hgo : bitOf v 31 = false) (hdone : bitOf v 30 = true) :
    d.dmMbxCtrl v = d.mbxRelease.modDbg (fun b => { b with resReg := 0x20, resWrite := true, resStatus := 0, resData := 0 }) := by
  unfold Dev.dmMbxCtrl
  rw [Dev.dmOp_of_ok htap hgate (by simp [hgo])]
  simp [hgo, hdone]

theorem Dev.dmMbxRx_of_open :
    d.dmMbxRx = d.mbxTake.modDbg (fun b => { b with
      resReg := 0x23, resWrite := false, resStatus := 0
      resData := beNat (fitBytes 4 (((d.dbg.rx.getD []).drop d.dbg.rxPos).take 4)) }) :=
  Dev.dmOp_of_ok htap hgate rfl _ _ _ _

end

/-- Settles O49: an operation by its status, a start by whether an access runs, and the end of one by its gate and its target's answer. -/
theorem debugAccess : Obligations.DebugAccess := by
  unfold Obligations.DebugAccess
  refine ⟨?registers, fun d w h => Dev.memStart_of_idle h w, fun d w o h => Dev.memStart_of_busy h w, ?ends, ?mailbox⟩
  case registers =>
    intro s v h htap hgate hcycle
    exact ⟨fun hgo hsize ha hidle => State.live_next h (Dev.dmMemCtrl_of_go hcycle htap hgate hgo hsize ha hidle),
      fun hgo _ ha => State.live_next h (Dev.dmMemCtrl_of_unaligned hcycle htap hgate hgo ha),
      fun w hsize hauto ha hidle => State.live_next h (Dev.dmMemData_of_auto hcycle htap hgate w hsize hauto ha hidle),
      fun hv => State.live_next h (Dev.dmOverrun_of_clear hcycle htap hgate hv),
      State.live_next h (Dev.dmWrite_memAddr hcycle htap hgate v.toNat), fun hv => State.live_next h (Dev.dmWrite_sel hcycle htap hgate hv),
      State.live_next h (Dev.dmWrite_undefined hcycle htap hgate v.toNat)⟩
  case ends =>
    intro s x h
    exact ⟨fun hn => State.live_next h (Dev.memDone_of_none hn x), fun o ho hheld => State.live_next h (Dev.memDone_of_held ho hheld x),
      fun o d ho hfree hd hok => State.live_next h (Dev.memDone_of_ok ho hfree hd hok)⟩
  case mailbox =>
    intro s v h htap hgate
    exact ⟨State.live_next h (Dev.dmMbxTx_of_open htap hgate v.toNat),
      fun hgo hdone hlo hhi hbusy hrx hlen => State.live_next h (Dev.dmMbxCtrl_of_go htap hgate hgo hdone hlo hhi hbusy hrx hlen),
      fun hgo hlo => State.live_next h (Dev.dmMbxCtrl_of_short htap hgate hgo hlo),
      fun hgo hdone => State.live_next h (Dev.dmMbxCtrl_of_done htap hgate hgo hdone), State.live_next h (Dev.dmMbxRx_of_open htap hgate)⟩

end Sys2Proof.Machine
end

section
/-! A halt that is refused on a register list out of canonical form (R408, R524, R525, R531). -/

namespace Sys2Proof.Machine

/-- A register list whose keys do not rise: GATE_STATE of the DEBUG gate stands behind TRAIL_NEXT_SEQ, whose key is higher, and so reads as its
default, 1, until the entry before it goes. -/
def hiddenGateRegs : SMap Nat := [(objKey Obj.TWIN_STATE 0, twAlone), (objKey Obj.TRAIL_NEXT_SEQ 0, 0xFFFFFFFF),
  (objKey Obj.GATE_STATE 34, gsOff), (objKey Obj.TRAIL_MIN_SEVERITY 0, 0), (objKey Obj.DBG_HALT_REFUSED 0, 0xFFFFFFFE)]

/-- A running device over that list, reached by DBG_ACCESS, in a TWIN_STATE that allows no halt. -/
def hiddenGateDev : Dev :=
  { regs := hiddenGateRegs, life := { phase := .running, held := false }, dbg := { tap := .dbgAccess } }

/-- The halt's count saturates; its event wraps TRAIL_NEXT_SEQ to 0, which takes the entry out of the list, and the gate now reads closed:
the operation ends with STATUS 2. -/
theorem hiddenGate_halt_status : (Dev.finish hiddenGateDev (hiddenGateDev.dmCtrl (1 : BitVec 4).toNat 0 0)).dbg.resStatus = dsGate := by
  decide +kernel

/-- What the statement says instead: STATUS 1. -/
theorem hiddenGate_claimed_status : (Dev.finish hiddenGateDev
    (((hiddenGateDev.count Obj.DBG_HALT_REFUSED).count Obj.DBG_REFUSED).modDbg (fun b => { b with
      resReg := 2, resWrite := true, resStatus := 1, resData := 0 }))).dbg.resStatus = dsRefused := by
  decide +kernel

theorem exec_dmHalt {s : State} (h : s.dev.life.held = false) (m : BitVec 4) :
    exec (.dmHalt m) s = .next (s.after (s.dev.dmCtrl m.toNat 0 0)) := State.live_next h rfl

/-- Refutes O48: the clause on a halt that is refused is said of every state, and fails on a register list out of canonical form, where the
count of the refusal makes the DEBUG gate read closed before the operation looks at it. (`smWf keyDefault s.dev.regs` is no hypothesis.) -/
theorem not_haltsAndComparators : ¬ Obligations.HaltsAndComparators := by
  unfold Obligations.HaltsAndComparators
  rintro ⟨hhalts, -⟩
  obtain ⟨-, -, -, hrefused⟩ := hhalts { dev := hiddenGateDev } 1 _ rfl rfl (by decide +kernel) (by decide) rfl
  have hclaim := (exec_dmHalt rfl 1).symm.trans (hrefused (by decide) (by decide +kernel))
  injection hclaim with hstate
  have hstatus := congrArg (fun t : State => t.dev.dbg.resStatus) hstate
  simp only [State.after_dev] at hstatus
  rw [hiddenGate_halt_status, hiddenGate_claimed_status] at hstatus
  exact absurd hstatus (by decide)

end Sys2Proof.Machine
end
